-- ==== Sys2Proof/Word.lean ====
section
/-! DEFINITION. The one word type of the part: a byte. Every quantity of the manual is a whole number (3.1 of
spec/00_scope.md) and is held as `Nat`; bytes appear only on the links, in frames, cards, panel messages and the
configuration image, where numbers travel most significant byte first (3.2). -/

namespace Sys2Proof

/-- One byte of a link of the part. -/
abbrev Byte := BitVec 8

end Sys2Proof
end

