-- ==== Sys2Proof/Config.lean ====
section
/-! DEFINITION. The capacities the manual fixes for the whole part. No behaviour of the manual is left to an
implementation, so this file holds no free value. -/

namespace Sys2Proof.Config

/-- Machine positions on the room bus (1.2 of spec/02_machines_and_cycles.md). -/
abbrev addresses : Nat := 24

/-- Program numbers 0 to 7 of each class (5.1 of spec/05_charges_refunds_and_audit_totals.md). -/
abbrev programs : Nat := 8

/-- Entries of the refund table (5.4 of spec/05_charges_refunds_and_audit_totals.md). -/
abbrev refundEntries : Nat := 32

/-- The most an entry of the refund table, or a card, can hold (R82, R115). -/
abbrev largestValue : Nat := 50000

/-- Records of the fault table (R138). -/
abbrev faultRecords : Nat := 48

/-- Entries of one claim queue (6.1 of spec/06_claim_queues_and_holds.md). -/
abbrev queueEntries : Nat := 8

/-- Records of the doubt list (4.11 of spec/04_purse_cards_and_pay_stations.md). -/
abbrev doubtRecords : Nat := 4

/-- Replies a port can hold waiting (R159). -/
abbrev waitingReplies : Nat := 4

/-- The largest audit total and the largest unit-seconds figure (R74, R122). -/
abbrev largestTotal : Nat := 999999999999

/-- The largest of the other pool statistics (R74). -/
abbrev largestCount : Nat := 4294967295

/-- The largest of the 16-bit counts: queue counts, fault counts, phases run (6.1, 7.2, 7.5). -/
abbrev largestShort : Nat := 65535

end Sys2Proof.Config
end

