-- ==== Sys2Proof/Syntax.lean ====
section
/-! DEFINITION. The commands of the part: one constructor for each row of spec/opcode_table.json, in the table's order.

The rows fall in four kinds, and the operands follow the kind (log entry 1):
* a request of a control port carries the port its frame was completed on and the frame's payload bytes;
* a panel request of a pay station carries the station and the message's operand bytes;
* a bus, card or memory event carries what the outside device sent, byte for byte;
* the expiry of a timer carries the machine address (or the card id) whose timer it is, as the manual numbers it, and that of
  an orphan deadline also which of the two orders of R19 it is taken in (log entry 52). -/

namespace Sys2Proof

/-- The three control ports (8.3 of spec/08_control_ports.md). -/
inductive Port where
  | building
  | operator
  | service
deriving DecidableEq, Repr

/-- The two pay stations (4.1 of spec/04_purse_cards_and_pay_stations.md). -/
inductive StationId where
  | a
  | b
deriving DecidableEq, Repr

/-- What a device answered to a write: whether it acknowledged each byte that was sent, in order, and each poll made within
10 ms of its stop (R81, R169). -/
structure LinkAnswers where
  bytes : List Bool
  polls : List Bool
deriving DecidableEq, Repr

/-- What a device answered to a read: whether it acknowledged each byte that was sent, in order, and the bytes that it sent
(R80, R169). -/
structure ReadAnswers where
  bytes : List Bool
  data : List Byte
deriving DecidableEq, Repr

/-- What the configuration memory answered to an access of a store (R169, R175). -/
inductive StoreAccess where
  /-- to the write of a page -/
  | write (answers : LinkAnswers)
  /-- to the read-back of the image -/
  | read (answers : ReadAnswers)
deriving DecidableEq, Repr

/-- The expiry of an orphan deadline: the address, and whether the join reaches Cycle Control before the automatic lock; R19
allows both orders (log entry 52). -/
structure OrphanExpiry where
  address : Nat
  joinFirst : Bool
deriving DecidableEq, Repr

/-- The commands the part takes: the rows of spec/opcode_table.json. -/
inductive Instr where
  /-- POWER_ON (R177). Power-on starts the room timebase at 0, brings the ports up in LOADING, judges the retained domain, clears the fault table, closes retained state, marks the domain valid and begins the autoload. -/
  | powerOn (backupHeld : Bool)
  /-- AUTOLOAD_END (R170). The autoload read completes or fails; a passing image is applied whole and the mode becomes OPERATING, while a failing image enters CONFIG_FAULT with its reason; the CONFIG event is raised. -/
  | autoloadEnd (answers : ReadAnswers)
  /-- ROOM_SECOND_TICK (R2). At each room-second tick a poll round begins, ACTIVE phase time and dryer paid seconds are counted, and the pool statistics accumulate. -/
  | roomSecondTick
  /-- POLL_SLOT (R3). The controller sends the poll frame of the next slot, carrying the command in flight with its tag or NONE, with the joined mark set in poll slots. -/
  | pollSlot
  /-- REPLY_VALID (R10). A valid reply from a PRESENT address hands over the command-taken notice and then the changed report fields to Cycle Control, and resets or advances the missed-reply count. -/
  | replyValid (bytes : List Byte)
  /-- REPLY_WINDOW_MISSED (R11). A slot whose reply window closes without a valid reply increases the missed-reply count of a PRESENT or JOINING address and changes nothing for an ABSENT address. -/
  | replyWindowMissed
  /-- DISCOVERY_REPLY (R15). A valid reply in a discovery slot is checked for identity; a match adopts the echo tag and either joins at once or begins an orphan stop. -/
  | discoveryReply (bytes : List Byte)
  /-- JOINING_REPLY (R18). A valid reply from a JOINING address completes the join, updates the report, returns the address to ABSENT, or is handled as a discovery reply. -/
  | joiningReply (bytes : List Byte)
  /-- ORPHAN_DEADLINE (R19). When the orphan deadline of a JOINING address is reached, a STOP_TIMEOUT fault is handed over, the STOP is removed, and the join proceeds. -/
  | orphanDeadline (expiry : OrphanExpiry)
  /-- PHASE_LIMIT_REACHED (R31). When phase time used reaches the phase limit, a PHASE_TIMEOUT fault is handed over and the cycle stops with cause MACHINE. -/
  | phaseLimitReached (address : Nat)
  /-- STOP_DEADLINE (R39). When the stop deadline is reached, a STOP_TIMEOUT is handed over, any refund is settled, and the machine goes to OUT_OF_SERVICE. -/
  | stopDeadline (address : Nat)
  /-- STOP_MACHINE (R41). The Operator request stops a RUNNING machine with cause OPERATOR or aborts a self-test, and otherwise refuses. -/
  | stopMachine (port : Port) (payload : List Byte)
  /-- REMAINING_PAID_SECONDS_ZERO (R43). When a dryer's remaining paid seconds reach 0, cool posted becomes yes and START_PHASE for COOL is posted. -/
  | remainingPaidSecondsZero (address : Nat)
  /-- PAUSE_DEADLINE (R46). When the pause deadline is reached with the phase PAUSED or SUSPENDING, the cycle stops with cause USER. -/
  | pauseDeadline (address : Nat)
  /-- HALT_ROOM (R49). The Building request sets the halt latch HALTED, stops cycles, hands back holds, ends tests and sessions, and tells the pools. -/
  | haltRoom (port : Port) (payload : List Byte)
  /-- RESUME_ROOM (R50). The Building request sets RUNNING_ROOM, tells the pools to scan, and offers IDLE and SELECTED machines to the queues. -/
  | resumeRoom (port : Port) (payload : List Byte)
  /-- SET_BAND (R51). The Building request sets the tariff band and raises the ROOM event. -/
  | setBand (port : Port) (payload : List Byte)
  /-- SET_FEEDER_LIMIT (R55). The Building request clamps and applies the ELECTRIC limit, recomputes the figures, and sheds or scans. -/
  | setFeederLimit (port : Port) (payload : List Byte)
  /-- SET_WATER_LIMIT (R55). The Building request clamps and applies the WATER limit, recomputes the figures, and sheds or scans. -/
  | setWaterLimit (port : Port) (payload : List Byte)
  /-- SET_RESERVE (R56). The Operator request clamps and applies a requested reserve, recomputes the figures, and sheds or scans. -/
  | setReserve (port : Port) (payload : List Byte)
  /-- SUSPEND_DEADLINE (R70). When a marked grant's suspend deadline is reached, Cycle Control is told, and a still SUSPENDING phase stops its cycle with SUSPEND_IGNORED and cause MACHINE. -/
  | suspendDeadline (address : Nat)
  /-- GRANT_WAIT_EXPIRY (R71). A wait entry reaching its grant-wait limit leaves the list, raises POOL, hands over GRANT_WAIT, tells the requester, and the pool scans. -/
  | grantWaitExpiry (address : Nat)
  /-- READ_POOL (R75). The request is answered with the pool's figures, grants, wait entries and statistics from the named position. -/
  | readPool (port : Port) (payload : List Byte)
  /-- CLEAR_POOL_STATS (R76). The request sets the five statistics of both pools to 0. -/
  | clearPoolStats (port : Port) (payload : List Byte)
  /-- PAY (R92). A PAY request is tested at the station record, charged by the Charge Unit, begun at Cycle Control, and starts the debit or commits a zero charge. -/
  | pay (station : StationId) (target : Byte) (steps : Byte)
  /-- ADD_TIME (R97). An ADD_TIME request is tested, charged against the cycle's cap, begun at Cycle Control, and starts the debit or commits at once. -/
  | addTime (station : StationId) (target : Byte) (steps : Byte)
  /-- QUEUE (R127). A QUEUE request is tested and, if every test passes, makes an entry at the tail of the class queue and shows QUEUED. -/
  | queue (station : StationId) (cls : Byte)
  /-- BALANCE (R98). A BALANCE request shows the card value and the amount held in a READY refund entry, or NO_CARD or BUSY. -/
  | balance (station : StationId)
  /-- REQUEST_ERROR (R77). A panel message with a failing check, an unknown request code or a bad QUEUE class is answered REQUEST_ERROR. -/
  | requestError (station : StationId)
  /-- REQUEST_GAP_TIMEOUT (R77). A gap of more than 100 ms between request bytes discards the bytes gathered so far. -/
  | requestGapTimeout (station : StationId)
  /-- CARD_INSERTED (R85). The card-present switch closes on an EMPTY record not awaiting removal, which moves to READING and begins the insertion read. -/
  | cardInserted (station : StationId)
  /-- CARD_REMOVED (R87). The card-present switch opens and the station record is emptied, abandoning a read or ending a debit or credit cleanly or as a doubt by its state. -/
  | cardRemoved (station : StationId)
  /-- INSERTION_READ_FAIL (R85). A failed insertion read empties the record with awaiting removal yes and shows CARD_ERROR. -/
  | insertionReadFail (station : StationId)
  /-- INSERTION_READ_DONE (R86). A completed insertion read decides the card, resolves its DEBIT doubt and IN_DOUBT refund, and settles the record. -/
  | insertionReadDone (station : StationId) (answers : ReadAnswers)
  /-- WRITE_BEGUN (R94). The card acknowledges the device byte of a write, and write begun becomes yes. -/
  | writeBegun (station : StationId)
  /-- CARD_WRITE_DONE (R94). A card write ends not begun, completed or faulted; a not-begun write fails cleanly or makes a doubt, and the other outcomes move the record to VERIFYING. -/
  | cardWriteDone (station : StationId) (answers : LinkAnswers)
  /-- VERIFY_READ_DONE (R95). The verify read of the written slot matches and commits, mismatches and retries or ends, or fails and makes a doubt. -/
  | verifyReadDone (station : StationId) (answers : ReadAnswers)
  /-- DOUBT_DEADLINE (R100). When a DEBIT doubt's deadline is reached, it ends unresolved with its payment or top-up abandoned, a fault and an audit count. -/
  | doubtDeadline (card : Nat)
  /-- READ_DOUBTS (R102). The request is answered with the doubt list in order of creation. -/
  | readDoubts (port : Port) (payload : List Byte)
  /-- SET_PRICE (R105). The Operator request clamps and writes the price data of an existing washer or dryer profile. -/
  | setPrice (port : Port) (payload : List Byte)
  /-- ADD_REFUND (R118). The Operator request places a manual credit for a card, refused FULL if the table cannot hold it. -/
  | addRefund (port : Port) (payload : List Byte)
  /-- CANCEL_REFUND (R119). The Operator request removes a READY or SUSPECT entry without credit and counts it as cancelled. -/
  | cancelRefund (port : Port) (payload : List Byte)
  /-- CONFIRM_REFUND (R120). The Operator request records that a SUSPECT entry's torn credit landed and counts it as credited. -/
  | confirmRefund (port : Port) (payload : List Byte)
  /-- READ_REFUNDS (R121). The request is answered with the refund entry at the named position. -/
  | readRefunds (port : Port) (payload : List Byte)
  /-- CLEAR_AUDIT (R123). The request begins a new audit period, setting refund issued to the table sum and the other totals to 0. -/
  | clearAudit (port : Port) (payload : List Byte)
  /-- READ_AUDIT (R124). The request is answered with the seven totals and the refund table's count and sum. -/
  | readAudit (port : Port) (payload : List Byte)
  /-- HOLD_DEADLINE (R130). When a hold's deadline is reached with holder paying no, the entry is removed and the machine is offered again. -/
  | holdDeadline (address : Nat)
  /-- READ_QUEUE (R135). The request is answered with the hold window, the entries and the counts of a class queue. -/
  | readQueue (port : Port) (payload : List Byte)
  /-- CANCEL_CLAIM (R136). The Operator request removes a card's queue entry unless its holder is paying, and re-offers any held machine. -/
  | cancelClaim (port : Port) (payload : List Byte)
  /-- READ_FAULTS (R139). The request is answered with up to 8 fault records passing the filter from the named position. -/
  | readFaults (port : Port) (payload : List Byte)
  /-- CLEAR_FAULTS (R140). The request removes the fault records of a machine or of all machines. -/
  | clearFaults (port : Port) (payload : List Byte)
  /-- LOCK (R144). The Operator request hands Cycle Control a LOCKED lock and answers OK or ACCEPTED by the machine's state. -/
  | lock (port : Port) (payload : List Byte)
  /-- UNLOCK (R145). The Operator request clears the strikes and hands Cycle Control an unlock. -/
  | unlock (port : Port) (payload : List Byte)
  /-- CLEAR_STRIKES (R145). The Operator request sets a machine's strike count to 0. -/
  | clearStrikes (port : Port) (payload : List Byte)
  /-- GRANT_PERMIT (R147). The Operator request sets the machine's service permit to yes. -/
  | grantPermit (port : Port) (payload : List Byte)
  /-- ENTER_SERVICE (R148). The Service request opens a session on a permitted IDLE or OUT_OF_SERVICE machine and moves it to SERVICE. -/
  | enterService (port : Port) (payload : List Byte)
  /-- EXIT_SERVICE (R149). The Service request ends the session at once, or winds down a running service phase and makes the session CLOSING. -/
  | exitService (port : Port) (payload : List Byte)
  /-- SERVICE_PHASE (R150). The Service request makes a service phase with its demand from the ratings and asks for a SERVICE_PHASE grant. -/
  | servicePhase (port : Port) (payload : List Byte)
  /-- SERVICE_PHASE_DEADLINE (R151). When an ACTIVE service phase's deadline is reached, PHASE_TIMEOUT is recorded and the phase is wound down with outcome TIMEOUT. -/
  | servicePhaseDeadline
  /-- WIND_DOWN_DEADLINE (R152). When the wind-down deadline is reached, STOP_TIMEOUT is handed over, the grant is released, and the work ends. -/
  | windDownDeadline (address : Nat)
  /-- SELF_TEST (R153). The request makes a test run with origin OPERATOR or SESSION by port and begins subtest 1. -/
  | selfTest (port : Port) (payload : List Byte)
  /-- SUBTEST_REPORT_DEADLINE (R154). When a subtest's report deadline is reached, PHASE_TIMEOUT is recorded, the test fails, and the subtest is wound down. -/
  | subtestReportDeadline (address : Nat)
  /-- FRAME_ERROR (R158). A frame with a LENGTH out of range or a failing check is answered FRAME_ERROR and not decided. -/
  | frameError (port : Port)
  /-- PORT_BREAK (R157). A byte gap over 50 ms or a held space discards the partly received frame and returns the receiver to HUNTING. -/
  | portBreak (port : Port)
  /-- FRAME_DISCARDED_QUEUE_FULL (R159). A frame completed while the reply queue holds 4 replies is discarded without a reply. -/
  | frameDiscardedQueueFull (port : Port)
  /-- UNKNOWN_CODE (R160). A frame whose CODE is not in the rights table is answered UNKNOWN_CODE. -/
  | unknownCode (port : Port) (code : Byte) (payload : List Byte)
  /-- REPLY_SENT (R159). The reply at the head of a port's queue finishes sending and the next reply begins. -/
  | replySent (port : Port)
  /-- READ_EVENTS (R163). The request is answered with the port's flag set and notice mask. -/
  | readEvents (port : Port) (payload : List Byte)
  /-- ACK_EVENTS (R163). The request clears the named flags of the requesting port. -/
  | ackEvents (port : Port) (payload : List Byte)
  /-- SET_NOTICE_MASK (R164). The request sets the port's notice mask and updates its notice line. -/
  | setNoticeMask (port : Port) (payload : List Byte)
  /-- READ_ROOM (R166). The request is answered with the mode, latch, band, time, start reason, counter, store and configuration fields. -/
  | readRoom (port : Port) (payload : List Byte)
  /-- READ_MACHINE (R167). The request is answered with the whole machine record and summaries of its cycle, session and test run. -/
  | readMachine (port : Port) (payload : List Byte)
  /-- SET_ROOM_PARAM (R172). The Operator request clamps and applies the room parameters, each taking effect where it is used. -/
  | setRoomParam (port : Port) (payload : List Byte)
  /-- SET_WASH_PROFILE (R173). The Operator request makes, replaces or removes a washer profile. -/
  | setWashProfile (port : Port) (payload : List Byte)
  /-- SET_DRY_PROFILE (R173). The Operator request makes, replaces or removes a dryer profile. -/
  | setDryProfile (port : Port) (payload : List Byte)
  /-- SET_MACHINE (R174). The Operator request configures, changes or unconfigures a roster address where the machine's state allows. -/
  | setMachine (port : Port) (payload : List Byte)
  /-- STORE_CONFIG (R175). The Operator request begins writing the configuration image to the memory, with the marker cleared first. -/
  | storeConfig (port : Port) (payload : List Byte)
  /-- STORE_ACCESS_DONE (R175). A page write or read-back of the store completes; the store advances, or ends OK or WRITE_FAIL, and after OK in CONFIG_FAULT an autoload begins. -/
  | storeAccessDone (access : StoreAccess)
  /-- RECEIVE_LINE_BYTE (R157). A byte arriving on a control port's receive line moves the receiver from HUNTING to COUNTING on SYNC, from COUNTING to GATHERING on a LENGTH of 2–250, or is gathered into the frame. -/
  | receiveLineByte (port : Port) (byte : Byte)
  /-- REQUEST_LINE_BYTE (R77). A byte arriving on a pay station's request line starts a message if it is 0x6B while none is being gathered, or is added to the message being gathered. -/
  | requestLineByte (station : StationId) (byte : Byte)
deriving DecidableEq, Repr

end Sys2Proof
end

