-- ==== Sys2Proof/WellFormed.lean ====
section
/-! DEFINITION. Which commands an outside party can send at all: the lengths and ranges that the links themselves
impose. The meanings are total and do not rest on these checks (an ill-formed operand meets the same tests as any
other); statements about real traffic may take them as a premise. -/

namespace Sys2Proof

/-- A machine address as the roster numbers it (3.1 of spec/00_scope.md). -/
def addressOk (n : Nat) : Bool := 1 ≤ n && n ≤ Config.addresses

/-- A card id that a card may carry (3.1 of spec/00_scope.md). -/
def cardIdOk (n : Nat) : Bool := 1 ≤ n && n ≤ 4294967294

/-- A port frame's payload: LENGTH is 2 to 250 and counts CODE, the payload and CHECK (8.1). -/
def payloadOk (payload : List Byte) : Bool := payload.length ≤ 248

/-- A reply frame of the room bus is 16 bytes long (R1, R4). -/
def busReplyOk (bytes : List Byte) : Bool := bytes.length == 16

/-- A card sends the bytes of a read when it has acknowledged the three bytes of the part, and none otherwise (R80). -/
def cardReadOk (count : Nat) (answers : ReadAnswers) : Bool :=
  answers.data.length == if answers.bytes == [true, true, true] then count else 0

/-- What the configuration memory can hold and answer (R169). -/
def imageOk (bytes : List Byte) : Bool := bytes.length ≤ 8192

/-- A command that the links can carry. -/
def Instr.wf : Instr → Bool
  | .powerOn _ => true
  | .autoloadEnd answers => imageOk answers.data
  | .roomSecondTick => true
  | .pollSlot => true
  | .replyValid bytes => busReplyOk bytes
  | .replyWindowMissed => true
  | .discoveryReply bytes => busReplyOk bytes
  | .joiningReply bytes => busReplyOk bytes
  | .orphanDeadline x => addressOk x.address
  | .phaseLimitReached n => addressOk n
  | .stopDeadline n => addressOk n
  | .stopMachine _ payload => payloadOk payload
  | .remainingPaidSecondsZero n => addressOk n
  | .pauseDeadline n => addressOk n
  | .haltRoom _ payload => payloadOk payload
  | .resumeRoom _ payload => payloadOk payload
  | .setBand _ payload => payloadOk payload
  | .setFeederLimit _ payload => payloadOk payload
  | .setWaterLimit _ payload => payloadOk payload
  | .setReserve _ payload => payloadOk payload
  | .suspendDeadline n => addressOk n
  | .grantWaitExpiry n => addressOk n
  | .readPool _ payload => payloadOk payload
  | .clearPoolStats _ payload => payloadOk payload
  | .pay _ _ _ => true
  | .addTime _ _ _ => true
  | .queue _ _ => true
  | .balance _ => true
  | .requestError _ => true
  | .requestGapTimeout _ => true
  | .cardInserted _ => true
  | .cardRemoved _ => true
  | .insertionReadFail _ => true
  | .insertionReadDone _ answers => cardReadOk 32 answers
  | .writeBegun _ => true
  | .cardWriteDone _ _ => true
  | .verifyReadDone _ answers => cardReadOk 8 answers
  | .doubtDeadline card => cardIdOk card
  | .readDoubts _ payload => payloadOk payload
  | .setPrice _ payload => payloadOk payload
  | .addRefund _ payload => payloadOk payload
  | .cancelRefund _ payload => payloadOk payload
  | .confirmRefund _ payload => payloadOk payload
  | .readRefunds _ payload => payloadOk payload
  | .clearAudit _ payload => payloadOk payload
  | .readAudit _ payload => payloadOk payload
  | .holdDeadline n => addressOk n
  | .readQueue _ payload => payloadOk payload
  | .cancelClaim _ payload => payloadOk payload
  | .readFaults _ payload => payloadOk payload
  | .clearFaults _ payload => payloadOk payload
  | .lock _ payload => payloadOk payload
  | .unlock _ payload => payloadOk payload
  | .clearStrikes _ payload => payloadOk payload
  | .grantPermit _ payload => payloadOk payload
  | .enterService _ payload => payloadOk payload
  | .exitService _ payload => payloadOk payload
  | .servicePhase _ payload => payloadOk payload
  | .servicePhaseDeadline => true
  | .windDownDeadline n => addressOk n
  | .selfTest _ payload => payloadOk payload
  | .subtestReportDeadline n => addressOk n
  | .frameError _ => true
  | .portBreak _ => true
  | .frameDiscardedQueueFull _ => true
  | .unknownCode _ _ payload => payloadOk payload
  | .replySent _ => true
  | .readEvents _ payload => payloadOk payload
  | .ackEvents _ payload => payloadOk payload
  | .setNoticeMask _ payload => payloadOk payload
  | .readRoom _ payload => payloadOk payload
  | .readMachine _ payload => payloadOk payload
  | .setRoomParam _ payload => payloadOk payload
  | .setWashProfile _ payload => payloadOk payload
  | .setDryProfile _ payload => payloadOk payload
  | .setMachine _ payload => payloadOk payload
  | .storeConfig _ payload => payloadOk payload
  | .storeAccessDone access =>
    match access with
    | .read answers => imageOk answers.data
    | .write _ => true
  | .receiveLineByte _ _ => true
  | .requestLineByte _ _ => true

end Sys2Proof
end

