-- ==== Sys2Proof/Decode.lean ====
section
/-! DEFINITION. The command a table word spells. spec/opcode_table.json gives none of its 80 rows any bits (every
row's "fields" is empty and none has "fixed"), so no word spells a command (log entry 2). The frames, messages and
replies of the links, which do have bytes, are read in Machine/Operands.lean by the commands that receive them. -/

namespace Sys2Proof

/-- The command that a word of `nbits` bits spells by the bits of spec/opcode_table.json: the table gives no row any
bits, so there is none. -/
def decodeTableWord (_nbits _w : Nat) : Option Instr := none

end Sys2Proof
end

