-- ==== Sys2Proof/Machine/State.lean ====
section
/-! DEFINITION. Everything the manual gives the part to hold, as plain data, and its values right after power-on.

Figures the manual computes from other state are not stored a second time: the effective reserves, the shared
portion, shared granted, the reserve grants and the suspension order of a pool (Machine/PoolOps.lean), the card-in-use
set (R101), the notice lines (R164) and the transfers on the card links and the config link (Machine/Links.lean) are functions
of this state (log entry 3). -/

namespace Sys2Proof.Machine

/-! ## The machines and the room bus -/

/-- A machine position; the address 1 to 24 of the manual is one more than the number held here. -/
abbrev Addr := Fin Config.addresses

/-- The class of a machine. -/
inductive MachineClass where
  | washer
  | dryer
deriving DecidableEq, Repr

/-- The nine phase kinds (R3). -/
inductive PhaseKind where
  | fill | heat | wash | rinse | drain | spin | soak | dry | cool
deriving DecidableEq, Repr

/-- The activity a machine reports (R4). -/
inductive Activity where
  | ready | running | complete | suspended | faultHold | stopping | stopped | testing | testDone
deriving DecidableEq, Repr

/-- The door a machine reports (R4). -/
inductive Door where
  | opened | closed | locked
deriving DecidableEq, Repr

/-- The four causes of a stop (R3, 2.7). -/
inductive StopCause where
  | user | machine | operator | room
deriving DecidableEq, Repr

/-- The presence of an address (1.2). -/
inductive Presence where
  | absent | joining | present
deriving DecidableEq, Repr

/-- Who posted a command (1.2). -/
inductive Poster where
  | cycleControl | faultService | busController
deriving DecidableEq, Repr

/-- A command of the room bus with its arguments (R3); the command NONE is the absence of one. -/
inductive BusCommand where
  | startPhase (index : Nat) (kind : PhaseKind) (third : Nat)
  | suspend
  | resume
  | stop (cause : StopCause)
  | test (subtest : Nat)
deriving DecidableEq, Repr

/-- The four ratings of a machine (R14). -/
structure Ratings where
  motor : Nat
  spin : Nat
  heater : Nat
  fill : Nat
deriving DecidableEq, Repr

/-- The content of a valid reply that stands as the last status report (1.2). -/
structure Report where
  fresh : Bool
  door : Door
  selection : Option Nat
  activity : Activity
  arg : Nat
  fault : Nat
  cls : MachineClass
  ratings : Ratings
deriving DecidableEq, Repr

/-- A command in flight (1.2). The tag 1 is `true`. -/
structure InFlight where
  cmd : BusCommand
  tag : Bool
  poster : Poster
deriving DecidableEq, Repr

/-- A queued command (1.2). -/
structure Queued where
  cmd : BusCommand
  poster : Poster
deriving DecidableEq, Repr

/-- The bus fields of a machine record (1.2). -/
structure BusFields where
  presence : Presence
  missed : Nat
  inFlight : Option InFlight
  queued : Option Queued
  lastTag : Bool
  report : Option Report
  seen : Bool
  mismatch : Bool
  orphanDeadline : Option Nat
deriving DecidableEq, Repr

/-! ## Machine records and cycles -/

/-- The eleven machine states (2.1). -/
inductive MachineState where
  | absent | idle | selected | paying | held | running | stopping | finished | testing | service | outOfService
deriving DecidableEq, Repr

/-- The lock field (2.1): NONE, LOCKED or AUTO_LOCKED. -/
inductive Lock where
  | none | locked | autoLocked
deriving DecidableEq, Repr

/-- The claim-queue reservation shown in a machine record (2.1). -/
structure Hold where
  card : Nat
  deadline : Nat
deriving DecidableEq, Repr

/-- A phase entry of a plan (2.4). -/
structure PlanEntry where
  kind : PhaseKind
  limit : Nat
  lu : Nat
  fu : Nat
  weight : Nat
  suspendable : Bool
deriving DecidableEq, Repr

/-- The origin of a payment (2.1). -/
inductive PaymentOrigin where
  | selected | held
deriving DecidableEq, Repr

/-- A start whose debit is in progress or in doubt (2.1). -/
structure Payment where
  card : Nat
  program : Nat
  origin : PaymentOrigin
  charge : Nat
  paidSeconds : Nat
  plan : List PlanEntry
deriving DecidableEq, Repr

/-- The sub-states of a phase (2.4, 2.5). -/
inductive SubState where
  | waiting | starting | active | suspending | suspended | resuming | paused
deriving DecidableEq, Repr

/-- A top-up debit in progress or in doubt (2.4). -/
structure TopUp where
  card : Nat
  amount : Nat
  seconds : Nat
deriving DecidableEq, Repr

/-- A cycle record (2.4). Whether the machine has taken a STOP in this cycle (`tookStop`) is the model's own field, from which R37
is judged (log entry 78). -/
structure Cycle where
  number : Nat
  payer : Nat
  program : Nat
  plan : List PlanEntry
  index : Nat
  sub : SubState
  everActive : Bool
  retryUsed : Bool
  timeUsed : Nat
  chargeTotal : Nat
  paidTotal : Nat
  remaining : Nat
  dryBase : Option Nat
  coolPosted : Bool
  topUp : Option TopUp
  pauseDeadline : Option Nat
  stopCause : Option StopCause
  stopDeadline : Option Nat
  refund : Option Nat
  startTime : Nat
  tookStop : Bool
deriving DecidableEq, Repr

/-! ## Tests and sessions -/

/-- How a self-test ended (7.8). -/
inductive TestOutcome where
  | pass | fail | aborted | noPower
deriving DecidableEq, Repr

/-- The last test field of a machine (7.8). -/
structure LastTest where
  outcome : TestOutcome
  subtest : Nat
  code : Nat
deriving DecidableEq, Repr

/-- Who asked for a self-test (7.8). -/
inductive TestOrigin where
  | operator | session
deriving DecidableEq, Repr

/-- The sub-states of a subtest (7.8). -/
inductive SubtestState where
  | waiting | starting | running
deriving DecidableEq, Repr

/-- The winding down of a subtest (R152): its deadline, whether it has had its first confirmation, and the outcome
and code already decided. -/
structure TestWindDown where
  deadline : Nat
  confirmed : Bool
  outcome : TestOutcome
  code : Nat
deriving DecidableEq, Repr

/-- A test run (7.8). -/
structure TestRun where
  origin : TestOrigin
  subtest : Nat
  sub : SubtestState
  reportDeadline : Option Nat
  windDown : Option TestWindDown
deriving DecidableEq, Repr

/-- How a service phase ended (7.5). -/
inductive PhaseOutcome where
  | complete
  | fault (code : Nat)
  | timeout
  | noPower
  | aborted
deriving DecidableEq, Repr

/-- The winding down of a service phase (R152). -/
structure PhaseWindDown where
  deadline : Nat
  confirmed : Bool
  outcome : PhaseOutcome
deriving DecidableEq, Repr

/-- The two pools (3.1). -/
inductive PoolId where
  | electric
  | water
deriving DecidableEq, Repr

/-- The sub-states of a service phase (R151). -/
inductive ServiceSub where
  | waiting | starting | active
deriving DecidableEq, Repr

/-- A service phase (7.5, 7.6). -/
structure ServicePhase where
  kind : PhaseKind
  seconds : Nat
  demand : Nat
  pool : Option PoolId
  sub : ServiceSub
  deadline : Option Nat
  windDown : Option PhaseWindDown
deriving DecidableEq, Repr

/-- The session record (7.5). -/
structure Session where
  machine : Addr
  openedTime : Nat
  closing : Bool
  phase : Option ServicePhase
  lastOutcome : Option PhaseOutcome
  phasesRun : Nat
deriving DecidableEq, Repr

/-- A machine record: the bus fields of the Room Bus Controller, the fields of Cycle Control, and those of the Fault
and Service Unit (1.2, 2.1, 7.3 to 7.8). -/
structure MachineRecord where
  bus : BusFields
  state : MachineState
  lock : Lock
  lockPending : Bool
  door : Option Door
  selection : Option Nat
  hold : Option Hold
  payment : Option Payment
  openedSinceFinish : Bool
  cycle : Option Cycle
  strikes : Nat
  permit : Bool
  lastTest : Option LastTest
  testRun : Option TestRun
  absenceExemption : Bool
deriving DecidableEq, Repr

/-! ## Configuration -/

/-- A roster entry (9.2). -/
structure RosterEntry where
  cls : MachineClass
  ratings : Ratings
deriving DecidableEq, Repr

/-- The room parameters (the ROOM record of 9.2). -/
structure Params where
  issuer : Nat
  ceiling : Nat
  holdWindow : Nat
  doubtWindow : Nat
  grantWait : Nat
  doorPause : Nat
  threshold : Nat
  defaultElectric : Nat
  defaultWater : Nat
  electricWasher : Nat
  electricDryer : Nat
  waterWasher : Nat
  discount : Nat
deriving DecidableEq, Repr

/-- A washer profile (5.1, 9.2). -/
structure WashProfile where
  price : Nat
  plan : List PlanEntry
deriving DecidableEq, Repr

/-- A dryer profile (5.1, 9.2). -/
structure DryProfile where
  dryLu : Nat
  coolSeconds : Nat
  stepMinutes : Nat
  stepPrice : Nat
  maxMinutes : Nat
deriving DecidableEq, Repr

/-- The Configuration Loader's tables (chapter 9). -/
structure Tables where
  params : Params
  roster : Vector (Option RosterEntry) Config.addresses
  wash : Vector (Option WashProfile) Config.programs
  dry : Vector (Option DryProfile) Config.programs
deriving DecidableEq, Repr

/-- The modes of the part (R166). -/
inductive Mode where
  | loading | operating | configFault
deriving DecidableEq, Repr

/-- The configuration fault reasons (R170). -/
inductive FaultReason where
  | noMemory | badMarker | badLength | badCheck | badRecord | badField | duplicate | noRoomRecord
deriving DecidableEq, Repr

/-- The result of the last store (R166). -/
inductive StoreResult where
  | ok | writeFail
deriving DecidableEq, Repr

/-- Where a store stands (R175): writing page `page` with the marker cleared, reading the image back, or writing the
first page again with the marker. -/
inductive StoreStep where
  | writing (page : Nat)
  | readingBack
  | marking
deriving DecidableEq, Repr

/-- A store under way (R175). `image` holds the image bytes laid out so far, page by page, as they will stand with the
marker in place. -/
structure StoreJob where
  step : StoreStep
  image : List Byte
deriving DecidableEq, Repr

/-! ## Pools -/

/-- The purposes of a demand (chapter 3). -/
inductive Purpose where
  | cyclePhase | resume | servicePhase | subtest
deriving DecidableEq, Repr

/-- The portion of a pool a grant was taken from (3.1). -/
inductive Portion where
  | shared | washerReserve | dryerReserve
deriving DecidableEq, Repr

/-- A grant record (3.1). -/
structure Grant where
  machine : Addr
  cls : MachineClass
  purpose : Purpose
  amount : Nat
  portion : Portion
  time : Nat
  suspendable : Bool
  pending : Bool
  deadline : Option Nat
  number : Option Nat
deriving DecidableEq, Repr

/-- A wait entry (3.1). -/
structure WaitEntry where
  machine : Addr
  cls : MachineClass
  purpose : Purpose
  demand : Nat
  suspendable : Bool
  time : Nat
  passes : Nat
  number : Option Nat
deriving DecidableEq, Repr

/-- The five statistics of a pool (R74). -/
structure PoolStats where
  unitSeconds : Nat
  waits : Nat
  sheds : Nat
  overSeconds : Nat
  expiries : Nat
deriving DecidableEq, Repr

/-- A pool (3.1). -/
structure Pool where
  limit : Nat
  reqWasher : Nat
  reqDryer : Nat
  grants : List Grant
  suspCounter : Nat
  waits : List WaitEntry
  overLimit : Bool
  halted : Bool
  stats : PoolStats
deriving DecidableEq, Repr

/-! ## Cards, stations, doubts -/

/-- The two purse slots of a card (R82). -/
inductive Slot where
  | a
  | b
deriving DecidableEq, Repr

/-- The pair of a slot: its sequence together with its value (R83). -/
structure Pair where
  sequence : Nat
  value : Nat
deriving DecidableEq, Repr

/-- The states of a station transaction record (4.4). -/
inductive StationState where
  | empty | reading | cardReady | crediting | debiting | verifying
deriving DecidableEq, Repr

/-- The request in progress of a station record (4.4). -/
inductive CardRequest where
  | pay | addTime | credit
deriving DecidableEq, Repr

/-- A display message (R78). -/
structure Message where
  code : Nat
  small : Nat
  minutes : Nat
  first : Nat
  second : Nat
  third : Nat
deriving DecidableEq, Repr

/-- A station: its transaction record (4.4), the bytes of the panel message being gathered (R77), the card-present
switch (4.1), and two fields of the model's own: whether the BALANCE message that ends an insertion is still to be
shown (log entry 14), and the messages sent on the display line (log entry 15). -/
structure Station where
  state : StationState
  awaitingRemoval : Bool
  card : Option Nat
  slot : Option Slot
  pair : Pair
  request : Option CardRequest
  target : Option Addr
  amount : Nat
  seconds : Nat
  minutes : Nat
  writing : Option Slot
  oldPair : Pair
  expectedPair : Pair
  attempt : Nat
  begun : Bool
  gathered : List Byte
  switchClosed : Bool
  balanceDue : Bool
  display : List Message
deriving DecidableEq, Repr

/-- The kinds of a DEBIT doubt (4.11). -/
inductive DoubtKind where
  | start | topUp
deriving DecidableEq, Repr

/-- The retained copy of a debit in progress (R99, R176). -/
structure DebitCopy where
  kind : DoubtKind
  card : Nat
  machine : Addr
  amount : Nat
  slot : Slot
  oldPair : Pair
  expectedPair : Pair
deriving DecidableEq, Repr

/-- A doubt (4.11). -/
structure Doubt where
  debit : DebitCopy
  deadline : Nat
deriving DecidableEq, Repr

/-! ## Refunds, audit, claim queues, faults -/

/-- The states of a refund entry (5.4). -/
inductive RefundState where
  | ready | inDoubt | suspect
deriving DecidableEq, Repr

/-- An entry of the refund table with the position it stands at (5.4). -/
structure RefundEntry where
  position : Nat
  card : Nat
  amount : Nat
  state : RefundState
  inProgress : Bool
  pairs : Option (Pair × Pair)
  created : Nat
deriving DecidableEq, Repr

/-- The seven audit totals (R122). -/
structure Audit where
  charged : Nat
  issued : Nat
  credited : Nat
  unplaced : Nat
  cancelled : Nat
  debitsUnresolved : Nat
  creditsUnresolved : Nat
deriving DecidableEq, Repr

/-- The hold of a queue entry (6.1). -/
structure EntryHold where
  machine : Addr
  deadline : Nat
deriving DecidableEq, Repr

/-- An entry of a claim queue (6.1). -/
structure ClaimEntry where
  card : Nat
  joined : Nat
  hold : Option EntryHold
  paying : Bool
deriving DecidableEq, Repr

/-- A claim queue with its four counts (6.1). -/
structure ClaimQueue where
  entries : List ClaimEntry
  placed : Nat
  served : Nat
  expired : Nat
  cancelled : Nat
deriving DecidableEq, Repr

/-- The severities of faults (7.1). -/
inductive Severity where
  | soft | hard | info
deriving DecidableEq, Repr

/-- A record of the fault table (7.2). The machine 0 is the room. -/
structure FaultRecord where
  machine : Nat
  code : Nat
  severity : Severity
  firstTime : Nat
  lastTime : Nat
  count : Nat
  kind : Option PhaseKind
  card : Option Nat
  subtest : Option Nat
deriving DecidableEq, Repr

/-! ## Ports -/

/-- The receiver of a port (R157); a gathering receiver holds the LENGTH announced and the bytes taken so far. -/
inductive Receiver where
  | hunting
  | counting
  | gathering (length : Nat) (got : List Byte)
deriving DecidableEq, Repr

/-- The reply statuses (8.2). -/
inductive Status where
  | ok | accepted | clamped | notPermitted | badState | badArg | busy | full | notFound | unknownCode | frameError
  | configFault
deriving DecidableEq, Repr

/-- A reply waiting to be sent (R159). -/
structure PortReply where
  code : Byte
  status : Status
  payload : List Byte
deriving DecidableEq, Repr

/-- The seven events (8.4), in the order of their bits. -/
inductive Event where
  | machine | fault | pool | payment | room | config | test
deriving DecidableEq, Repr

/-- The state of one control port (chapter 8). A flag set has MACHINE in its least significant bit. -/
structure PortState where
  receiver : Receiver
  replies : List PortReply
  flags : BitVec 7
  mask : BitVec 7
deriving DecidableEq, Repr

/-! ## The room -/

/-- The tariff bands (2.11). -/
inductive Band where
  | standard | offPeak | quiet
deriving DecidableEq, Repr

/-- The start reasons (R166, R176). -/
inductive StartReason where
  | kept | lost
deriving DecidableEq, Repr

/-- The state of the whole part. `pending` is the queue of commands that wait to be taken. -/
structure State where
  pending : List Instr
  /-- the room second -/
  now : Nat
  /-- the grant-wait limit in force when this room second began (R71) -/
  waitLimit : Nat
  mode : Mode
  startReason : StartReason
  configReason : Option FaultReason
  tables : Tables
  store : Option StoreJob
  lastStore : Option StoreResult
  /-- the halt latch: HALTED is `true` -/
  halted : Bool
  band : Band
  cycleCounter : Nat
  machines : Vector MachineRecord Config.addresses
  roundNumber : Nat
  roundsBegun : Bool
  /-- the addresses of the round under way that have not had their slot -/
  slots : List Addr
  /-- the address whose reply window is open -/
  slot : Option Addr
  /-- the poll frame last sent on the room bus -/
  pollFrame : List Byte
  electric : Pool
  water : Pool
  stationA : Station
  stationB : Station
  doubts : List Doubt
  debitA : Option DebitCopy
  debitB : Option DebitCopy
  refunds : List RefundEntry
  audit : Audit
  washers : ClaimQueue
  dryers : ClaimQueue
  faults : List FaultRecord
  session : Option Session
  building : PortState
  operator : PortState
  service : PortState
  /-- the retention-valid mark of the retained domain -/
  retentionValid : Bool
deriving DecidableEq, Repr

/-! ## Values at power-on -/

/-- The bus fields at power-on (R6). -/
def BusFields.initial : BusFields :=
  { presence := .absent, missed := 0, inFlight := none, queued := none, lastTag := false, report := none, seen := false,
    mismatch := false, orphanDeadline := none }

/-- A machine record at power-on, and of an unconfigured address (R21, 7.3 to 7.8, R174). -/
def MachineRecord.initial : MachineRecord :=
  { bus := .initial, state := .absent, lock := .none, lockPending := false, door := none, selection := none, hold := none,
    payment := none, openedSinceFinish := false, cycle := none, strikes := 0, permit := false, lastTest := none,
    testRun := none, absenceExemption := false }

/-- The room parameters of the CONFIG_FAULT mode (R171), which also stand before the first autoload (log entry 6). -/
def Params.initial : Params :=
  { issuer := 0, ceiling := 20000, holdWindow := 300, doubtWindow := 120, grantWait := 900, doorPause := 300, threshold := 3,
    defaultElectric := 10, defaultWater := 0, electricWasher := 0, electricDryer := 0, waterWasher := 0, discount := 0 }

/-- Tables with no address configured and no profile (R171). -/
def Tables.initial : Tables :=
  { params := .initial, roster := Vector.replicate _ none, wash := Vector.replicate _ none, dry := Vector.replicate _ none }

/-- Statistics all 0 (R53, R76). -/
def PoolStats.zero : PoolStats := { unitSeconds := 0, waits := 0, sheds := 0, overSeconds := 0, expiries := 0 }

/-- A pool as it starts with the figures given (R53). -/
def Pool.starting (limit reqWasher reqDryer : Nat) (halted : Bool) : Pool :=
  { limit := limit, reqWasher := reqWasher, reqDryer := reqDryer, grants := [], suspCounter := 0, waits := [],
    overLimit := false, halted := halted, stats := .zero }

/-- The pair of a station record that holds no card. -/
def Pair.zero : Pair := { sequence := 0, value := 0 }

/-- A station record at power-on (R84). Its numbers start at 0, its pairs at 0 and 0 and its write attempt at 1, values that R84
does not give (log entry 74). -/
def Station.initial : Station :=
  { state := .empty, awaitingRemoval := false, card := none, slot := none, pair := .zero, request := none, target := none,
    amount := 0, seconds := 0, minutes := 0, writing := none, oldPair := .zero, expectedPair := .zero, attempt := 1,
    begun := false, gathered := [], switchClosed := false, balanceDue := false, display := [] }

/-- Audit totals all 0 (R122). -/
def Audit.zero : Audit :=
  { charged := 0, issued := 0, credited := 0, unplaced := 0, cancelled := 0, debitsUnresolved := 0, creditsUnresolved := 0 }

/-- A claim queue at power-on (R126). -/
def ClaimQueue.initial : ClaimQueue := { entries := [], placed := 0, served := 0, expired := 0, cancelled := 0 }

/-- A port at power-on: only the ROOM flag, bit 4, is set (R165). -/
def PortState.initial : PortState := { receiver := .hunting, replies := [], flags := 0b0010000#7, mask := 0 }

/-- Why a command stops the part. The manual gives every command of the table an effect in every state, so no command
ever stops with a fault: this type has no constructor, which is safe. -/
inductive Fault where
deriving DecidableEq, Repr

/-- Why a command has no meaning in the model. -/
inductive Refusal where
  /-- raised by the dispatch of a command that has no meaning yet; no command raises it now, and it is safe -/
  | notModelled (mnemonic : String)
deriving DecidableEq, Repr

/-- The part right after a power-on that found retention lost (R177), with its autoload under way and nothing pending
(log entry 4). -/
def State.reset : State :=
  { pending := [], now := 0, waitLimit := Params.initial.grantWait, mode := .loading, startReason := .lost, configReason := none, tables := .initial, store := none,
    lastStore := none, halted := true, band := .standard, cycleCounter := 0, machines := Vector.replicate _ .initial,
    roundNumber := 0, roundsBegun := false, slots := [], slot := none, pollFrame := [],
    electric := .starting 10 0 0 true, water := .starting 0 0 0 true,
    stationA := .initial, stationB := .initial, doubts := [], debitA := none, debitB := none, refunds := [], audit := .zero,
    washers := .initial, dryers := .initial, faults := [], session := none,
    building := .initial, operator := .initial, service := .initial, retentionValid := true }

end Sys2Proof.Machine
end

