-- ==== Sys2Proof/Machine/Flags.lean ====
section
/-! DEFINITION. The event flags, the notice masks and the notice lines of the control ports (8.4). -/

namespace Sys2Proof.Machine

/-- The place of an event in a flag set: MACHINE in the least significant bit, TEST in bit 6 (8.4). -/
def eventIndex : Event → Nat
  | .machine => 0
  | .fault => 1
  | .pool => 2
  | .payment => 3
  | .room => 4
  | .config => 5
  | .test => 6

/-- The flag set that names one event. -/
def eventBit (e : Event) : BitVec 7 := 1#7 <<< eventIndex e

/-- The state of a port. -/
def State.port (s : State) : Port → PortState
  | .building => s.building
  | .operator => s.operator
  | .service => s.service

/-- The part with a port's state replaced. -/
def State.setPort (s : State) (p : Port) (x : PortState) : State :=
  match p with
  | .building => { s with building := x }
  | .operator => { s with operator := x }
  | .service => { s with service := x }

/-- A port with the flag of an event set; a flag already set stays set (R162). -/
def setFlag (e : Event) (x : PortState) : PortState := { x with flags := x.flags ||| eventBit e }

/-- An owner raises an event: its flag is set in all three ports (R162). -/
def raise (e : Event) (s : State) : State :=
  { s with building := setFlag e s.building, operator := setFlag e s.operator, service := setFlag e s.service }

/-- Whether the flag of an event is set in a port. -/
def flagSet (e : Event) (x : PortState) : Bool := x.flags &&& eventBit e != 0

/-- The notice line of a port is driven while a flag is both set and named in the mask (R164). -/
def lineDriven (x : PortState) : Bool := x.flags &&& x.mask != 0

/-- A flag set from its byte; the caller has refused a byte with bit 7 set (R163, R164). -/
def flagsOfByte (b : Byte) : BitVec 7 := b.truncate 7

/-- A flag set as its byte, bit 7 always 0 (8.4). -/
def byteOfFlags (f : BitVec 7) : Byte := f.zeroExtend 8

end Sys2Proof.Machine
end

