-- ==== Sys2Proof/Machine/Operands.lean ====
section
/-! DEFINITION. The bytes of the links: numbers most significant byte first (3.2), the numbers of the listed values
(R3, R4, R161), the frames of the room bus (R3, R4), the panel and display messages (R77, R78) and the purse slots of a
card (R82, R83). -/

namespace Sys2Proof.Machine

/-! ## Numbers and bytes -/

/-- The low byte of a number. -/
def byte (n : Nat) : Byte := BitVec.ofNat 8 n

/-- A number as one byte. -/
def be1 (n : Nat) : List Byte := [byte n]

/-- A number as two bytes, most significant first (3.2). -/
def be2 (n : Nat) : List Byte := [byte (n / 256), byte n]

/-- A number as four bytes, most significant first (3.2). -/
def be4 (n : Nat) : List Byte := be2 (n / 65536) ++ be2 n

/-- A number as five bytes, most significant first (3.2). -/
def be5 (n : Nat) : List Byte := byte (n / 4294967296) :: be4 n

/-- The byte at a place of a byte string, as a number; 0 beyond its end. -/
def at1 (bs : List Byte) (i : Nat) : Nat := (bs.getD i 0).toNat

/-- The two-byte number at a place of a byte string (3.2). -/
def at2 (bs : List Byte) (i : Nat) : Nat := at1 bs i * 256 + at1 bs (i + 1)

/-- The four-byte number at a place of a byte string (3.2). -/
def at4 (bs : List Byte) (i : Nat) : Nat := at2 bs i * 65536 + at2 bs (i + 2)

/-- The sum of the bytes of a byte string. -/
def byteSum : List Byte → Nat
  | [] => 0
  | b :: bs => b.toNat + byteSum bs

/-- Part of a byte string: `n` bytes from place `i`. -/
def slice (bs : List Byte) (i n : Nat) : List Byte := (bs.drop i).take n

/-- A yes/no field of a payload: no is 0 and yes is 1, as the tables say of the fields that they number, and by the model's reading
of the others (log entry 19). -/
def bit (b : Bool) : Nat := if b then 1 else 0

/-- The two-byte check of the room bus frames: 65,535 minus the sum, modulo 65,536 (R3, R4). -/
def busCheck (bs : List Byte) : Nat := 65535 - byteSum bs % 65536

/-- The one-byte check of panel messages, display messages and purse slots: 255 minus the sum, modulo 256 (R77, R78,
R82). -/
def byteCheck (bs : List Byte) : Nat := 255 - byteSum bs % 256

/-- The address numbered `n`, 1 to 24. -/
def addr? (n : Nat) : Option Addr := if h : 1 ≤ n ∧ n ≤ 24 then some ⟨n - 1, by show n - 1 < 24; omega⟩ else none

/-- The number of an address, 1 to 24. -/
def addrNum (a : Addr) : Nat := a.val + 1

/-- Every address, in ascending order. -/
def allAddrs : List Addr := List.finRange Config.addresses

/-! ## The numbers of listed values -/

/-- Phase kinds are numbered 1 to 9 (R3). -/
def kindCode : PhaseKind → Nat
  | .fill => 1
  | .heat => 2
  | .wash => 3
  | .rinse => 4
  | .drain => 5
  | .spin => 6
  | .soak => 7
  | .dry => 8
  | .cool => 9

/-- The phase kind with a number (R3). -/
def kindOf : Nat → Option PhaseKind
  | 1 => some .fill
  | 2 => some .heat
  | 3 => some .wash
  | 4 => some .rinse
  | 5 => some .drain
  | 6 => some .spin
  | 7 => some .soak
  | 8 => some .dry
  | 9 => some .cool
  | _ => none

/-- Classes are numbered 1 and 2 (R4). -/
def classCode : MachineClass → Nat
  | .washer => 1
  | .dryer => 2

/-- The class with a number (R4). -/
def classOf : Nat → Option MachineClass
  | 1 => some .washer
  | 2 => some .dryer
  | _ => none

/-- Activities are numbered 0 to 8 (R4). -/
def activityCode : Activity → Nat
  | .ready => 0
  | .running => 1
  | .complete => 2
  | .suspended => 3
  | .faultHold => 4
  | .stopping => 5
  | .stopped => 6
  | .testing => 7
  | .testDone => 8

/-- The activity with a number (R4). -/
def activityOf : Nat → Option Activity
  | 0 => some .ready
  | 1 => some .running
  | 2 => some .complete
  | 3 => some .suspended
  | 4 => some .faultHold
  | 5 => some .stopping
  | 6 => some .stopped
  | 7 => some .testing
  | 8 => some .testDone
  | _ => none

/-- The door with a number in a reply (R4). -/
def doorOf : Nat → Option Door
  | 0 => some .opened
  | 1 => some .closed
  | 2 => some .locked
  | _ => none

/-- The door in a READ_MACHINE reply: 0 absent, then OPEN, CLOSED, LOCKED (R168). -/
def doorCode : Option Door → Nat
  | none => 0
  | some .opened => 1
  | some .closed => 2
  | some .locked => 3

/-- Stop causes are numbered 1 to 4 (R3). -/
def causeCode : StopCause → Nat
  | .user => 1
  | .machine => 2
  | .operator => 3
  | .room => 4

/-- The reply statuses are numbered 0 to 11 (8.2). -/
def statusCode : Status → Nat
  | .ok => 0
  | .accepted => 1
  | .clamped => 2
  | .notPermitted => 3
  | .badState => 4
  | .badArg => 5
  | .busy => 6
  | .full => 7
  | .notFound => 8
  | .unknownCode => 9
  | .frameError => 10
  | .configFault => 11

/-! ## Room bus frames -/

/-- The command code of a poll frame (R3). -/
def commandCode : BusCommand → Nat
  | .startPhase _ _ _ => 1
  | .suspend => 2
  | .resume => 3
  | .stop _ => 4
  | .test _ => 5

/-- The three arguments of a command; the ones it does not use are 0 (R3). -/
def commandArgs : BusCommand → Nat × Nat × Nat
  | .startPhase index kind third => (index, kindCode kind, third)
  | .suspend => (0, 0, 0)
  | .resume => (0, 0, 0)
  | .stop cause => (causeCode cause, 0, 0)
  | .test n => (n, 0, 0)

/-- The poll frame to an address, carrying the command in flight or NONE, with the joined mark as given (R3). -/
def pollFrame (a : Addr) (joined : Bool) (inFlight : Option InFlight) : List Byte :=
  let mark := (match inFlight with
    | some f => bit f.tag
    | none => 0) + 2 * bit joined
  let command := match inFlight with
    | some f => be1 (commandCode f.cmd) ++ be1 (commandArgs f.cmd).1 ++ be1 (commandArgs f.cmd).2.1
        ++ be2 (commandArgs f.cmd).2.2
    | none => [0, 0, 0, 0, 0]
  let body := be1 (addrNum a) ++ be1 mark ++ command
  [0x3C] ++ body ++ be2 (busCheck body)

/-- The activity arguments an activity admits (R4). -/
def activityArgOk (activity : Activity) (arg : Nat) : Bool :=
  match activity with
  | .running | .complete | .suspended | .faultHold => arg ≤ 11 || arg == 255
  | .testing | .testDone => 1 ≤ arg && arg ≤ 7
  | .ready | .stopping | .stopped => arg == 0

/-- The fault codes an activity admits in a reply (R4). -/
def replyFaultOk (activity : Activity) (code : Nat) : Bool :=
  match activity with
  | .testDone => true
  | _ => code == 0 || (2 ≤ code && code ≤ 10)

/-- What a reply to the address `a` says, its echo tag first, if the reply is valid (R4). -/
def readReply (a : Addr) (bs : List Byte) : Option (Bool × Report) :=
  if bs.length == 16 && at1 bs 0 == 0xC3 && at1 bs 1 == addrNum a && at2 bs 14 == busCheck (slice bs 1 13)
      && at1 bs 2 ≤ 1 && at1 bs 3 ≤ 1 && at1 bs 5 ≤ 8 && at1 bs 10 ≤ 20 && at1 bs 11 ≤ 40 && at1 bs 12 ≤ 80
      && at1 bs 13 ≤ 20 then
    match doorOf (at1 bs 4), activityOf (at1 bs 6), classOf (at1 bs 9) with
    | some door, some activity, some cls =>
      if activityArgOk activity (at1 bs 7) && replyFaultOk activity (at1 bs 8) then
        some (at1 bs 2 == 1,
          { fresh := at1 bs 3 == 1, door := door, selection := if at1 bs 5 == 0 then none else some (at1 bs 5 - 1),
            activity := activity, arg := at1 bs 7, fault := at1 bs 8, cls := cls,
            ratings := { motor := at1 bs 10, spin := at1 bs 11, heater := at1 bs 12, fill := at1 bs 13 } })
      else none
    | _, _, _ => none
  else none

/-! ## Panel and display messages -/

/-- Whether the five bytes of a panel message have the right check (R77). -/
def panelCheckOk (bs : List Byte) : Bool := at1 bs 4 == byteCheck (slice bs 1 3)

/-- The eleven bytes of a display message; an amount above 65,535 is sent as 65,535 (R78). -/
def messageBytes (m : Message) : List Byte :=
  let body := be1 m.code ++ be1 m.small ++ be1 m.minutes ++ be2 (min m.first 65535) ++ be2 (min m.second 65535)
    ++ be2 (min m.third 65535)
  [0x6E] ++ body ++ be1 (byteCheck body)

/-! ## Purse cards -/

/-- The eight bytes of a purse slot (R82). -/
def slotBytes (p : Pair) (lastMachine lastAmount : Nat) : List Byte :=
  let body := be2 p.value ++ be2 p.sequence ++ be1 lastMachine ++ be2 lastAmount
  body ++ be1 (byteCheck body)

/-- The pair of a slot read from a card (R82, R83). -/
def slotPair (bs : List Byte) : Pair := { sequence := at2 bs 2, value := at2 bs 0 }

/-- A slot is valid when its check byte is right and its value does not exceed 50,000 (R82). -/
def slotValid (bs : List Byte) : Bool :=
  bs.length == 8 && at1 bs 7 == byteCheck (slice bs 0 7) && at2 bs 0 ≤ Config.largestValue

/-- Whether sequence `b` is later than sequence `a` (R83). -/
def laterThan (b a : Nat) : Bool :=
  let d := (b + 65536 - a) % 65536
  1 ≤ d && d ≤ 32767

/-- The sequence after a sequence (R83). -/
def nextSequence (n : Nat) : Nat := (n + 1) % 65536

/-- The slot that is not the one given. -/
def otherSlot : Slot → Slot
  | .a => .b
  | .b => .a

/-- The current slot of a card with its pair, chosen from the two slots read; none when the card is unreadable (R83). -/
def currentSlot (a b : List Byte) : Option (Slot × Pair) :=
  match slotValid a, slotValid b with
  | true, true =>
    if laterThan (slotPair b).sequence (slotPair a).sequence then some (.b, slotPair b) else some (.a, slotPair a)
  | true, false => some (.a, slotPair a)
  | false, true => some (.b, slotPair b)
  | false, false => none

/-- The card offset of a slot (R82). -/
def slotOffset : Slot → Nat
  | .a => 16
  | .b => 24

end Sys2Proof.Machine
end

