-- ==== Sys2Proof/Machine/Links.lean ====
section
/-! DEFINITION. What goes over the lines of the part: the characters of the room bus, the control ports and the pay stations
(R1, 8.1, 4.1); and the byte protocol of the card and config links: what goes over the two lines (R79), the reads and writes the
part makes (R80, R81, R169), and how the acknowledgements judge them (R80, R81, R169).

No State field holds the lines: what the part asks of a link is a function of the state (`cardAccess`, `configAccess`;
log entry 62), and the acknowledgements of a transfer come with the command that ends it (log entry 1). -/

namespace Sys2Proof.Machine

/-! ## Characters -/

/-- One bit time of an asynchronous character. The manual names no level for the start bit and the stop bit (R1, 8.1). -/
inductive BitTime where
  | start
  | data (bit : Bool)
  | stop
deriving DecidableEq, Repr

/-- The character of a byte: a start bit, eight data bits sent least significant bit first, no parity and a stop bit, so ten
bit times (R1, 8.1). -/
def character (b : Byte) : List BitTime :=
  [.start] ++ ([0, 1, 2, 3, 4, 5, 6, 7].map (fun n => BitTime.data (b.getLsbD n))) ++ [.stop]

/-- The byte of ten bit times, when they are a character: the first data bit is its least significant bit (R1, 8.1). -/
def readCharacter : List BitTime → Option Byte
  | [.start, .data b0, .data b1, .data b2, .data b3, .data b4, .data b5, .data b6, .data b7, .stop] =>
    some (byte (bit b0 + 2 * bit b1 + 4 * bit b2 + 8 * bit b3 + 16 * bit b4 + 32 * bit b5 + 64 * bit b6 + 128 * bit b7))
  | _ => none

/-- What the part does with the pair of the room bus in a bit time (R1). -/
inductive PairTime where
  /-- the part drives the pair -/
  | driven (bit : BitTime)
  /-- the part leaves the pair to the machines -/
  | released
deriving DecidableEq, Repr

/-- The pair of the room bus from the start of a poll frame through the bit times that follow it: driven for the characters of
the frame, and released at once after the last stop bit (R1). The frame that a slot sends is `State.pollFrame`. -/
def pairThrough (frame : List Byte) (after : Nat) : List PairTime :=
  (frame.flatMap character).map .driven ++ List.replicate after .released

/-! ## The two lines of a link -/

/-- What happens on a link between two patterns or bytes (R79). -/
inductive LinkSymbol where
  /-- the start pattern, on a link at rest -/
  | start
  /-- the start pattern without a stop before it -/
  | restart
  /-- the stop pattern -/
  | stop
  /-- the part sends a byte, and in the ninth period the device acknowledges it or not -/
  | put (b : Byte)
  /-- the device sends a byte, and in the ninth period the part acknowledges it or not -/
  | take (ack : Bool)
deriving DecidableEq, Repr

/-- The two lines at one moment; `true` is high. -/
structure Lines where
  clock : Bool
  data : Bool
deriving DecidableEq, Repr

/-- One clock period with a level of the data line, which changes only while the clock is low (R79). -/
def clockPeriod (data : Bool) : List Lines := [⟨false, data⟩, ⟨true, data⟩, ⟨false, data⟩]

/-- The eight bits of a byte, most significant first (R79). -/
def bitsOf (b : Byte) : List Bool := [7, 6, 5, 4, 3, 2, 1, 0].map b.getLsbD

/-- The lines as the part holds them through a symbol: data high is data released, which the other side may hold low. A
receiver acknowledges a byte by holding data low in the ninth period (R79). -/
def LinkSymbol.lines : LinkSymbol → List Lines
  | .start => [⟨true, true⟩, ⟨true, false⟩, ⟨false, false⟩]
  | .restart => [⟨false, true⟩, ⟨true, true⟩, ⟨true, false⟩, ⟨false, false⟩]
  | .stop => [⟨false, false⟩, ⟨true, false⟩, ⟨true, true⟩]
  | .put b => (bitsOf b).flatMap clockPeriod ++ clockPeriod true
  | .take ack => (List.replicate 8 true).flatMap clockPeriod ++ clockPeriod (!ack)

/-! ## Accesses -/

/-- An access the part makes on a link. -/
inductive LinkAccess where
  /-- a read of a number of bytes from an offset (R80) -/
  | read (offset count : Nat)
  /-- a write of bytes from an offset, within one page (R81) -/
  | write (offset : Nat) (bytes : List Byte)
deriving DecidableEq, Repr

/-- A device on a link: its device number, and the bytes that name an offset in it. -/
structure LinkDevice where
  number : Nat
  offsetBytes : Nat
deriving DecidableEq, Repr

/-- The purse card: device number 0x36, so that its device bytes are 0x6C and 0x6D, and one address byte (R79, R80). -/
def purseCard : LinkDevice := { number := 0x36, offsetBytes := 1 }

/-- The configuration memory: device number 0x50, device bytes 0xA0 and 0xA1, and two address bytes (R169). -/
def configMemory : LinkDevice := { number := 0x50, offsetBytes := 2 }

/-- The device byte of a transfer: the device number in the upper seven bits, 1 to read (R79). -/
def LinkDevice.byteFor (d : LinkDevice) (read : Bool) : Byte := byte (d.number * 2 + bit read)

/-- The address bytes of an offset, most significant first (R80, R169). -/
def LinkDevice.address (d : LinkDevice) (offset : Nat) : List Byte :=
  if d.offsetBytes = 1 then be1 offset else be2 offset

/-- The bytes taken in a read: each is acknowledged but the last (R80). -/
def takes (count : Nat) : List LinkSymbol := List.replicate (count - 1) (.take true) ++ [.take false]

/-- What an access sends when every byte of it is acknowledged (R80, R81, R169). -/
def LinkAccess.traffic (d : LinkDevice) : LinkAccess → List LinkSymbol
  | .read offset count =>
    [.start] ++ (d.byteFor false :: d.address offset).map .put ++ [.restart, .put (d.byteFor true)] ++ takes count ++ [.stop]
  | .write offset bytes => [.start] ++ (d.byteFor false :: d.address offset ++ bytes).map .put ++ [.stop]

/-- What goes over the link when the device acknowledges as listed: after the first byte that it does not acknowledge the
part sends a stop (R80; of a write R81 does not say so, and the model does the same, log entry 62). -/
def acknowledged : List LinkSymbol → List Bool → List LinkSymbol
  | [], _ => []
  | .put b :: rest, true :: acks => .put b :: acknowledged rest acks
  | .put b :: _, _ => [.put b, .stop]
  | x :: rest, acks => x :: acknowledged rest acks

/-- The polls for the end of an internal write, each a start, the device byte for writing, and a stop, until one is
acknowledged or none is made any more (R81). -/
def pollTraffic (d : LinkDevice) : List Bool → List LinkSymbol
  | [] => []
  | ack :: rest => [.start, .put (d.byteFor false), .stop] ++ if ack then [] else pollTraffic d rest

/-- The bytes that the part sends in an access. -/
def LinkAccess.sent (d : LinkDevice) : LinkAccess → Nat
  | .read _ _ => d.offsetBytes + 2
  | .write _ bytes => d.offsetBytes + 1 + bytes.length

/-- Whether every one of a number of bytes was acknowledged. -/
def allAcknowledged (count : Nat) (acks : List Bool) : Bool := decide (count ≤ acks.length) && acks.all id

/-- What goes over the link in an access that the device answers as listed, with the polls of a write whose bytes were all
acknowledged (R80, R81, R169). -/
def linkTraffic (d : LinkDevice) (access : LinkAccess) (x : LinkAnswers) : List LinkSymbol :=
  acknowledged (access.traffic d) x.bytes ++
    match access with
    | .read _ _ => []
    | .write _ _ => if allAcknowledged (access.sent d) x.bytes then pollTraffic d x.polls else []

/-! ## The outcomes of reads and writes -/

/-- The bytes of a read: none when the read fails, as it does when a device byte or an address byte goes unacknowledged (R80,
R169). -/
def bytesRead (d : LinkDevice) (x : ReadAnswers) : Option (List Byte) :=
  if allAcknowledged (d.offsetBytes + 2) x.bytes then some x.data else none

/-- Whether a write of a number of data bytes went through: the device byte, the address bytes and the data bytes were all
acknowledged, and so was a poll within 10 ms (R81, R169). -/
def writeDone (d : LinkDevice) (count : Nat) (x : LinkAnswers) : Bool :=
  allAcknowledged (d.offsetBytes + 1 + count) x.bytes && x.polls.any id

/-- The three outcomes of a card write (R81). -/
inductive WriteOutcome where
  /-- the device byte of the write itself was not acknowledged -/
  | notBegun
  /-- every byte, and a poll within 10 ms, was acknowledged -/
  | completed
  /-- a later byte, or every poll of the 10 ms, went unacknowledged -/
  | faulted
deriving DecidableEq, Repr

/-- The outcome of a card write, of the eight bytes of a slot, from the acknowledgements of its bytes and of its polls
(R81). -/
def writeOutcome (x : LinkAnswers) : WriteOutcome :=
  if x.bytes.head? ≠ some true then .notBegun
  else if writeDone purseCard 8 x then .completed
  else .faulted

end Sys2Proof.Machine
end

