-- ==== Sys2Proof/Machine/Ops.lean ====
section
/-! DEFINITION. The named operations over the records of the part: reading and replacing one record, the tables in
force, the command slots of the room bus (R7, R8), and the display line. -/

namespace Sys2Proof.Machine

/-! ## One record of each kind -/

/-- The machine record of an address. -/
def State.machine (s : State) (a : Addr) : MachineRecord := s.machines[a]

/-- The part with a machine record replaced. -/
def State.setMachine (s : State) (a : Addr) (m : MachineRecord) : State :=
  { s with machines := s.machines.set a.val m a.isLt }

/-- The part with a machine record changed by a function. -/
def modifyMachine (a : Addr) (f : MachineRecord → MachineRecord) (s : State) : State := s.setMachine a (f (s.machine a))

/-- The part with the bus fields of a machine changed by a function. -/
def modifyBus (a : Addr) (f : BusFields → BusFields) (s : State) : State :=
  modifyMachine a (fun m => { m with bus := f m.bus }) s

/-- The part with the cycle record of a machine, if it has one, changed by a function. -/
def modifyCycle (a : Addr) (f : Cycle → Cycle) (s : State) : State :=
  modifyMachine a (fun m => { m with cycle := m.cycle.map f }) s

/-- A pool. -/
def State.pool (s : State) : PoolId → Pool
  | .electric => s.electric
  | .water => s.water

/-- The part with a pool replaced. -/
def State.setPool (s : State) (k : PoolId) (p : Pool) : State :=
  match k with
  | .electric => { s with electric := p }
  | .water => { s with water := p }

/-- A station. -/
def State.station (s : State) : StationId → Station
  | .a => s.stationA
  | .b => s.stationB

/-- The part with a station replaced. -/
def State.setStation (s : State) (i : StationId) (x : Station) : State :=
  match i with
  | .a => { s with stationA := x }
  | .b => { s with stationB := x }

/-- The part with a station changed by a function. -/
def modifyStation (i : StationId) (f : Station → Station) (s : State) : State := s.setStation i (f (s.station i))

/-- The other station. -/
def otherStation : StationId → StationId
  | .a => .b
  | .b => .a

/-- The retained copy of a station's debit in progress (R99). -/
def State.debitCopy (s : State) : StationId → Option DebitCopy
  | .a => s.debitA
  | .b => s.debitB

/-- The part with the retained copy of a station's debit replaced. -/
def State.setDebitCopy (s : State) (i : StationId) (d : Option DebitCopy) : State :=
  match i with
  | .a => { s with debitA := d }
  | .b => { s with debitB := d }

/-- The claim queue of a class. -/
def State.queue (s : State) : MachineClass → ClaimQueue
  | .washer => s.washers
  | .dryer => s.dryers

/-- The part with a claim queue replaced. -/
def State.setQueue (s : State) (c : MachineClass) (q : ClaimQueue) : State :=
  match c with
  | .washer => { s with washers := q }
  | .dryer => { s with dryers := q }

/-! ## The tables in force -/

/-- The tables the room runs on: the loader's own in the OPERATING mode. In the CONFIG_FAULT mode, and before the
autoload has ended, no address is configured, no profile exists and the parameters are those of R171, whatever is
being built in the loader's tables. -/
def State.inForce (s : State) : Tables := if s.mode = .operating then s.tables else .initial

/-- The room parameters in force. -/
def State.params (s : State) : Params := s.inForce.params

/-- The roster entry in force of an address, if it is configured. -/
def State.roster (s : State) (a : Addr) : Option RosterEntry := s.inForce.roster[a]

/-- The class of an address; an unconfigured address, which no rule asks about, reads as a washer. -/
def State.classOf (s : State) (a : Addr) : MachineClass := ((s.roster a).map (·.cls)).getD .washer

/-- The ratings of an address in force. -/
def State.ratings (s : State) (a : Addr) : Ratings := ((s.roster a).map (·.ratings)).getD ⟨0, 0, 0, 0⟩

/-- The washer profile of a program in force. -/
def State.washProfile (s : State) (program : Nat) : Option WashProfile :=
  if h : program < Config.programs then s.inForce.wash[program] else none

/-- The dryer profile of a program in force. -/
def State.dryProfile (s : State) (program : Nat) : Option DryProfile :=
  if h : program < Config.programs then s.inForce.dry[program] else none

/-! ## Small readings -/

/-- A door is closed when it was last reported CLOSED or LOCKED (2.1). -/
def doorClosed : Option Door → Bool
  | some .closed => true
  | some .locked => true
  | some .opened => false
  | none => false

/-- The state a machine takes when nothing else claims it: SELECTED when a selection is present and the door is
closed, IDLE otherwise (R22, R23, R27, R130). -/
def restingState (m : MachineRecord) : MachineState :=
  if m.selection.isSome && doorClosed m.door then .selected else .idle

/-- Whether a deadline is present and has been reached. -/
def due (deadline : Option Nat) (now : Nat) : Bool :=
  match deadline with
  | some d => d ≤ now
  | none => false

/-- A count that stays at its maximum once it reaches it. -/
def addUpTo (most n k : Nat) : Nat := min most (n + k)

/-- The part with an event raised when a condition holds. -/
def raiseIf (b : Bool) (e : Event) (s : State) : State := if b then raise e s else s

/-- A machine moves to a state; Cycle Control raises MACHINE (R21). -/
def moveTo (a : Addr) (st : MachineState) (s : State) : State :=
  raise .machine (modifyMachine a (fun m => { m with state := st }) s)

/-! ## Posting commands on the room bus -/

/-- Whether a command is a STOP. -/
def isStop : BusCommand → Bool
  | .stop _ => true
  | .startPhase _ _ _ => false
  | .suspend => false
  | .resume => false
  | .test _ => false

/-- What the queued slot holds after a command is posted while another is in flight: the table of R8. -/
def replaceQueued (inFlight : BusCommand) (queued : Option Queued) (new : Queued) : Option Queued :=
  if isStop inFlight then queued
  else match queued with
    | none => some new
    | some old =>
      if isStop old.cmd then queued
      else if (old.cmd = .suspend ∧ new.cmd = .resume) ∨ (old.cmd = .resume ∧ new.cmd = .suspend) then none
      else some new

/-- The bus fields after a post (R7). A post for an address that is not PRESENT is refused and changes nothing. -/
def postBus (cmd : BusCommand) (poster : Poster) (b : BusFields) : BusFields :=
  if b.presence = .present then
    match b.inFlight with
    | none => { b with inFlight := some ⟨cmd, !b.lastTag, poster⟩ }
    | some f => { b with queued := replaceQueued f.cmd b.queued ⟨cmd, poster⟩ }
  else b

/-- A block posts a command for an address (R7, R8). The notices that a command was refused, superseded or cancelled
change no record of the poster (log entry 9). -/
def post (a : Addr) (cmd : BusCommand) (poster : Poster) (s : State) : State := modifyBus a (postBus cmd poster) s

/-- Whether a command of a kind stands in flight or queued. -/
def outstanding (p : BusCommand → Bool) (b : BusFields) : Bool :=
  (b.inFlight.map (fun f => p f.cmd)).getD false || (b.queued.map (fun q => p q.cmd)).getD false

/-! ## Display messages -/

/-- A message with its code and nothing else (R78). -/
def plainMessage (code : Nat) : Message := { code := code, small := 0, minutes := 0, first := 0, second := 0, third := 0 }

/-- The part sends a message on the display line of a station (R78). -/
def display (i : StationId) (m : Message) (s : State) : State :=
  modifyStation i (fun x => { x with display := x.display ++ [m] }) s

/-- The message codes of R78. -/
abbrev msgBalance : Nat := 1
abbrev msgPaid : Nat := 2
abbrev msgTimeAdded : Nat := 3
abbrev msgRefunded : Nat := 4
abbrev msgQueued : Nat := 5
abbrev msgNoCard : Nat := 6
abbrev msgBusy : Nat := 7
abbrev msgHalted : Nat := 8
abbrev msgQuiet : Nat := 9
abbrev msgOutOfOrder : Nat := 10
abbrev msgHeldForOther : Nat := 11
abbrev msgMachineBusy : Nat := 12
abbrev msgDoorOpen : Nat := 13
abbrev msgSelectProgram : Nat := 14
abbrev msgNoFunds : Nat := 15
abbrev msgOverCeiling : Nat := 16
abbrev msgCap : Nat := 17
abbrev msgNotPayer : Nat := 18
abbrev msgNotDrying : Nat := 19
abbrev msgMachineFree : Nat := 20
abbrev msgAlreadyQueued : Nat := 21
abbrev msgQueueFull : Nat := 22
abbrev msgCardError : Nat := 23
abbrev msgForeignCard : Nat := 24
abbrev msgCardBusy : Nat := 25
abbrev msgReinsert : Nat := 26
abbrev msgRequestError : Nat := 27
abbrev msgPaymentSettled : Nat := 28
abbrev msgPaymentVoid : Nat := 29
abbrev msgPaymentUnresolved : Nat := 30

end Sys2Proof.Machine
end

