-- ==== Sys2Proof/Machine/ClaimOps.lean ====
section
/-! DEFINITION. The claim queues and the holds they place on machines (chapter 6). -/

namespace Sys2Proof.Machine

/-- Whether an entry holds the machine at an address. -/
def holdsMachine (a : Addr) (e : ClaimEntry) : Bool := (e.hold.map (fun h => decide (h.machine = a))).getD false

/-- The entries with the first one that satisfies a test changed by a function. -/
def modifyFirst {α : Type} (p : α → Bool) (f : α → α) : List α → List α
  | [] => []
  | x :: xs => if p x then f x :: xs else x :: modifyFirst p f xs

/-- The 1-based position of the first entry that satisfies a test. -/
def firstPosition {α : Type} (p : α → Bool) (xs : List α) : Option Nat := (xs.findIdx? p).map (· + 1)

/-- A queue is changed; the Claim Queue Unit raises MACHINE (R126). -/
def changeQueue (c : MachineClass) (f : ClaimQueue → ClaimQueue) (s : State) : State :=
  raise .machine (s.setQueue c (f (s.queue c)))

/-- A count of a queue, one higher, staying at 65,535 (6.1). -/
def countUp (n : Nat) : Nat := addUpTo Config.largestShort n 1

/-- The machine at an address is offered to the queue of its class: the oldest entry without a hold, if there is one,
receives it for the hold window in force, and the machine's hold field is set (R129). The second part says whether a
hold was placed. -/
def placeHold (a : Addr) (s : State) : State × Bool :=
  let c := s.classOf a
  match (s.queue c).entries.find? (fun e => e.hold.isNone) with
  | none => (s, false)
  | some e =>
    let deadline := s.now + s.params.holdWindow
    let s := changeQueue c (fun q => { q with
      entries := modifyFirst (fun e => e.hold.isNone) (fun e => { e with hold := some ⟨a, deadline⟩, paying := false }) q.entries,
      placed := countUp q.placed }) s
    (raise .machine (modifyMachine a (fun m => { m with hold := some ⟨e.card, deadline⟩ }) s), true)

/-- A machine is offered: it goes to HELD when a hold is placed and to its resting state otherwise (R23, R129). -/
def offer (a : Addr) (s : State) : State :=
  match placeHold a s with
  | (s, true) => moveTo a .held s
  | (s, false) => moveTo a (restingState (s.machine a)) s

/-- A HELD machine whose entry has been removed is offered again: the hold moves to the oldest entry without one and
the machine stays HELD, or the hold ends and the machine goes to its resting state (R130). -/
def reoffer (a : Addr) (s : State) : State :=
  match placeHold a s with
  | (s, true) => s
  | (s, false) =>
    let s := raise .machine (modifyMachine a (fun m => { m with hold := none }) s)
    if (s.machine a).state = .held then moveTo a (restingState (s.machine a)) s else s

/-- Cycle Control gives the hold of a machine back: its entry keeps its place without a hold, and the hold field
becomes absent (R134). A machine with no hold has none to give back. -/
def handBack (a : Addr) (s : State) : State :=
  if (s.machine a).hold.isSome then
    let s := changeQueue (s.classOf a) (fun q => { q with
      entries := modifyFirst (holdsMachine a) (fun e => { e with hold := none, paying := false }) q.entries }) s
    raise .machine (modifyMachine a (fun m => { m with hold := none }) s)
  else s

/-- The hold of a machine expires: its entry leaves the queue, the expired count increases, and the machine is offered
again (R130). -/
def expireHold (a : Addr) (s : State) : State :=
  reoffer a (changeQueue (s.classOf a) (fun q => { q with
    entries := q.entries.eraseP (holdsMachine a), expired := countUp q.expired }) s)

/-- The holder's begin has been accepted: holder paying becomes yes (R131). -/
def holderPays (a : Addr) (s : State) : State :=
  changeQueue (s.classOf a) (fun q => { q with
    entries := modifyFirst (holdsMachine a) (fun e => { e with paying := true }) q.entries }) s

/-- The holder's payment was abandoned and the machine is HELD again: holder paying becomes no, and a deadline already
reached expires now (R132). -/
def holderStopsPaying (a : Addr) (s : State) : State :=
  let s := changeQueue (s.classOf a) (fun q => { q with
    entries := modifyFirst (holdsMachine a) (fun e => { e with paying := false }) q.entries }) s
  if due ((s.machine a).hold.map (·.deadline)) s.now then expireHold a s else s

/-- A start has committed on a HELD machine, or on any machine, for a card: the card's entry in the class's queue is
removed and counted as served. The entry that held this machine ends with its hold (R132); an entry that held another
machine has that machine offered again (R133). -/
def claimServed (a : Addr) (card : Nat) (s : State) : State :=
  let c := s.classOf a
  if (s.machine a).hold.isSome then
    let s := changeQueue c (fun q => { q with
      entries := q.entries.eraseP (holdsMachine a), served := countUp q.served }) s
    raise .machine (modifyMachine a (fun m => { m with hold := none }) s)
  else
    match (s.queue c).entries.find? (fun e => e.card == card) with
    | none => s
    | some e =>
      let s := changeQueue c (fun q => { q with
        entries := q.entries.eraseP (fun e => e.card == card), served := countUp q.served }) s
      match e.hold with
      | none => s
      | some h => reoffer h.machine s

end Sys2Proof.Machine
end

