-- ==== Sys2Proof/Machine/FaultOps.lean ====
section
/-! DEFINITION. Fault codes, the fault table, strikes and locks (7.1 to 7.4, R47). -/

namespace Sys2Proof.Machine

/-- Fault codes of 7.1. -/
abbrev faultNoReply : Nat := 0x01
abbrev faultDoorLock : Nat := 0x02
abbrev faultPhaseTimeout : Nat := 0x10
abbrev faultSuspendIgnored : Nat := 0x11
abbrev faultStopTimeout : Nat := 0x12
abbrev faultRosterMismatch : Nat := 0x13
abbrev faultOrphanCycle : Nat := 0x14
abbrev faultTestFail : Nat := 0x15
abbrev faultDebitUnresolved : Nat := 0x20
abbrev faultCreditUnresolved : Nat := 0x21
abbrev faultRefundUnplaced : Nat := 0x22
abbrev faultGrantWait : Nat := 0x23

/-- The severity of a code; a code that is not in the table counts as HARD (7.1, R137). -/
def severityOf (code : Nat) : Severity :=
  if code = 0x03 ∨ code = 0x04 ∨ code = 0x07 then .soft
  else if code = 0x14 ∨ code = 0x15 ∨ code = 0x20 ∨ code = 0x21 ∨ code = 0x22 ∨ code = 0x23 then .info
  else .hard

/-- A handing of a fault to the Fault and Service Unit (R137). -/
structure Handing where
  machine : Nat
  code : Nat
  asHard : Bool
  kind : Option PhaseKind
  card : Option Nat
  subtest : Option Nat
deriving DecidableEq, Repr

/-- A handing with nothing but the machine and the code. -/
def plainHanding (machine code : Nat) : Handing :=
  { machine := machine, code := code, asHard := false, kind := none, card := none, subtest := none }

/-- The effective severity of a handing (R137). -/
def effectiveSeverity (h : Handing) : Severity := if h.asHard then .hard else severityOf h.code

/-- Whether a record is of the pair a handing names (R138). -/
def recordOf (h : Handing) (r : FaultRecord) : Bool := r.machine == h.machine && r.code == h.code

/-- The fault table after a handing: the pair's record is updated and moves to the tail, or a new record is made there,
the head leaving a full table first (R138). -/
def recordFault (now : Nat) (h : Handing) (t : List FaultRecord) : List FaultRecord :=
  match t.find? (recordOf h) with
  | some r =>
    t.eraseP (recordOf h) ++ [{ r with
      severity := effectiveSeverity h, lastTime := now, count := addUpTo Config.largestShort r.count 1,
      kind := h.kind, card := h.card, subtest := h.subtest }]
  | none =>
    (if t.length < Config.faultRecords then t else t.drop 1) ++ [{
      machine := h.machine, code := h.code, severity := effectiveSeverity h, firstTime := now, lastTime := now, count := 1,
      kind := h.kind, card := h.card, subtest := h.subtest }]

/-- The lock field after a lock of a kind: an AUTO_LOCKED request leaves LOCKED as it is (R47). -/
def lockField (old kind : Lock) : Lock := if old = .locked ∧ kind = .autoLocked then .locked else kind

/-- The lock field of a machine takes a kind; MACHINE is raised when that changes it (R21, R47). -/
def setLock (a : Addr) (kind : Lock) (s : State) : State :=
  if lockField (s.machine a).lock kind = (s.machine a).lock then s
  else raise .machine (modifyMachine a (fun m => { m with lock := lockField m.lock kind }) s)

/-- Lock pending becomes yes; MACHINE is raised when that changes it (R21, R47). -/
def setPending (a : Addr) (s : State) : State :=
  if (s.machine a).lockPending then s else raise .machine (modifyMachine a (fun m => { m with lockPending := true }) s)

/-- A lock reaches Cycle Control (R47). A lock that changes neither the lock field, nor lock pending, nor the state raises
nothing (R21, R144). R144 leaves a machine that is LOCKED already unchanged, and R47 makes lock pending yes: of a LOCKED machine
in SERVICE without lock pending, as a session leaves one that it found OUT_OF_SERVICE, a LOCK makes lock pending yes and raises
MACHINE, the model's choice (log entry 64). -/
def applyLock (a : Addr) (kind : Lock) (s : State) : State :=
  let s := setLock a kind s
  match (s.machine a).state with
  | .idle | .selected => moveTo a .outOfService s
  | .held => moveTo a .outOfService (handBack a s)
  | .running | .stopping | .finished | .testing | .service => setPending a s
  | .paying | .absent | .outOfService => s

/-- Whether a machine is in TESTING or SERVICE. -/
def underService (m : MachineRecord) : Bool := m.state = .testing || m.state = .service

/-- Whether a handing meets the absence exemption of its machine (R142). -/
def meetsExemption (h : Handing) (m : MachineRecord) : Bool :=
  m.absenceExemption && (h.code == faultNoReply || h.code == faultRosterMismatch)

/-- The strike of a recorded handing for a machine, with the lock at the threshold (R141, R142). -/
def strike (a : Addr) (h : Handing) (s : State) : State :=
  let m := s.machine a
  if meetsExemption h m then modifyMachine a (fun m => { m with absenceExemption := false }) s
  else if effectiveSeverity h = .hard ∧ ¬ underService m then
    let s := raise .machine (modifyMachine a (fun m => { m with strikes := addUpTo 15 m.strikes 1 }) s)
    if s.params.threshold ≤ (s.machine a).strikes then applyLock a .autoLocked s else s
  else s

/-- STOP_TIMEOUT and ROSTER_MISMATCH lock the machine whatever its strikes and state (R143). -/
def forcedLock (a : Addr) (h : Handing) (s : State) : State :=
  if h.code = faultStopTimeout ∨ h.code = faultRosterMismatch then applyLock a .autoLocked s else s

/-- The Fault and Service Unit takes a handing whole: table, FAULT event, strike, lock (R137). -/
def handFault (h : Handing) (s : State) : State :=
  let s := raise .fault { s with faults := recordFault s.now h s.faults }
  match addr? h.machine with
  | none => s
  | some a => forcedLock a h (strike a h s)

end Sys2Proof.Machine
end

