-- ==== Sys2Proof/Machine/PoolOps.lean ====
section
/-! DEFINITION. The two load pools: their figures, the grant rule, scans, requests, releases and withdrawals (3.1 to
3.3), and the notices of grants to Cycle Control and the Fault and Service Unit (R62). -/

namespace Sys2Proof.Machine

/-! ## Figures -/

/-- The effective washer reserve (R54). -/
def Pool.effWasher (p : Pool) : Nat := min p.reqWasher p.limit

/-- The effective dryer reserve (R54). -/
def Pool.effDryer (p : Pool) : Nat := min p.reqDryer (p.limit - p.effWasher)

/-- The shared portion (R54). -/
def Pool.sharedPortion (p : Pool) : Nat := p.limit - p.effWasher - p.effDryer

/-- The effective reserve of a class (R54). -/
def Pool.effReserve (p : Pool) : MachineClass → Nat
  | .washer => p.effWasher
  | .dryer => p.effDryer

/-- The reserve of a class, as a portion. -/
def reservePortion : MachineClass → Portion
  | .washer => .washerReserve
  | .dryer => .dryerReserve

/-- The sum of the amounts of the grants that satisfy a test. -/
def grantSum (p : Grant → Bool) : List Grant → Nat
  | [] => 0
  | g :: gs => (if p g then g.amount else 0) + grantSum p gs

/-- Whether a grant was taken from the shared portion. -/
def isShared (g : Grant) : Bool := g.portion = .shared

/-- Whether a grant was taken from the reserve of a class. -/
def isReserveOf (c : MachineClass) (g : Grant) : Bool := g.portion = reservePortion c

/-- Shared granted: the sum of the grants taken from the shared portion (3.1). -/
def Pool.sharedGranted (p : Pool) : Nat := grantSum isShared p.grants

/-- The reserve grant of a class (3.1). -/
def Pool.reserveGrant (p : Pool) (c : MachineClass) : Option Grant := p.grants.find? (isReserveOf c)

/-- The sum of every grant the pool holds (R74). -/
def Pool.granted (p : Pool) : Nat := grantSum (fun _ => true) p.grants

/-- Whether every reserve grant of a class is within its effective reserve. -/
def reserveWithin (p : Pool) (c : MachineClass) : Bool :=
  p.grants.all (fun g => !isReserveOf c g || decide (g.amount ≤ p.effReserve c))

/-- Whether the grants a pool holds, marked or not, are within its figures (R69). -/
def Pool.withinFigures (p : Pool) : Bool :=
  decide (p.sharedGranted ≤ p.sharedPortion) && reserveWithin p .washer && reserveWithin p .dryer

/-- The suspension order: the marked grants in the order of their suspension numbers (3.1, R66). -/
def Pool.suspensionOrder (p : Pool) : List Grant :=
  (p.grants.filter (·.pending)).mergeSort (fun g h => decide (g.number.getD 0 ≤ h.number.getD 0))

/-! ## The grant rule and the scan -/

/-- The portion a demand of a class is granted from: the shared portion if it fits there, else the class's reserve if
it holds no grant and the demand fits it (R57). -/
def Pool.fits (p : Pool) (demand : Nat) (c : MachineClass) : Option Portion :=
  if p.sharedGranted + demand ≤ p.sharedPortion then some .shared
  else if (p.reserveGrant c).isNone ∧ demand ≤ p.effReserve c then some (reservePortion c)
  else none

/-- The grant record made for an entry (R62). -/
def grantOf (now : Nat) (e : WaitEntry) (q : Portion) : Grant :=
  { machine := e.machine, cls := e.cls, purpose := e.purpose, amount := e.demand, portion := q, time := now,
    suspendable := e.suspendable, pending := false, deadline := none, number := none }

/-- What a scan leaves: the pool's grants, the wait list, and the entries granted in order. -/
structure Scan where
  pool : Pool
  waits : List WaitEntry
  granted : List WaitEntry
deriving DecidableEq, Repr

/-- One scan, from its head: `kept` are the entries ahead that stay, in order (R59). -/
def scanFrom (now : Nat) (p : Pool) (kept : List WaitEntry) : List WaitEntry → Scan
  | [] => { pool := p, waits := kept, granted := [] }
  | e :: rest =>
    match p.fits e.demand e.cls with
    | some q =>
      let p := { p with grants := p.grants ++ [grantOf now e q] }
      let kept : List WaitEntry := kept.map (fun k => { k with passes := k.passes + 1 })
      if kept.any (fun k => decide (3 ≤ k.passes)) then { pool := p, waits := kept ++ rest, granted := [e] }
      else
        let r := scanFrom now p kept rest
        { r with granted := e :: r.granted }
    | none =>
      if 3 ≤ e.passes then { pool := p, waits := kept ++ e :: rest, granted := [] }
      else scanFrom now p (kept ++ [e]) rest

/-- Whether a pool may scan and grant (R60). -/
def Pool.mayScan (p : Pool) : Bool := !p.overLimit && !p.halted

/-! ## What a grant starts -/

/-- The current phase entry of a cycle. -/
def Cycle.entry (c : Cycle) : Option PlanEntry := c.plan[c.index]?

/-- The kind of the current phase of a cycle. -/
def Cycle.kind (c : Cycle) : Option PhaseKind := c.entry.map (·.kind)

/-- The phase in WAITING moves to STARTING and START_PHASE is posted with its index and kind; for DRY the third argument
is the remaining paid seconds (R29). -/
def startPhase (a : Addr) (s : State) : State :=
  match (s.machine a).cycle with
  | none => s
  | some c =>
    match c.kind with
    | none => s
    | some k =>
      post a (.startPhase c.index k (if k = .dry then c.remaining else 0)) .cycleControl
        (modifyCycle a (fun c => { c with sub := .starting }) s)

/-- The phase in SUSPENDED moves to RESUMING and RESUME is posted (R33). -/
def resumePhase (a : Addr) (s : State) : State :=
  post a .resume .cycleControl (modifyCycle a (fun c => { c with sub := .resuming }) s)

/-- The session's service phase enters STARTING: START_PHASE is posted with index 255, the kind and the seconds, and
phases run increases (R150, R151). -/
def startServicePhase (s : State) : State :=
  match s.session with
  | none => s
  | some x =>
    match x.phase with
    | none => s
    | some ph =>
      raise .test (post x.machine (.startPhase 255 ph.kind ph.seconds) .faultService
        { s with session := some { x with
            phase := some { ph with sub := .starting }, phasesRun := addUpTo Config.largestShort x.phasesRun 1 } })

/-- The part with the test run of a machine changed; the Fault and Service Unit raises TEST (8.4). -/
def modifyRun (a : Addr) (f : TestRun → TestRun) (s : State) : State :=
  raise .test (modifyMachine a (fun m => { m with testRun := m.testRun.map f }) s)

/-- The current subtest enters STARTING: TEST is posted with its number and the report deadline is set (R154). -/
def startSubtest (a : Addr) (s : State) : State :=
  match (s.machine a).testRun with
  | none => s
  | some r =>
    post a (.test r.subtest) .faultService
      (modifyRun a (fun r => { r with sub := .starting, reportDeadline := some (s.now + 120) }) s)

/-- A requester is told of its grant (R62). -/
def deliverGrant (s : State) (e : WaitEntry) : State :=
  match e.purpose with
  | .cyclePhase => startPhase e.machine s
  | .resume => resumePhase e.machine s
  | .servicePhase => startServicePhase s
  | .subtest => startSubtest e.machine s

/-- A pool scans its wait list, if it may, and the requesters granted are told in order (R59, R60). -/
def scanPool (k : PoolId) (s : State) : State :=
  let p := s.pool k
  if p.mayScan then
    let r := scanFrom s.now p [] p.waits
    r.granted.foldl deliverGrant (s.setPool k { r.pool with waits := r.waits })
  else s

/-! ## Requests, releases, withdrawals -/

/-- Whether a machine holds a grant in a pool. -/
def Pool.holdsGrant (p : Pool) (a : Addr) : Bool := p.grants.any (fun g => decide (g.machine = a))

/-- Whether a machine has an entry in a wait list. -/
def Pool.hasEntry (p : Pool) (a : Addr) : Bool := p.waits.any (fun e => decide (e.machine = a))

/-- The part with the statistics of a pool changed. -/
def modifyStats (k : PoolId) (f : PoolStats → PoolStats) (s : State) : State :=
  s.setPool k { s.pool k with stats := f (s.pool k).stats }

/-- The waits statistic increases when the machine is still in the list (R61, R64). -/
def countWait (k : PoolId) (a : Addr) (s : State) : State :=
  if (s.pool k).hasEntry a then modifyStats k (fun t => { t with waits := addUpTo Config.largestCount t.waits 1 }) s else s

/-- A request for a grant other than a resume: refused when the machine already has a grant or an entry in either pool
or the demand is 0, else placed at the tail and the pool scans (R61). -/
def requestGrant (k : PoolId) (a : Addr) (purpose : Purpose) (demand : Nat) (suspendable : Bool) (s : State) : State :=
  if s.electric.holdsGrant a || s.electric.hasEntry a || s.water.holdsGrant a || s.water.hasEntry a || demand == 0 then s
  else
    let e : WaitEntry := {
      machine := a, cls := s.classOf a, purpose := purpose, demand := demand, suspendable := suspendable,
      time := s.now, passes := 0, number := none }
    countWait k a (scanPool k (s.setPool k { s.pool k with waits := (s.pool k).waits ++ [e] }))

/-- A pool within its figures leaves OVER_LIMIT; the change raises POOL (R69). -/
def leaveOverLimit (k : PoolId) (s : State) : State :=
  let p := s.pool k
  if p.overLimit && p.withinFigures then raise .pool (s.setPool k { p with overLimit := false }) else s

/-- The grants without those of a machine. -/
def withoutMachine (a : Addr) (gs : List Grant) : List Grant := gs.filter (fun g => !decide (g.machine = a))

/-- A release: the machine's grant leaves the pool, which tests its figures and scans (R63). -/
def releaseFrom (k : PoolId) (a : Addr) (s : State) : State :=
  let p := s.pool k
  if p.holdsGrant a then
    scanPool k (leaveOverLimit k (s.setPool k { p with grants := withoutMachine a p.grants }))
  else s

/-- The grant a machine holds, in whichever pool, is handed back; a machine without one hands back nothing (R32, R63). -/
def releaseGrant (a : Addr) (s : State) : State := releaseFrom .water a (releaseFrom .electric a s)

/-- A withdrawal: the machine's entry leaves the list and the pool scans; without an entry it is ignored (R65). -/
def withdrawFrom (k : PoolId) (a : Addr) (s : State) : State :=
  let p := s.pool k
  if p.hasEntry a then
    scanPool k (s.setPool k { p with waits := p.waits.filter (fun e => !decide (e.machine = a)) })
  else s

/-- The entry a machine has, in whichever pool, is withdrawn (R65). -/
def withdrawEntry (a : Addr) (s : State) : State := withdrawFrom .water a (withdrawFrom .electric a s)

/-- A resume entry placed in the resume run at the position its suspension number gives it (R58). -/
def insertResume (e : WaitEntry) : List WaitEntry → List WaitEntry
  | [] => [e]
  | x :: xs =>
    if x.purpose = .resume ∧ x.number.getD 0 ≤ e.number.getD 0 then x :: insertResume e xs else e :: x :: xs

/-- A suspension confirmed into SUSPENDED: the grant is removed and the resume entry placed with its suspension number
before the pool tests its figures and scans (R64). A machine whose phase holds no grant has no pool to ask (log entry
10). -/
def resumeFrom (k : PoolId) (a : Addr) (s : State) : State :=
  let p := s.pool k
  match p.grants.find? (fun g => decide (g.machine = a)) with
  | none => s
  | some g =>
    let e : WaitEntry := {
      machine := a, cls := g.cls, purpose := .resume, demand := g.amount, suspendable := g.suspendable,
      time := s.now, passes := 0, number := g.number }
    countWait k a (scanPool k (leaveOverLimit k (s.setPool k { p with
      grants := withoutMachine a p.grants, waits := insertResume e p.waits })))

/-- The resume of a machine is asked of the pool that holds its grant (R33, R64). -/
def askResume (a : Addr) (s : State) : State :=
  if s.electric.holdsGrant a then resumeFrom .electric a s else resumeFrom .water a s

/-- The grants with those of a machine marked suspension pending, with a deadline and a suspension number (R66). -/
def markGrants (a : Addr) (now number : Nat) (gs : List Grant) : List Grant :=
  gs.map (fun g => if g.machine = a ∧ ¬ g.pending then
    { g with pending := true, deadline := some (now + 10), number := some number } else g)

/-- The pool that holds the machine's grant marks it suspension pending (R66). -/
def markFrom (k : PoolId) (a : Addr) (s : State) : State :=
  let p := s.pool k
  if p.grants.any (fun g => decide (g.machine = a ∧ ¬ g.pending)) then
    s.setPool k { p with grants := markGrants a s.now p.suspCounter p.grants, suspCounter := p.suspCounter + 1 }
  else s

/-- The grant of a machine, in whichever pool, is marked (R66). -/
def markGrant (a : Addr) (s : State) : State := markFrom .water a (markFrom .electric a s)

end Sys2Proof.Machine
end

