-- ==== Sys2Proof/Machine/ChargeOps.lean ====
section
/-! DEFINITION. Charges, refunds, the refund table and the audit totals (chapter 5), and the automatic credit that
empties an entry of the table (R90, R91). -/

namespace Sys2Proof.Machine

/-! ## Charges -/

/-- The discount the band in force gives (R104). -/
def discountOf (band : Band) (d : Nat) : Nat :=
  match band with
  | .standard => 0
  | .offPeak => d
  | .quiet => 0

/-- The discount in force (R104). -/
def State.discount (s : State) : Nat := discountOf s.band s.params.discount

/-- An amount less its discount, the discount taken to its floor (R106, R107, R108). -/
def discounted (amount d : Nat) : Nat := amount - amount * d / 100

/-- A washer charge (R106). -/
def washerCharge (profile : WashProfile) (d : Nat) : Nat := discounted profile.price d

/-- What the Charge Unit hands the Purse Engine for a purchase. -/
structure Purchase where
  charge : Nat
  seconds : Nat
  minutes : Nat
deriving DecidableEq, Repr

/-- The steps of a panel request, clamped to 1 to 180 (R77). -/
def clampSteps (steps : Nat) : Nat := max 1 (min steps 180)

/-- The purchase of a number of steps; none when no step is granted (R107, R108). -/
def dryerPurchase (profile : DryProfile) (granted d : Nat) : Option Purchase :=
  if granted = 0 then none
  else some {
    charge := discounted (granted * profile.stepPrice) d, seconds := granted * profile.stepMinutes * 60,
    minutes := granted * profile.stepMinutes }

/-- A dryer's initial purchase (R107). -/
def dryerStart (profile : DryProfile) (steps d : Nat) : Option Purchase :=
  dryerPurchase profile (min (clampSteps steps) (profile.maxMinutes / profile.stepMinutes)) d

/-- A dryer's top-up, against the remaining paid seconds and the paid seconds total of the cycle (R108). -/
def dryerTopUp (profile : DryProfile) (remaining paidTotal steps d : Nat) : Option Purchase :=
  let room := min (profile.maxMinutes * 60 - remaining) (10800 - paidTotal)
  dryerPurchase profile (min (clampSteps steps) (room / (profile.stepMinutes * 60))) d

/-- The purchase of a start on a machine of a class with a program: none when the Charge Unit grants nothing (R106,
R107). -/
def startPurchase (cls : MachineClass) (program steps : Nat) (s : State) : Option Purchase :=
  match cls with
  | .washer => (s.washProfile program).map (fun p => { charge := washerCharge p s.discount, seconds := 0, minutes := 0 })
  | .dryer => (s.dryProfile program).bind (fun p => dryerStart p steps s.discount)

/-! ## Refunds -/

/-- The sum of the weights of phase entries. -/
def weightSum : List PlanEntry → Nat
  | [] => 0
  | e :: es => e.weight + weightSum es

/-- A washer refund (R111). -/
def washerRefund (plan : List PlanEntry) (index : Nat) (everActive : Bool) (charge : Nat) (cause : StopCause) : Nat :=
  let whole := weightSum plan
  let after := weightSum (plan.drop (index + 1))
  let current := ((plan[index]?).map (·.weight)).getD 0
  let unstarted := after + (if everActive then 0 else current)
  let inProgress := if everActive then current else 0
  let weight := if cause = .user then unstarted else unstarted + inProgress
  charge * weight / whole

/-- A dryer refund (R112). -/
def dryerRefund (cool : Bool) (charge remaining paidTotal : Nat) (cause : StopCause) : Nat :=
  if cause = .user then 0 else charge * (if cool then 0 else remaining) / paidTotal

/-- The refund of a cycle record for a cause (R110, R111, R112). -/
def refundOf (cls : MachineClass) (c : Cycle) (cause : StopCause) : Nat :=
  match cls with
  | .washer => washerRefund c.plan c.index c.everActive c.chargeTotal cause
  | .dryer => dryerRefund (c.kind == some .cool) c.chargeTotal c.remaining c.paidTotal cause

/-! ## Audit totals and refund entries -/

/-- A total with an amount added; it stays at its maximum (R122). -/
def addTotal (n k : Nat) : Nat := addUpTo Config.largestTotal n k

/-- The part with the audit totals changed. -/
def modifyAudit (f : Audit → Audit) (s : State) : State := { s with audit := f s.audit }

/-- A committed amount is counted into charged (R109). -/
def countCharged (amount : Nat) (s : State) : State := modifyAudit (fun t => { t with charged := addTotal t.charged amount }) s

/-- One more debit unresolved (R122). -/
def countDebitUnresolved (s : State) : State :=
  modifyAudit (fun t => { t with debitsUnresolved := addTotal t.debitsUnresolved 1 }) s

/-- One more credit unresolved (R122). -/
def countCreditUnresolved (s : State) : State :=
  modifyAudit (fun t => { t with creditsUnresolved := addTotal t.creditsUnresolved 1 }) s

/-- Whether an entry is for a card. -/
def refundFor (card : Nat) (e : RefundEntry) : Bool := e.card == card

/-- The refund entry of a card. -/
def State.refund (s : State) (card : Nat) : Option RefundEntry := s.refunds.find? (refundFor card)

/-- The sum of the amounts the refund table holds (R123). -/
def refundSum : List RefundEntry → Nat
  | [] => 0
  | e :: es => e.amount + refundSum es

/-- The part with the refund table changed; the change raises PAYMENT (R114). -/
def modifyRefunds (f : List RefundEntry → List RefundEntry) (s : State) : State :=
  raise .payment { s with refunds := f s.refunds }

/-- The entry of a card changed by a function (R114). -/
def updateRefund (card : Nat) (f : RefundEntry → RefundEntry) (s : State) : State :=
  modifyRefunds (modifyFirst (refundFor card) f) s

/-- The entry of a card removed; its position becomes free (R114). -/
def removeRefund (card : Nat) (s : State) : State := modifyRefunds (fun t => t.eraseP (refundFor card)) s

/-- The lowest free position of the refund table (R114). -/
def freePosition (t : List RefundEntry) : Nat :=
  ((List.range Config.refundEntries).find? (fun n => t.all (fun e => e.position != n))).getD 0

/-- The amount held for a card in a READY entry, or 0 (R78, R98). -/
def heldReady (card : Nat) (s : State) : Nat :=
  match s.refund card with
  | some e => if e.state = .ready then e.amount else 0
  | none => 0

/-! ## The ready state and the automatic credit -/

/-- The bytes a credit writes, or a debit: the expected pair with the target machine, 0 for a credit, and the amount
(R91, R93). -/
def writtenBytes (x : Station) : List Byte :=
  slotBytes x.expectedPair ((x.target.map addrNum).getD 0) x.amount

/-- A station record that leaves its card accepted becomes CARD_READY; an insertion that ends so shows BALANCE (R86,
R90). -/
def toReady (i : StationId) (s : State) : State :=
  let x := s.station i
  let s := s.setStation i { x with
    state := .cardReady, request := none, target := none, amount := 0, seconds := 0, minutes := 0, writing := none,
    begun := false, attempt := 1, balanceDue := false }
  if x.balanceDue then
    display i { plainMessage msgBalance with first := x.pair.value, second := heldReady (x.card.getD 0) s } s
  else s

/-- The credit write of an entry is prepared and the record goes to CREDITING; the Charge Unit marks the entry (R91,
R117). -/
def beginCredit (i : StationId) (e : RefundEntry) (s : State) : State :=
  let x := s.station i
  let credit := min e.amount (s.params.ceiling - x.pair.value)
  let expected : Pair := { sequence := nextSequence x.pair.sequence, value := x.pair.value + credit }
  let s := s.setStation i { x with
    state := .crediting, request := some .credit, target := none, amount := credit, seconds := 0, minutes := 0,
    writing := x.slot.map otherSlot, oldPair := x.pair, expectedPair := expected, attempt := 1, begun := false }
  { s with refunds := modifyFirst (refundFor e.card) (fun e => { e with
      inProgress := true, pairs := some (x.pair, expected) }) s.refunds }

/-- A station record settles into the ready state (R90). -/
def settleRecord (i : StationId) (s : State) : State :=
  let x := s.station i
  match x.card.bind s.refund with
  | some e => if e.state = .ready ∧ x.pair.value < s.params.ceiling then beginCredit i e s else toReady i s
  | none => toReady i s

/-- A card standing CARD_READY at a station, for which a refund has been placed, settles again (R90). -/
def settleIfReady (i : StationId) (card : Nat) (s : State) : State :=
  if (s.station i).state = .cardReady ∧ (s.station i).card = some card then settleRecord i s else s

/-- The Purse Engine is told of a placement (R115). -/
def tellPlacement (card : Nat) (s : State) : State := settleIfReady .b card (settleIfReady .a card s)

/-- An amount that could not be placed is counted, with its fault (R115). -/
def unplaced (card amount machine : Nat) (s : State) : State :=
  if amount = 0 then s
  else handFault { plainHanding machine faultRefundUnplaced with card := some card }
    (modifyAudit (fun t => { t with unplaced := addTotal t.unplaced amount }) s)

/-- An amount is merged into the card's entry or makes a new one, as far as the table can hold it (R115). An entry never
exceeds the 50,000 of the field table of 5.4 and of R78: what a new entry cannot hold is unplaced like the excess of a merge, the
model's reading (log entry 70). -/
def mergeRefund (card amount machine : Nat) (s : State) : State :=
  match s.refund card with
  | some e =>
    unplaced card (e.amount + amount - Config.largestValue) machine
      (updateRefund card (fun e => { e with amount := min Config.largestValue (e.amount + amount) }) s)
  | none =>
    if s.refunds.length < Config.refundEntries then
      unplaced card (amount - Config.largestValue) machine (modifyRefunds (fun t => t ++ [{
        position := freePosition t, card := card, amount := min Config.largestValue amount, state := .ready,
        inProgress := false, pairs := none, created := s.now }]) s)
    else unplaced card amount machine s

/-- A refund of an amount is placed for a card; a refund of 0 is not placed (R110, R115). -/
def placeRefund (card amount machine : Nat) (s : State) : State :=
  if amount = 0 then s
  else tellPlacement card (mergeRefund card amount machine
    (modifyAudit (fun t => { t with issued := addTotal t.issued amount }) s))

/-- The credit an entry's pairs carry: the expected value less the old value (5.4). -/
def creditCarried (e : RefundEntry) : Nat :=
  match e.pairs with
  | some (old, expected) => expected.value - old.value
  | none => 0

/-- A credit of an entry has landed: it is counted and taken off, and the entry is removed or left READY with the rest
(R116, R120). A credit is never more than its entry's amount (5.4). -/
def creditLanded (card credit : Nat) (s : State) : State :=
  match s.refund card with
  | none => raise .payment s
  | some e =>
    let s := modifyAudit (fun t => { t with credited := addTotal t.credited (min credit e.amount) }) s
    if e.amount ≤ credit then removeRefund card s
    else updateRefund card (fun e => { e with
      amount := e.amount - credit, state := .ready, inProgress := false, pairs := none }) s

/-- A credit write has failed cleanly: the entry stays READY with its amount, and its mark and pairs are cleared; neither
the amount nor the state changes, so PAYMENT is not raised (R91, R114, R116). -/
def creditFailed (card : Nat) (s : State) : State :=
  { s with refunds := modifyFirst (refundFor card) (fun e => { e with inProgress := false, pairs := none }) s.refunds }

/-- A credit in doubt did not land: the entry returns to READY with its amount and no pairs (R89, R116). -/
def creditVoid (card : Nat) (s : State) : State :=
  updateRefund card (fun e => { e with state := .ready, inProgress := false, pairs := none }) s

/-- A credit write was torn: the entry becomes IN_DOUBT with its pairs (R91, R117). -/
def creditTorn (card : Nat) (s : State) : State :=
  updateRefund card (fun e => { e with state := .inDoubt, inProgress := false }) s

/-- A credit's outcome cannot be settled: the entry becomes SUSPECT, with the fault and the audit count (R89, R91). -/
def creditSuspect (card : Nat) (s : State) : State :=
  countCreditUnresolved (handFault { plainHanding 0 faultCreditUnresolved with card := some card }
    (updateRefund card (fun e => { e with state := .suspect, inProgress := false }) s))

end Sys2Proof.Machine
end

