-- ==== Sys2Proof/Machine/CycleOps.lean ====
section
/-! DEFINITION. Cycle Control: release to the room, phases, stops, doors within a phase, starts and top-ups
(chapter 2). -/

namespace Sys2Proof.Machine

/-! ## Release to the room -/

/-- A machine is released to the room: a lock sends it to OUT_OF_SERVICE, otherwise it is offered to its queue, and
while the room is HALTED it is not offered (R23). -/
def releaseToRoom (a : Addr) (s : State) : State :=
  if (s.machine a).lock ≠ .none then
    moveTo a .outOfService (modifyMachine a (fun m => { m with lockPending := false }) s)
  else if s.halted then moveTo a (restingState (s.machine a)) s
  else offer a s

/-- An unlock reaches Cycle Control (R48). -/
def applyUnlock (a : Addr) (s : State) : State :=
  let s := raise .machine (modifyMachine a (fun m => { m with lock := .none, lockPending := false }) s)
  if (s.machine a).state = .outOfService then releaseToRoom a s else s

/-- A machine enters FINISHED; its cycle record is removed, and opened since finish follows the door (R42). -/
def enterFinished (a : Addr) (s : State) : State :=
  moveTo a .finished (modifyMachine a (fun m => { m with
    cycle := none, openedSinceFinish := decide (m.door = some .opened) }) s)

/-! ## Phases -/

/-- Whether the suspendable flag of a phase kind is honoured (R28). -/
def honoursSuspend : PhaseKind → Bool
  | .heat | .wash | .rinse | .soak | .dry => true
  | .fill | .drain | .spin | .cool => false

/-- Whether a phase entry can be suspended (R28, R61). -/
def canSuspend (e : PlanEntry) : Bool := honoursSuspend e.kind && e.suspendable

/-- The pool a phase entry draws on, with its demand; none when both demands are 0 (R29). -/
def demandOf (e : PlanEntry) : Option (PoolId × Nat) :=
  if e.fu ≠ 0 then some (.water, e.fu) else if e.lu ≠ 0 then some (.electric, e.lu) else none

/-- The fields of a phase that start afresh when it enters WAITING (R29). -/
def freshPhase (c : Cycle) : Cycle := { c with everActive := false, retryUsed := false, timeUsed := 0 }

/-- The current phase, in WAITING, asks its pool for a grant, or moves at once to STARTING when it has no demand
(R29). -/
def askPhase (a : Addr) (s : State) : State :=
  match (s.machine a).cycle.bind Cycle.entry with
  | none => s
  | some e =>
    match demandOf e with
    | none => startPhase a s
    | some (k, d) => requestGrant k a .cyclePhase d (canSuspend e) s

/-- The current phase enters WAITING afresh (R29). -/
def enterWaiting (a : Addr) (s : State) : State :=
  askPhase a (modifyCycle a (fun c => { freshPhase c with sub := .waiting }) s)

/-- The limit of the current phase: its limit seconds, and for DRY the DRY limit base plus 120 (R31). -/
def phaseLimit (c : Cycle) : Option Nat :=
  match c.entry with
  | none => none
  | some e => if e.kind = .dry then c.dryBase.map (· + 120) else some e.limit

/-- Whether COOL has been posted for a DRY phase (R43). -/
def dryEnding (c : Cycle) : Bool := c.kind == some .dry && c.coolPosted

/-- Whether the current phase is DRY and COOL has not been posted. -/
def drying (c : Cycle) : Bool := c.kind == some .dry && !c.coolPosted

/-- A handing about the cycle of a machine, with its phase kind and payer (R30, R31, R34, R70). -/
def cycleHanding (a : Addr) (code : Nat) (s : State) : Handing :=
  { plainHanding (addrNum a) code with
    kind := (s.machine a).cycle.bind Cycle.kind, card := (s.machine a).cycle.map (·.payer) }

/-! ## Stops -/

/-- A RUNNING cycle is stopped with a cause (R36). A stop asked for a machine that is not RUNNING is not taken. -/
def stopCycle (a : Addr) (cause : StopCause) (s : State) : State :=
  if (s.machine a).state = .running then
    let s := modifyCycle a (fun c => { c with
      stopCause := some cause, stopDeadline := some (s.now + 600), pauseDeadline := none }) s
    post a (.stop cause) .cycleControl (withdrawEntry a (moveTo a .stopping s))
  else s

/-- The refund of the cycle of a machine is computed for a cause, written into the record and placed, once (R38,
R110). -/
def settleRefund (a : Addr) (cause : StopCause) (s : State) : State :=
  match (s.machine a).cycle with
  | none => s
  | some c =>
    if c.refund.isSome then s
    else
      let amount := refundOf (s.classOf a) c cause
      placeRefund c.payer amount (addrNum a) (modifyCycle a (fun c => { c with refund := some amount }) s)

/-- The stop cause recorded in a cycle record. -/
def recordedCause (m : MachineRecord) : StopCause := (m.cycle.bind (·.stopCause)).getD .machine

/-- The first confirmation of a stop hands back the grant and has the refund computed and placed; a later one finds
the refund present (R38). -/
def confirmStop (a : Addr) (s : State) : State :=
  if ((s.machine a).cycle.bind (·.refund)).isSome then s
  else settleRefund a (recordedCause (s.machine a)) (releaseGrant a s)

/-- A cycle stops because a machine did something other than its phase: PHASE_TIMEOUT is handed over and the cycle
stops with cause MACHINE (R30, R31, R32). -/
def timeoutStop (a : Addr) (s : State) : State :=
  stopCycle a .machine (handFault (cycleHanding a faultPhaseTimeout s) s)

/-- The current phase completes: its grant is handed back, and the cycle ends or the next phase enters WAITING; a DRY
phase with COOL posted does not end so (R32). -/
def completePhase (a : Addr) (s : State) : State :=
  match (s.machine a).cycle with
  | none => s
  | some c =>
    if dryEnding c then s
    else
      let s := releaseGrant a s
      if c.index + 1 < c.plan.length then enterWaiting a (modifyCycle a (fun c => { c with index := c.index + 1 }) s)
      else enterFinished a s

/-! ## Suspension -/

/-- The part after SUSPEND has been posted for the phase of a machine and its grant marked (R33, R45, R66). -/
def beginSuspend (a : Addr) (s : State) : State :=
  markGrant a (post a .suspend .cycleControl (modifyCycle a (fun c => { c with sub := .suspending }) s))

/-- Whether Cycle Control carries out a pool's request to suspend a machine (R33). -/
def suspendAllowed (m : MachineRecord) : Bool :=
  match m.cycle with
  | none => false
  | some c =>
    decide (m.state = .running) && decide (c.sub = .active) && (c.entry.map canSuspend).getD false && !dryEnding c

/-- A suspension is confirmed: into PAUSED with a plain release when a pause deadline is present, else into SUSPENDED
with a resume request (R33, R64). -/
def confirmSuspend (a : Addr) (s : State) : State :=
  match (s.machine a).cycle with
  | none => s
  | some c =>
    if c.pauseDeadline.isSome then releaseGrant a (modifyCycle a (fun c => { c with sub := .paused }) s)
    else askResume a (modifyCycle a (fun c => { c with sub := .suspended }) s)

/-! ## Doors of a RUNNING machine -/

/-- A RUNNING washer's door is OPEN (R35). -/
def washerDoorOpen (a : Addr) (s : State) : State :=
  match (s.machine a).cycle with
  | none => s
  | some c =>
    if c.index = 0 ∧ ¬ c.everActive then stopCycle a .user s
    else stopCycle a .machine (handFault (cycleHanding a faultDoorLock s) s)

/-- A RUNNING dryer's door is OPEN (R45). -/
def dryerDoorOpen (a : Addr) (s : State) : State :=
  match (s.machine a).cycle with
  | none => s
  | some c =>
    if drying c then
      let s := modifyCycle a (fun c => { c with pauseDeadline := some (s.now + s.params.doorPause) }) s
      match c.sub with
      | .waiting | .suspended => withdrawEntry a (modifyCycle a (fun c => { c with sub := .paused }) s)
      | .starting | .active | .resuming => beginSuspend a s
      | .suspending | .paused => s
    else if c.kind = some .cool ∨ dryEnding c then stopCycle a .user s
    else s

/-- A RUNNING dryer's door is CLOSED or LOCKED (R46). -/
def dryerDoorClosed (a : Addr) (s : State) : State :=
  match (s.machine a).cycle with
  | none => s
  | some c =>
    match c.sub with
    | .paused => askPhase a (modifyCycle a (fun c => { c with pauseDeadline := none, sub := .waiting }) s)
    | .suspending => modifyCycle a (fun c => { c with pauseDeadline := none }) s
    | .waiting | .starting | .active | .suspended | .resuming => s

/-- The door of a RUNNING machine, as just reported (R35, R45, R46). -/
def runningDoor (a : Addr) (door : Option Door) (s : State) : State :=
  match s.classOf a, door with
  | .washer, some .opened => washerDoorOpen a s
  | .dryer, some .opened => dryerDoorOpen a s
  | .dryer, some .closed => dryerDoorClosed a s
  | .dryer, some .locked => dryerDoorClosed a s
  | _, _ => s

/-! ## Starts -/

/-- Why Cycle Control refuses a begin (R25). -/
inductive BeginRefusal where
  | halted | quiet | notPresent | locked | heldOther | state | noProgram | door
deriving DecidableEq, Repr

/-- The plan copied from the profile of a class and a program (R28). R28 gives the DRY entry no limit seconds, and R31 reads
none, since its limit comes from the DRY limit base; it gives the COOL entry no suspendable flag, and honours none. The
model writes 0 and no, its own choice (log entry 53). -/
def planFor (cls : MachineClass) (program : Nat) (s : State) : Option (List PlanEntry) :=
  match cls with
  | .washer => (s.washProfile program).map (·.plan)
  | .dryer => (s.dryProfile program).map (fun p => [
      { kind := .dry, limit := 0, lu := p.dryLu, fu := 0, weight := 0, suspendable := true },
      { kind := .cool, limit := p.coolSeconds, lu := 0, fu := 0, weight := 0, suspendable := false }])

/-- The plan of the program selected on a machine's panel, if a profile exists for it. -/
def selectedPlan (a : Addr) (s : State) : Option (List PlanEntry) :=
  (s.machine a).selection.bind (fun n => planFor (s.classOf a) n s)

/-- The first condition of R25 that holds against a begin. -/
def beginRefusal (a : Addr) (card : Nat) (s : State) : Option BeginRefusal :=
  let m := s.machine a
  if s.halted then some .halted
  else if s.band = .quiet then some .quiet
  else if m.state = .absent then some .notPresent
  else if m.lock ≠ .none ∨ m.lockPending then some .locked
  else if m.state = .held ∧ m.hold.map (·.card) ≠ some card then some .heldOther
  else if (m.state ≠ .selected ∧ m.state ≠ .held) ∨ m.payment.isSome then some .state
  else if (selectedPlan a s).isNone then some .noProgram
  else if ¬ doorClosed m.door then some .door
  else none

/-- How Cycle Control answers a committed start (R96). -/
inductive StartAnswer where
  | started
  | closed (cause : StopCause)
deriving DecidableEq, Repr

/-- The cycle record made at a commit (R28). -/
def newCycle (number now : Nat) (cls : MachineClass) (p : Payment) : Cycle :=
  { number := number, payer := p.card, program := p.program, plan := p.plan, index := 0, sub := .waiting,
    everActive := false, retryUsed := false, timeUsed := 0, chargeTotal := p.charge,
    paidTotal := if cls = .dryer then p.paidSeconds else 0, remaining := if cls = .dryer then p.paidSeconds else 0,
    dryBase := none, coolPosted := false, topUp := none, pauseDeadline := none, stopCause := none, stopDeadline := none,
    refund := none, startTime := now, tookStop := false }

/-- The next cycle number is taken (R26, R28). -/
def takeCycleNumber (s : State) : State := { s with cycleCounter := (s.cycleCounter + 1) % 65536 }

/-- Whether a committed start is closed at once (R26). -/
def closesAtCommit (s : State) (m : MachineRecord) : Bool :=
  s.halted || decide (m.state ≠ .paying) || decide (m.lock ≠ .none) || m.lockPending

/-- The cause of a start closed at commit (R26). -/
def closureCause (s : State) (m : MachineRecord) : StopCause :=
  if s.halted then .room
  else if m.state ≠ .paying ∨ m.lock = .autoLocked then .machine
  else .operator

/-- A start is closed at commit: a cycle number is taken, the refund of the whole charge is placed, the payment is
absent, and a machine that was PAYING gives its hold back and is released to the room (R26, R132). -/
def closeStart (a : Addr) (p : Payment) (s : State) : State :=
  let m := s.machine a
  let cls := s.classOf a
  let c := newCycle s.cycleCounter s.now cls p
  let s := placeRefund p.card (refundOf cls c (closureCause s m)) (addrNum a) (takeCycleNumber s)
  let s := modifyMachine a (fun m => { m with payment := none }) s
  if m.state = .paying then releaseToRoom a (handBack a s) else s

/-- A paid cycle begins: the record is created, the machine is RUNNING, the claim queue is settled, phase 0 enters
WAITING, and the door is taken as though just reported (R26, R28, R132, R133). -/
def openStart (a : Addr) (p : Payment) (s : State) : State :=
  let c := newCycle s.cycleCounter s.now (s.classOf a) p
  let s := takeCycleNumber s
  let s := moveTo a .running (modifyMachine a (fun m => { m with payment := none, cycle := some c }) s)
  let s := enterWaiting a (claimServed a p.card s)
  runningDoor a (s.machine a).door s

/-- The debit of a start has committed (R26). -/
def commitStart (a : Addr) (s : State) : State × StartAnswer :=
  let m := s.machine a
  match m.payment with
  | none => (s, .closed .machine)
  | some p =>
    if closesAtCommit s m then (closeStart a p s, .closed (closureCause s m)) else (openStart a p s, .started)

/-- The origin of a payment begun in a state (R25). -/
def originOf (st : MachineState) : PaymentOrigin := if st = .held then .held else .selected

/-- An accepted begin: the payment field is set, the machine goes to PAYING, and a holder's payment is told to the
claim queue; a zero charge commits in the same decision (R25, R131). The plan is the one of the panel's program. -/
def beginStart (a : Addr) (card : Nat) (x : Purchase) (s : State) : State :=
  let m := s.machine a
  let p : Payment := {
    card := card, program := m.selection.getD 0, origin := originOf m.state, charge := x.charge, paidSeconds := x.seconds,
    plan := (selectedPlan a s).getD [] }
  let s := moveTo a .paying (modifyMachine a (fun m => { m with payment := some p }) s)
  let s := if m.state = .held then holderPays a s else s
  if x.charge = 0 then (commitStart a s).1 else s

/-- The payment of a start is abandoned (R27). -/
def abandonStart (a : Addr) (s : State) : State :=
  let m := s.machine a
  let s := modifyMachine a (fun m => { m with payment := none }) s
  if m.state = .paying then
    if m.lock ≠ .none then moveTo a .outOfService (handBack a s)
    else if m.hold.isSome ∧ m.payment.map (·.origin) = some .held then holderStopsPaying a (moveTo a .held s)
    else moveTo a (restingState m) s
  else s

/-! ## Top-ups -/

/-- Why Cycle Control refuses a top-up (R44). -/
inductive TopUpRefusal where
  | state | notPayer
deriving DecidableEq, Repr

/-- Whether a machine is a dryer RUNNING in DRY with COOL not posted. -/
def dryingMachine (a : Addr) (s : State) : Bool :=
  decide ((s.machine a).state = .running) && decide (s.classOf a = .dryer) && ((s.machine a).cycle.map drying).getD false

/-- The first condition of R44 that holds against a top-up. -/
def topUpRefusal (a : Addr) (card : Nat) (s : State) : Option TopUpRefusal :=
  match (s.machine a).cycle with
  | none => some .state
  | some c =>
    if ¬ dryingMachine a s ∨ c.topUp.isSome then some .state
    else if c.payer ≠ card then some .notPayer
    else none

/-- An accepted top-up is pending (R44). -/
def beginTopUp (a : Addr) (t : TopUp) (s : State) : State := modifyCycle a (fun c => { c with topUp := some t }) s

/-- The top-up pending on a machine for a card. -/
def pendingTopUp (a : Addr) (card : Nat) (s : State) : Option TopUp :=
  match (s.machine a).cycle.bind (·.topUp) with
  | none => none
  | some t => if t.card = card then some t else none

/-- The top-up pending on a machine for a card is cleared (R44). -/
def clearTopUp (a : Addr) (card : Nat) (s : State) : State :=
  if (pendingTopUp a card s).isSome then modifyCycle a (fun c => { c with topUp := none }) s else s

/-- The debit of a top-up has committed: the seconds and the charge are added to a cycle still drying, or the amount is
placed as a refund (R44). The second part says whether the seconds were added. -/
def commitTopUp (a : Addr) (card amount : Nat) (s : State) : State × Bool :=
  match pendingTopUp a card s with
  | some t =>
    if dryingMachine a s then
      (modifyCycle a (fun c => { c with
        remaining := c.remaining + t.seconds, paidTotal := c.paidTotal + t.seconds, dryBase := c.dryBase.map (· + t.seconds),
        chargeTotal := c.chargeTotal + amount, topUp := none }) s, true)
    else (placeRefund card amount (addrNum a) (clearTopUp a card s), false)
  | none => (placeRefund card amount (addrNum a) s, false)

end Sys2Proof.Machine
end

