-- ==== Sys2Proof/Machine/ServiceOps.lean ====
section
/-! DEFINITION. The Fault and Service Unit's own work: service sessions, service phases, self-tests and their winding
down (7.5 to 7.8). -/

namespace Sys2Proof.Machine

/-! ## Demands -/

/-- A demand on a pool, or none when its rating is 0 (7.6, 7.8). -/
def ratedDemand (k : PoolId) (rating : Nat) : Option (PoolId × Nat) := if rating = 0 then none else some (k, rating)

/-- The demand of a service phase from the ratings of the roster (7.6). -/
def serviceDemand (kind : PhaseKind) (r : Ratings) : Option (PoolId × Nat) :=
  match kind with
  | .heat | .dry => ratedDemand .electric r.heater
  | .wash | .rinse | .soak => ratedDemand .electric r.motor
  | .spin => ratedDemand .electric r.spin
  | .fill => ratedDemand .water r.fill
  | .drain | .cool => none

/-- The demand of a subtest of a class (7.8). -/
def subtestDemand (cls : MachineClass) (n : Nat) (r : Ratings) : Option (PoolId × Nat) :=
  match cls with
  | .washer =>
    if n = 2 then ratedDemand .water r.fill
    else if n = 4 then ratedDemand .electric r.motor
    else if n = 5 then ratedDemand .electric r.heater
    else if n = 6 then ratedDemand .electric r.spin
    else none
  | .dryer =>
    if n = 2 then ratedDemand .electric r.motor
    else if n = 3 then ratedDemand .electric r.heater
    else if n = 4 then ratedDemand .electric r.motor
    else none

/-- The last subtest of a class (R155). -/
def lastSubtest : MachineClass → Nat
  | .washer => 7
  | .dryer => 5

/-- Whether the open session is on a machine. -/
def sessionOn (a : Addr) (s : State) : Bool := (s.session.map (fun x => decide (x.machine = a))).getD false

/-- The service phase of the session on a machine. -/
def phaseOn (a : Addr) (s : State) : Option ServicePhase := if sessionOn a s then s.session.bind (·.phase) else none

/-- A handing about the unit's own work on a machine, with the phase kind or the subtest it has (R137). -/
def serviceHanding (a : Addr) (code : Nat) (s : State) : Handing :=
  { plainHanding (addrNum a) code with
    kind := (phaseOn a s).map (·.kind), subtest := (s.machine a).testRun.map (·.subtest) }

/-! ## Sessions -/

/-- A session ends: the permit becomes no, the record is removed, MACHINE and TEST are raised, and a machine still in
SERVICE is released to the room (R149). -/
def endSession (s : State) : State :=
  match s.session with
  | none => s
  | some x =>
    let s := modifyMachine x.machine (fun m => { m with permit := false }) { s with session := none }
    let s := raise .test (raise .machine s)
    if (s.machine x.machine).state = .service then releaseToRoom x.machine s else s

/-- A session that is CLOSING ends once nothing of its work is left (R149). -/
def endIfClosing (a : Addr) (s : State) : State :=
  if sessionOn a s && (s.session.map (·.closing)).getD false then endSession s else s

/-! ## Self-tests -/

/-- A test ends: the last test takes the outcome, the subtest and the code, the run is removed, a FAIL hands TEST_FAIL
over, and the machine of an operator's test is released to the room; a session's machine stays in SERVICE, and a
CLOSING session ends (R155, R156). -/
def finishTest (a : Addr) (outcome : TestOutcome) (code : Nat) (s : State) : State :=
  match (s.machine a).testRun with
  | none => s
  | some r =>
    let s := modifyMachine a (fun m => { m with lastTest := some ⟨outcome, r.subtest, code⟩, testRun := none }) s
    let s := raise .test (raise .machine s)
    let s := if outcome = .fail then
        handFault { plainHanding (addrNum a) faultTestFail with subtest := some r.subtest } s
      else s
    match r.origin with
    | .operator => if (s.machine a).state = .testing then releaseToRoom a s else s
    | .session => endIfClosing a s

/-- The current subtest, in WAITING, asks its pool for a grant, or moves at once to STARTING without a demand (R154). -/
def beginSubtest (a : Addr) (s : State) : State :=
  match (s.machine a).testRun with
  | none => s
  | some r =>
    match subtestDemand (s.classOf a) r.subtest (s.ratings a) with
    | none => startSubtest a s
    | some (k, d) => requestGrant k a .subtest d false s

/-- The current subtest is wound down with a cause, towards an outcome already decided: in WAITING its entry is
withdrawn and the test ends at once; in STARTING or RUNNING a STOP is posted (R152, R156). A wind-down already begun
keeps its outcome, but for a halt or an absence, which make it ABORTED. -/
def windDownTest (a : Addr) (cause : StopCause) (outcome : TestOutcome) (code : Nat) (override : Bool) (s : State) : State :=
  match (s.machine a).testRun with
  | none => s
  | some r =>
    match r.windDown with
    | some w =>
      if override then modifyRun a (fun r => { r with windDown := some { w with outcome := outcome, code := code } }) s else s
    | none =>
      match r.sub with
      | .waiting => finishTest a outcome code (withdrawEntry a s)
      | .starting | .running =>
        post a (.stop cause) .faultService (modifyRun a (fun r => { r with
          reportDeadline := none,
          windDown := some { deadline := s.now + 600, confirmed := false, outcome := outcome, code := code } }) s)

/-- The current subtest is done with a code (R155). -/
def subtestDone (a : Addr) (code : Nat) (s : State) : State :=
  match (s.machine a).testRun with
  | none => s
  | some r =>
    let s := modifyRun a (fun r => { r with reportDeadline := none }) (releaseGrant a s)
    if code ≠ 0 then finishTest a .fail code s
    else if lastSubtest (s.classOf a) ≤ r.subtest then finishTest a .pass 0 s
    else beginSubtest a (modifyRun a (fun r => { r with subtest := r.subtest + 1, sub := .waiting }) s)

/-- The current subtest fails with PHASE_TIMEOUT, which is recorded with its number, and is wound down (R154). R154 says so
at the report deadline and names only the code at a wrong activity; the model hands the fault over at both, its own choice
(log entry 56). -/
def subtestTimeout (a : Addr) (s : State) : State :=
  windDownTest a .machine .fail faultPhaseTimeout false (handFault (serviceHanding a faultPhaseTimeout s) s)

/-! ## Service phases -/

/-- The session's service phase changed; the change raises TEST (8.4). -/
def modifyPhase (f : ServicePhase → ServicePhase) (s : State) : State :=
  raise .test { s with session := s.session.map (fun x => { x with phase := x.phase.map f }) }

/-- A service phase ends with an outcome; a CLOSING session ends with it (R149, R151). -/
def finishPhase (a : Addr) (outcome : PhaseOutcome) (s : State) : State :=
  endIfClosing a (raise .test { s with
    session := s.session.map (fun x => { x with phase := none, lastOutcome := some outcome }) })

/-- The service phase is wound down with a cause towards an outcome: in WAITING its entry is withdrawn and it ends at
once; in STARTING or ACTIVE a STOP is posted (R149, R152). A wind-down already begun keeps its outcome. -/
def windDownPhase (a : Addr) (cause : StopCause) (outcome : PhaseOutcome) (s : State) : State :=
  match phaseOn a s with
  | none => s
  | some ph =>
    match ph.windDown with
    | some _ => s
    | none =>
      match ph.sub with
      | .waiting => finishPhase a outcome (withdrawEntry a s)
      | .starting | .active =>
        post a (.stop cause) .faultService (modifyPhase (fun ph => { ph with
          deadline := none, windDown := some { deadline := s.now + 600, confirmed := false, outcome := outcome } }) s)

/-- A service phase in STARTING or ACTIVE has not done what it should in time: PHASE_TIMEOUT is recorded with the kind
and the phase is wound down with outcome TIMEOUT (R151). -/
def phaseTimeout (a : Addr) (s : State) : State :=
  windDownPhase a .machine .timeout (handFault (serviceHanding a faultPhaseTimeout s) s)

/-! ## Halts and absences -/

/-- The session becomes CLOSING (7.5). -/
def closeSession (s : State) : State :=
  raise .test { s with session := s.session.map (fun x => { x with closing := true }) }

/-- The session's work is wound down with a cause before the session ends; without work it ends at once (R149, R156). -/
def closeWork (a : Addr) (cause : StopCause) (s : State) : State :=
  if (s.machine a).testRun.isSome then windDownTest a cause .aborted 0 true (closeSession s)
  else if (phaseOn a s).isSome then windDownPhase a cause .aborted (closeSession s)
  else endSession s

/-- A halt reaches a machine in TESTING or SERVICE (R49, R149, R156). -/
def haltService (a : Addr) (s : State) : State :=
  if sessionOn a s then
    closeWork a .room (raise .machine (modifyMachine a (fun m => { m with permit := false }) s))
  else windDownTest a .room .aborted 0 true s

/-- A machine in TESTING or SERVICE has gone absent: its entry is withdrawn, its grant released, its test ends ABORTED
and its session ends, and the absence exemption is set (R24, R142, R149, R156). The machine is ABSENT already. -/
def absentService (a : Addr) (s : State) : State :=
  let s := releaseGrant a (withdrawEntry a s)
  let s := finishTest a .aborted 0 s
  let s := if sessionOn a s then endSession s else s
  modifyMachine a (fun m => { m with absenceExemption := true }) s

/-! ## Reports of a machine in TESTING or SERVICE -/

/-- What a reply shows the Fault and Service Unit: the command it took, if it echoed one, and its report. -/
structure Shown where
  taken : Option BusCommand
  report : Report
deriving DecidableEq, Repr

/-- Whether every STOP posted for a machine has been taken (R38, R152). A STOP posted while an earlier one is still in flight or
queued is superseded (R8), and neither rule says which STOP must then be taken: the model counts the taking of the earlier one
as the STOP taken, its own choice (log entry 80). -/
def stopTaken (a : Addr) (s : State) : Bool := !outstanding isStop (s.machine a).bus

/-- Whether the test or the service phase of a machine is being wound down (R152). -/
def windingDown (a : Addr) (s : State) : Bool :=
  ((s.machine a).testRun.bind (·.windDown)).isSome || ((phaseOn a s).bind (·.windDown)).isSome

/-- Whether a report ends a wind-down whose work ends with the activity and argument given (R152). R152 names COMPLETE 255 and
TEST_DONE for both kinds of work, and its end COMPLETE and TEST_DONE without an argument: the model takes only the one that ends
the work being wound down, COMPLETE 255 for a service phase and TEST_DONE with the current number for a subtest, its own choice
(log entry 81). -/
def endsWindDown (a : Addr) (done : Activity) (arg : Nat) (r : Report) (s : State) : Bool :=
  (decide (r.activity = done) && r.arg == arg)
    || (stopTaken a s && (decide (r.activity = .stopped) || decide (r.activity = .ready)))

/-- Whether a report is a first confirmation of a wind-down (R152; which COMPLETE or TEST_DONE counts is log entry 81). -/
def confirmsWindDown (a : Addr) (done : Activity) (arg : Nat) (r : Report) (s : State) : Bool :=
  endsWindDown a done arg r s || (stopTaken a s && decide (r.activity = .stopping))

/-- A report reaches a subtest that is being wound down (R152). A COMPLETE 255 neither confirms nor ends it, the model's choice
(log entry 81). -/
def windTestReport (a : Addr) (subtest : Nat) (w : TestWindDown) (r : Report) (s : State) : State :=
  if endsWindDown a .testDone subtest r s then finishTest a w.outcome w.code (releaseGrant a s)
  else if confirmsWindDown a .testDone subtest r s ∧ ¬ w.confirmed then
    releaseGrant a (modifyRun a (fun r => { r with windDown := some { w with confirmed := true } }) s)
  else s

/-- The activity of a reply reaches a running test (R154, R155). The reply that takes TEST and shows TESTING or TEST_DONE with
another number is "any other activity" by R154 and to be ignored by R155; the model fails the subtest, its own choice (log
entry 57). R155 names no sub-state for a TEST_DONE with the current number: the model ignores one that comes in WAITING, its
own choice (log entry 65). -/
def testActivity (a : Addr) (x : Shown) (s : State) : State :=
  match (s.machine a).testRun with
  | none => s
  | some t =>
    let r := x.report
    match t.windDown with
    | some w => windTestReport a t.subtest w r s
    | none =>
      match t.sub with
      | .waiting => s
      | .starting | .running =>
        if r.activity = .testDone ∧ r.arg = t.subtest then subtestDone a r.fault s
        else if t.sub = .starting ∧ x.taken = some (.test t.subtest) then
          if r.activity = .testing ∧ r.arg = t.subtest then modifyRun a (fun t => { t with sub := .running }) s
          else subtestTimeout a s
        else s

/-- A report reaches a service phase that is being wound down (R152). A TEST_DONE neither confirms nor ends it, the model's
choice (log entry 81). -/
def windPhaseReport (a : Addr) (w : PhaseWindDown) (r : Report) (s : State) : State :=
  if endsWindDown a .complete 255 r s then finishPhase a w.outcome (releaseGrant a s)
  else if confirmsWindDown a .complete 255 r s ∧ ¬ w.confirmed then
    releaseGrant a (modifyPhase (fun ph => { ph with windDown := some { w with confirmed := true } }) s)
  else s

/-- Whether a reply took the START_PHASE of a service phase (R151). -/
def tookServiceStart : Option BusCommand → Bool
  | some (.startPhase index _ _) => index == 255
  | some .suspend => false
  | some .resume => false
  | some (.stop _) => false
  | some (.test _) => false
  | none => false

/-- The activity of a reply reaches a service phase (R151). -/
def phaseActivity (a : Addr) (x : Shown) (s : State) : State :=
  match phaseOn a s with
  | none => s
  | some ph =>
    let r := x.report
    match ph.windDown with
    | some w => windPhaseReport a w r s
    | none =>
      match ph.sub with
      | .waiting => s
      | .starting =>
        if tookServiceStart x.taken then
          if r.activity = .running ∧ r.arg = 255 then
            modifyPhase (fun ph => { ph with sub := .active, deadline := some (s.now + ph.seconds + 120) }) s
          else if r.activity = .complete ∧ r.arg = 255 then finishPhase a .complete (releaseGrant a s)
          else phaseTimeout a s
        else s
      | .active =>
        if r.activity = .complete ∧ r.arg = 255 then finishPhase a .complete (releaseGrant a s) else s

/-- The activity of a reply reaches whatever the unit runs on the machine. -/
def serviceActivity (a : Addr) (x : Shown) (s : State) : State :=
  if (s.machine a).testRun.isSome then testActivity a x s else phaseActivity a x s

/-- A new fault code has been reported, and recorded, in the middle of a test or a service phase (R151, R155). A report
of TESTING or TEST_DONE is judged by its subtest number first: one that names another subtest is ignored, and a TEST_DONE that
comes in WAITING does nothing to the test, though its new code has been recorded (log entries 49 and 65). -/
def serviceFault (a : Addr) (r : Report) (s : State) : State :=
  match (s.machine a).testRun with
  | some t =>
    if r.activity = .testDone ∨ (r.activity = .testing ∧ r.arg ≠ t.subtest) then s
    else windDownTest a .machine .fail r.fault false s
  | none =>
    match phaseOn a s with
    | none => s
    | some ph =>
      match ph.sub with
      | .starting | .active => windDownPhase a .machine (.fault r.fault) s
      | .waiting => s

/-- Whether a report is the TEST_DONE of the current subtest with a failing code, whose code is always recorded
(R155). -/
def failingTestDone (a : Addr) (r : Report) (s : State) : Bool :=
  match (s.machine a).testRun with
  | none => false
  | some t => t.windDown.isNone && decide (t.sub ≠ .waiting) && decide (r.activity = .testDone) && r.arg == t.subtest && r.fault != 0

/-- A reply of a machine in TESTING or SERVICE: a new fault code is handed over once while the machine is still in that
state, then the activity is taken, then what the fault does to the work (R137, R151, R155). A TEST_DONE of the current subtest
that stood in the last status report already, and now brings a new code, is the TEST_DONE with a nonzero code of R155, the model's
reading (log entry 76). -/
def serviceReport (a : Addr) (x : Shown) (activityChanged faultChanged : Bool) (s : State) : State :=
  let r := x.report
  let newFault := faultChanged && r.fault != 0
  let failing := failingTestDone a r s
  let s := if newFault || (activityChanged && failing) then handFault (serviceHanding a r.fault s) s else s
  let s := if activityChanged || (newFault && failing) then serviceActivity a x s else s
  if newFault then serviceFault a r s else s

end Sys2Proof.Machine
end

