-- ==== Sys2Proof/Machine/ReportOps.lean ====
section
/-! DEFINITION. What Cycle Control does with a reply of a PRESENT machine, with an absence and with a join (R22, R24,
R30 to R40, R42, R43).

The parts of a reply are taken in this order: the notice that a command was taken (R10), then the changed door,
selection, activity and fault code, in the order of the reply frame (log entry 11). -/

namespace Sys2Proof.Machine

/-! ## Doors and selections -/

/-- An IDLE or SELECTED machine follows its door and selection (R22). -/
def followPanel (a : Addr) (s : State) : State :=
  let m := s.machine a
  match m.state with
  | .idle => if restingState m = .selected then moveTo a .selected s else s
  | .selected => if restingState m = .idle then moveTo a .idle s else s
  | .absent | .paying | .held | .running | .stopping | .finished | .testing | .service | .outOfService => s

/-- The door of a FINISHED machine: OPEN is remembered, and a close after it is the unloading act (R42). -/
def finishedDoor (a : Addr) (door : Door) (s : State) : State :=
  match door with
  | .opened => modifyMachine a (fun m => { m with openedSinceFinish := true }) s
  | .closed | .locked =>
    if (s.machine a).openedSinceFinish then
      releaseToRoom a (modifyMachine a (fun m => { m with openedSinceFinish := false }) s)
    else s

/-- A changed door is copied and acted on by state (R22). -/
def takeDoor (a : Addr) (door : Door) (s : State) : State :=
  let s := modifyMachine a (fun m => { m with door := some door }) s
  match (s.machine a).state with
  | .idle | .selected => followPanel a s
  | .running => runningDoor a (some door) s
  | .finished => finishedDoor a door s
  | .absent | .paying | .held | .stopping | .testing | .service | .outOfService => s

/-- A changed panel selection is copied and acted on by state (R22). -/
def takeSelection (a : Addr) (selection : Option Nat) (s : State) : State :=
  followPanel a (modifyMachine a (fun m => { m with selection := selection }) s)

/-! ## Faults of a cycle -/

/-- START_PHASE is posted again for the current phase, which goes to STARTING with its retry used (R34). -/
def retryPhase (a : Addr) (s : State) : State := startPhase a (modifyCycle a (fun c => { c with retryUsed := true }) s)

/-- Whether a soft fault is one of the first two rows of R34: FAULT_HOLD with the current index in STARTING, ACTIVE or
RESUMING. That the rows mean the current index, which they do not name, is the model's choice (log entry 68). -/
def holdsPhase (c : Cycle) (r : Report) : Bool :=
  decide (r.activity = .faultHold) && r.arg == c.index &&
    (decide (c.sub = .starting) || decide (c.sub = .active) || decide (c.sub = .resuming))

/-- A RUNNING machine has reported a new nonzero fault code (R34). With a FAULT_HOLD that names another index, which R32
ignores, a SOFT code is recorded without a retry and a HARD one stops the cycle, the model's choice (log entry 68). -/
def takeCycleFault (a : Addr) (r : Report) (s : State) : State :=
  match (s.machine a).cycle with
  | none => s
  | some c =>
    let h := cycleHanding a r.fault s
    match severityOf r.fault with
    | .soft =>
      if holdsPhase c r then
        if c.retryUsed then stopCycle a .machine (handFault { h with asHard := true } s) else retryPhase a (handFault h s)
      else handFault h s
    | .hard => stopCycle a .machine (handFault h s)
    | .info => handFault h s

/-- A new nonzero fault code of a machine that runs no test and no session, by state (R34). -/
def takeFault (a : Addr) (r : Report) (s : State) : State :=
  match (s.machine a).state with
  | .running => takeCycleFault a r s
  | .stopping => handFault (cycleHanding a r.fault s) s
  | .absent | .idle | .selected | .paying | .held | .finished | .testing | .service | .outOfService =>
    handFault (plainHanding (addrNum a) r.fault) s

/-! ## The reply that echoes a command of a cycle -/

/-- The START_PHASE for COOL has been taken: the DRY grant is handed back and COOL enters STARTING (R43). -/
def takeCool (a : Addr) (taken : Option BusCommand) (s : State) : State :=
  match (s.machine a).cycle, taken with
  | some c, some (.startPhase i _ _) =>
    if (s.machine a).state = .running ∧ dryEnding c ∧ i = c.index + 1 then
      modifyCycle a (fun c => { freshPhase c with index := c.index + 1, sub := .starting }) (releaseGrant a s)
    else s
  | _, _ => s

/-- Whether the reply that took a command shows the outcome of the current phase (R30, R45). -/
def showsOutcome (a : Addr) (taken : Option BusCommand) (s : State) : Bool :=
  decide ((s.machine a).state = .running) &&
  match (s.machine a).cycle, taken with
  | some c, some (.startPhase i _ _) => i == c.index && (decide (c.sub = .starting) || decide (c.sub = .suspending))
  | some c, some .resume => decide (c.sub = .resuming) || decide (c.sub = .suspending)
  | _, _ => false

/-- The current phase has been seen RUNNING: it is ACTIVE, unless it is SUSPENDING already, and the DRY limit base is
taken the first time (R30, R43, R45). -/
def phaseRuns (c : Cycle) : Cycle :=
  if c.sub = .suspending then { c with everActive := true }
  else { c with
    sub := .active, everActive := true,
    dryBase := if c.kind = some .dry then some (c.dryBase.getD c.remaining) else c.dryBase }

/-- The reply that echoes START_PHASE or RESUME is read (R30). A FAULT_HOLD that carries no code has no fault to take
(log entry 12). A reply that shows RUNNING, COMPLETE, SUSPENDED or FAULT_HOLD with another index is any other activity by R30 and
ignored by R32: the model stops the cycle with PHASE_TIMEOUT, its own choice (log entry 67). A FAULT_HOLD whose code equals the
last status report's is taken as a new fault, since the machine cleared its code when it accepted the command (R5): the model's
reading (log entry 77). -/
def readOutcome (a : Addr) (r : Report) (s : State) : State :=
  match (s.machine a).cycle with
  | none => s
  | some c =>
    if r.arg ≠ c.index then timeoutStop a s
    else match r.activity with
      | .running => modifyCycle a phaseRuns s
      | .complete => completePhase a (modifyCycle a (fun c => { c with everActive := true }) s)
      | .faultHold =>
        let s := modifyCycle a (fun c => { c with everActive := true }) s
        if r.fault = 0 then s else takeCycleFault a r s
      | .ready | .suspended | .stopping | .stopped | .testing | .testDone => timeoutStop a s

/-! ## Activities -/

/-- A RUNNING machine has taken a STOP of the part, one left over from earlier work, or begins a phase after it by taking a
START_PHASE: its cycle notes which, the model's own mark (R37, log entry 78). -/
def noteStop (a : Addr) (taken : Option BusCommand) (s : State) : State :=
  if (s.machine a).state = .running then
    match taken with
    | some (.stop _) => modifyCycle a (fun c => { c with tookStop := true }) s
    | some (.startPhase _ _ _) => modifyCycle a (fun c => { c with tookStop := false }) s
    | some .suspend | some .resume | some (.test _) | none => s
  else s

/-- The resident has stopped the machine at its panel (R37). -/
def panelStop (a : Addr) (s : State) : State :=
  withdrawEntry a (moveTo a .stopping (modifyCycle a (fun c => { c with
    stopCause := some .user, stopDeadline := some (s.now + 600), pauseDeadline := none }) s))

/-- A confirmed stop is taken, and a machine that reports STOPPED is FINISHED (R38). -/
def takeConfirmation (a : Addr) (r : Report) (s : State) : State :=
  let s := confirmStop a s
  if r.activity = .stopped then enterFinished a s else s

/-- Whether every SUSPEND posted for a machine has been taken (R33). -/
def suspendTaken (a : Addr) (s : State) : Bool := !outstanding (fun c => decide (c = .suspend)) (s.machine a).bus

/-- The activity of a RUNNING machine, by sub-state (R32, R33, R37). A STOPPING or STOPPED after a STOP of the part was taken, in
the same reply or an earlier one, is no stop at the panel, and no rule takes it (R32, R37, log entry 78). -/
def runningActivity (a : Addr) (x : Shown) (s : State) : State :=
  match (s.machine a).cycle with
  | none => s
  | some c =>
    let r := x.report
    match r.activity with
    | .stopping | .stopped => if c.tookStop then s else takeConfirmation a r (panelStop a s)
    | .complete =>
      if r.arg = c.index then
        match c.sub with
        | .starting | .active | .suspending | .resuming => completePhase a s
        | .waiting | .suspended | .paused => s
      else s
    | .suspended =>
      if r.arg = c.index then
        match c.sub with
        | .active => timeoutStop a s
        | .suspending => if suspendTaken a s then confirmSuspend a s else s
        | .waiting | .starting | .suspended | .resuming | .paused => s
      else s
    | .ready | .testing | .testDone => if c.sub = .active then timeoutStop a s else s
    | .running | .faultHold => s

/-- The activity of a STOPPING machine (R38). A STOPPED that arrives before the STOP was taken and before any confirmation ends
nothing, like every other report before a confirmation, the model's choice (log entry 73); so is that an earlier STOP counts
where the cycle's own was superseded (log entry 80). -/
def stoppingActivity (a : Addr) (r : Report) (s : State) : State :=
  if (r.activity = .stopping ∨ r.activity = .stopped) ∧
      (stopTaken a s ∨ ((s.machine a).cycle.bind (·.refund)).isSome) then takeConfirmation a r s
  else s

/-- The activity of a machine that runs no test and no session, by state (R32 to R38). -/
def takeActivity (a : Addr) (x : Shown) (s : State) : State :=
  match (s.machine a).state with
  | .running => runningActivity a x s
  | .stopping => stoppingActivity a x.report s
  | .absent | .idle | .selected | .paying | .held | .finished | .testing | .service | .outOfService => s

/-! ## A whole reply -/

/-- Whether the reply that took a command is read for that command although its activity is not new: the rules read, in the reply
that echoes it, the SUSPENDED of a SUSPENDING phase (R33), the STOPPING or STOPPED of a STOPPING machine (R38), the STOPPING,
STOPPED or READY of a wind-down (R152), and whatever the reply to the START_PHASE of a service phase (R151) or to the TEST of a
subtest (R154) shows while these are STARTING. What the reply to a START_PHASE or a RESUME of a cycle shows is read before
(`readOutcome`). Every other activity that equals the last status report's is not handed over again (R10): a COMPLETE or
TEST_DONE that stands unchanged in the reply that echoes a STOP ends no wind-down, the model's reading (log entry 75). -/
def readsEcho (a : Addr) (x : Shown) (s : State) : Bool :=
  let m := s.machine a
  let stopped := decide (x.report.activity = .stopping) || decide (x.report.activity = .stopped)
  match x.taken with
  | none | some .resume => false
  | some .suspend =>
    decide (m.state = .running) && decide (m.cycle.map (·.sub) = some .suspending) && decide (x.report.activity = .suspended)
  | some (.stop _) =>
    if underService m then windingDown a s && (stopped || decide (x.report.activity = .ready))
    else decide (m.state = .stopping) && stopped
  | some (.startPhase _ _ _) =>
    underService m && tookServiceStart x.taken && decide ((phaseOn a s).map (·.sub) = some .starting) && !windingDown a s
  | some (.test n) =>
    underService m && decide (m.testRun.map (·.sub) = some .starting) && decide (m.testRun.map (·.subtest) = some n) &&
      !windingDown a s

/-- Which parts of a reply differ from the last status report (R10). -/
structure Changes where
  door : Bool
  selection : Bool
  activity : Bool
  fault : Bool
deriving DecidableEq, Repr

/-- The changes of a reply against the last status report; against none, every part is new (R10, R16). -/
def changesOf (old : Option Report) (r : Report) : Changes :=
  match old with
  | none => { door := true, selection := true, activity := true, fault := true }
  | some o => {
    door := decide (o.door ≠ r.door), selection := decide (o.selection ≠ r.selection),
    activity := decide (o.activity ≠ r.activity) || o.arg != r.arg, fault := o.fault != r.fault }

/-- The activity and the fault code of a reply: to the Fault and Service Unit in TESTING and SERVICE, else to Cycle
Control. What R30 has read already is not taken a second time. -/
def takeWork (a : Addr) (x : Shown) (activity fault : Bool) (s : State) : State :=
  if underService (s.machine a) then serviceReport a x activity fault s
  else
    let s := if activity then takeActivity a x s else s
    if fault && x.report.fault != 0 then takeFault a x.report s else s

/-- Cycle Control takes the outcome of a valid reply: the taken notice, then the changed fields (R10). -/
def takeOutcome (a : Addr) (x : Shown) (d : Changes) (s : State) : State :=
  let r := x.report
  let s := takeCool a x.taken (noteStop a x.taken s)
  let read := showsOutcome a x.taken s
  let held := read && decide (r.activity = .faultHold) && decide ((s.machine a).cycle.map (·.index) = some r.arg)
  let s := if read then readOutcome a r s else s
  let s := if d.door then takeDoor a r.door s else s
  let s := if d.selection then takeSelection a r.selection s else s
  takeWork a x ((d.activity || readsEcho a x s) && !read) (d.fault && !held) s

/-! ## Absence and join -/

/-- What an absence ends, by the state the machine was in (R24, R40). The machine is ABSENT already. -/
def endWork (a : Addr) (st : MachineState) (s : State) : State :=
  match st with
  | .held | .paying => handBack a s
  | .running =>
    modifyMachine a (fun m => { m with cycle := none }) (settleRefund a .machine (releaseGrant a (withdrawEntry a s)))
  | .stopping =>
    modifyMachine a (fun m => { m with cycle := none })
      (releaseGrant a (settleRefund a (recordedCause (s.machine a)) s))
  | .finished => modifyMachine a (fun m => { m with openedSinceFinish := false }) s
  | .testing | .service => absentService a s
  | .absent | .idle | .selected | .outOfService => s

/-- The Room Bus Controller hands over an absence (R24). -/
def takeAbsence (a : Addr) (s : State) : State :=
  endWork a (s.machine a).state (moveTo a .absent (modifyMachine a (fun m => { m with door := none, selection := none }) s))

/-- The Room Bus Controller hands over a join: the machine takes the door and selection of the report and is released to
the room, its absence exemption ends (R142), and a fault code it reports is handed over (R24, R137). R16 says both that every
field of the report counts as new and that a COMPLETE or TEST_DONE stands only as the last status: the model hands the code of
such a report over like any other, a failing subtest's too (log entry 25). -/
def takeJoin (a : Addr) (r : Report) (s : State) : State :=
  let s := modifyMachine a (fun m => { m with
    door := some r.door, selection := r.selection, absenceExemption := false }) s
  let s := releaseToRoom a s
  if r.fault = 0 then s else handFault (plainHanding (addrNum a) r.fault) s

end Sys2Proof.Machine
end

