-- ==== Sys2Proof/Machine/BusOps.lean ====
section
/-! DEFINITION. The Room Bus Controller: rounds and slots, replies by presence, absence, discovery and joining
(chapter 1). -/

namespace Sys2Proof.Machine

/-! ## Rounds and slots -/

/-- Whether an address is configured (R2). -/
def State.configured (s : State) (a : Addr) : Bool := (s.roster a).isSome

/-- Whether an address has a slot in a round (R2). -/
def qualifies (s : State) (round : Nat) (a : Addr) : Bool :=
  s.configured a && (decide ((s.machine a).bus.presence ≠ .absent) || round % 4 == 0)

/-- A round begins, with a slot for each address that qualifies, in ascending order (R2). -/
def beginRound (s : State) : State :=
  let n := if s.roundsBegun then s.roundNumber + 1 else 0
  { s with roundNumber := n, roundsBegun := true, slots := allAddrs.filter (qualifies s n) }

/-- The next slot of the round begins: the poll frame of its address is sent and its reply window opens (R3). -/
def beginSlot (s : State) : State :=
  match s.slot, s.slots with
  | none, a :: rest =>
    let b := (s.machine a).bus
    { s with slots := rest, slot := some a, pollFrame := pollFrame a (decide (b.presence ≠ .absent)) b.inFlight }
  | none, [] => s
  | some _, _ => s

/-- What the part does with the pair of the room bus in a slot: it sends the poll frame and releases the pair for the bit
times of the reply window that follow; without an open slot it drives nothing (R1). -/
def State.slotPair (s : State) (after : Nat) : List PairTime :=
  match s.slot with
  | none => List.replicate after .released
  | some _ => pairThrough s.pollFrame after

/-! ## Command slots -/

/-- The bus fields after a reply with an echo tag: a command in flight with that tag has been taken, and the queued
command moves up with the other tag (R9). The second part is the command taken. -/
def takeEcho (echo : Bool) (b : BusFields) : BusFields × Option BusCommand :=
  match b.inFlight with
  | none => (b, none)
  | some f =>
    if f.tag = echo then
      ({ b with
        lastTag := echo, inFlight := b.queued.map (fun q => { cmd := q.cmd, tag := !echo, poster := q.poster }),
        queued := none }, some f.cmd)
    else (b, none)

/-- Whether a valid reply counts as missed: it fails to echo the command in flight (R11). -/
def missesEcho (echo : Bool) (b : BusFields) : Bool :=
  match b.inFlight with
  | none => false
  | some f => f.tag != echo

/-! ## Absence -/

/-- The reasons for an absence (R12). -/
inductive AbsenceReason where
  | missed | restart | identity
deriving DecidableEq, Repr

/-- The fault an absence is handed over with (R12). -/
def absenceFault : AbsenceReason → Nat
  | .missed => faultNoReply
  | .restart => faultNoReply
  | .identity => faultRosterMismatch

/-- The bus fields of an address that leaves JOINING on a valid reply: its command slots and its orphan deadline are
removed; its last status report and its last tag stay (R18). -/
def leaveJoining (b : BusFields) : BusFields :=
  { b with presence := .absent, missed := 0, inFlight := none, queued := none, orphanDeadline := none }

/-- The bus fields of an address that has returned to ABSENT with its third missed reply, or whose machine has been
declared absent: its last status report is removed too (R12, R18). -/
def absentBus (b : BusFields) : BusFields := { leaveJoining b with report := none }

/-- A PRESENT machine is declared absent: the bus fields, the absence to Cycle Control, the MACHINE event, then the fault;
an identity that differs is recorded (R12, R14). -/
def declareAbsent (a : Addr) (reason : AbsenceReason) (s : State) : State :=
  let s := modifyBus a (fun b => { absentBus b with mismatch := decide (reason = .identity) }) s
  handFault (plainHanding (addrNum a) (absenceFault reason)) (raise .machine (takeAbsence a s))

/-- A slot of an address counts as missed (R11, R18). -/
def missedSlot (a : Addr) (s : State) : State :=
  let b := (s.machine a).bus
  match b.presence with
  | .absent => s
  | .present => if b.missed + 1 < 3 then modifyBus a (fun b => { b with missed := b.missed + 1 }) s else declareAbsent a .missed s
  | .joining => if b.missed + 1 < 3 then modifyBus a (fun b => { b with missed := b.missed + 1 }) s else modifyBus a absentBus s

/-! ## Joining -/

/-- Whether the class and ratings of a reply are those of the roster entry of its address (R14). -/
def identityOk (a : Addr) (r : Report) (s : State) : Bool :=
  match s.roster a with
  | none => false
  | some e => decide (r.cls = e.cls) && decide (r.ratings = e.ratings)

/-- Whether an activity shows work under way (R15, R17). -/
def underWay : Activity → Bool
  | .running | .suspended | .faultHold | .stopping | .testing => true
  | .ready | .stopped | .complete | .testDone => false

/-- A machine joins with its last status report (R16). -/
def joinMachine (a : Addr) (r : Report) (s : State) : State :=
  raise .machine (takeJoin a r (modifyBus a (fun b => { b with presence := .present, seen := true }) s))

/-- A machine found at work is stopped before it joins (R17). -/
def beginOrphan (a : Addr) (s : State) : State :=
  handFault (plainHanding (addrNum a) faultOrphanCycle) (modifyBus a (fun b => { b with
    presence := .joining,
    inFlight := some ⟨.stop (if b.seen then .machine else .room), !b.lastTag, .busController⟩,
    orphanDeadline := some (s.now + 600) }) s)

/-- A roster mismatch of an address that is not PRESENT is handed over once (R15). -/
def recordMismatch (a : Addr) (s : State) : State :=
  if (s.machine a).bus.mismatch then s
  else modifyBus a (fun b => { b with mismatch := true }) (handFault (plainHanding (addrNum a) faultRosterMismatch) s)

/-- A discovery reply (R15). -/
def discoveryFrom (a : Addr) (echo : Bool) (r : Report) (s : State) : State :=
  if identityOk a r s then
    let s := modifyBus a (fun b => { b with lastTag := echo, missed := 0, mismatch := false, report := some r }) s
    if underWay r.activity then beginOrphan a s else joinMachine a r s
  else recordMismatch a s

/-- The slot of a valid reply is counted: as missed when the reply did not echo the command in flight, and otherwise the
count is 0 (R11). -/
def countSlot (a : Addr) (miss : Bool) (s : State) : State :=
  if miss then missedSlot a s else modifyBus a (fun b => { b with missed := 0 }) s

/-- A valid reply of a JOINING address (R18). A reply with both the fresh mark and a different identity is taken by its
fresh mark (log entry 13); a reply that completes the join is counted after the join, as R10 counts a reply after its
content has been handed over (log entry 16). -/
def joiningFrom (a : Addr) (echo : Bool) (r : Report) (s : State) : State :=
  if r.fresh then discoveryFrom a echo r (modifyBus a leaveJoining s)
  else if !identityOk a r s then recordMismatch a (modifyBus a leaveJoining s)
  else
    let miss := missesEcho echo (s.machine a).bus
    let s := modifyBus a (fun b => { (takeEcho echo b).1 with report := some r }) s
    if underWay r.activity then countSlot a miss s
    else countSlot a miss (joinMachine a r (modifyBus a (fun b => { b with orphanDeadline := none }) s))

/-! ## Replies of PRESENT addresses -/

/-- A valid reply of a PRESENT address (R9 to R14): a fresh mark or a different identity ends the presence; otherwise the
outcome is handed over, the reply becomes the last status report, and the slot is counted. R13 and R14 both claim a reply
that has the fresh mark and a different identity: the fresh mark is taken first, the model's choice (log entry 13). -/
def presentFrom (a : Addr) (echo : Bool) (r : Report) (s : State) : State :=
  if r.fresh then discoveryFrom a echo r (declareAbsent a .restart s)
  else if !identityOk a r s then declareAbsent a .identity s
  else
    let b := (s.machine a).bus
    let miss := missesEcho echo b
    let s := modifyBus a (fun b => (takeEcho echo b).1) s
    let s := takeOutcome a { taken := (takeEcho echo b).2, report := r } (changesOf b.report r) s
    countSlot a miss (modifyBus a (fun b => { b with report := some r }) s)

/-! ## A slot ends -/

/-- The open reply window closes on a reply, which is handled by the presence of its address (R10, R15, R18); an invalid
one counts as none (R4). Without an open window the bytes are discarded (R1), and an address that is not configured any
more takes no part (log entry 17). -/
def takeReply (bytes : List Byte) (s : State) : State :=
  match s.slot with
  | none => s
  | some a =>
    let s := { s with slot := none }
    if !s.configured a then s
    else match readReply a bytes with
      | none => missedSlot a s
      | some (echo, r) =>
        match (s.machine a).bus.presence with
        | .present => presentFrom a echo r s
        | .joining => joiningFrom a echo r s
        | .absent => discoveryFrom a echo r s

/-- The open reply window closes without a reply (R11). -/
def windowMissed (s : State) : State :=
  match s.slot with
  | none => s
  | some a =>
    let s := { s with slot := none }
    if s.configured a then missedSlot a s else s

/-- The orphan deadline of a JOINING address is reached (R19). R19 lets the automatic lock or the join reach Cycle Control first:
locked first, the machine joins into OUT_OF_SERVICE; joined first, it is released to the room, perhaps to a hold, and the lock
then reaches it there (R47). Which comes first the command says, and with the join first the fault is handed over after it whole,
the model's choice (log entry 52). -/
def orphanTimeout (joinFirst : Bool) (a : Addr) (s : State) : State :=
  let b := (s.machine a).bus
  let locked (s : State) : State := handFault (plainHanding (addrNum a) faultStopTimeout) s
  if b.presence = .joining ∧ due b.orphanDeadline s.now then
    match b.report with
    | none => s
    | some r =>
      let joined (s : State) : State :=
        joinMachine a r (modifyBus a (fun b => { b with orphanDeadline := none, inFlight := none }) s)
      if joinFirst then locked (joined s) else joined (locked s)
  else s

/-! ## The room second -/

/-- The second of a phase in ACTIVE is counted: phase time used, and for DRY a paid second less (R31, R43). -/
def countSecond (c : Cycle) : Cycle :=
  if c.sub = .active then { c with
    timeUsed := c.timeUsed + 1, remaining := if c.kind = some .dry then c.remaining - 1 else c.remaining }
  else c

/-- The second of a machine is counted; only a RUNNING machine's phase moves (R31, R36). -/
def countMachine (m : MachineRecord) : MachineRecord :=
  if m.state = .running then { m with cycle := m.cycle.map countSecond } else m

/-- The statistics of a pool at a room second (R74). -/
def countPool (p : Pool) : Pool :=
  { p with stats := { p.stats with
    unitSeconds := addUpTo Config.largestTotal p.stats.unitSeconds p.granted,
    overSeconds := addUpTo Config.largestCount p.stats.overSeconds (bit p.overLimit) } }

/-- The room second after: time, the seconds of phases and the statistics are counted, and a round begins in the
OPERATING mode (R2, R31, R43, R74); the grant-wait limit in force is noted for the expiries of this second (R71). -/
def tick (s : State) : State :=
  let s := { s with
    now := s.now + 1, waitLimit := s.params.grantWait, machines := s.machines.map countMachine,
    electric := countPool s.electric, water := countPool s.water }
  if s.mode = .operating then beginRound s else s

end Sys2Proof.Machine
end

