-- ==== Sys2Proof/Machine/ShedOps.lean ====
section
/-! DEFINITION. Changes of limit and reserve with their sheds, grant-wait expiry and the suspend deadline, halt and
resume at the pools, and what the pools tell of themselves (3.1, 3.4 to 3.7). -/

namespace Sys2Proof.Machine

/-! ## Shedding -/

/-- The amounts of the shared grants that are not marked; a marked grant counts as released at a shed (R66, R67). -/
def Pool.sharedUnmarked (p : Pool) : Nat := grantSum (fun g => isShared g && !g.pending) p.grants

/-- The pool asks Cycle Control to suspend the machine of a grant; a suspension carried out is counted (R67, R68). -/
def offerSuspension (k : PoolId) (g : Grant) (s : State) : State :=
  if g.suspendable && suspendAllowed (s.machine g.machine) then
    modifyStats k (fun t => { t with sheds := addUpTo Config.largestCount t.sheds 1 }) (beginSuspend g.machine s)
  else s

/-- The shared portion is relieved: the grants given are taken in turn while the working excess is above 0 (R67). -/
def relieveShared (k : PoolId) : List Grant → State → State
  | [], s => s
  | g :: gs, s =>
    if (s.pool k).sharedPortion < (s.pool k).sharedUnmarked then relieveShared k gs (offerSuspension k g s) else s

/-- The reserve of a class is relieved of an unmarked grant larger than it (R68). -/
def relieveReserve (k : PoolId) (c : MachineClass) (s : State) : State :=
  match (s.pool k).reserveGrant c with
  | none => s
  | some g => if !g.pending ∧ (s.pool k).effReserve c < g.amount then offerSuspension k g s else s

/-- The state of a pool is set by its figures; a change of state raises POOL (R69). -/
def setOverLimit (k : PoolId) (s : State) : State :=
  let p := s.pool k
  if p.overLimit = !p.withinFigures then s else raise .pool (s.setPool k { p with overLimit := !p.withinFigures })

/-- A shed: the shared portion, most recent grant first, then the washer and the dryer reserve, then the state of the
pool, which scans if it is NORMAL (R60, R67 to R69). -/
def shed (k : PoolId) (s : State) : State :=
  let unmarked := ((s.pool k).grants.filter (fun g => isShared g && !g.pending)).reverse
  scanPool k (setOverLimit k (relieveReserve k .dryer (relieveReserve k .washer (relieveShared k unmarked s))))

/-! ## Limits and reserves -/

/-- A value brought into a range. -/
def clampTo (lo hi n : Nat) : Nat := max lo (min n hi)

/-- A limit in its pool's range (R55). -/
def clampLimit (k : PoolId) (n : Nat) : Nat :=
  match k with
  | .electric => clampTo 10 600 n
  | .water => clampTo 0 120 n

/-- A requested reserve in its pool's range (R56). -/
def clampReserve (k : PoolId) (n : Nat) : Nat :=
  match k with
  | .electric => clampTo 0 600 n
  | .water => clampTo 0 120 n

/-- A limit, in range, becomes the limit in force (R55). -/
def setLimit (k : PoolId) (limit : Nat) (s : State) : State :=
  shed k (raise .pool (s.setPool k { s.pool k with limit := limit }))

/-- The pool's own copy of a requested reserve. -/
def Pool.withReserve (p : Pool) (c : MachineClass) (n : Nat) : Pool :=
  match c with
  | .washer => { p with reqWasher := n }
  | .dryer => { p with reqDryer := n }

/-- A requested reserve, in range, is taken by its pool (R56). -/
def setReserve (k : PoolId) (c : MachineClass) (n : Nat) (s : State) : State :=
  shed k (raise .pool (s.setPool k ((s.pool k).withReserve c n)))

/-! ## Halted room -/

/-- Cycle Control tells a pool that the room is halted, or has resumed, when it scans (R73). -/
def tellPool (k : PoolId) (halted : Bool) (s : State) : State := scanPool k (s.setPool k { s.pool k with halted := halted })

/-! ## Deadlines of the pools -/

/-- The handing for an entry that has waited too long (R71). -/
def waitHanding (e : WaitEntry) (s : State) : Handing :=
  match e.purpose with
  | .cyclePhase | .resume => cycleHanding e.machine faultGrantWait s
  | .servicePhase | .subtest => serviceHanding e.machine faultGrantWait s

/-- The requester of an entry is told of its expiry (R72). -/
def tellExpiry (e : WaitEntry) (s : State) : State :=
  match e.purpose with
  | .cyclePhase | .resume => stopCycle e.machine .room s
  | .servicePhase => finishPhase e.machine .noPower s
  | .subtest => finishTest e.machine .noPower 0 s

/-- The age at which an entry expires in this room second: the grant-wait limit in force, but not less than the one that
was in force when the second began, since a lowered limit acts at the next room second (R71). -/
def State.expiryAge (s : State) : Nat := max s.params.grantWait s.waitLimit

/-- The entry of a machine in a pool that has reached its grant-wait limit (R71). -/
def expiredEntry (k : PoolId) (a : Addr) (s : State) : Option WaitEntry :=
  (s.pool k).waits.find? (fun e => decide (e.machine = a ∧ e.time + s.expiryAge ≤ s.now))

/-- The entry of a machine in a pool expires, if it has reached its limit (R71). -/
def expireFrom (k : PoolId) (a : Addr) (s : State) : State :=
  match expiredEntry k a s with
  | none => s
  | some e =>
    let p := s.pool k
    let s := s.setPool k { p with
      waits := p.waits.filter (fun e => !decide (e.machine = a)),
      stats := { p.stats with expiries := addUpTo Config.largestCount p.stats.expiries 1 } }
    let s := raise .pool s
    scanPool k (tellExpiry e (handFault (waitHanding e s) s))

/-- Whether a machine has a marked grant in a pool whose suspend deadline has been reached. -/
def suspendDue (k : PoolId) (a : Addr) (s : State) : Bool :=
  (s.pool k).grants.any (fun g => decide (g.machine = a) && g.pending && due g.deadline s.now)

/-- The suspend deadline of a machine's grant is cleared; the mark stays (R70). -/
def clearSuspendDeadline (k : PoolId) (a : Addr) (s : State) : State :=
  let p := s.pool k
  s.setPool k { p with grants := p.grants.map (fun g => if g.machine = a then { g with deadline := none } else g) }

/-- Cycle Control is told that a suspension has not been confirmed (R70). -/
def suspendIgnored (a : Addr) (s : State) : State :=
  if (s.machine a).state = .running ∧ (s.machine a).cycle.map (·.sub) = some .suspending then
    stopCycle a .machine (handFault (cycleHanding a faultSuspendIgnored s) s)
  else s

/-- The suspend deadline of a machine's grant in a pool is reached (R70). -/
def suspendTimeout (k : PoolId) (a : Addr) (s : State) : State :=
  if suspendDue k a s then suspendIgnored a (clearSuspendDeadline k a s) else s

/-- The statistics of a pool set to 0 (R76). -/
def clearStats (k : PoolId) (s : State) : State := s.setPool k { s.pool k with stats := .zero }

end Sys2Proof.Machine
end

