-- ==== Sys2Proof/Machine/PurseOps.lean ====
section
/-! DEFINITION. The Purse Engine: the station records, insertions, requests of the panels, debits, credits and doubts
(chapter 4). -/

namespace Sys2Proof.Machine

/-! ## Station records -/

/-- Whether a record is in a busy state (4.4). -/
def busyStation (x : Station) : Bool :=
  match x.state with
  | .crediting | .debiting | .verifying => true
  | .empty | .reading | .cardReady => false

/-- Whether a card id is in a record that is ready or busy (R101). -/
def holdsCard (card : Nat) (x : Station) : Bool :=
  (busyStation x || decide (x.state = .cardReady)) && decide (x.card = some card)

/-- The card-in-use set, derived when it is needed (R101). -/
def State.cardInUse (s : State) (card : Nat) : Bool :=
  holdsCard card s.stationA || holdsCard card s.stationB || s.doubts.any (fun d => d.debit.card == card)

/-- A record that has become EMPTY: the card's fields and those of the request are cleared (R84, R85, R87). The switch,
the display line and the panel message being gathered are no part of the card's fields. -/
def emptied (awaiting : Bool) (x : Station) : Station :=
  { Station.initial with
    awaitingRemoval := awaiting, gathered := x.gathered, switchClosed := x.switchClosed, display := x.display }

/-- The record becomes EMPTY and the display shows why. -/
def endCard (i : StationId) (awaiting : Bool) (code : Nat) (s : State) : State :=
  display i (plainMessage code) (modifyStation i (emptied awaiting) s)

/-! ## Outcomes of debits, told to Cycle Control and the Charge Unit -/

/-- The retained copy of the debit in a record (R99, R176). -/
def copyOf (x : Station) : Option DebitCopy :=
  match x.card, x.target, x.writing with
  | some card, some machine, some slot => some {
      kind := if x.request = some .addTime then .topUp else .start, card := card, machine := machine, amount := x.amount,
      slot := slot, oldPair := x.oldPair, expectedPair := x.expectedPair }
  | _, _, _ => none

/-- The payment of a debit that did not commit is abandoned, or its top-up pending is cleared (R27, R44). -/
def abandonDebit (kind : DoubtKind) (a : Addr) (card : Nat) (s : State) : State :=
  match kind with
  | .start => abandonStart a s
  | .topUp => clearTopUp a card s

/-- A debit ends unresolved: Cycle Control abandons it, DEBIT_UNRESOLVED is handed over and the audit count increases
(R88, R95, R100). -/
def debitUnresolved (d : DebitCopy) (s : State) : State :=
  countDebitUnresolved (handFault { plainHanding (addrNum d.machine) faultDebitUnresolved with card := some d.card }
    (abandonDebit d.kind d.machine d.card s))

/-- How Cycle Control answers a committed debit (R96). -/
inductive CommitAnswer where
  | start (answer : StartAnswer)
  | topUp (added : Bool)
deriving DecidableEq, Repr

/-- A debit commits: the Charge Unit counts it, Cycle Control settles it, and PAYMENT is raised (R96). -/
def commitDebit (d : DebitCopy) (s : State) : State × CommitAnswer :=
  let s := countCharged d.amount s
  match d.kind with
  | .start =>
    let r := commitStart d.machine s
    (raise .payment r.1, .start r.2)
  | .topUp =>
    let r := commitTopUp d.machine d.card d.amount s
    (raise .payment r.1, .topUp r.2)

/-- What the display shows for a verify that matched (R96). -/
def commitMessage (x : Station) (answer : CommitAnswer) : Message :=
  let small := (x.target.map addrNum).getD 0
  match answer with
  | .start .started => { plainMessage msgPaid with
      small := small, minutes := x.minutes, first := x.amount, second := x.expectedPair.value }
  | .start (.closed .room) => plainMessage msgHalted
  | .start (.closed .user) => { plainMessage msgOutOfOrder with small := small }
  | .start (.closed .machine) => { plainMessage msgOutOfOrder with small := small }
  | .start (.closed .operator) => { plainMessage msgOutOfOrder with small := small }
  | .topUp true => { plainMessage msgTimeAdded with
      small := small, minutes := x.minutes, first := x.amount, second := x.expectedPair.value }
  | .topUp false => { plainMessage msgNotDrying with small := small }

/-- The debit in a record is ended by the written slot that matched: the slot is current with the expected pair, the
commit is reported and shown, and the record settles (R96). -/
def landDebit (i : StationId) (d : DebitCopy) (s : State) : State :=
  let s := modifyStation i (fun x => { x with slot := x.writing, pair := x.expectedPair }) (s.setDebitCopy i none)
  let r := commitDebit d s
  settleRecord i (display i (commitMessage (r.1.station i) r.2) r.1)

/-! ## Doubts -/

/-- The head of a full doubt list is ended as unresolved (R99, R100). -/
def evictDoubt (s : State) : State :=
  if s.doubts.length < Config.doubtRecords then s
  else match s.doubts with
    | [] => s
    | d :: rest => raise .payment (debitUnresolved d.debit { s with doubts := rest })

/-- A DEBIT doubt is made at the tail of the list, with the deadline of the doubt window in force; the retained copy of
the debit goes (R99). -/
def makeDoubt (i : StationId) (d : DebitCopy) (s : State) : State :=
  let s := evictDoubt (s.setDebitCopy i none)
  raise .payment { s with doubts := s.doubts ++ [{ debit := d, deadline := s.now + s.params.doubtWindow }] }

/-- The deadline of the doubt of a card is reached (R100). -/
def doubtTimeout (card : Nat) (s : State) : State :=
  match s.doubts.find? (fun d => d.debit.card == card && decide (d.deadline ≤ s.now)) with
  | none => s
  | some d => raise .payment (debitUnresolved d.debit { s with
      doubts := s.doubts.eraseP (fun d => d.debit.card == card && decide (d.deadline ≤ s.now)) })

/-! ## Ends of a write -/

/-- What the record does when its write has not been begun and never will be: a clean failure on attempt 1, a doubt or a
torn credit on attempt 2 (R87, R91, R94). -/
def dropWrite (i : StationId) (s : State) : State :=
  let x := s.station i
  match x.request, copyOf x with
  | some .credit, _ =>
    let card := x.card.getD 0
    if x.attempt = 1 then creditFailed card s else raise .payment (creditTorn card s)
  | some _, some d =>
    if x.attempt = 1 then abandonDebit d.kind d.machine d.card (s.setDebitCopy i none) else makeDoubt i d s
  | _, _ => s

/-- The record loses sight of a write that has begun: a doubt, or a torn credit (R87, R91, R95). -/
def loseWrite (i : StationId) (s : State) : State :=
  let x := s.station i
  match x.request, copyOf x with
  | some .credit, _ => raise .payment (creditTorn (x.card.getD 0) s)
  | some _, some d => makeDoubt i d s
  | _, _ => s

/-- The message of a write not begun, by its attempt: the first is a clean failure (R87, R91, R94). -/
def dropMessage (x : Station) (clean : Nat) : Nat := if x.attempt = 1 then clean else msgReinsert

/-! ## Insertion -/

/-- An insertion is refused: the record is EMPTY and waits for the card to be withdrawn (R86). -/
def refuseCard (i : StationId) (code : Nat) (s : State) : State := endCard i true code s

/-- The message of a doubt resolved at insertion (R88). -/
def doubtMessage (code : Nat) (d : DebitCopy) : Message :=
  { plainMessage code with small := addrNum d.machine, first := d.amount }

/-- The DEBIT doubt of an inserted card is resolved by its current pair (R88). -/
def resolveDoubt (i : StationId) (pair : Pair) (d : DebitCopy) (s : State) : State :=
  if pair = d.expectedPair then display i (doubtMessage msgPaymentSettled d) (commitDebit d s).1
  else if pair = d.oldPair then
    display i (doubtMessage msgPaymentVoid d) (raise .payment (abandonDebit d.kind d.machine d.card s))
  else display i (doubtMessage msgPaymentUnresolved d) (raise .payment (debitUnresolved d s))

/-- The doubts of an inserted card leave the list and are resolved; there is at most one (R88, R101). -/
def resolveDoubts (i : StationId) (card : Nat) (pair : Pair) (s : State) : State :=
  match s.doubts.find? (fun d => d.debit.card == card) with
  | none => s
  | some d => resolveDoubt i pair d.debit { s with doubts := s.doubts.eraseP (fun d => d.debit.card == card) }

/-- What the table holds for a card, for a REFUNDED message (R78). -/
def stillHeld (card : Nat) (s : State) : Nat := ((s.refund card).map (·.amount)).getD 0

/-- An IN_DOUBT refund entry of an inserted card is resolved by its current pair (R89). -/
def resolveCredit (i : StationId) (card : Nat) (pair : Pair) (s : State) : State :=
  match s.refund card with
  | none => s
  | some e =>
    match e.state, e.pairs with
    | .inDoubt, some (old, expected) =>
      if pair = expected then
        let credit := creditCarried e
        let s := creditLanded card credit s
        display i { plainMessage msgRefunded with first := credit, second := pair.value, third := stillHeld card s } s
      else if pair = old then creditVoid card s
      else creditSuspect card s
    | _, _ => s

/-- A card is accepted: it enters the record, what waits for it is settled, and the record settles into the ready state
(R86). -/
def acceptCard (i : StationId) (card : Nat) (slot : Slot) (pair : Pair) (s : State) : State :=
  let s := modifyStation i (fun x => { x with card := some card, slot := some slot, pair := pair, balanceDue := true }) s
  settleRecord i (resolveCredit i card pair (resolveDoubts i card pair s))

/-- Whether an id read from a card is a card id (3.1). -/
def validCard (card : Nat) : Bool := card != 0 && card != 4294967295

/-- The insertion read has completed with the 32 bytes of the header and the slots (R82, R86). -/
def decideCard (i : StationId) (bytes : List Byte) (s : State) : State :=
  let card := at4 bytes 0
  if at2 bytes 4 ≠ s.params.issuer then refuseCard i msgForeignCard s
  else if !validCard card then refuseCard i msgCardError s
  else if holdsCard card (s.station (otherStation i)) then refuseCard i msgCardBusy s
  else match currentSlot (slice bytes 16 8) (slice bytes 24 8) with
    | none => refuseCard i msgCardError s
    | some (slot, pair) => acceptCard i card slot pair s

/-- The record of a station with its card moves to READING, when cards can be read (R84, R85). -/
def beginReading (i : StationId) (s : State) : State :=
  let x := s.station i
  if x.state = .empty ∧ ¬ x.awaitingRemoval ∧ x.switchClosed ∧ s.mode = .operating then
    s.setStation i { x with state := .reading }
  else s

/-- The card-present switch closes (R84, R85). -/
def insertCard (i : StationId) (s : State) : State :=
  if (s.station i).switchClosed then s
  else
    let s := modifyStation i (fun x => { x with switchClosed := true }) s
    if s.mode = .configFault ∧ (s.station i).state = .empty ∧ ¬ (s.station i).awaitingRemoval then
      display i (plainMessage msgOutOfOrder) s
    else beginReading i s

/-- The card-present switch opens (R87). -/
def removeCard (i : StationId) (s : State) : State :=
  let s := modifyStation i (fun x => { x with switchClosed := false }) s
  let x := s.station i
  match x.state with
  | .empty | .reading | .cardReady => modifyStation i (emptied false) s
  | .debiting | .crediting =>
    if x.begun then endCard i false msgReinsert (loseWrite i s)
    else endCard i false (dropMessage x msgNoCard) (dropWrite i s)
  | .verifying => endCard i false msgReinsert (loseWrite i s)

/-- The insertion read fails (R85). A completion that finds no READING record is discarded (R87). -/
def readFails (i : StationId) (s : State) : State :=
  if (s.station i).state = .reading then refuseCard i msgCardError s else s

/-- The insertion read completes (R86). -/
def readCompletes (i : StationId) (bytes : List Byte) (s : State) : State :=
  if (s.station i).state = .reading then decideCard i bytes s else s

/-- The insertion read ends, with the bytes read or with none when it failed (R80, R85, R86). -/
def readEnds (i : StationId) (bytes : Option (List Byte)) (s : State) : State :=
  match bytes with
  | none => readFails i s
  | some bs => readCompletes i bs s

/-! ## The write and its verify -/

/-- Whether a record is writing a card. -/
def writingCard (x : Station) : Bool := decide (x.state = .debiting) || decide (x.state = .crediting)

/-- The retained copy is kept once the write of a debit has begun (R99). -/
def keepCopy (i : StationId) (s : State) : State :=
  let x := s.station i
  if x.state = .debiting then s.setDebitCopy i (copyOf x) else s

/-- The card acknowledges the device byte of the write (R91, R94). -/
def writeBegins (i : StationId) (s : State) : State :=
  if writingCard (s.station i) then modifyStation i (fun x => { x with begun := true }) (keepCopy i s) else s

/-- The write ends (R81, R91, R94). A write that has begun cannot end as not begun, and such an outcome is discarded. -/
def writeEnds (i : StationId) (outcome : WriteOutcome) (s : State) : State :=
  let x := s.station i
  if !writingCard x then s
  else match outcome with
    | .notBegun => if x.begun then s else endCard i true (dropMessage x msgCardError) (dropWrite i s)
    | .completed | .faulted => modifyStation i (fun x => { x with state := .verifying, begun := true }) (keepCopy i s)

/-- What the part asks of the card of a station: the 32 bytes of the header and the slots in READING, the write of one whole
slot in DEBITING and CREDITING, and the eight bytes of that slot in VERIFYING (R80, R81, R85, R91, R94). Each state is
entered once for each access, so an access begins where its state does. -/
def cardAccess (x : Station) : Option LinkAccess :=
  match x.state with
  | .empty | .cardReady => none
  | .reading => some (.read 0 32)
  | .debiting | .crediting => x.writing.map (fun w => .write (slotOffset w) (writtenBytes x))
  | .verifying => x.writing.map (fun w => .read (slotOffset w) 8)

/-- What goes over the card link of a station while the card answers as listed (R79 to R81). -/
def cardTraffic (x : Station) (answers : LinkAnswers) : List LinkSymbol :=
  match cardAccess x with
  | none => []
  | some access => linkTraffic purseCard access answers

/-- The state a record writes in, by its request. -/
def writingState (x : Station) : StationState := if x.request = some .credit then .crediting else .debiting

/-- The first mismatch: the same bytes are written to the same slot once more (R95). -/
def rewrite (i : StationId) (s : State) : State :=
  modifyStation i (fun x => { x with state := writingState x, attempt := 2, begun := false }) s

/-- The credit in a record has landed: the written slot is current, the entry is settled and REFUNDED shown, and the
record settles (R91, R116). -/
def landCredit (i : StationId) (s : State) : State :=
  let x := s.station i
  let card := x.card.getD 0
  let s := s.setStation i { x with slot := x.writing, pair := x.expectedPair }
  let s := raise .payment (creditLanded card x.amount s)
  settleRecord i (display i { plainMessage msgRefunded with
    first := x.amount, second := x.expectedPair.value, third := stillHeld card s } s)

/-- Whether the slot read back after the second attempt is valid and later than the old slot (R95). -/
def laterSlot (x : Station) (bytes : List Byte) : Bool :=
  slotValid bytes && laterThan (slotPair bytes).sequence x.oldPair.sequence

/-- A second mismatch of a debit (R95). -/
def secondMismatch (i : StationId) (bytes : List Byte) (s : State) : State :=
  let x := s.station i
  match x.request, copyOf x with
  | some .credit, _ =>
    let card := x.card.getD 0
    if laterSlot x bytes then
      display i { plainMessage msgPaymentUnresolved with first := x.amount }
        (modifyStation i (emptied true) (creditSuspect card s))
    else endCard i true msgCardError (creditFailed card s)
  | some _, some d =>
    if laterSlot x bytes then
      display i (doubtMessage msgPaymentUnresolved d)
        (modifyStation i (emptied true) (debitUnresolved d (s.setDebitCopy i none)))
    else endCard i true msgCardError (abandonDebit d.kind d.machine d.card (s.setDebitCopy i none))
  | _, _ => s

/-- The verify read ends: the bytes read back, or none when the read failed with the card present (R91, R95). -/
def verifyEnds (i : StationId) (bytes : Option (List Byte)) (s : State) : State :=
  let x := s.station i
  if x.state ≠ .verifying then s
  else match bytes with
    | none => endCard i true msgReinsert (loseWrite i s)
    | some bs =>
      if bs = writtenBytes x then
        match x.request, copyOf x with
        | some .credit, _ => landCredit i s
        | some _, some d => landDebit i d s
        | _, _ => s
      else if x.attempt = 1 then rewrite i s
      else secondMismatch i bs s

/-! ## Panel requests -/

/-- A request of a panel is answered BUSY while the autoload runs and OUT_OF_ORDER in the CONFIG_FAULT mode (R84). -/
def inService (i : StationId) (small : Nat) (decide : State → State) (s : State) : State :=
  match s.mode with
  | .loading => display i (plainMessage msgBusy) s
  | .configFault => display i { plainMessage msgOutOfOrder with small := small } s
  | .operating => decide s

/-- The message for a record that is not CARD_READY (R92). -/
def notReady (x : Station) : Nat := if busyStation x then msgBusy else msgNoCard

/-- A debit of a purchase is prepared and the record goes to DEBITING (R93). -/
def beginDebit (i : StationId) (a : Addr) (request : CardRequest) (p : Purchase) (s : State) : State :=
  modifyStation i (fun x => { x with
    state := .debiting, request := some request, target := some a, amount := p.charge, seconds := p.seconds,
    minutes := p.minutes, writing := x.slot.map otherSlot, oldPair := x.pair,
    expectedPair := { sequence := nextSequence x.pair.sequence, value := x.pair.value - p.charge }, attempt := 1,
    begun := false }) s

/-- The tests of the card's value against a charge, or the purchase (R92, R97). -/
def affordable (x : Station) (p : Purchase) (s : State) : Except Message Purchase :=
  if x.pair.value < p.charge then
    .error { plainMessage msgNoFunds with first := p.charge, second := x.pair.value }
  else if s.params.ceiling < x.pair.value - p.charge then
    .error { plainMessage msgOverCeiling with first := x.pair.value - p.charge, second := s.params.ceiling }
  else .ok p

/-- The machine test of a PAY: none when it passes (R92). A machine that is IDLE, or HELD for another card, and that still has
a payment present meets two messages of R92; the one of its state is shown, the model's choice (log entry 55). -/
def machineTest (card : Nat) (m : MachineRecord) : Option Nat :=
  match m.state with
  | .selected => if m.payment.isSome then some msgMachineBusy else none
  | .held =>
    if m.hold.map (·.card) ≠ some card then some msgHeldForOther
    else if m.payment.isSome then some msgMachineBusy else none
  | .idle => if doorClosed m.door then some msgSelectProgram else some msgDoorOpen
  | .absent | .paying | .running | .stopping | .finished | .testing | .service | .outOfService => some msgMachineBusy

/-- The tests of a PAY after the address, in order: the message of the first that fails, or the purchase (R92). -/
def payTests (x : Station) (a : Addr) (steps : Nat) (s : State) : Except Message Purchase :=
  let m := s.machine a
  let about (code : Nat) : Message := { plainMessage code with small := addrNum a }
  match machineTest (x.card.getD 0) m with
  | some code => .error (about code)
  | none =>
    if m.lock ≠ .none ∨ m.lockPending then .error (about msgOutOfOrder)
    else if !doorClosed m.door then .error (about msgDoorOpen)
    else if (selectedPlan a s).isNone then .error (about msgSelectProgram)
    else match startPurchase (s.classOf a) (m.selection.getD 0) steps s with
      | none => .error (about msgCap)
      | some p => affordable x p s

/-- The address a PAY or ADD_TIME names, when it is 1 to 24, configured and not ABSENT (R92, R97). -/
def namedMachine (target : Nat) (s : State) : Option Addr :=
  match addr? target with
  | none => none
  | some a => if s.configured a ∧ (s.machine a).state ≠ .absent then some a else none

/-- The message of a begin that Cycle Control refuses (R92). -/
def refusalMessage : BeginRefusal → Nat
  | .halted => msgHalted
  | .quiet => msgQuiet
  | .notPresent => msgOutOfOrder
  | .locked => msgOutOfOrder
  | .heldOther => msgHeldForOther
  | .state => msgMachineBusy
  | .noProgram => msgSelectProgram
  | .door => msgDoorOpen

/-- Whether a refusal's message carries the machine (R78). -/
def refusalNamesMachine : BeginRefusal → Bool
  | .halted => false
  | .quiet => false
  | .notPresent | .locked | .heldOther | .state | .noProgram | .door => true

/-- A PAY whose tests have passed: the begin, and then the debit or the commit of a zero charge (R92, R93). -/
def payFor (i : StationId) (a : Addr) (p : Purchase) (s : State) : State :=
  let x := s.station i
  let card := x.card.getD 0
  match beginRefusal a card s with
  | some r =>
    display i { plainMessage (refusalMessage r) with small := if refusalNamesMachine r then addrNum a else 0 } s
  | none =>
    if p.charge = 0 then
      display i { plainMessage msgPaid with small := addrNum a, minutes := p.minutes, second := x.pair.value }
        (raise .payment (beginStart a card p (countCharged 0 s)))
    else beginDebit i a .pay p (beginStart a card p s)

/-- A PAY is decided at the station record in one step (R92). The OUT_OF_ORDER for a target that is no address carries the target
byte as it came, the model's reading (log entry 32). -/
def decidePay (i : StationId) (target steps : Nat) (s : State) : State :=
  let x := s.station i
  if x.state ≠ .cardReady then display i (plainMessage (notReady x)) s
  else if s.halted then display i (plainMessage msgHalted) s
  else if s.band = .quiet then display i (plainMessage msgQuiet) s
  else match namedMachine target s with
    | none => display i { plainMessage msgOutOfOrder with small := target } s
    | some a =>
      match payTests x a steps s with
      | .error m => display i m s
      | .ok p => payFor i a p s

/-- The tests of an ADD_TIME after the address, in order (R97). -/
def addTimeTests (x : Station) (a : Addr) (steps : Nat) (s : State) : Except Message Purchase :=
  let about (code : Nat) : Message := { plainMessage code with small := addrNum a }
  match (s.machine a).cycle with
  | none => .error (about msgNotDrying)
  | some c =>
    if !dryingMachine a s then .error (about msgNotDrying)
    else if some c.payer ≠ x.card then .error (about msgNotPayer)
    else if c.topUp.isSome then .error (about msgMachineBusy)
    else match (s.dryProfile c.program).bind (fun p => dryerTopUp p c.remaining c.paidTotal steps s.discount) with
      | none => .error (about msgCap)
      | some p => affordable x p s

/-- The message of a top-up that Cycle Control refuses (R97). -/
def topUpMessage : TopUpRefusal → Nat
  | .state => msgNotDrying
  | .notPayer => msgNotPayer

/-- A request that is refused at a CARD_READY record shows its message, and the record settles again, so that a READY refund
which a raised ceiling lets be credited is credited then (R90). PAY and BALANCE leave the record CARD_READY, as R92 and R98 say
of them (log entry 54). -/
def refusePanel (i : StationId) (m : Message) (s : State) : State := settleRecord i (display i m s)

/-- An ADD_TIME whose tests have passed: the top-up begins, and the debit starts or a zero charge commits (R97). -/
def addTimeFor (i : StationId) (a : Addr) (p : Purchase) (s : State) : State :=
  let x := s.station i
  let card := x.card.getD 0
  match topUpRefusal a card s with
  | some r => refusePanel i { plainMessage (topUpMessage r) with small := addrNum a } s
  | none =>
    let s := beginTopUp a { card := card, amount := p.charge, seconds := p.seconds } s
    if p.charge = 0 then
      let s := raise .payment (commitTopUp a card 0 (countCharged 0 s)).1
      settleRecord i (display i { plainMessage msgTimeAdded with
        small := addrNum a, minutes := p.minutes, second := x.pair.value } s)
    else beginDebit i a .addTime p s

/-- An ADD_TIME is decided at the station record in one step (R97). A refused one leaves the card accepted, and the record
settles (R90). The OUT_OF_ORDER for a target that is no address carries the target byte as it came, the model's reading (log
entry 32). -/
def decideAddTime (i : StationId) (target steps : Nat) (s : State) : State :=
  let x := s.station i
  if x.state ≠ .cardReady then display i (plainMessage (notReady x)) s
  else match namedMachine target s with
    | none => refusePanel i { plainMessage msgOutOfOrder with small := target } s
    | some a =>
      match addTimeTests x a steps s with
      | .error m => refusePanel i m s
      | .ok p => addTimeFor i a p s

/-- Whether a machine of a class is free for the QUEUE test (R127). -/
def freeMachine (c : MachineClass) (s : State) (a : Addr) : Bool :=
  let m := s.machine a
  s.configured a && decide (s.classOf a = c) && (decide (m.state = .idle) || decide (m.state = .selected)) &&
    decide (m.lock = .none) && !m.lockPending

/-- A new entry of a claim queue (R127). -/
def newClaim (card now : Nat) : ClaimEntry := { card := card, joined := now, hold := none, paying := false }

/-- A QUEUE is decided in one step. One that makes an entry leaves the record CARD_READY and the card unwritten (R127); a
refused one leaves the card accepted, and the record settles (R90, log entry 54). -/
def decideQueue (i : StationId) (c : MachineClass) (s : State) : State :=
  let x := s.station i
  let card := x.card.getD 0
  let about (code : Nat) : Message := { plainMessage code with first := classCode c }
  if x.state ≠ .cardReady then display i (plainMessage (notReady x)) s
  else if !s.halted && allAddrs.any (freeMachine c s) then refusePanel i (about msgMachineFree) s
  else if (s.queue c).entries.any (fun e => e.card == card) then refusePanel i (about msgAlreadyQueued) s
  else if Config.queueEntries ≤ (s.queue c).entries.length then refusePanel i (about msgQueueFull) s
  else
    let s := changeQueue c (fun q => { q with entries := q.entries ++ [newClaim card s.now] }) s
    display i { about msgQueued with small := (s.queue c).entries.length } s

/-- A BALANCE is decided in one step (R98). -/
def decideBalance (i : StationId) (s : State) : State :=
  let x := s.station i
  if x.state = .cardReady then
    display i { plainMessage msgBalance with first := x.pair.value, second := heldReady (x.card.getD 0) s } s
  else display i (plainMessage (notReady x)) s

/-! ## Panel messages -/

/-- The bytes of a panel message gathered so far are discarded (R77). -/
def clearPanel (i : StationId) (s : State) : State := modifyStation i (fun x => { x with gathered := [] }) s

/-- A message that is no request is answered REQUEST_ERROR (R77). -/
def panelError (i : StationId) (s : State) : State := display i (plainMessage msgRequestError) s

/-- A PAY message is taken (R77, R84). -/
def takePay (i : StationId) (target steps : Nat) (s : State) : State := inService i target (decidePay i target steps) s

/-- An ADD_TIME message is taken (R77, R84). -/
def takeAddTime (i : StationId) (target steps : Nat) (s : State) : State := inService i target (decideAddTime i target steps) s

/-- A QUEUE message is taken; a class that is neither of the two is a REQUEST_ERROR (R77, R84). -/
def takeQueue (i : StationId) (cls : Nat) (s : State) : State :=
  match Sys2Proof.Machine.classOf cls with
  | none => panelError i s
  | some c => inService i 0 (decideQueue i c) s

/-- A BALANCE message is taken (R77, R84). -/
def takeBalance (i : StationId) (s : State) : State := inService i 0 (decideBalance i) s

/-- The fifth byte of a panel message has arrived (R77). -/
def takePanel (i : StationId) (bs : List Byte) (s : State) : State :=
  if !panelCheckOk bs then panelError i s
  else if at1 bs 1 = 1 then takePay i (at1 bs 2) (at1 bs 3) s
  else if at1 bs 1 = 2 then takeAddTime i (at1 bs 2) (at1 bs 3) s
  else if at1 bs 1 = 3 then takeQueue i (at1 bs 2) s
  else if at1 bs 1 = 4 then takeBalance i s
  else panelError i s

/-- A byte arrives on a request line (R77). -/
def panelByte (i : StationId) (b : Byte) (s : State) : State :=
  let got := (s.station i).gathered
  if got = [] ∧ b ≠ 0x6B then s
  else if got.length + 1 < 5 then modifyStation i (fun x => { x with gathered := x.gathered ++ [b] }) s
  else takePanel i (got ++ [b]) (clearPanel i s)

end Sys2Proof.Machine
end

