-- ==== Sys2Proof/Machine/ImageOps.lean ====
section
/-! DEFINITION. The configuration image: its records and their bytes, the ranges of their fields, the judging of an
image and its laying out (9.2, R170, R175). -/

namespace Sys2Proof.Machine

/-! ## Ranges (9.2) -/

/-- The room parameters brought into their ranges (R172). -/
def Params.clamp (p : Params) : Params := {
  issuer := p.issuer, ceiling := clampTo 100 50000 p.ceiling, holdWindow := clampTo 60 1800 p.holdWindow,
  doubtWindow := clampTo 30 600 p.doubtWindow, grantWait := clampTo 60 3600 p.grantWait,
  doorPause := clampTo 30 900 p.doorPause, threshold := clampTo 1 15 p.threshold,
  defaultElectric := clampTo 10 600 p.defaultElectric, defaultWater := clampTo 0 120 p.defaultWater,
  electricWasher := clampTo 0 600 p.electricWasher, electricDryer := clampTo 0 600 p.electricDryer,
  waterWasher := clampTo 0 120 p.waterWasher, discount := clampTo 0 50 p.discount }

/-- Ratings brought into their ranges (R174). -/
def Ratings.clamp (r : Ratings) : Ratings :=
  { motor := min r.motor 20, spin := min r.spin 40, heater := min r.heater 80, fill := min r.fill 20 }

/-- The numbers of a washer's phase entry brought into their ranges (R173). -/
def PlanEntry.clamp (e : PlanEntry) : PlanEntry :=
  { e with limit := clampTo 10 7200 e.limit, lu := min e.lu 80, fu := min e.fu 20, weight := min e.weight 100 }

/-- The numbers of a washer profile brought into their ranges (R173). -/
def WashProfile.clamp (p : WashProfile) : WashProfile :=
  { price := min p.price 5000, plan := p.plan.map PlanEntry.clamp }

/-- The numbers of a dryer profile brought into their ranges (R105, R173). -/
def DryProfile.clamp (p : DryProfile) : DryProfile := {
  dryLu := min p.dryLu 80, coolSeconds := clampTo 10 7200 p.coolSeconds, stepMinutes := clampTo 1 30 p.stepMinutes,
  stepPrice := min p.stepPrice 500, maxMinutes := clampTo 10 180 p.maxMinutes }

/-- Whether a washer's phase entry keeps the rule on its kind and demands (9.2). -/
def entryRule (e : PlanEntry) : Bool :=
  decide (e.kind ≠ .dry) && decide (e.kind ≠ .cool) && (e.fu == 0 || (decide (e.kind = .fill) && e.lu == 0))

/-- Whether a washer profile keeps the rules that no clamping mends (9.2, R173). -/
def profileRule (p : WashProfile) : Bool :=
  1 ≤ p.plan.length && p.plan.length ≤ 12 && p.plan.all entryRule && decide (1 ≤ weightSum p.plan)

/-! ## Payloads of the records -/

/-- The 22 bytes of a ROOM payload. -/
def paramsBytes (p : Params) : List Byte :=
  be2 p.issuer ++ be2 p.ceiling ++ be2 p.holdWindow ++ be2 p.doubtWindow ++ be2 p.grantWait ++ be2 p.doorPause
    ++ be1 p.threshold ++ be2 p.defaultElectric ++ be1 p.defaultWater ++ be2 p.electricWasher ++ be2 p.electricDryer
    ++ be1 p.waterWasher ++ be1 p.discount

/-- The room parameters of a ROOM payload, as they stand there. -/
def readParams (bs : List Byte) : Params := {
  issuer := at2 bs 0, ceiling := at2 bs 2, holdWindow := at2 bs 4, doubtWindow := at2 bs 6, grantWait := at2 bs 8,
  doorPause := at2 bs 10, threshold := at1 bs 12, defaultElectric := at2 bs 13, defaultWater := at1 bs 15,
  electricWasher := at2 bs 16, electricDryer := at2 bs 18, waterWasher := at1 bs 20, discount := at1 bs 21 }

/-- The four rating bytes. -/
def ratingsBytes (r : Ratings) : List Byte := be1 r.motor ++ be1 r.spin ++ be1 r.heater ++ be1 r.fill

/-- The ratings that stand at a place of a payload. -/
def readRatings (bs : List Byte) (i : Nat) : Ratings :=
  { motor := at1 bs i, spin := at1 bs (i + 1), heater := at1 bs (i + 2), fill := at1 bs (i + 3) }

/-- The seven bytes of a phase entry. -/
def entryBytes (e : PlanEntry) : List Byte :=
  be1 (kindCode e.kind) ++ be2 e.limit ++ be1 e.lu ++ be1 e.fu ++ be1 e.weight ++ be1 (bit e.suspendable)

/-- The phase entry at a place of a payload; none for a kind outside 1 to 9 or a suspendable byte above 1. -/
def readEntry (bs : List Byte) (i : Nat) : Option PlanEntry :=
  match kindOf (at1 bs i) with
  | none => none
  | some k =>
    if at1 bs (i + 6) ≤ 1 then some {
      kind := k, limit := at2 bs (i + 1), lu := at1 bs (i + 3), fu := at1 bs (i + 4), weight := at1 bs (i + 5),
      suspendable := at1 bs (i + 6) == 1 }
    else none

/-- The phase entries of a payload, `n` of them from a place. -/
def readEntries (bs : List Byte) : Nat → Nat → Option (List PlanEntry)
  | _, 0 => some []
  | i, n + 1 =>
    match readEntry bs i, readEntries bs (i + 7) n with
    | some e, some es => some (e :: es)
    | _, _ => none

/-- The bytes of a WASH_PROFILE payload. -/
def washBytes (program : Nat) (p : WashProfile) : List Byte :=
  be1 program ++ be2 p.price ++ be1 p.plan.length ++ p.plan.flatMap entryBytes

/-- The washer profile of a WASH_PROFILE payload, as it stands there. -/
def readWash (bs : List Byte) : Option WashProfile :=
  (readEntries bs 4 (at1 bs 3)).map (fun plan => { price := at2 bs 1, plan := plan })

/-- The 8 bytes of a DRY_PROFILE payload. -/
def dryBytes (program : Nat) (p : DryProfile) : List Byte :=
  be1 program ++ be1 p.dryLu ++ be2 p.coolSeconds ++ be1 p.stepMinutes ++ be2 p.stepPrice ++ be1 p.maxMinutes

/-- The dryer profile of a DRY_PROFILE payload, as it stands there. -/
def readDry (bs : List Byte) : DryProfile := {
  dryLu := at1 bs 1, coolSeconds := at2 bs 2, stepMinutes := at1 bs 4, stepPrice := at2 bs 5, maxMinutes := at1 bs 7 }

/-! ## Records -/

/-- A record of an image: its kind and payload. -/
structure RawRecord where
  kind : Nat
  payload : List Byte
deriving DecidableEq, Repr

/-- Whether a record that stands before the END record's place has one of the kinds of 9.2 and the byte count that matches it
(R170). R170 does not name an END record (kind 0xFF, count 0) that stands before its own place among the failures: the model
counts it as one, and the image fails BAD_RECORD, its own choice (log entry 82). -/
def countOk (kind count : Nat) (payload : List Byte) : Bool :=
  if kind = 0x01 then count == 22
  else if kind = 0x02 then count == 7
  else if kind = 0x03 then decide (4 ≤ count) && count == 4 + 7 * at1 payload 3
  else if kind = 0x04 then count == 8
  else false

/-- The records that fill the bytes before the END record's place, or none when they do not (R170; an END record among them is
log entry 82). -/
def splitRecords : Nat → List Byte → Option (List RawRecord)
  | 0, bs => if bs = [] then some [] else none
  | fuel + 1, bs =>
    if bs = [] then some []
    else
      let kind := at1 bs 0
      let count := at1 bs 1
      let payload := slice bs 2 count
      if 2 ≤ bs.length ∧ payload.length = count ∧ countOk kind count payload then
        (splitRecords fuel (bs.drop (2 + count))).map (fun rs => { kind := kind, payload := payload } :: rs)
      else none

/-- A record of an image, read. -/
inductive ImageRecord where
  | room (p : Params)
  | machine (a : Addr) (e : RosterEntry) (locked : Bool)
  | wash (program : Nat) (p : WashProfile)
  | dry (program : Nat) (p : DryProfile)
deriving DecidableEq, Repr

/-- The room record of a payload whose fields are all in range; nothing is clamped at load (R170). -/
def loadRoom (bs : List Byte) : Option ImageRecord :=
  if (readParams bs).clamp = readParams bs then some (.room (readParams bs)) else none

/-- The machine record of a payload (9.2). -/
def loadMachine (bs : List Byte) : Option ImageRecord :=
  match addr? (at1 bs 0), Sys2Proof.Machine.classOf (at1 bs 1) with
  | some a, some c =>
    if (readRatings bs 2).clamp = readRatings bs 2 ∧ at1 bs 6 ≤ 1 then
      some (.machine a { cls := c, ratings := readRatings bs 2 } (at1 bs 6 == 1))
    else none
  | _, _ => none

/-- The washer profile of a payload (9.2). -/
def loadWash (bs : List Byte) : Option ImageRecord :=
  match readWash bs with
  | some p => if at1 bs 0 < Config.programs ∧ profileRule p ∧ p.clamp = p then some (.wash (at1 bs 0) p) else none
  | none => none

/-- The dryer profile of a payload (9.2). -/
def loadDry (bs : List Byte) : Option ImageRecord :=
  if at1 bs 0 < Config.programs ∧ (readDry bs).clamp = readDry bs then some (.dry (at1 bs 0) (readDry bs)) else none

/-- A record read with its fields in range, or none (R170). -/
def loadRecord (r : RawRecord) : Option ImageRecord :=
  if r.kind = 0x01 then loadRoom r.payload
  else if r.kind = 0x02 then loadMachine r.payload
  else if r.kind = 0x03 then loadWash r.payload
  else loadDry r.payload

/-- All the records read, or none when a field of one is out of range. -/
def loadRecords : List RawRecord → Option (List ImageRecord)
  | [] => some []
  | r :: rs =>
    match loadRecord r, loadRecords rs with
    | some x, some xs => some (x :: xs)
    | _, _ => none

/-- Whether two records may not stand in one image (R170). -/
def sameKey : ImageRecord → ImageRecord → Bool
  | .room _, .room _ => true
  | .machine a _ _, .machine b _ _ => a == b
  | .wash m _, .wash n _ => m == n
  | .dry m _, .dry n _ => m == n
  | _, _ => false

/-- Whether two records of a list have one key. -/
def anyDuplicate : List ImageRecord → Bool
  | [] => false
  | r :: rs => rs.any (sameKey r) || anyDuplicate rs

/-! ## Judging an image -/

/-- Whether a record is the ROOM record. -/
def isRoom : ImageRecord → Bool
  | .room _ => true
  | .machine _ _ _ => false
  | .wash _ _ => false
  | .dry _ _ => false

/-- The records of the body of an image, judged in the order of the table of R170 (log entry 18). -/
def judgeBody (body : List Byte) : Except FaultReason (List ImageRecord) :=
  match splitRecords body.length body with
  | none => .error .badRecord
  | some raw =>
    match loadRecords raw with
    | none => .error .badField
    | some rs =>
      if anyDuplicate rs then .error .duplicate
      else if !rs.any isRoom then .error .noRoomRecord
      else .ok rs

/-- An image is judged, stopping at the first failure; a read that gives fewer bytes than asked has failed (R170). -/
def judge (bs : List Byte) : Except FaultReason (List ImageRecord) :=
  let n := at2 bs 2
  if bs.length < 4 then .error .noMemory
  else if at1 bs 0 ≠ 0x57 ∨ at1 bs 1 ≠ 0x4C then .error .badMarker
  else if n < 12 ∨ 8192 < n then .error .badLength
  else if bs.length < n then .error .noMemory
  else if at2 bs (n - 2) ≠ byteSum (bs.take (n - 2)) % 65536 then .error .badCheck
  else if at1 bs (n - 4) ≠ 0xFF ∨ at1 bs (n - 3) ≠ 0 then .error .badRecord
  else judgeBody (slice bs 4 (n - 8))

/-- The tables with a record applied (R170). -/
def applyRecord (t : Tables) : ImageRecord → Tables
  | .room p => { t with params := p }
  | .machine a e _ => { t with roster := t.roster.set a.val (some e) a.isLt }
  | .wash n p => { t with wash := t.wash.setIfInBounds n (some p) }
  | .dry n p => { t with dry := t.dry.setIfInBounds n (some p) }

/-- The tables of an image (R170). -/
def tablesOf (rs : List ImageRecord) : Tables := rs.foldl applyRecord .initial

/-- The locks of an image (R146, R170). -/
def applyLocks (ms : Vector MachineRecord Config.addresses) : List ImageRecord → Vector MachineRecord Config.addresses
  | [] => ms
  | .machine a _ locked :: rs =>
    applyLocks (ms.set a.val { ms[a] with lock := if locked then .locked else .none } a.isLt) rs
  | .room _ :: rs => applyLocks ms rs
  | .wash _ _ :: rs => applyLocks ms rs
  | .dry _ _ :: rs => applyLocks ms rs

/-! ## Laying out an image -/

/-- A record as it stands in an image. -/
def recordBytes (kind : Nat) (payload : List Byte) : List Byte := be1 kind ++ be1 payload.length ++ payload

/-- The MACHINE record of an address, its locked flag from the lock as it stands (R146, R175). -/
def machineRecordBytes (s : State) (a : Addr) : List Byte :=
  match s.tables.roster[a] with
  | none => []
  | some e =>
    recordBytes 0x02 (be1 (addrNum a) ++ be1 (classCode e.cls) ++ ratingsBytes e.ratings
      ++ be1 (bit (decide ((s.machine a).lock ≠ .none))))

/-- The WASH_PROFILE record of a program. -/
def washRecordBytes (t : Tables) (n : Fin Config.programs) : List Byte :=
  match t.wash[n] with
  | none => []
  | some p => recordBytes 0x03 (washBytes n p)

/-- The DRY_PROFILE record of a program. -/
def dryRecordBytes (t : Tables) (n : Fin Config.programs) : List Byte :=
  match t.dry[n] with
  | none => []
  | some p => recordBytes 0x04 (dryBytes n p)

/-- The records of the loader's tables in the order of R175, with the END record. -/
def layoutBody (s : State) : List Byte :=
  recordBytes 0x01 (paramsBytes s.tables.params) ++ allAddrs.flatMap (machineRecordBytes s)
    ++ (List.finRange Config.programs).flatMap (washRecordBytes s.tables)
    ++ (List.finRange Config.programs).flatMap (dryRecordBytes s.tables) ++ [0xFF, 0x00]

/-- The image of the loader's tables but for its check, with the marker in place. -/
def layout (s : State) : List Byte :=
  let body := layoutBody s
  [0x57, 0x4C] ++ be2 (body.length + 6) ++ body

/-- The image after some of its pages have been laid out: what follows them is laid out now, and the check closes it. -/
def layoutAfter (done : List Byte) (s : State) : List Byte :=
  let rest := layout s
  let whole := done.take rest.length ++ rest.drop done.length
  whole ++ be2 (byteSum whole)

/-- The image bytes laid out with page `page` added to those before it (R175). -/
def layPage (page : Nat) (done : List Byte) (s : State) : List Byte := (layoutAfter done s).take (32 * (page + 1))

/-- The length of the image of the loader's tables. -/
def imageLength (s : State) : Nat := (layout s).length + 2

/-- An image as it is written while its marker is cleared (R175). -/
def unmarked (image : List Byte) : List Byte := [0x00, 0x00] ++ image.drop 2

end Sys2Proof.Machine
end

