-- ==== Sys2Proof/Machine/LoaderOps.lean ====
section
/-! DEFINITION. The Configuration Loader: the autoload, the store, and the requests that change its tables (R105, R170
to R175). -/

namespace Sys2Proof.Machine

/-- What an owner answers to a request: the state after it, the status and the payload of the reply (R160). -/
structure Decision where
  state : State
  status : Status
  payload : List Byte
deriving DecidableEq, Repr

/-- A refusal: nothing changes and the reply has no payload (R161). -/
def refuse (status : Status) (s : State) : Decision := { state := s, status := status, payload := [] }

/-- A request done, with the payload of its reply. -/
def done (payload : List Byte) (s : State) : Decision := { state := s, status := .ok, payload := payload }

/-- A request whose work goes on (8.2). -/
def accepted (s : State) : Decision := { state := s, status := .accepted, payload := [] }

/-- OK when every value was in range and CLAMPED when any was not; the reply carries the values applied (R161). -/
def applied (inRange : Bool) (payload : List Byte) (s : State) : Decision :=
  { state := s, status := if inRange then .ok else .clamped, payload := payload }

/-! ## The autoload -/

/-- The reserves and the limit a pool starts with under given parameters (R53). -/
def startPool (k : PoolId) (p : Params) (halted : Bool) : Pool :=
  match k with
  | .electric => .starting p.defaultElectric p.electricWasher p.electricDryer halted
  | .water => .starting p.defaultWater p.waterWasher 0 halted

/-- The records of a passing image are applied whole; the mode becomes OPERATING and a card in the contacts is read
(R84, R170). -/
def applyImage (rs : List ImageRecord) (s : State) : State :=
  let t := tablesOf rs
  let s := { s with
    tables := t, machines := applyLocks s.machines rs, electric := startPool .electric t.params s.halted,
    water := startPool .water t.params s.halted, mode := .operating, configReason := none, roundNumber := 0,
    roundsBegun := false, slots := [], slot := none }
  beginReading .b (beginReading .a s)

/-- A failing image applies nothing; the part enters the CONFIG_FAULT mode with the reason (R170, R171). -/
def enterConfigFault (reason : FaultReason) (s : State) : State := { s with mode := .configFault, configReason := some reason }

/-- The autoload ends with the bytes read, or with a read that failed; CONFIG is raised either way (R170). An end that
finds no autoload under way is discarded. -/
def endAutoload (image : Option (List Byte)) (s : State) : State :=
  if s.mode ≠ .loading then s
  else raise .config (match image with
    | none => enterConfigFault .noMemory s
    | some bs =>
      match judge bs with
      | .error reason => enterConfigFault reason s
      | .ok rs => applyImage rs s)

/-! ## The store -/

/-- A store ends with a result (R175). -/
def endStore (result : StoreResult) (s : State) : State := raise .config { s with store := none, lastStore := some result }

/-- A store ends OK; in the CONFIG_FAULT mode an autoload follows at once (R175). -/
def storeDone (s : State) : State :=
  let s := endStore .ok s
  if s.mode = .configFault then { s with mode := .loading } else s

/-- A page of the store has been written: the next one is laid out, or the image is read back (R175). -/
def pageWritten (page : Nat) (image : List Byte) (s : State) : State :=
  if 32 * (page + 1) < imageLength s then
    { s with store := some { step := .writing (page + 1), image := layPage (page + 1) image s } }
  else { s with store := some { step := .readingBack, image := image } }

/-- The bytes of the page that a store writes now, with the marker cleared or in place (R175). -/
def storePageBytes (job : StoreJob) : List Byte :=
  match job.step with
  | .writing page => slice (unmarked job.image) (32 * page) 32
  | .marking => slice job.image 0 32
  | .readingBack => []

/-- Whether the page that a store writes now was written, by the answers of the memory (R169). -/
def pageDone (job : StoreJob) (x : LinkAnswers) : Bool := writeDone configMemory (storePageBytes job).length x

/-- The image has been read back: it is compared with what was written, and the marker is put in place (R175). -/
def imageReadBack (job : StoreJob) (x : ReadAnswers) (s : State) : State :=
  if bytesRead configMemory x = some (unmarked job.image) then { s with store := some { job with step := .marking } }
  else endStore .writeFail s

/-- An access of the store ends, and the answers of the memory say how (R169, R175). A completion that is not of the access
under way is discarded. -/
def storeAccess (access : StoreAccess) (s : State) : State :=
  match s.store with
  | none => s
  | some job =>
    match job.step, access with
    | .writing page, .write x => if pageDone job x then pageWritten page job.image s else endStore .writeFail s
    | .readingBack, .read x => imageReadBack job x s
    | .marking, .write x => if pageDone job x then storeDone s else endStore .writeFail s
    | .writing _, .read _ => s
    | .readingBack, .write _ => s
    | .marking, .read _ => s

/-- What the part asks of the configuration memory: the autoload reads it whole (R170; the number of bytes is the model's
choice, log entry 62), and a store writes its pages, reads the image back and writes the first page again (R175). -/
def configAccess (s : State) : Option LinkAccess :=
  match s.mode, s.store with
  | .loading, _ => some (.read 0 8192)
  | _, none => none
  | _, some job =>
    match job.step with
    | .writing page => some (.write (32 * page) (storePageBytes job))
    | .readingBack => some (.read 0 (imageLength s))
    | .marking => some (.write 0 (storePageBytes job))

/-- What goes over the config link while the memory answers as listed (R169). -/
def configTraffic (s : State) (answers : LinkAnswers) : List LinkSymbol :=
  match configAccess s with
  | none => []
  | some access => linkTraffic configMemory access answers

/-- STORE_CONFIG (R175). -/
def decideStore (s : State) : Decision :=
  if s.store.isSome then refuse .busy s
  else accepted { s with store := some { step := .writing 0, image := layPage 0 [] s } }

/-! ## Requests that change the tables -/

/-- Whether the room runs on the loader's tables. -/
def State.operating (s : State) : Bool := decide (s.mode = .operating)

/-- A configuration request has been taken, and CONFIG is raised. 9.4 raises it at each change of a table: the model raises it
for every request taken, also for one that leaves the tables as they were, its own choice (log entry 66). -/
def setTables (t : Tables) (s : State) : State := raise .config { s with tables := t }

/-- A reserve whose value has changed is taken by its pool (R172). -/
def reserveChanged (k : PoolId) (c : MachineClass) (old new : Nat) (s : State) : State :=
  if old = new then s else setReserve k c new s

/-- SET_ROOM_PARAM (R172). -/
def decideRoomParam (payload : List Byte) (s : State) : Decision :=
  if s.store.isSome then refuse .busy s
  else
    let old := s.tables.params
    let asked := readParams payload
    let p := asked.clamp
    let s := setTables { s.tables with params := p } s
    let s := if s.operating then
        reserveChanged .water .washer old.waterWasher p.waterWasher
          (reserveChanged .electric .dryer old.electricDryer p.electricDryer
            (reserveChanged .electric .washer old.electricWasher p.electricWasher s))
      else s
    applied (decide (p = asked)) (paramsBytes p) s

/-- The washer profile of a program replaced. -/
def Tables.setWash (t : Tables) (n : Nat) (p : Option WashProfile) : Tables := { t with wash := t.wash.setIfInBounds n p }

/-- The dryer profile of a program replaced. -/
def Tables.setDry (t : Tables) (n : Nat) (p : Option DryProfile) : Tables := { t with dry := t.dry.setIfInBounds n p }

/-- The washer profile of a program in the loader's tables. -/
def Tables.washOf (t : Tables) (n : Nat) : Option WashProfile := if h : n < Config.programs then t.wash[n] else none

/-- The dryer profile of a program in the loader's tables. -/
def Tables.dryOf (t : Tables) (n : Nat) : Option DryProfile := if h : n < Config.programs then t.dry[n] else none

/-- SET_WASH_PROFILE (R173). The OK reply to a removal carries no payload, the model's choice (log entry 71). -/
def decideWashProfile (payload : List Byte) (s : State) : Decision :=
  let n := at1 payload 0
  if s.store.isSome then refuse .busy s
  else if Config.programs ≤ n then refuse .badArg s
  else if payload.length = 1 then
    if (s.tables.washOf n).isNone then refuse .notFound s else done [] (setTables (s.tables.setWash n none) s)
  else match readWash payload with
    | none => refuse .badArg s
    | some asked =>
      let p := asked.clamp
      if profileRule p then
        applied (decide (p = asked)) (washBytes n p) (setTables (s.tables.setWash n (some p)) s)
      else refuse .badArg s

/-- SET_DRY_PROFILE (R173). The OK reply to a removal carries no payload, the model's choice (log entry 71). -/
def decideDryProfile (payload : List Byte) (s : State) : Decision :=
  let n := at1 payload 0
  if s.store.isSome then refuse .busy s
  else if Config.programs ≤ n then refuse .badArg s
  else if payload.length = 1 then
    if (s.tables.dryOf n).isNone then refuse .notFound s else done [] (setTables (s.tables.setDry n none) s)
  else
    let asked := readDry payload
    let p := asked.clamp
    applied (decide (p = asked)) (dryBytes n p) (setTables (s.tables.setDry n (some p)) s)

/-- SET_PRICE for a washer (R105). -/
def priceWasher (n price : Nat) (s : State) : Decision :=
  match s.tables.washOf n with
  | none => refuse .notFound s
  | some p =>
    let v := min price 5000
    applied (decide (v = price)) (be2 v) (setTables (s.tables.setWash n (some { p with price := v })) s)

/-- SET_PRICE for a dryer (R105). -/
def priceDryer (n minutes price most : Nat) (s : State) : Decision :=
  match s.tables.dryOf n with
  | none => refuse .notFound s
  | some p =>
    let m := clampTo 1 30 minutes
    let q := min price 500
    let x := clampTo 10 180 most
    applied (decide (m = minutes ∧ q = price ∧ x = most)) (be1 m ++ be2 q ++ be1 x)
      (setTables (s.tables.setDry n (some { p with stepMinutes := m, stepPrice := q, maxMinutes := x })) s)

/-- SET_PRICE (R105). The Control Port Unit has tested the length against the class (8.3, R160). -/
def decidePrice (payload : List Byte) (s : State) : Decision :=
  let n := at1 payload 1
  if s.store.isSome then refuse .busy s
  else match Sys2Proof.Machine.classOf (at1 payload 0) with
    | none => refuse .badArg s
    | some c =>
      if Config.programs ≤ n then refuse .badArg s
      else match c with
        | .washer => priceWasher n (at2 payload 2) s
        | .dryer => priceDryer n (at1 payload 2) (at2 payload 3) (at1 payload 5) s

/-- Whether the roster entry of an address may be changed (R174). -/
def rosterFree (a : Addr) (s : State) : Bool :=
  let m := s.machine a
  !s.operating || (s.tables.roster[a]).isNone ||
    ((decide (m.state = .absent) || decide (m.state = .outOfService)) && m.payment.isNone && !sessionOn a s && m.testRun.isNone)

/-- The machine record after its roster entry has changed from one to another (R20, R174). -/
def rosterRecord (old new : Option RosterEntry) (m : MachineRecord) : MachineRecord :=
  match old, new with
  | _, none => .initial
  | none, some _ => .initial
  | some _, some _ => if old = new then m else { m with bus := { m.bus with mismatch := false } }

/-- An address that becomes configured has no slot, and no open window, left from the round under way: its first is in the
next discovery round (R20). -/
def dropSlot (a : Addr) (s : State) : State :=
  { s with slots := s.slots.filter (· ≠ a), slot := if s.slot = some a then none else s.slot }

/-- A roster entry is changed; MACHINE is raised with CONFIG where the machine record is concerned (R174). The round under way
loses a slot left to an address only where that becomes configured (R20); class 0 for an address that is not configured takes none
away, as R20 takes slots away from the next round on. -/
def setRoster (a : Addr) (new : Option RosterEntry) (s : State) : State :=
  let old := s.tables.roster[a]
  let s := setTables { s.tables with roster := s.tables.roster.set a.val new a.isLt } s
  let s := if old.isNone ∧ new.isSome then dropSlot a s else s
  if s.operating ∧ old ≠ new then raise .machine (modifyMachine a (rosterRecord old new) s) else s

/-- SET_MACHINE (R174). R174 clamps the ratings that come with class 1 or 2 and says nothing of the four rating bytes that
come with class 0: the model clamps and answers them alike, its own choice (log entry 60). -/
def decideMachine (payload : List Byte) (s : State) : Decision :=
  let cls := at1 payload 1
  let asked := readRatings payload 2
  let r := asked.clamp
  if s.store.isSome then refuse .busy s
  else match addr? (at1 payload 0) with
    | none => refuse .badArg s
    | some a =>
      if 2 < cls then refuse .badArg s
      else if !rosterFree a s then refuse .badState s
      else
        let entry := (Sys2Proof.Machine.classOf cls).map (fun c => { cls := c, ratings := r : RosterEntry })
        applied (decide (r = asked)) (be1 (addrNum a) ++ be1 cls ++ ratingsBytes r) (setRoster a entry s)

/-- The room parameter that a pool's requested reserve is (R56). -/
def Params.withReserve (p : Params) (k : PoolId) (c : MachineClass) (n : Nat) : Params :=
  match k, c with
  | .electric, .washer => { p with electricWasher := n }
  | .electric, .dryer => { p with electricDryer := n }
  | .water, .washer => { p with waterWasher := n }
  | .water, .dryer => p

/-- The pool with a number in a payload. -/
def poolOf : Nat → Option PoolId
  | 0 => some .electric
  | 1 => some .water
  | _ => none

/-- The number of a pool. -/
def poolCode : PoolId → Nat
  | .electric => 0
  | .water => 1

/-- SET_RESERVE, a room parameter that its pool takes at once; CONFIG is raised with it (R56, R171). -/
def decideReserve (payload : List Byte) (s : State) : Decision :=
  let asked := at2 payload 2
  if s.store.isSome then refuse .busy s
  else match poolOf (at1 payload 0), Sys2Proof.Machine.classOf (at1 payload 1) with
    | some k, some c =>
      if k = .water ∧ c = .dryer then refuse .badArg s
      else
        let n := clampReserve k asked
        let s := setTables { s.tables with params := s.tables.params.withReserve k c n } s
        applied (decide (n = asked)) (be2 n) (if s.operating then setReserve k c n s else s)
    | _, _ => refuse .badArg s

end Sys2Proof.Machine
end

