-- ==== Sys2Proof/Machine/ReadOps.lean ====
section
/-! DEFINITION. The payloads of the read replies (R75, R102, R121, R124, R135, R139, R163, R166 to R168).

A field that may be absent is sent as 0 where 0 is not one of its values, and otherwise after a presence byte; a listed
value is sent as its place in the list of its owner, from 0, unless a table of the manual numbers it (R161, log entry
19). -/

namespace Sys2Proof.Machine

/-! ## Numbers of listed values -/

/-- Machine states, in the order of 2.1: ABSENT is 0 and OUT_OF_SERVICE 10 (R161). -/
def stateCode : MachineState → Nat
  | .absent => 0
  | .idle => 1
  | .selected => 2
  | .paying => 3
  | .held => 4
  | .running => 5
  | .stopping => 6
  | .finished => 7
  | .testing => 8
  | .service => 9
  | .outOfService => 10

/-- Locks, in the order of 2.1. -/
def lockCode : Lock → Nat
  | .none => 0
  | .locked => 1
  | .autoLocked => 2

/-- Presences, in the order of 1.2. -/
def presenceCode : Presence → Nat
  | .absent => 0
  | .joining => 1
  | .present => 2

/-- Phase sub-states, in the order of 2.4. -/
def subCode : SubState → Nat
  | .waiting => 0
  | .starting => 1
  | .active => 2
  | .suspending => 3
  | .suspended => 4
  | .resuming => 5
  | .paused => 6

/-- Last test outcomes as R168 numbers them. -/
def testOutcomeCode : TestOutcome → Nat
  | .pass => 1
  | .fail => 2
  | .aborted => 3
  | .noPower => 4

/-- Test origins, in the order of 7.8. -/
def originCode : TestOrigin → Nat
  | .operator => 0
  | .session => 1

/-- Subtest sub-states, in the order of 7.8. -/
def subtestCode : SubtestState → Nat
  | .waiting => 0
  | .starting => 1
  | .running => 2

/-- Service phase sub-states as R168 numbers them. -/
def serviceSubCode : ServiceSub → Nat
  | .waiting => 1
  | .starting => 2
  | .active => 3

/-- Last phase outcomes as R168 numbers them. -/
def phaseOutcomeCode : PhaseOutcome → Nat
  | .complete => 1
  | .fault _ => 2
  | .timeout => 3
  | .noPower => 4
  | .aborted => 5

/-- The code a last phase outcome carries. -/
def phaseOutcomeFault : PhaseOutcome → Nat
  | .complete => 0
  | .fault code => code
  | .timeout => 0
  | .noPower => 0
  | .aborted => 0

/-- Purposes, in the order in which chapter 3 first lists them. -/
def purposeCode : Purpose → Nat
  | .cyclePhase => 0
  | .resume => 1
  | .servicePhase => 2
  | .subtest => 3

/-- Portions, in the order of 3.1. -/
def portionCode : Portion → Nat
  | .shared => 0
  | .washerReserve => 1
  | .dryerReserve => 2

/-- Severities, in the order of 7.2. -/
def severityCode : Severity → Nat
  | .soft => 0
  | .hard => 1
  | .info => 2

/-- Refund states, in the order of 5.4. -/
def refundStateCode : RefundState → Nat
  | .ready => 0
  | .inDoubt => 1
  | .suspect => 2

/-- Doubt kinds, in the order of 4.11. -/
def doubtCode : DoubtKind → Nat
  | .start => 0
  | .topUp => 1

/-- Slots as R168 numbers them. -/
def slotCode : Slot → Nat
  | .a => 0
  | .b => 1

/-- Modes as R166 numbers them. -/
def modeCode : Mode → Nat
  | .loading => 0
  | .operating => 1
  | .configFault => 2

/-- Bands as R166 numbers them. -/
def bandCode : Band → Nat
  | .standard => 0
  | .offPeak => 1
  | .quiet => 2

/-- Start reasons as R166 numbers them. -/
def startCode : StartReason → Nat
  | .kept => 0
  | .lost => 1

/-- Store results as R166 numbers them. -/
def storeCode : StoreResult → Nat
  | .ok => 1
  | .writeFail => 2

/-- Configuration fault reasons as R170 numbers them. -/
def reasonCode : FaultReason → Nat
  | .noMemory => 1
  | .badMarker => 2
  | .badLength => 3
  | .badCheck => 4
  | .badRecord => 5
  | .badField => 6
  | .duplicate => 7
  | .noRoomRecord => 8

/-- A number that may be absent, sent as 0 when it is. -/
def orZero (f : α → Nat) (x : Option α) : Nat := (x.map f).getD 0

/-! ## READ_ROOM -/

/-- The READ_ROOM payload (R166). -/
def roomPayload (s : State) : List Byte :=
  be1 (modeCode s.mode) ++ be1 (bit s.halted) ++ be1 (bandCode s.band) ++ be4 s.now ++ be1 (startCode s.startReason)
    ++ be2 s.cycleCounter ++ be1 (bit s.store.isSome) ++ be1 (orZero storeCode s.lastStore)
    ++ be1 (orZero reasonCode s.configReason) ++ be1 (allAddrs.countP s.configured)
    ++ be1 (allAddrs.countP (fun a => decide ((s.machine a).state ≠ .absent)))

/-! ## READ_MACHINE -/

/-- The roster group of READ_MACHINE (R168). -/
def rosterPayload (a : Addr) (s : State) : List Byte :=
  be1 (addrNum a) ++ be1 (bit (s.configured a)) ++ be1 (orZero (fun e => classCode e.cls) (s.roster a))
    ++ ratingsBytes (s.ratings a)

/-- The group of Cycle Control and of the Fault and Service Unit (R168). -/
def fieldsPayload (m : MachineRecord) : List Byte :=
  be1 (stateCode m.state) ++ be1 (lockCode m.lock) ++ be1 (bit m.lockPending) ++ be1 (doorCode m.door)
    ++ be1 (orZero (· + 1) m.selection) ++ be4 (orZero (·.card) m.hold) ++ be4 (orZero (·.deadline) m.hold)
    ++ be4 (orZero (·.card) m.payment) ++ be4 (orZero (·.charge) m.payment) ++ be1 (bit m.openedSinceFinish)
    ++ be1 m.strikes ++ be1 (bit m.permit) ++ be1 (orZero (fun t => testOutcomeCode t.outcome) m.lastTest)
    ++ be1 (orZero (·.subtest) m.lastTest) ++ be1 (orZero (·.code) m.lastTest)

/-- The bus group (R168). The tag of an absent command in flight is sent as 0, and the fields of an absent last status report as
zeros after their presence byte, the model's reading (log entry 19). -/
def busPayload (b : BusFields) : List Byte :=
  be1 (presenceCode b.presence) ++ be1 b.missed ++ be1 (orZero (fun f => commandCode f.cmd) b.inFlight)
    ++ be1 (orZero (fun f => bit f.tag) b.inFlight) ++ be1 (orZero (fun q => commandCode q.cmd) b.queued)
    ++ be1 (bit b.report.isSome) ++ be1 (orZero (fun r => activityCode r.activity) b.report)
    ++ be1 (orZero (·.arg) b.report) ++ be1 (orZero (·.fault) b.report)

/-- The cycle summary; without a cycle only its presence byte is sent, and an absent refund is sent as zeros after its presence
byte, both the model's reading (R168, log entry 19). -/
def cyclePayload : Option Cycle → List Byte
  | none => be1 0
  | some c =>
    be1 1 ++ be2 c.number ++ be4 c.payer ++ be1 c.program ++ be1 c.plan.length ++ be1 c.index
      ++ be1 (orZero kindCode c.kind) ++ be1 (subCode c.sub) ++ be1 (bit c.everActive) ++ be1 (bit c.retryUsed)
      ++ be2 c.timeUsed ++ be4 c.chargeTotal ++ be2 c.paidTotal ++ be2 c.remaining ++ be2 (orZero (·.amount) c.topUp)
      ++ be1 (orZero causeCode c.stopCause) ++ be1 (bit c.refund.isSome) ++ be4 (orZero id c.refund) ++ be4 c.startTime

/-- The session summary of the session's machine (R168). -/
def sessionPayload (a : Addr) (s : State) : List Byte :=
  match s.session with
  | none => be1 0
  | some x =>
    if x.machine = a then
      be1 1 ++ be4 x.openedTime ++ be1 (bit x.closing) ++ be1 (orZero (fun ph => kindCode ph.kind) x.phase)
        ++ be1 (orZero (fun ph => serviceSubCode ph.sub) x.phase) ++ be1 (orZero phaseOutcomeCode x.lastOutcome)
        ++ be1 (orZero phaseOutcomeFault x.lastOutcome) ++ be2 x.phasesRun
    else be1 0

/-- The test run summary (R168). -/
def runPayload : Option TestRun → List Byte
  | none => be1 0
  | some r => be1 1 ++ be1 (originCode r.origin) ++ be1 r.subtest ++ be1 (subtestCode r.sub)

/-- The READ_MACHINE payload (R167, R168). -/
def machinePayload (a : Addr) (s : State) : List Byte :=
  let m := s.machine a
  rosterPayload a s ++ fieldsPayload m ++ busPayload m.bus ++ cyclePayload m.cycle ++ sessionPayload a s ++ runPayload m.testRun

/-! ## READ_POOL -/

/-- A grant in a READ_POOL reply (R168). -/
def grantBytes (g : Grant) : List Byte :=
  be1 (addrNum g.machine) ++ be1 (classCode g.cls) ++ be1 (purposeCode g.purpose) ++ be1 g.amount
    ++ be1 (portionCode g.portion) ++ be4 g.time ++ be1 (bit g.pending)

/-- A wait entry in a READ_POOL reply (R168). -/
def waitBytes (e : WaitEntry) : List Byte :=
  be1 (addrNum e.machine) ++ be1 (classCode e.cls) ++ be1 (purposeCode e.purpose) ++ be1 e.demand ++ be4 e.time
    ++ be1 e.passes

/-- The READ_POOL payload from a position (R75, R168). -/
def poolPayload (k : PoolId) (position : Nat) (s : State) : List Byte :=
  let p := s.pool k
  be1 (poolCode k) ++ be2 p.limit ++ be2 p.reqWasher ++ be2 p.reqDryer ++ be2 p.effWasher ++ be2 p.effDryer
    ++ be2 p.sharedPortion ++ be2 p.sharedGranted ++ be1 (bit p.overLimit) ++ be1 (bit p.halted)
    ++ be1 p.grants.length ++ ((p.grants.drop position).take 10).flatMap grantBytes
    ++ be1 p.waits.length ++ ((p.waits.drop position).take 10).flatMap waitBytes
    ++ be5 p.stats.unitSeconds ++ be4 p.stats.waits ++ be4 p.stats.sheds ++ be4 p.stats.overSeconds ++ be4 p.stats.expiries

/-! ## The other reads -/

/-- A record in a READ_FAULTS reply (R168). -/
def faultBytes (r : FaultRecord) : List Byte :=
  be1 r.machine ++ be1 r.code ++ be1 (severityCode r.severity) ++ be4 r.firstTime ++ be4 r.lastTime ++ be2 r.count
    ++ be1 (orZero kindCode r.kind) ++ be4 (orZero id r.card) ++ be1 (orZero id r.subtest)

/-- The fault records that pass a filter (R139). -/
def passing (filter : Nat) (t : List FaultRecord) : List FaultRecord :=
  if filter = 255 then t else t.filter (fun r => r.machine == filter)

/-- The seven audit totals of a reply (R168). -/
def auditBytes (t : Audit) : List Byte :=
  be5 t.charged ++ be5 t.issued ++ be5 t.credited ++ be5 t.unplaced ++ be5 t.cancelled ++ be5 t.debitsUnresolved
    ++ be5 t.creditsUnresolved

/-- A pair in a reply: its sequence, then its value. -/
def pairBytes (p : Pair) : List Byte := be2 p.sequence ++ be2 p.value

/-- The pairs of a refund entry in a reply, after their presence byte; absent pairs are sent as 0 (R168). -/
def pairsBytes : Option (Pair × Pair) → List Byte
  | none => be1 0 ++ pairBytes .zero ++ pairBytes .zero
  | some (old, expected) => be1 1 ++ pairBytes old ++ pairBytes expected

/-- A refund entry in a reply (R168). -/
def refundBytes (e : RefundEntry) : List Byte :=
  be4 e.card ++ be2 e.amount ++ be1 (refundStateCode e.state) ++ be1 (bit e.inProgress) ++ pairsBytes e.pairs ++ be4 e.created

/-- A doubt in a reply (R168). -/
def doubtBytes (d : Doubt) : List Byte :=
  be1 (doubtCode d.debit.kind) ++ be4 d.debit.card ++ be1 (addrNum d.debit.machine) ++ be2 d.debit.amount
    ++ be1 (slotCode d.debit.slot) ++ pairBytes d.debit.oldPair ++ pairBytes d.debit.expectedPair ++ be4 d.deadline

/-- The entries of a queue in a reply, from a position on (R168). -/
def claimBytes : Nat → List ClaimEntry → List Byte
  | _, [] => []
  | n, e :: es =>
    be1 n ++ be4 e.card ++ be4 e.joined ++ be1 (orZero (fun h => addrNum h.machine) e.hold)
      ++ be4 (orZero (·.deadline) e.hold) ++ be1 (bit e.paying) ++ claimBytes (n + 1) es

/-- The READ_QUEUE payload (R135, R168). -/
def queuePayload (c : MachineClass) (s : State) : List Byte :=
  let q := s.queue c
  be2 s.params.holdWindow ++ be1 q.entries.length ++ claimBytes 1 q.entries ++ be2 q.placed ++ be2 q.served ++ be2 q.expired
    ++ be2 q.cancelled

end Sys2Proof.Machine
end

