-- ==== Sys2Proof/Machine/RequestOps.lean ====
section
/-! DEFINITION. What the owners decide for the requests of the control ports that change the room, one definition for
each request; the configuration requests stand in Machine/LoaderOps.lean. -/

namespace Sys2Proof.Machine

/-- The address a request names: outside 1 to 24 it is refused BAD_ARG (R161). -/
def withAddress (payload : List Byte) (s : State) (f : Addr → Decision) : Decision :=
  match addr? (at1 payload 0) with
  | none => refuse .badArg s
  | some a => f a

/-- A request for a configured address; an unconfigured one is refused BAD_STATE (R144, R145, R147). -/
def withConfigured (payload : List Byte) (s : State) (f : Addr → Decision) : Decision :=
  withAddress payload s (fun a => if s.configured a then f a else refuse .badState s)

/-! ## The room -/

/-- The band with a number in a payload. -/
def bandOf : Nat → Option Band
  | 0 => some .standard
  | 1 => some .offPeak
  | 2 => some .quiet
  | _ => none

/-- SET_BAND (R51). Its OK reply carries no payload, the model's choice (log entry 71). -/
def decideBand (payload : List Byte) (s : State) : Decision :=
  match bandOf (at1 payload 0) with
  | none => refuse .badArg s
  | some b => done [] (raise .room { s with band := b })

/-- What a halt does to one machine, by state (R49). -/
def haltMachine (s : State) (a : Addr) : State :=
  let m := s.machine a
  match m.state with
  | .running => stopCycle a .room s
  | .held =>
    let s := handBack a s
    moveTo a (restingState (s.machine a)) s
  | .paying =>
    if m.hold.isSome then
      modifyMachine a (fun m => { m with payment := m.payment.map (fun p => { p with origin := .selected }) }) (handBack a s)
    else s
  | .testing | .service => haltService a s
  | .absent | .idle | .selected | .stopping | .finished | .outOfService => s

/-- The change to HALTED (R49, R73). The pools are told before the machines, so that nothing they hand back is granted. -/
def haltRoom (s : State) : State :=
  let s := raise .room { s with halted := true }
  allAddrs.foldl haltMachine (tellPool .water true (tellPool .electric true s))

/-- HALT_ROOM (R49). -/
def decideHalt (s : State) : Decision := done [] (if s.halted then s else haltRoom s)

/-- An IDLE or SELECTED machine is offered at the resumption of the room; without a hold it stays as it is (R50). -/
def resumeOffer (s : State) (a : Addr) : State :=
  match (s.machine a).state with
  | .idle | .selected =>
    match placeHold a s with
    | (s, true) => moveTo a .held s
    | (s, false) => s
  | .absent | .paying | .held | .running | .stopping | .finished | .testing | .service | .outOfService => s

/-- The change to RUNNING_ROOM (R50, R73). -/
def resumeRoom (s : State) : State :=
  let s := raise .room { s with halted := false }
  allAddrs.foldl resumeOffer (tellPool .water false (tellPool .electric false s))

/-- RESUME_ROOM (R50). -/
def decideResume (s : State) : Decision := done [] (if s.halted then resumeRoom s else s)

/-! ## The pools -/

/-- SET_FEEDER_LIMIT and SET_WATER_LIMIT (R55). -/
def decideLimit (k : PoolId) (payload : List Byte) (s : State) : Decision :=
  let asked := at2 payload 0
  let limit := clampLimit k asked
  applied (decide (limit = asked)) (be2 limit) (setLimit k limit s)

/-- READ_POOL (R75). -/
def decideReadPool (payload : List Byte) (s : State) : Decision :=
  let position := at1 payload 1
  match poolOf (at1 payload 0) with
  | none => refuse .badArg s
  | some k => if position ≤ 23 then done (poolPayload k position s) s else refuse .badArg s

/-- CLEAR_POOL_STATS (R76). -/
def decideClearStats (s : State) : Decision := done [] (clearStats .water (clearStats .electric s))

/-! ## Machines -/

/-- STOP_MACHINE (R41). -/
def decideStop (payload : List Byte) (s : State) : Decision :=
  withConfigured payload s fun a =>
    match (s.machine a).state with
    | .running => accepted (stopCycle a .operator s)
    | .testing => accepted (windDownTest a .operator .aborted 0 false s)
    | .absent | .idle | .selected | .paying | .held | .stopping | .finished | .service | .outOfService => refuse .badState s

/-- Whether a lock taken in a state takes hold at once (R144). -/
def lockAtOnce : MachineState → Bool
  | .idle | .selected | .held | .outOfService | .absent => true
  | .paying | .running | .stopping | .finished | .testing | .service => false

/-- LOCK (R144). -/
def decideLock (payload : List Byte) (s : State) : Decision :=
  withConfigured payload s fun a =>
    { state := applyLock a .locked s, status := if lockAtOnce (s.machine a).state then .ok else .accepted, payload := [] }

/-- UNLOCK (R145). A machine whose lock is NONE has its strikes cleared and nothing else. -/
def decideUnlock (payload : List Byte) (s : State) : Decision :=
  withConfigured payload s fun a =>
    let t := modifyMachine a (fun m => { m with strikes := 0 }) s
    done [] (raise .machine (if (s.machine a).lock = .none then t else applyUnlock a t))

/-- CLEAR_STRIKES (R145). -/
def decideClearStrikes (payload : List Byte) (s : State) : Decision :=
  withAddress payload s fun a =>
    done [] (raiseIf (decide (0 < (s.machine a).strikes)) .machine (modifyMachine a (fun m => { m with strikes := 0 }) s))

/-- GRANT_PERMIT (R147). -/
def decidePermit (payload : List Byte) (s : State) : Decision :=
  withConfigured payload s fun a => done [] (raise .machine (modifyMachine a (fun m => { m with permit := true }) s))

/-! ## Sessions and tests -/

/-- A session opens on a machine, which goes to SERVICE (R148). -/
def openSession (a : Addr) (s : State) : State :=
  let s := { s with session := some {
    machine := a, openedTime := s.now, closing := false, phase := none, lastOutcome := none, phasesRun := 0 } }
  raise .test (moveTo a .service s)

/-- ENTER_SERVICE (R148). -/
def decideEnter (payload : List Byte) (s : State) : Decision :=
  withConfigured payload s fun a =>
    let m := s.machine a
    if !m.permit then refuse .notPermitted s
    else if s.halted then refuse .badState s
    else if s.session.isSome then refuse .busy s
    else if (m.state = .idle ∨ m.state = .outOfService) ∧ m.payment.isNone then done [] (openSession a s)
    else refuse .badState s

/-- EXIT_SERVICE (R149). -/
def decideExit (s : State) : Decision :=
  match s.session with
  | none => refuse .badState s
  | some x =>
    if (s.machine x.machine).testRun.isSome then refuse .busy s
    else if x.closing then accepted s
    else match x.phase with
      | none => done [] (endSession s)
      | some ph =>
        match ph.sub with
        | .waiting => done [] (endSession (windDownPhase x.machine .operator .aborted s))
        | .starting | .active => accepted (windDownPhase x.machine .operator .aborted (closeSession s))

/-- The service phase is made: without a demand it moves at once to STARTING, else it asks its pool (R150). -/
def makePhase (a : Addr) (kind : PhaseKind) (seconds : Nat) (s : State) : State :=
  let d := serviceDemand kind (s.ratings a)
  let ph : ServicePhase := {
    kind := kind, seconds := seconds, demand := orZero (·.2) d, pool := d.map (·.1), sub := .waiting, deadline := none,
    windDown := none }
  let s := raise .test { s with session := s.session.map (fun x => { x with phase := some ph }) }
  match d with
  | none => startServicePhase s
  | some (k, n) => requestGrant k a .servicePhase n false s

/-- SERVICE_PHASE (R150). Its ACCEPTED reply carries no payload, the model's choice (log entry 71). -/
def decidePhase (payload : List Byte) (s : State) : Decision :=
  let asked := at2 payload 1
  match kindOf (at1 payload 0), s.session with
  | none, _ => refuse .badArg s
  | some _, none => refuse .badState s
  | some kind, some x =>
    if x.closing then refuse .badState s
    else if x.phase.isSome ∨ (s.machine x.machine).testRun.isSome then refuse .busy s
    else
      let seconds := clampTo 10 1800 asked
      let s := makePhase x.machine kind seconds s
      if seconds = asked then accepted s else { state := s, status := .clamped, payload := be2 seconds }

/-- A test run is made and begins at subtest 1 (R153). -/
def makeRun (a : Addr) (origin : TestOrigin) (s : State) : State :=
  let s := modifyMachine a (fun m => { m with testRun := some {
    origin := origin, subtest := 1, sub := .waiting, reportDeadline := none, windDown := none } }) s
  beginSubtest a (raise .test (raise .machine s))

/-- Whether a machine is a washer whose door is last reported OPEN (R153). -/
def washerOpen (a : Addr) (s : State) : Bool := decide (s.classOf a = .washer) && decide ((s.machine a).door = some .opened)

/-- SELF_TEST on the Operator port (R153). -/
def operatorTest (a : Addr) (s : State) : Decision :=
  let m := s.machine a
  if !s.configured a ∨ s.halted ∨ ¬(m.state = .idle ∧ m.payment.isNone) ∨ washerOpen a s then refuse .badState s
  else accepted (makeRun a .operator (moveTo a .testing s))

/-- SELF_TEST on the Service port (R153). -/
def sessionTest (a : Addr) (s : State) : Decision :=
  match s.session with
  | none => refuse .notPermitted s
  | some x =>
    if x.machine ≠ a then refuse .notPermitted s
    else if x.closing ∨ washerOpen a s then refuse .badState s
    else if x.phase.isSome ∨ (s.machine a).testRun.isSome then refuse .busy s
    else accepted (makeRun a .session s)

/-- SELF_TEST (R153). The Building port holds no right to it. An address outside 1 to 24 is refused BAD_ARG on the Service
port too, as R161 says of every selector, where R153 alone would refuse it NOT_PERMITTED: the model's choice (log entry
58). -/
def decideTest (p : Port) (payload : List Byte) (s : State) : Decision :=
  withAddress payload s fun a =>
    match p with
    | .operator => operatorTest a s
    | .service => sessionTest a s
    | .building => refuse .notPermitted s

/-! ## Faults -/

/-- READ_FAULTS (R139). -/
def decideReadFaults (payload : List Byte) (s : State) : Decision :=
  let position := at1 payload 0
  let filter := at1 payload 1
  let rs := passing filter s.faults
  if 47 < position ∨ (24 < filter ∧ filter ≠ 255) then refuse .badArg s
  else if rs.length ≤ position then { state := s, status := .notFound, payload := be1 rs.length }
  else
    let sent := (rs.drop position).take 8
    done (be1 rs.length ++ be1 sent.length ++ sent.flatMap faultBytes) s

/-- The fault records that a CLEAR_FAULTS leaves (R140). -/
def surviving (machine : Nat) (t : List FaultRecord) : List FaultRecord :=
  if machine = 255 then [] else t.filter (fun r => r.machine != machine)

/-- CLEAR_FAULTS (R140). -/
def decideClearFaults (payload : List Byte) (s : State) : Decision :=
  let machine := at1 payload 0
  let left := surviving machine s.faults
  if 24 < machine ∧ machine ≠ 255 then refuse .badArg s
  else done (be1 (s.faults.length - left.length)) (raise .fault { s with faults := left })

/-! ## Money -/

/-- READ_AUDIT (R124). -/
def decideReadAudit (s : State) : Decision := done (auditBytes s.audit ++ be1 s.refunds.length ++ be4 (refundSum s.refunds)) s

/-- CLEAR_AUDIT (R123). -/
def decideClearAudit (s : State) : Decision :=
  done (auditBytes s.audit) (raise .payment { s with audit := { Audit.zero with issued := refundSum s.refunds } })

/-- READ_REFUNDS (R121). -/
def decideReadRefunds (payload : List Byte) (s : State) : Decision :=
  let position := at1 payload 0
  if 31 < position then refuse .badArg s
  else match s.refunds.find? (fun e => e.position == position) with
    | none => { state := s, status := .notFound, payload := be1 s.refunds.length }
    | some e => done (be1 s.refunds.length ++ refundBytes e) s

/-- What keeps an ADD_REFUND from being placed: the amount the FULL reply carries (R118). -/
def refundFull (card amount : Nat) (s : State) : Option Nat :=
  match s.refund card with
  | some e => if Config.largestValue < e.amount + amount then some e.amount else none
  | none => if s.refunds.length < Config.refundEntries then none else some 0

/-- ADD_REFUND (R118). -/
def decideAddRefund (payload : List Byte) (s : State) : Decision :=
  let card := at4 payload 0
  let asked := at2 payload 4
  let amount := min asked Config.largestValue
  if !validCard card ∨ asked = 0 then refuse .badArg s
  else match refundFull card amount s with
    | some held => { state := s, status := .full, payload := be2 held }
    | none =>
      let t := placeRefund card amount 0 s
      applied (decide (amount = asked)) (be2 amount ++ be2 (stillHeld card t)) t

/-- CANCEL_REFUND (R119). -/
def decideCancelRefund (payload : List Byte) (s : State) : Decision :=
  let card := at4 payload 0
  if !validCard card then refuse .badArg s
  else match s.refund card with
    | none => refuse .notFound s
    | some e =>
      match e.state with
      | .inDoubt => refuse .badState s
      | .ready | .suspect =>
        if e.state = .ready ∧ e.inProgress then refuse .busy s
        else done (be2 e.amount) (removeRefund card
          (modifyAudit (fun t => { t with cancelled := addTotal t.cancelled e.amount }) s))

/-- CONFIRM_REFUND (R120). -/
def decideConfirmRefund (payload : List Byte) (s : State) : Decision :=
  let card := at4 payload 0
  if !validCard card then refuse .badArg s
  else match s.refund card with
    | none => refuse .notFound s
    | some e =>
      if e.state ≠ .suspect then refuse .badState s
      else
        let credit := min (creditCarried e) e.amount
        done (be2 credit ++ be2 (e.amount - credit)) (tellPlacement card (creditLanded card (creditCarried e) s))

/-- READ_DOUBTS (R102). -/
def decideReadDoubts (s : State) : Decision := done (be1 s.doubts.length ++ s.doubts.flatMap doubtBytes) s

/-! ## Claim queues -/

/-- READ_QUEUE (R135). -/
def decideReadQueue (payload : List Byte) (s : State) : Decision :=
  match Sys2Proof.Machine.classOf (at1 payload 0) with
  | none => refuse .badArg s
  | some c => done (queuePayload c s) s

/-- The entry of a card is removed by the operator, and a machine it held is offered again (R136). -/
def cancelEntry (c : MachineClass) (e : ClaimEntry) (s : State) : State :=
  let s := changeQueue c (fun q => { q with
    entries := q.entries.eraseP (fun x => x.card == e.card), cancelled := countUp q.cancelled }) s
  match e.hold with
  | none => s
  | some h => reoffer h.machine s

/-- CANCEL_CLAIM (R136). -/
def decideCancelClaim (payload : List Byte) (s : State) : Decision :=
  let card := at4 payload 1
  match Sys2Proof.Machine.classOf (at1 payload 0) with
  | none => refuse .badArg s
  | some c =>
    if !validCard card then refuse .badArg s
    else match (s.queue c).entries.find? (fun e => e.card == card) with
      | none => refuse .notFound s
      | some e =>
        if e.paying then refuse .busy s
        else done (be1 (((firstPosition (fun x => x.card == card) (s.queue c).entries)).getD 0)) (cancelEntry c e s)

/-! ## The Control Port Unit's own requests -/

/-- READ_EVENTS (R163). -/
def decideReadEvents (p : Port) (s : State) : Decision :=
  done [byteOfFlags (s.port p).flags, byteOfFlags (s.port p).mask] s

/-- ACK_EVENTS (R163). -/
def decideAck (p : Port) (payload : List Byte) (s : State) : Decision :=
  let b := payload.getD 0 0
  if b.msb then refuse .badArg s
  else
    let left := (s.port p).flags &&& ~~~(flagsOfByte b)
    done [byteOfFlags left] (s.setPort p { s.port p with flags := left })

/-- SET_NOTICE_MASK (R164). -/
def decideMask (p : Port) (payload : List Byte) (s : State) : Decision :=
  let b := payload.getD 0 0
  if b.msb then refuse .badArg s
  else done [byteOfFlags (flagsOfByte b)] (s.setPort p { s.port p with mask := flagsOfByte b })

/-- READ_ROOM (R166). -/
def decideReadRoom (s : State) : Decision := done (roomPayload s) s

/-- READ_MACHINE (R167). -/
def decideReadMachine (payload : List Byte) (s : State) : Decision :=
  withAddress payload s fun a => done (machinePayload a s) s

end Sys2Proof.Machine
end

