-- ==== Sys2Proof/Machine/PortOps.lean ====
section
/-! DEFINITION. The Control Port Unit: receivers and frames, the rights table, the tests of a request and the reply
queues (chapter 8). -/

namespace Sys2Proof.Machine

/-! ## The rights table -/

/-- The requests of the rights table (8.3). -/
inductive Req where
  | readMachine | readRoom | readEvents | ackEvents | setNoticeMask
  | setFeederLimit | setWaterLimit | setBand | haltRoom | resumeRoom | readPool | clearPoolStats
  | setRoomParam | setWashProfile | setDryProfile | setPrice | setMachine | setReserve | storeConfig
  | lock | unlock | clearStrikes | grantPermit | stopMachine | selfTest
  | readFaults | clearFaults
  | readAudit | clearAudit | readRefunds | addRefund | cancelRefund | confirmRefund | readDoubts
  | readQueue | cancelClaim
  | enterService | exitService | servicePhase
deriving DecidableEq, Repr

/-- The CODE of a request (8.3). -/
def reqCode : Req → Nat
  | .readMachine => 0x01
  | .readRoom => 0x02
  | .readEvents => 0x03
  | .ackEvents => 0x04
  | .setNoticeMask => 0x05
  | .setFeederLimit => 0x10
  | .setWaterLimit => 0x11
  | .setBand => 0x12
  | .haltRoom => 0x13
  | .resumeRoom => 0x14
  | .readPool => 0x15
  | .clearPoolStats => 0x16
  | .setRoomParam => 0x20
  | .setWashProfile => 0x21
  | .setDryProfile => 0x22
  | .setPrice => 0x23
  | .setMachine => 0x24
  | .setReserve => 0x25
  | .storeConfig => 0x26
  | .lock => 0x30
  | .unlock => 0x31
  | .clearStrikes => 0x32
  | .grantPermit => 0x33
  | .stopMachine => 0x34
  | .selfTest => 0x35
  | .readFaults => 0x40
  | .clearFaults => 0x41
  | .readAudit => 0x50
  | .clearAudit => 0x51
  | .readRefunds => 0x52
  | .addRefund => 0x53
  | .cancelRefund => 0x54
  | .confirmRefund => 0x55
  | .readDoubts => 0x56
  | .readQueue => 0x60
  | .cancelClaim => 0x61
  | .enterService => 0x70
  | .exitService => 0x71
  | .servicePhase => 0x72

/-- The request with a CODE (8.3). -/
def reqOf : Nat → Option Req
  | 0x01 => some .readMachine
  | 0x02 => some .readRoom
  | 0x03 => some .readEvents
  | 0x04 => some .ackEvents
  | 0x05 => some .setNoticeMask
  | 0x10 => some .setFeederLimit
  | 0x11 => some .setWaterLimit
  | 0x12 => some .setBand
  | 0x13 => some .haltRoom
  | 0x14 => some .resumeRoom
  | 0x15 => some .readPool
  | 0x16 => some .clearPoolStats
  | 0x20 => some .setRoomParam
  | 0x21 => some .setWashProfile
  | 0x22 => some .setDryProfile
  | 0x23 => some .setPrice
  | 0x24 => some .setMachine
  | 0x25 => some .setReserve
  | 0x26 => some .storeConfig
  | 0x30 => some .lock
  | 0x31 => some .unlock
  | 0x32 => some .clearStrikes
  | 0x33 => some .grantPermit
  | 0x34 => some .stopMachine
  | 0x35 => some .selfTest
  | 0x40 => some .readFaults
  | 0x41 => some .clearFaults
  | 0x50 => some .readAudit
  | 0x51 => some .clearAudit
  | 0x52 => some .readRefunds
  | 0x53 => some .addRefund
  | 0x54 => some .cancelRefund
  | 0x55 => some .confirmRefund
  | 0x56 => some .readDoubts
  | 0x60 => some .readQueue
  | 0x61 => some .cancelClaim
  | 0x70 => some .enterService
  | 0x71 => some .exitService
  | 0x72 => some .servicePhase
  | _ => none

/-- Whether a port holds the right to a request (8.3). -/
def reqRight (p : Port) : Req → Bool
  | .readMachine | .readRoom | .readEvents | .ackEvents | .setNoticeMask => true
  | .setFeederLimit | .setWaterLimit | .setBand | .haltRoom | .resumeRoom | .clearPoolStats => p = .building
  | .readPool => p = .building || p = .operator
  | .setRoomParam | .setWashProfile | .setDryProfile | .setPrice | .setMachine | .setReserve | .storeConfig => p = .operator
  | .lock | .unlock | .clearStrikes | .grantPermit | .stopMachine => p = .operator
  | .selfTest | .readFaults => p = .operator || p = .service
  | .clearFaults | .readAudit | .clearAudit | .readRefunds | .addRefund | .cancelRefund | .confirmRefund => p = .operator
  | .readDoubts | .readQueue | .cancelClaim => p = .operator
  | .enterService | .exitService | .servicePhase => p = .service

/-- Whether a SET_PRICE payload has the length of the class it names: 4 for a washer, 6 for a dryer; no length matches
another class (8.3, log entry 61). -/
def priceLength (payload : List Byte) : Bool :=
  match Sys2Proof.Machine.classOf (at1 payload 0) with
  | some .washer => payload.length == 4
  | some .dryer => payload.length == 6
  | none => false

/-- Whether a payload has the length a request takes (8.3, 9.2, R173, R174). -/
def reqLength (payload : List Byte) : Req → Bool
  | .readMachine | .ackEvents | .setNoticeMask | .setBand => payload.length == 1
  | .readRoom | .readEvents | .haltRoom | .resumeRoom | .clearPoolStats | .storeConfig => payload.length == 0
  | .setFeederLimit | .setWaterLimit | .readPool => payload.length == 2
  | .setRoomParam => payload.length == 22
  | .setWashProfile =>
    payload.length == 1 || (decide (4 ≤ payload.length) && payload.length == 4 + 7 * at1 payload 3)
  | .setDryProfile => payload.length == 1 || payload.length == 8
  | .setPrice => priceLength payload
  | .setMachine => payload.length == 6
  | .setReserve => payload.length == 4
  | .lock | .unlock | .clearStrikes | .grantPermit | .stopMachine | .selfTest => payload.length == 1
  | .readFaults => payload.length == 2
  | .clearFaults | .readRefunds | .readQueue | .enterService => payload.length == 1
  | .readAudit | .clearAudit | .readDoubts | .exitService => payload.length == 0
  | .addRefund => payload.length == 6
  | .cancelRefund | .confirmRefund => payload.length == 4
  | .cancelClaim => payload.length == 5
  | .servicePhase => payload.length == 3

/-- Whether a request is served in the CONFIG_FAULT mode (8.3). -/
def reqServed : Req → Bool
  | .readMachine | .readRoom | .readEvents | .ackEvents | .setNoticeMask | .readPool => true
  | .setRoomParam | .setWashProfile | .setDryProfile | .setPrice | .setMachine | .setReserve | .storeConfig => true
  | .readFaults | .readAudit | .readRefunds | .readDoubts | .readQueue => true
  | .setFeederLimit | .setWaterLimit | .setBand | .haltRoom | .resumeRoom | .clearPoolStats => false
  | .lock | .unlock | .clearStrikes | .grantPermit | .stopMachine | .selfTest => false
  | .clearFaults | .clearAudit | .addRefund | .cancelRefund | .confirmRefund | .cancelClaim => false
  | .enterService | .exitService | .servicePhase => false

/-! ## One decision -/

/-- The owner of a request decides it (R160). -/
def ownerDecision (r : Req) (p : Port) (payload : List Byte) (s : State) : Decision :=
  match r with
  | .readMachine => decideReadMachine payload s
  | .readRoom => decideReadRoom s
  | .readEvents => decideReadEvents p s
  | .ackEvents => decideAck p payload s
  | .setNoticeMask => decideMask p payload s
  | .setFeederLimit => decideLimit .electric payload s
  | .setWaterLimit => decideLimit .water payload s
  | .setBand => decideBand payload s
  | .haltRoom => decideHalt s
  | .resumeRoom => decideResume s
  | .readPool => decideReadPool payload s
  | .clearPoolStats => decideClearStats s
  | .setRoomParam => decideRoomParam payload s
  | .setWashProfile => decideWashProfile payload s
  | .setDryProfile => decideDryProfile payload s
  | .setPrice => decidePrice payload s
  | .setMachine => decideMachine payload s
  | .setReserve => decideReserve payload s
  | .storeConfig => decideStore s
  | .lock => decideLock payload s
  | .unlock => decideUnlock payload s
  | .clearStrikes => decideClearStrikes payload s
  | .grantPermit => decidePermit payload s
  | .stopMachine => decideStop payload s
  | .selfTest => decideTest p payload s
  | .readFaults => decideReadFaults payload s
  | .clearFaults => decideClearFaults payload s
  | .readAudit => decideReadAudit s
  | .clearAudit => decideClearAudit s
  | .readRefunds => decideReadRefunds payload s
  | .addRefund => decideAddRefund payload s
  | .cancelRefund => decideCancelRefund payload s
  | .confirmRefund => decideConfirmRefund payload s
  | .readDoubts => decideReadDoubts s
  | .readQueue => decideReadQueue payload s
  | .cancelClaim => decideCancelClaim payload s
  | .enterService => decideEnter payload s
  | .exitService => decideExit s
  | .servicePhase => decidePhase payload s

/-- The first test of R160 that a known request fails, in order. -/
def admission (r : Req) (p : Port) (payload : List Byte) (s : State) : Option Status :=
  if !reqRight p r then some .notPermitted
  else if !reqLength payload r then some .badArg
  else if s.mode = .loading ∧ r ≠ .readRoom then some .busy
  else if s.mode = .configFault ∧ !reqServed r then some .configFault
  else none

/-- A known request is decided: by the Control Port Unit's tests, or by its owner (R160). -/
def decideRequest (r : Req) (p : Port) (payload : List Byte) (s : State) : Decision :=
  match admission r p payload s with
  | some status => refuse status s
  | none => ownerDecision r p payload s

/-! ## Frames and replies -/

/-- The receiver of a port returns to HUNTING (R157). -/
def hunt (p : Port) (s : State) : State := s.setPort p { s.port p with receiver := .hunting }

/-- Whether the reply queue of a port holds 4 replies (R159). -/
def queueFull (p : Port) (s : State) : Bool := decide (Config.waitingReplies ≤ (s.port p).replies.length)

/-- A reply joins the tail of a port's queue (R159). -/
def pushReply (p : Port) (x : PortReply) (s : State) : State :=
  s.setPort p { s.port p with replies := (s.port p).replies ++ [x] }

/-- A known request whose frame has been completed on a port: discarded at a full reply queue, else decided and answered
(R159, R160). The frame has left the receiver HUNTING (R157). -/
def takeRequest (r : Req) (p : Port) (payload : List Byte) (s : State) : State :=
  let s := hunt p s
  if queueFull p s then s
  else
    let d := decideRequest r p payload s
    pushReply p { code := byte (reqCode r), status := d.status, payload := d.payload } d.state

/-- A frame that passes its check: a request, or an unknown CODE, whose reply echoes it (8.1, R160). -/
def takeFrame (p : Port) (code : Byte) (payload : List Byte) (s : State) : State :=
  match reqOf code.toNat with
  | some r => takeRequest r p payload s
  | none =>
    let s := hunt p s
    if queueFull p s then s else pushReply p { code := code, status := .unknownCode, payload := [] } s

/-- A frame with a LENGTH out of range or a failing check is answered FRAME_ERROR, with CODE 0 (R157, R158). At a full
reply queue the answer is lost (R159). -/
def takeFrameError (p : Port) (s : State) : State :=
  let s := hunt p s
  if queueFull p s then s else pushReply p { code := 0, status := .frameError, payload := [] } s

/-- A frame completed while the reply queue holds 4 replies is discarded (R159). The row FRAME_DISCARDED_QUEUE_FULL taken
while fewer than 4 replies wait, which no rule describes, discards the frame all the same: the model's choice (log entry
59). -/
def discardFrame (p : Port) (s : State) : State := hunt p s

/-- A complete frame: LENGTH, then CODE, the payload and CHECK (R158, R159). -/
def completeFrame (p : Port) (length : Nat) (got : List Byte) (s : State) : State :=
  if queueFull p s then discardFrame p s
  else if (length + byteSum got) % 256 = 0 then takeFrame p (got.getD 0 0) (slice got 1 (length - 2)) s
  else takeFrameError p s

/-- A byte arrives on the receive line of a port (R157). -/
def portByte (p : Port) (b : Byte) (s : State) : State :=
  let x := s.port p
  match x.receiver with
  | .hunting => if b = 0xA5 then s.setPort p { x with receiver := .counting } else s
  | .counting =>
    if 2 ≤ b.toNat ∧ b.toNat ≤ 250 then s.setPort p { x with receiver := .gathering b.toNat [] } else takeFrameError p s
  | .gathering length got =>
    if got.length + 1 < length then s.setPort p { x with receiver := .gathering length (got ++ [b]) }
    else completeFrame p length (got ++ [b]) s

/-- The reply at the head of a port's queue has been sent (R159). The reply that is being sent counts among the 4 that wait until
then, the model's choice (log entry 79). -/
def replySent (p : Port) (s : State) : State := s.setPort p { s.port p with replies := (s.port p).replies.drop 1 }

/-- A reply as a frame: SYNC, LENGTH, CODE, STATUS, the payload and a CHECK that makes the sum of LENGTH through CHECK 0
modulo 256 (8.1). -/
def replyFrame (x : PortReply) : List Byte :=
  let body := be1 (x.payload.length + 3) ++ [x.code] ++ be1 (statusCode x.status) ++ x.payload
  [0xA5] ++ body ++ be1 (256 - byteSum body % 256)

/-- The characters of the reply that a port sends now on its send line, the head of its queue (8.1, R159). -/
def sendLine (x : PortState) : List BitTime := ((x.replies.head?.map replyFrame).getD []).flatMap character

end Sys2Proof.Machine
end

