-- ==== Sys2Proof/Machine/TimerOps.lean ====
section
/-! DEFINITION. The timers of Cycle Control, of the Claim Queue Unit and of the Fault and Service Unit (R31, R39, R43,
R46, R130, R151, R152, R154), and power-on (R52, R103, R117, R125, R177).

Each timer acts only on a deadline that is present and has been reached; otherwise there is no such event, and the
command changes nothing (log entry 7). -/

namespace Sys2Proof.Machine

/-- The number of a machine address, for a timer of that machine. -/
def atAddress (n : Nat) (f : Addr → State → State) (s : State) : State :=
  match addr? n with
  | none => s
  | some a => f a s

/-! ## Cycle Control -/

/-- Whether the phase of a cycle is ACTIVE and has used its limit (R31). A phase that has left ACTIVE in the same second, before
the limit is taken, does not meet it until it is ACTIVE again, the model's choice (log entry 72). -/
def limitReached (c : Cycle) : Bool :=
  decide (c.sub = .active) &&
  match phaseLimit c with
  | none => false
  | some n => decide (n ≤ c.timeUsed)

/-- A phase reaches its limit: PHASE_TIMEOUT, and the cycle stops with cause MACHINE (R31). -/
def limitTimeout (a : Addr) (s : State) : State :=
  if (s.machine a).state = .running ∧ ((s.machine a).cycle.map limitReached).getD false then timeoutStop a s else s

/-- The stop deadline is reached: STOP_TIMEOUT, the refund if it was never settled, and OUT_OF_SERVICE (R39). -/
def stopTimeout (a : Addr) (s : State) : State :=
  if (s.machine a).state = .stopping ∧ due ((s.machine a).cycle.bind (·.stopDeadline)) s.now then
    let s := confirmStop a (handFault (cycleHanding a faultStopTimeout s) s)
    moveTo a .outOfService (modifyMachine a (fun m => { m with cycle := none, lockPending := false }) s)
  else s

/-- Whether a cycle is a DRY phase, ACTIVE, with no paid second left and COOL not posted (R43). A phase that has left ACTIVE
before the zero is taken posts no COOL until it is ACTIVE again, the model's choice (log entry 69). -/
def drySpent (c : Cycle) : Bool := drying c && decide (c.sub = .active) && c.remaining == 0

/-- The remaining paid seconds reach 0: cool posted becomes yes and START_PHASE for COOL is posted (R43). -/
def postCool (a : Addr) (s : State) : State :=
  match (s.machine a).cycle with
  | none => s
  | some c =>
    if (s.machine a).state = .running ∧ drySpent c then
      post a (.startPhase (c.index + 1) .cool 0) .cycleControl (modifyCycle a (fun c => { c with coolPosted := true }) s)
    else s

/-- Whether the pause deadline of a cycle has been reached with the phase PAUSED or SUSPENDING (R46). -/
def pauseDue (now : Nat) (c : Cycle) : Bool :=
  due c.pauseDeadline now && (decide (c.sub = .paused) || decide (c.sub = .suspending))

/-- The pause deadline is reached: the cycle stops with cause USER (R46). -/
def pauseTimeout (a : Addr) (s : State) : State :=
  if (s.machine a).state = .running ∧ ((s.machine a).cycle.map (pauseDue s.now)).getD false then stopCycle a .user s else s

/-! ## Claim queues -/

/-- The deadline of the hold of a machine is reached: with holder paying yes nothing is taken, else the hold expires
(R130). -/
def holdTimeout (a : Addr) (s : State) : State :=
  match (s.queue (s.classOf a)).entries.find? (holdsMachine a) with
  | none => s
  | some e => if due (e.hold.map (·.deadline)) s.now ∧ ¬ e.paying then expireHold a s else s

/-! ## Fault and Service Unit -/

/-- The deadline of an ACTIVE service phase is reached (R151). -/
def servicePhaseTimeout (s : State) : State :=
  match s.session with
  | none => s
  | some x =>
    match x.phase with
    | none => s
    | some ph => if ph.sub = .active ∧ ph.windDown.isNone ∧ due ph.deadline s.now then phaseTimeout x.machine s else s

/-- The wind-down deadline of a subtest or a service phase is reached: STOP_TIMEOUT, the grant is released, and the work
ends with the outcome already decided (R152). -/
def windDownTimeout (a : Addr) (s : State) : State :=
  let timedOut (s : State) : State := releaseGrant a (handFault (serviceHanding a faultStopTimeout s) s)
  match (s.machine a).testRun.bind (·.windDown) with
  | some w => if w.deadline ≤ s.now then finishTest a w.outcome w.code (timedOut s) else s
  | none =>
    match (phaseOn a s).bind (·.windDown) with
    | some w => if w.deadline ≤ s.now then finishPhase a w.outcome (timedOut s) else s
    | none => s

/-- The report deadline of a subtest is reached in STARTING or RUNNING (R154). -/
def reportTimeout (a : Addr) (s : State) : State :=
  match (s.machine a).testRun with
  | none => s
  | some r => if r.windDown.isNone ∧ due r.reportDeadline s.now then subtestTimeout a s else s

/-! ## Power-on -/

/-- Whether the retained domain kept its contents: the backup cell held, and the mark was present (R176). -/
def retentionKept (backupHeld : Bool) (s : State) : Bool := backupHeld && s.retentionValid

/-- The part right after power-on, before the retained domain is judged: nothing of the time before is left but the
commands that wait and the card-present switches (R6, R21, R53, R84, R126, R140, R165). -/
def freshStart (s : State) : State :=
  { State.reset with
    pending := s.pending,
    stationA := { Station.initial with switchClosed := s.stationA.switchClosed },
    stationB := { Station.initial with switchClosed := s.stationB.switchClosed } }

/-- A refund entry at power-on: a credit in progress is IN_DOUBT (R117). -/
def keptRefund (e : RefundEntry) : RefundEntry :=
  if e.inProgress then { e with state := .inDoubt, inProgress := false } else e

/-- Whether a refund entry changes its state at power-on (R117). -/
def fallsInDoubt (e : RefundEntry) : Bool := decide ((keptRefund e).state ≠ e.state)

/-- The retained values taken at power-on (R177, step 1); an entry that becomes IN_DOUBT raises PAYMENT, as each change of an
entry's state does (R114, R117). -/
def keepRetained (old s : State) : State :=
  raiseIf (old.refunds.any fallsInDoubt) .payment { s with
    startReason := .kept, halted := old.halted, cycleCounter := old.cycleCounter, refunds := old.refunds.map keptRefund,
    audit := old.audit, electric := { s.electric with halted := old.halted }, water := { s.water with halted := old.halted } }

/-- A retained cycle record is closed: a refund not computed before is computed with cause ROOM and placed (R52, R125). -/
def closeRetained (old s : State) (a : Addr) : State :=
  match (old.machine a).cycle with
  | none => s
  | some c => if c.refund.isSome then s else placeRefund c.payer (refundOf (old.classOf a) c .room) (addrNum a) s

/-- A retained doubt or debit in progress is ended unresolved (R103). -/
def closeDebit (s : State) (d : DebitCopy) : State :=
  raise .payment (countDebitUnresolved
    (handFault { plainHanding (addrNum d.machine) faultDebitUnresolved with card := some d.card } s))

/-- The debits that the retained domain holds: the doubts in order of creation, then the debits in progress, station A
before station B (R103). -/
def retainedDebits (old : State) : List DebitCopy := old.doubts.map (·.debit) ++ old.debitA.toList ++ old.debitB.toList

/-- The closure of retained state (R177, step 3). -/
def closeRetainedState (old s : State) : State := (retainedDebits old).foldl closeDebit (allAddrs.foldl (closeRetained old) s)

/-- Power-on (R177); the autoload is under way when it ends. -/
def powerOn (backupHeld : Bool) (s : State) : State :=
  if retentionKept backupHeld s then closeRetainedState s (keepRetained s (freshStart s)) else freshStart s

end Sys2Proof.Machine
end

