-- ==== Sys2Proof/Machine/Charges.lean ====
section
/-! DEFINITION. The meanings of the commands of one family: prices, refunds and audit totals (chapter 5). Every command
has an effect in every state, so each meaning answers a next state. -/

namespace Sys2Proof.Machine

/-- SET_PRICE (R105). -/
def execSetPrice (port : Port) (payload : List Byte) (s : State) : Host.Outcome State Fault Refusal :=
  .next (takeRequest .setPrice port payload s)

/-- ADD_REFUND (R118). -/
def execAddRefund (port : Port) (payload : List Byte) (s : State) : Host.Outcome State Fault Refusal :=
  .next (takeRequest .addRefund port payload s)

/-- CANCEL_REFUND (R119). -/
def execCancelRefund (port : Port) (payload : List Byte) (s : State) : Host.Outcome State Fault Refusal :=
  .next (takeRequest .cancelRefund port payload s)

/-- CONFIRM_REFUND (R120). -/
def execConfirmRefund (port : Port) (payload : List Byte) (s : State) : Host.Outcome State Fault Refusal :=
  .next (takeRequest .confirmRefund port payload s)

/-- READ_REFUNDS (R121). -/
def execReadRefunds (port : Port) (payload : List Byte) (s : State) : Host.Outcome State Fault Refusal :=
  .next (takeRequest .readRefunds port payload s)

/-- CLEAR_AUDIT (R123). -/
def execClearAudit (port : Port) (payload : List Byte) (s : State) : Host.Outcome State Fault Refusal :=
  .next (takeRequest .clearAudit port payload s)

/-- READ_AUDIT (R124). -/
def execReadAudit (port : Port) (payload : List Byte) (s : State) : Host.Outcome State Fault Refusal :=
  .next (takeRequest .readAudit port payload s)

end Sys2Proof.Machine
end

