-- ==== Sys2Proof/Machine/Claims.lean ====
section
/-! DEFINITION. The meanings of the commands of one family: the claim queues (chapter 6). Every command has an effect in
every state, so each meaning answers a next state. -/

namespace Sys2Proof.Machine

/-- The deadline of a hold is reached (R130). -/
def execHoldDeadline (address : Nat) (s : State) : Host.Outcome State Fault Refusal :=
  .next (atAddress address holdTimeout s)

/-- READ_QUEUE (R135). -/
def execReadQueue (port : Port) (payload : List Byte) (s : State) : Host.Outcome State Fault Refusal :=
  .next (takeRequest .readQueue port payload s)

/-- CANCEL_CLAIM (R136). -/
def execCancelClaim (port : Port) (payload : List Byte) (s : State) : Host.Outcome State Fault Refusal :=
  .next (takeRequest .cancelClaim port payload s)

end Sys2Proof.Machine
end

