-- ==== Sys2Proof/Machine/Cycles.lean ====
section
/-! DEFINITION. The meanings of the commands of one family: Cycle Control: limits, stops, dryer time and the room record
(chapter 2). Every command has an effect in every state, so each meaning answers a next state. -/

namespace Sys2Proof.Machine

/-- A phase reaches its limit (R31). -/
def execPhaseLimitReached (address : Nat) (s : State) : Host.Outcome State Fault Refusal :=
  .next (atAddress address limitTimeout s)

/-- A stop deadline is reached (R39). -/
def execStopDeadline (address : Nat) (s : State) : Host.Outcome State Fault Refusal :=
  .next (atAddress address stopTimeout s)

/-- STOP_MACHINE (R41). -/
def execStopMachine (port : Port) (payload : List Byte) (s : State) : Host.Outcome State Fault Refusal :=
  .next (takeRequest .stopMachine port payload s)

/-- A dryer's remaining paid seconds reach 0 (R43). -/
def execRemainingPaidSecondsZero (address : Nat) (s : State) : Host.Outcome State Fault Refusal :=
  .next (atAddress address postCool s)

/-- A door-pause deadline is reached (R46). -/
def execPauseDeadline (address : Nat) (s : State) : Host.Outcome State Fault Refusal :=
  .next (atAddress address pauseTimeout s)

/-- HALT_ROOM (R49). -/
def execHaltRoom (port : Port) (payload : List Byte) (s : State) : Host.Outcome State Fault Refusal :=
  .next (takeRequest .haltRoom port payload s)

/-- RESUME_ROOM (R50). -/
def execResumeRoom (port : Port) (payload : List Byte) (s : State) : Host.Outcome State Fault Refusal :=
  .next (takeRequest .resumeRoom port payload s)

/-- SET_BAND (R51). -/
def execSetBand (port : Port) (payload : List Byte) (s : State) : Host.Outcome State Fault Refusal :=
  .next (takeRequest .setBand port payload s)

end Sys2Proof.Machine
end

