-- ==== Sys2Proof/Machine/Pools.lean ====
section
/-! DEFINITION. The meanings of the commands of one family: the load pools (chapter 3). Every command has an effect in
every state, so each meaning answers a next state. -/

namespace Sys2Proof.Machine

/-- SET_FEEDER_LIMIT (R55). -/
def execSetFeederLimit (port : Port) (payload : List Byte) (s : State) : Host.Outcome State Fault Refusal :=
  .next (takeRequest .setFeederLimit port payload s)

/-- SET_WATER_LIMIT (R55). -/
def execSetWaterLimit (port : Port) (payload : List Byte) (s : State) : Host.Outcome State Fault Refusal :=
  .next (takeRequest .setWaterLimit port payload s)

/-- SET_RESERVE (R56). -/
def execSetReserve (port : Port) (payload : List Byte) (s : State) : Host.Outcome State Fault Refusal :=
  .next (takeRequest .setReserve port payload s)

/-- The suspend deadline of a machine's marked grant is reached; it stands in one pool (R70). -/
def execSuspendDeadline (address : Nat) (s : State) : Host.Outcome State Fault Refusal :=
  .next (atAddress address (fun a s => suspendTimeout .water a (suspendTimeout .electric a s)) s)

/-- The wait entry of a machine reaches its grant-wait limit; it stands in one pool (R71, R72). -/
def execGrantWaitExpiry (address : Nat) (s : State) : Host.Outcome State Fault Refusal :=
  .next (atAddress address (fun a s => expireFrom .water a (expireFrom .electric a s)) s)

/-- READ_POOL (R75). -/
def execReadPool (port : Port) (payload : List Byte) (s : State) : Host.Outcome State Fault Refusal :=
  .next (takeRequest .readPool port payload s)

/-- CLEAR_POOL_STATS (R76). -/
def execClearPoolStats (port : Port) (payload : List Byte) (s : State) : Host.Outcome State Fault Refusal :=
  .next (takeRequest .clearPoolStats port payload s)

end Sys2Proof.Machine
end

