-- ==== Sys2Proof/Machine/Ports.lean ====
section
/-! DEFINITION. The meanings of the commands of one family: the control ports (chapter 8). Every command has an effect
in every state, so each meaning answers a next state. -/

namespace Sys2Proof.Machine

/-- A frame with a LENGTH out of range or a failing check (R158). -/
def execFrameError (port : Port) (s : State) : Host.Outcome State Fault Refusal :=
  .next (takeFrameError port s)

/-- A port break: the frame gathered so far is discarded (R157). -/
def execPortBreak (port : Port) (s : State) : Host.Outcome State Fault Refusal :=
  .next (hunt port s)

/-- A frame completed while the reply queue holds 4 replies (R159). -/
def execFrameDiscardedQueueFull (port : Port) (s : State) : Host.Outcome State Fault Refusal :=
  .next (discardFrame port s)

/-- A frame that passes its check, of a CODE that is not in the rights table (R160). -/
def execUnknownCode (port : Port) (code : Byte) (payload : List Byte) (s : State) : Host.Outcome State Fault Refusal :=
  .next (takeFrame port code payload s)

/-- The reply at the head of a port's queue has been sent (R159). -/
def execReplySent (port : Port) (s : State) : Host.Outcome State Fault Refusal :=
  .next (Sys2Proof.Machine.replySent port s)

/-- READ_EVENTS (R163). -/
def execReadEvents (port : Port) (payload : List Byte) (s : State) : Host.Outcome State Fault Refusal :=
  .next (takeRequest .readEvents port payload s)

/-- ACK_EVENTS (R163). -/
def execAckEvents (port : Port) (payload : List Byte) (s : State) : Host.Outcome State Fault Refusal :=
  .next (takeRequest .ackEvents port payload s)

/-- SET_NOTICE_MASK (R164). -/
def execSetNoticeMask (port : Port) (payload : List Byte) (s : State) : Host.Outcome State Fault Refusal :=
  .next (takeRequest .setNoticeMask port payload s)

/-- READ_ROOM (R166). -/
def execReadRoom (port : Port) (payload : List Byte) (s : State) : Host.Outcome State Fault Refusal :=
  .next (takeRequest .readRoom port payload s)

/-- READ_MACHINE (R167). -/
def execReadMachine (port : Port) (payload : List Byte) (s : State) : Host.Outcome State Fault Refusal :=
  .next (takeRequest .readMachine port payload s)

/-- A byte arrives on a receive line (R157). -/
def execReceiveLineByte (port : Port) (byte : Byte) (s : State) : Host.Outcome State Fault Refusal :=
  .next (portByte port byte s)

end Sys2Proof.Machine
end

