-- ==== Sys2Proof/Machine/RoomBus.lean ====
section
/-! DEFINITION. The meanings of the commands of one family: the room bus: the room second, the slots and the replies
(chapter 1). Every command has an effect in every state, so each meaning answers a next state. -/

namespace Sys2Proof.Machine

/-- The room-second tick (R2, R31, R43, R74). -/
def execRoomSecondTick (s : State) : Host.Outcome State Fault Refusal :=
  .next (tick s)

/-- The poll frame of the next slot is sent (R3). -/
def execPollSlot (s : State) : Host.Outcome State Fault Refusal :=
  .next (beginSlot s)

/-- A reply arrives in the open slot of a PRESENT address (R9 to R14); the presence of the address decides how it is handled. -/
def execReplyValid (bytes : List Byte) (s : State) : Host.Outcome State Fault Refusal :=
  .next (takeReply bytes s)

/-- The open reply window closes without a valid reply (R11). -/
def execReplyWindowMissed (s : State) : Host.Outcome State Fault Refusal :=
  .next (windowMissed s)

/-- A reply arrives in a discovery slot (R15); the presence of the address decides how it is handled. -/
def execDiscoveryReply (bytes : List Byte) (s : State) : Host.Outcome State Fault Refusal :=
  .next (takeReply bytes s)

/-- A reply of a JOINING address arrives (R18); the presence of the address decides how it is handled. -/
def execJoiningReply (bytes : List Byte) (s : State) : Host.Outcome State Fault Refusal :=
  .next (takeReply bytes s)

/-- The orphan deadline of an address is reached (R19). -/
def execOrphanDeadline (expiry : OrphanExpiry) (s : State) : Host.Outcome State Fault Refusal :=
  .next (atAddress expiry.address (orphanTimeout expiry.joinFirst) s)

end Sys2Proof.Machine
end

