-- ==== Sys2Proof/Machine/Service.lean ====
section
/-! DEFINITION. The meanings of the commands of one family: faults, locks, sessions and self-tests (chapter 7). Every
command has an effect in every state, so each meaning answers a next state. -/

namespace Sys2Proof.Machine

/-- READ_FAULTS (R139). -/
def execReadFaults (port : Port) (payload : List Byte) (s : State) : Host.Outcome State Fault Refusal :=
  .next (takeRequest .readFaults port payload s)

/-- CLEAR_FAULTS (R140). -/
def execClearFaults (port : Port) (payload : List Byte) (s : State) : Host.Outcome State Fault Refusal :=
  .next (takeRequest .clearFaults port payload s)

/-- LOCK (R144). -/
def execLock (port : Port) (payload : List Byte) (s : State) : Host.Outcome State Fault Refusal :=
  .next (takeRequest .lock port payload s)

/-- UNLOCK (R145). -/
def execUnlock (port : Port) (payload : List Byte) (s : State) : Host.Outcome State Fault Refusal :=
  .next (takeRequest .unlock port payload s)

/-- CLEAR_STRIKES (R145). -/
def execClearStrikes (port : Port) (payload : List Byte) (s : State) : Host.Outcome State Fault Refusal :=
  .next (takeRequest .clearStrikes port payload s)

/-- GRANT_PERMIT (R147). -/
def execGrantPermit (port : Port) (payload : List Byte) (s : State) : Host.Outcome State Fault Refusal :=
  .next (takeRequest .grantPermit port payload s)

/-- ENTER_SERVICE (R148). -/
def execEnterService (port : Port) (payload : List Byte) (s : State) : Host.Outcome State Fault Refusal :=
  .next (takeRequest .enterService port payload s)

/-- EXIT_SERVICE (R149). -/
def execExitService (port : Port) (payload : List Byte) (s : State) : Host.Outcome State Fault Refusal :=
  .next (takeRequest .exitService port payload s)

/-- SERVICE_PHASE (R150). -/
def execServicePhase (port : Port) (payload : List Byte) (s : State) : Host.Outcome State Fault Refusal :=
  .next (takeRequest .servicePhase port payload s)

/-- The deadline of a service phase is reached (R151). -/
def execServicePhaseDeadline (s : State) : Host.Outcome State Fault Refusal :=
  .next (servicePhaseTimeout s)

/-- A wind-down deadline is reached (R152). -/
def execWindDownDeadline (address : Nat) (s : State) : Host.Outcome State Fault Refusal :=
  .next (atAddress address windDownTimeout s)

/-- SELF_TEST (R153). -/
def execSelfTest (port : Port) (payload : List Byte) (s : State) : Host.Outcome State Fault Refusal :=
  .next (takeRequest .selfTest port payload s)

/-- The report deadline of a subtest is reached (R154). -/
def execSubtestReportDeadline (address : Nat) (s : State) : Host.Outcome State Fault Refusal :=
  .next (atAddress address reportTimeout s)

end Sys2Proof.Machine
end

