-- ==== Sys2Proof/Machine/StartUp.lean ====
section
/-! DEFINITION. The meanings of the commands of one family: power-on, the autoload, the store and the configuration
requests (chapter 9). Every command has an effect in every state, so each meaning answers a next state. -/

namespace Sys2Proof.Machine

/-- Power-on (R177). -/
def execPowerOn (backupHeld : Bool) (s : State) : Host.Outcome State Fault Refusal :=
  .next (Sys2Proof.Machine.powerOn backupHeld s)

/-- The autoload ends: its read is judged by the acknowledgements of the memory (R169, R170). -/
def execAutoloadEnd (answers : ReadAnswers) (s : State) : Host.Outcome State Fault Refusal :=
  .next (endAutoload (bytesRead configMemory answers) s)

/-- SET_ROOM_PARAM (R172). -/
def execSetRoomParam (port : Port) (payload : List Byte) (s : State) : Host.Outcome State Fault Refusal :=
  .next (takeRequest .setRoomParam port payload s)

/-- SET_WASH_PROFILE (R173). -/
def execSetWashProfile (port : Port) (payload : List Byte) (s : State) : Host.Outcome State Fault Refusal :=
  .next (takeRequest .setWashProfile port payload s)

/-- SET_DRY_PROFILE (R173). -/
def execSetDryProfile (port : Port) (payload : List Byte) (s : State) : Host.Outcome State Fault Refusal :=
  .next (takeRequest .setDryProfile port payload s)

/-- SET_MACHINE (R174). -/
def execSetMachine (port : Port) (payload : List Byte) (s : State) : Host.Outcome State Fault Refusal :=
  .next (takeRequest .setMachine port payload s)

/-- STORE_CONFIG (R175). -/
def execStoreConfig (port : Port) (payload : List Byte) (s : State) : Host.Outcome State Fault Refusal :=
  .next (takeRequest .storeConfig port payload s)

/-- An access of the store ends (R175). -/
def execStoreAccessDone (access : StoreAccess) (s : State) : Host.Outcome State Fault Refusal :=
  .next (storeAccess access s)

end Sys2Proof.Machine
end

