-- ==== Sys2Proof/Machine/Stations.lean ====
section
/-! DEFINITION. The meanings of the commands of one family: the pay stations (chapter 4). Every command has an effect in
every state, so each meaning answers a next state. -/

namespace Sys2Proof.Machine

/-- A PAY message is taken (R92, R93). -/
def execPay (station : StationId) (target : Byte) (steps : Byte) (s : State) : Host.Outcome State Fault Refusal :=
  .next (takePay station target.toNat steps.toNat (clearPanel station s))

/-- An ADD_TIME message is taken (R97). -/
def execAddTime (station : StationId) (target : Byte) (steps : Byte) (s : State) : Host.Outcome State Fault Refusal :=
  .next (takeAddTime station target.toNat steps.toNat (clearPanel station s))

/-- A QUEUE message is taken (R127). -/
def execQueue (station : StationId) (cls : Byte) (s : State) : Host.Outcome State Fault Refusal :=
  .next (takeQueue station cls.toNat (clearPanel station s))

/-- A BALANCE message is taken (R98). -/
def execBalance (station : StationId) (s : State) : Host.Outcome State Fault Refusal :=
  .next (takeBalance station (clearPanel station s))

/-- A panel message that is no request (R77). -/
def execRequestError (station : StationId) (s : State) : Host.Outcome State Fault Refusal :=
  .next (panelError station (clearPanel station s))

/-- A gap of more than 100 ms between request bytes (R77). -/
def execRequestGapTimeout (station : StationId) (s : State) : Host.Outcome State Fault Refusal :=
  .next (clearPanel station s)

/-- The card-present switch closes (R84, R85). -/
def execCardInserted (station : StationId) (s : State) : Host.Outcome State Fault Refusal :=
  .next (insertCard station s)

/-- The card-present switch opens (R87). -/
def execCardRemoved (station : StationId) (s : State) : Host.Outcome State Fault Refusal :=
  .next (removeCard station s)

/-- The insertion read fails (R85). -/
def execInsertionReadFail (station : StationId) (s : State) : Host.Outcome State Fault Refusal :=
  .next (readFails station s)

/-- The insertion read ends: with its bytes, which decide the card, or failed, by the acknowledgements of the card (R80, R85,
R86, R88 to R90). -/
def execInsertionReadDone (station : StationId) (answers : ReadAnswers) (s : State) : Host.Outcome State Fault Refusal :=
  .next (readEnds station (bytesRead purseCard answers) s)

/-- The card acknowledges the device byte of a write (R91, R94). -/
def execWriteBegun (station : StationId) (s : State) : Host.Outcome State Fault Refusal :=
  .next (writeBegins station s)

/-- A card write ends: the acknowledgements of its bytes and of its polls say how (R81, R91, R94). -/
def execCardWriteDone (station : StationId) (answers : LinkAnswers) (s : State) : Host.Outcome State Fault Refusal :=
  .next (writeEnds station (writeOutcome answers) s)

/-- A verify read ends: the acknowledgements of the card say whether it failed (R80, R91, R95, R96). -/
def execVerifyReadDone (station : StationId) (answers : ReadAnswers) (s : State) : Host.Outcome State Fault Refusal :=
  .next (verifyEnds station (bytesRead purseCard answers) s)

/-- The deadline of a card's doubt is reached (R100). -/
def execDoubtDeadline (card : Nat) (s : State) : Host.Outcome State Fault Refusal :=
  .next (doubtTimeout card s)

/-- READ_DOUBTS (R102). -/
def execReadDoubts (port : Port) (payload : List Byte) (s : State) : Host.Outcome State Fault Refusal :=
  .next (takeRequest .readDoubts port payload s)

/-- A byte arrives on a request line (R77). -/
def execRequestLineByte (station : StationId) (byte : Byte) (s : State) : Host.Outcome State Fault Refusal :=
  .next (panelByte station byte s)

end Sys2Proof.Machine
end

