-- ==== Sys2Proof/Machine/Dispatch.lean ====
section
/-! DEFINITION. The meaning of every command, one arm for each constructor of Instr. -/

namespace Sys2Proof.Machine

def exec (i : Instr) (s : State) : Host.Outcome State Fault Refusal :=
  match i with
  | .powerOn backupHeld => Sys2Proof.Machine.execPowerOn backupHeld s
  | .autoloadEnd answers => Sys2Proof.Machine.execAutoloadEnd answers s
  | .roomSecondTick => Sys2Proof.Machine.execRoomSecondTick s
  | .pollSlot => Sys2Proof.Machine.execPollSlot s
  | .replyValid bytes => Sys2Proof.Machine.execReplyValid bytes s
  | .replyWindowMissed => Sys2Proof.Machine.execReplyWindowMissed s
  | .discoveryReply bytes => Sys2Proof.Machine.execDiscoveryReply bytes s
  | .joiningReply bytes => Sys2Proof.Machine.execJoiningReply bytes s
  | .orphanDeadline expiry => Sys2Proof.Machine.execOrphanDeadline expiry s
  | .phaseLimitReached address => Sys2Proof.Machine.execPhaseLimitReached address s
  | .stopDeadline address => Sys2Proof.Machine.execStopDeadline address s
  | .stopMachine port payload => Sys2Proof.Machine.execStopMachine port payload s
  | .remainingPaidSecondsZero address => Sys2Proof.Machine.execRemainingPaidSecondsZero address s
  | .pauseDeadline address => Sys2Proof.Machine.execPauseDeadline address s
  | .haltRoom port payload => Sys2Proof.Machine.execHaltRoom port payload s
  | .resumeRoom port payload => Sys2Proof.Machine.execResumeRoom port payload s
  | .setBand port payload => Sys2Proof.Machine.execSetBand port payload s
  | .setFeederLimit port payload => Sys2Proof.Machine.execSetFeederLimit port payload s
  | .setWaterLimit port payload => Sys2Proof.Machine.execSetWaterLimit port payload s
  | .setReserve port payload => Sys2Proof.Machine.execSetReserve port payload s
  | .suspendDeadline address => Sys2Proof.Machine.execSuspendDeadline address s
  | .grantWaitExpiry address => Sys2Proof.Machine.execGrantWaitExpiry address s
  | .readPool port payload => Sys2Proof.Machine.execReadPool port payload s
  | .clearPoolStats port payload => Sys2Proof.Machine.execClearPoolStats port payload s
  | .pay station target steps => Sys2Proof.Machine.execPay station target steps s
  | .addTime station target steps => Sys2Proof.Machine.execAddTime station target steps s
  | .queue station cls => Sys2Proof.Machine.execQueue station cls s
  | .balance station => Sys2Proof.Machine.execBalance station s
  | .requestError station => Sys2Proof.Machine.execRequestError station s
  | .requestGapTimeout station => Sys2Proof.Machine.execRequestGapTimeout station s
  | .cardInserted station => Sys2Proof.Machine.execCardInserted station s
  | .cardRemoved station => Sys2Proof.Machine.execCardRemoved station s
  | .insertionReadFail station => Sys2Proof.Machine.execInsertionReadFail station s
  | .insertionReadDone station answers => Sys2Proof.Machine.execInsertionReadDone station answers s
  | .writeBegun station => Sys2Proof.Machine.execWriteBegun station s
  | .cardWriteDone station answers => Sys2Proof.Machine.execCardWriteDone station answers s
  | .verifyReadDone station answers => Sys2Proof.Machine.execVerifyReadDone station answers s
  | .doubtDeadline card => Sys2Proof.Machine.execDoubtDeadline card s
  | .readDoubts port payload => Sys2Proof.Machine.execReadDoubts port payload s
  | .setPrice port payload => Sys2Proof.Machine.execSetPrice port payload s
  | .addRefund port payload => Sys2Proof.Machine.execAddRefund port payload s
  | .cancelRefund port payload => Sys2Proof.Machine.execCancelRefund port payload s
  | .confirmRefund port payload => Sys2Proof.Machine.execConfirmRefund port payload s
  | .readRefunds port payload => Sys2Proof.Machine.execReadRefunds port payload s
  | .clearAudit port payload => Sys2Proof.Machine.execClearAudit port payload s
  | .readAudit port payload => Sys2Proof.Machine.execReadAudit port payload s
  | .holdDeadline address => Sys2Proof.Machine.execHoldDeadline address s
  | .readQueue port payload => Sys2Proof.Machine.execReadQueue port payload s
  | .cancelClaim port payload => Sys2Proof.Machine.execCancelClaim port payload s
  | .readFaults port payload => Sys2Proof.Machine.execReadFaults port payload s
  | .clearFaults port payload => Sys2Proof.Machine.execClearFaults port payload s
  | .lock port payload => Sys2Proof.Machine.execLock port payload s
  | .unlock port payload => Sys2Proof.Machine.execUnlock port payload s
  | .clearStrikes port payload => Sys2Proof.Machine.execClearStrikes port payload s
  | .grantPermit port payload => Sys2Proof.Machine.execGrantPermit port payload s
  | .enterService port payload => Sys2Proof.Machine.execEnterService port payload s
  | .exitService port payload => Sys2Proof.Machine.execExitService port payload s
  | .servicePhase port payload => Sys2Proof.Machine.execServicePhase port payload s
  | .servicePhaseDeadline => Sys2Proof.Machine.execServicePhaseDeadline s
  | .windDownDeadline address => Sys2Proof.Machine.execWindDownDeadline address s
  | .selfTest port payload => Sys2Proof.Machine.execSelfTest port payload s
  | .subtestReportDeadline address => Sys2Proof.Machine.execSubtestReportDeadline address s
  | .frameError port => Sys2Proof.Machine.execFrameError port s
  | .portBreak port => Sys2Proof.Machine.execPortBreak port s
  | .frameDiscardedQueueFull port => Sys2Proof.Machine.execFrameDiscardedQueueFull port s
  | .unknownCode port code payload => Sys2Proof.Machine.execUnknownCode port code payload s
  | .replySent port => Sys2Proof.Machine.execReplySent port s
  | .readEvents port payload => Sys2Proof.Machine.execReadEvents port payload s
  | .ackEvents port payload => Sys2Proof.Machine.execAckEvents port payload s
  | .setNoticeMask port payload => Sys2Proof.Machine.execSetNoticeMask port payload s
  | .readRoom port payload => Sys2Proof.Machine.execReadRoom port payload s
  | .readMachine port payload => Sys2Proof.Machine.execReadMachine port payload s
  | .setRoomParam port payload => Sys2Proof.Machine.execSetRoomParam port payload s
  | .setWashProfile port payload => Sys2Proof.Machine.execSetWashProfile port payload s
  | .setDryProfile port payload => Sys2Proof.Machine.execSetDryProfile port payload s
  | .setMachine port payload => Sys2Proof.Machine.execSetMachine port payload s
  | .storeConfig port payload => Sys2Proof.Machine.execStoreConfig port payload s
  | .storeAccessDone access => Sys2Proof.Machine.execStoreAccessDone access s
  | .receiveLineByte port byte => Sys2Proof.Machine.execReceiveLineByte port byte s
  | .requestLineByte station byte => Sys2Proof.Machine.execRequestLineByte station byte s

end Sys2Proof.Machine
end

