-- ==== Sys2Proof/Machine/Step.lean ====
section
/-! DEFINITION. One step: the command at the front of the queue is taken and its effect happens. -/

namespace Sys2Proof.Machine

/-- One step of the part: the command at the front of `pending` meets the state with the rest of the queue; with no
command waiting the part idles, since even the room-second tick is a command of the table (log entry 8). -/
def step (s : State) : Host.Outcome State Fault Refusal :=
  match s.pending with
  | [] => .next s
  | c :: rest => exec c { s with pending := rest }

/-- The part with the command that a table word spells put at the front of its queue; the part unchanged when the word
spells none, as every word does here (log entry 2). -/
def State.withFetchWord (s : State) (nbits w : Nat) : State :=
  match decodeTableWord nbits w with
  | some c => { s with pending := c :: s.pending }
  | none => s

end Sys2Proof.Machine
end

