-- ==== Sys2Proof/Safety.lean ====
section
/-! DEFINITION. What counts as a safe state of the part: the laws that the manual states as properties of every moment
(3.7 of spec/00_scope.md), each in the terms of this state. -/

namespace Sys2Proof.Machine

/-- R69: a pool's grants are within its figures unless it is OVER_LIMIT. -/
def Pool.lawful (p : Pool) : Bool := p.overLimit || p.withinFigures

/-- R69 for both pools. -/
def State.poolsLawful (s : State) : Bool := s.electric.lawful && s.water.lawful

/-- The total that must equal refund issued (R123). -/
def State.accounted (s : State) : Nat :=
  s.audit.credited + s.audit.unplaced + s.audit.cancelled + refundSum s.refunds

/-- R123: the balance of the refund accounts. -/
def State.balanced (s : State) : Prop := s.audit.issued = s.accounted

/-- Whether the card ids of a claim queue are all different (R127). -/
def distinctCards : List ClaimEntry → Bool
  | [] => true
  | e :: es => es.all (fun x => x.card != e.card) && distinctCards es

/-- R127: a claim queue holds at most 8 entries, with no card id twice. -/
def ClaimQueue.lawful (q : ClaimQueue) : Bool :=
  decide (q.entries.length ≤ Config.queueEntries) && distinctCards q.entries

/-- R127 for both queues. -/
def State.queuesLawful (s : State) : Bool := s.washers.lawful && s.dryers.lawful

/-- R159: a port holds at most 4 replies waiting. -/
def State.repliesLawful (s : State) : Bool :=
  decide (s.building.replies.length ≤ Config.waitingReplies) && decide (s.operator.replies.length ≤ Config.waitingReplies)
    && decide (s.service.replies.length ≤ Config.waitingReplies)

/-- R138: the fault table holds at most 48 records, and no two of them are of one machine and one code. -/
def distinctFaults : List FaultRecord → Bool
  | [] => true
  | r :: rs => rs.all (fun x => x.machine != r.machine || x.code != r.code) && distinctFaults rs

/-- R138 for the fault table. -/
def State.faultsLawful (s : State) : Bool := decide (s.faults.length ≤ Config.faultRecords) && distinctFaults s.faults

/-- R114: whether the entries of a refund table have cards and positions that are all different. -/
def distinctRefunds : List RefundEntry → Bool
  | [] => true
  | e :: es => es.all (fun x => x.card != e.card && x.position != e.position) && distinctRefunds es

/-- 5.4 and R114: at most 32 entries, at positions 0 to 31, no card and no position twice. -/
def State.refundsLawful (s : State) : Bool :=
  decide (s.refunds.length ≤ Config.refundEntries) && s.refunds.all (fun e => decide (e.position < Config.refundEntries))
    && distinctRefunds s.refunds

/-- Whether the cards of a doubt list are all different. -/
def distinctDoubts : List Doubt → Bool
  | [] => true
  | d :: ds => ds.all (fun x => x.debit.card != d.debit.card) && distinctDoubts ds

/-- R101 and 4.11: no card id is in use twice, in the two station records and the doubt list, which holds at most 4. -/
def State.cardsLawful (s : State) : Prop :=
  s.doubts.length ≤ Config.doubtRecords ∧ distinctDoubts s.doubts = true ∧
  ∀ card, ¬ (holdsCard card s.stationA = true ∧ holdsCard card s.stationB = true) ∧
    ((holdsCard card s.stationA = true ∨ holdsCard card s.stationB = true) →
      s.doubts.all (fun d => d.debit.card != card) = true)

/-- 1.2 and R7 to R9, R12, R18: an ABSENT address has no missed replies, commands or orphan deadline, and any other a last
status report; only a PRESENT address has a queued command, and only behind one in flight; fewer than 3 replies are missed;
and a command in flight carries the tag that the machine has not echoed last. -/
def BusFields.lawful (b : BusFields) : Bool :=
  (decide (b.presence ≠ .absent) ||
    (b.missed == 0 && b.inFlight.isNone && b.queued.isNone && b.orphanDeadline.isNone))
  && (b.queued.isNone || (decide (b.presence = .present) && b.inFlight.isSome))
  && (decide (b.presence = .absent) || b.report.isSome)
  && decide (b.missed < 3)
  && (b.inFlight.map (fun f => f.tag != b.lastTag)).getD true

/-- The law of the bus fields at every address. -/
def State.busLawful (s : State) : Prop := ∀ a, (s.machine a).bus.lawful = true

/-- R58: the RESUME entries of a wait list stand ahead of the others, in ascending suspension number. -/
def resumesFirst : List WaitEntry → Bool
  | [] => true
  | e :: es =>
    es.all (fun x => decide (x.purpose ≠ .resume) || (decide (e.purpose = .resume) && decide (e.number.getD 0 ≤ x.number.getD 0)))
      && resumesFirst es

/-- R57 to R60: each reserve of a pool is held by at most one grant, its wait list stands in its two runs, no pass count
exceeds 3, and a pool that may scan has left nothing waiting that a scan would grant. -/
def Pool.grantsLawful (p : Pool) : Bool :=
  decide ((p.grants.filter (isReserveOf .washer)).length ≤ 1) && decide ((p.grants.filter (isReserveOf .dryer)).length ≤ 1)
    && resumesFirst p.waits && p.waits.all (fun e => decide (e.passes ≤ 3))
    && (!p.mayScan || (scanFrom 0 p [] p.waits).granted.isEmpty)

/-- The machines with a grant in a pool, and those with an entry in its wait list. -/
def Pool.machines (p : Pool) : List Addr := p.grants.map (·.machine) ++ p.waits.map (·.machine)

/-- R57 to R62: both pools are lawful, and no machine has two grants, two entries, or a grant and an entry. -/
def State.grantsLawful (s : State) : Prop :=
  s.electric.grantsLawful = true ∧ s.water.grantsLawful = true ∧ (s.electric.machines ++ s.water.machines).Nodup

/-- R6, R12, R24, R28: a machine whose address is not PRESENT is ABSENT, an address that is not configured is ABSENT on the
bus, and a cycle record stands exactly at the RUNNING and STOPPING machines. -/
def State.roomLawful (s : State) : Prop :=
  ∀ a, ((s.machine a).bus.presence ≠ .present → (s.machine a).state = .absent) ∧
    (s.configured a = false → (s.machine a).bus.presence = .absent) ∧
    ((s.machine a).cycle.isSome = true ↔ (s.machine a).state = .running ∨ (s.machine a).state = .stopping)

/-- R129 to R134: the holds of the queue entries and of the machines name each other, in the class of the machine; every
HELD machine has a hold, and any other with one is a PAYING machine entered from HELD. -/
def State.holdsLawful (s : State) : Prop :=
  (∀ c, ∀ e ∈ (s.queue c).entries, ∀ h, e.hold = some h →
    s.classOf h.machine = c ∧ (s.machine h.machine).hold = some ⟨e.card, h.deadline⟩) ∧
  ∀ a, ((s.machine a).state = .held → (s.machine a).hold.isSome = true) ∧
    ∀ h, (s.machine a).hold = some h →
      (∃ e ∈ (s.queue (s.classOf a)).entries, e.card = h.card ∧ e.hold = some ⟨a, h.deadline⟩) ∧
      ((s.machine a).state = .held ∨
        (s.machine a).state = .paying ∧ (s.machine a).payment.map (·.origin) = some .held)

/-- A step that ends in a next state; no command of the part stops it. -/
def runs (s : State) : Prop := ∃ t, step s = .next t

/-! ## Terms that the statements share -/

/-- A port whose requests reach their owners' decisions: the mode is OPERATING, and a reply can still be queued (R159,
R160). -/
def State.listens (s : State) (p : Port) : Prop := s.mode = .operating ∧ (s.port p).replies.length < Config.waitingReplies

/-- A reply by the number of its CODE. -/
def replyTo (code : Nat) (status : Status) (payload : List Byte) : PortReply :=
  { code := BitVec.ofNat 8 code, status := status, payload := payload }

/-- A port after a request has been answered on the port `p`, with some events raised: every port sets the flags, and the
port `p` is HUNTING with the reply at the tail of its queue (R157, R159, R162). -/
def portAfter (p q : Port) (r : PortReply) (bits : BitVec 7) (x : PortState) : PortState :=
  if q = p then { receiver := .hunting, replies := x.replies ++ [r], flags := x.flags ||| bits, mask := x.mask }
  else { x with flags := x.flags ||| bits }

/-- The part with a request answered on a port and some events raised, and nothing else changed. -/
def State.answering (s : State) (p : Port) (r : PortReply) (bits : BitVec 7) : State :=
  { s with
    building := portAfter p .building r bits s.building, operator := portAfter p .operator r bits s.operator,
    service := portAfter p .service r bits s.service }

/-- `t` has answered a request that `s` took on the port `p`, whatever events were raised. -/
def Answers (p : Port) (r : PortReply) (s t : State) : Prop :=
  ∃ bits, ∀ q, t.port q = portAfter p q r bits (s.port q)

/-- The flags of some events set in every port (R162). -/
def State.raising (s : State) (bits : BitVec 7) : State :=
  { s with
    building := { s.building with flags := s.building.flags ||| bits },
    operator := { s.operator with flags := s.operator.flags ||| bits },
    service := { s.service with flags := s.service.flags ||| bits } }

/-- No machine but the one at `a` differs between two states. -/
def OtherMachines (a : Addr) (s t : State) : Prop := ∀ b, b ≠ a → t.machine b = s.machine b

/-- The fault table's last record is of a machine and a code, last handed over now. -/
def faultLast (machine code : Nat) (s : State) : Prop :=
  ∃ r, s.faults.getLast? = some r ∧ r.machine = machine ∧ r.code = code ∧ r.lastTime = s.now

/-- The cycle of the machine at `a` has been stopped with a cause (R36): the machine is STOPPING, the cause and a stop
deadline 600 s away are recorded, any pause deadline is gone, the rest of the cycle is as it was, and no wait entry of the
machine is left. -/
def StoppedWith (cause : StopCause) (a : Addr) (s t : State) : Prop :=
  (t.machine a).state = .stopping ∧
  (t.machine a).cycle = (s.machine a).cycle.map (fun c => { c with
    stopCause := some cause, stopDeadline := some (s.now + 600), pauseDeadline := none }) ∧
  t.electric.hasEntry a = false ∧ t.water.hasEntry a = false

/-- The port a command comes through, for the commands of the control ports (8.3). -/
def portOf : Instr → Option Port
  | .stopMachine p _ | .haltRoom p _ | .resumeRoom p _ | .setBand p _ | .setFeederLimit p _ | .setWaterLimit p _ => some p
  | .setReserve p _ | .readPool p _ | .clearPoolStats p _ | .readDoubts p _ | .setPrice p _ | .addRefund p _ => some p
  | .cancelRefund p _ | .confirmRefund p _ | .readRefunds p _ | .clearAudit p _ | .readAudit p _ | .readQueue p _ => some p
  | .cancelClaim p _ | .readFaults p _ | .clearFaults p _ | .lock p _ | .unlock p _ | .clearStrikes p _ => some p
  | .grantPermit p _ | .enterService p _ | .exitService p _ | .servicePhase p _ | .selfTest p _ | .frameError p => some p
  | .portBreak p | .frameDiscardedQueueFull p | .unknownCode p _ _ | .replySent p | .readEvents p _ | .ackEvents p _ => some p
  | .setNoticeMask p _ | .readRoom p _ | .readMachine p _ | .setRoomParam p _ | .setWashProfile p _ => some p
  | .setDryProfile p _ | .setMachine p _ | .storeConfig p _ | .receiveLineByte p _ => some p
  | .powerOn _ | .autoloadEnd _ | .roomSecondTick | .pollSlot | .replyValid _ | .replyWindowMissed => none
  | .discoveryReply _ | .joiningReply _ | .orphanDeadline _ | .phaseLimitReached _ | .stopDeadline _ => none
  | .remainingPaidSecondsZero _ | .pauseDeadline _ | .suspendDeadline _ | .grantWaitExpiry _ | .pay _ _ _ => none
  | .addTime _ _ _ | .queue _ _ | .balance _ | .requestError _ | .requestGapTimeout _ | .cardInserted _ => none
  | .cardRemoved _ | .insertionReadFail _ | .insertionReadDone _ _ | .writeBegun _ | .cardWriteDone _ _ => none
  | .verifyReadDone _ _ | .doubtDeadline _ | .holdDeadline _ | .servicePhaseDeadline | .windDownDeadline _ => none
  | .subtestReportDeadline _ | .storeAccessDone _ | .requestLineByte _ _ => none

/-- The request that a command is, for the rows that the rights table lists (8.3), with its payload. -/
def requestOf : Instr → Option (Req × List Byte)
  | .stopMachine _ payload => some (.stopMachine, payload)
  | .haltRoom _ payload => some (.haltRoom, payload)
  | .resumeRoom _ payload => some (.resumeRoom, payload)
  | .setBand _ payload => some (.setBand, payload)
  | .setFeederLimit _ payload => some (.setFeederLimit, payload)
  | .setWaterLimit _ payload => some (.setWaterLimit, payload)
  | .setReserve _ payload => some (.setReserve, payload)
  | .readPool _ payload => some (.readPool, payload)
  | .clearPoolStats _ payload => some (.clearPoolStats, payload)
  | .readDoubts _ payload => some (.readDoubts, payload)
  | .setPrice _ payload => some (.setPrice, payload)
  | .addRefund _ payload => some (.addRefund, payload)
  | .cancelRefund _ payload => some (.cancelRefund, payload)
  | .confirmRefund _ payload => some (.confirmRefund, payload)
  | .readRefunds _ payload => some (.readRefunds, payload)
  | .clearAudit _ payload => some (.clearAudit, payload)
  | .readAudit _ payload => some (.readAudit, payload)
  | .readQueue _ payload => some (.readQueue, payload)
  | .cancelClaim _ payload => some (.cancelClaim, payload)
  | .readFaults _ payload => some (.readFaults, payload)
  | .clearFaults _ payload => some (.clearFaults, payload)
  | .lock _ payload => some (.lock, payload)
  | .unlock _ payload => some (.unlock, payload)
  | .clearStrikes _ payload => some (.clearStrikes, payload)
  | .grantPermit _ payload => some (.grantPermit, payload)
  | .enterService _ payload => some (.enterService, payload)
  | .exitService _ payload => some (.exitService, payload)
  | .servicePhase _ payload => some (.servicePhase, payload)
  | .selfTest _ payload => some (.selfTest, payload)
  | .readEvents _ payload => some (.readEvents, payload)
  | .ackEvents _ payload => some (.ackEvents, payload)
  | .setNoticeMask _ payload => some (.setNoticeMask, payload)
  | .readRoom _ payload => some (.readRoom, payload)
  | .readMachine _ payload => some (.readMachine, payload)
  | .setRoomParam _ payload => some (.setRoomParam, payload)
  | .setWashProfile _ payload => some (.setWashProfile, payload)
  | .setDryProfile _ payload => some (.setDryProfile, payload)
  | .setMachine _ payload => some (.setMachine, payload)
  | .storeConfig _ payload => some (.storeConfig, payload)
  | .powerOn _ | .autoloadEnd _ | .roomSecondTick | .pollSlot | .replyValid _ | .replyWindowMissed => none
  | .discoveryReply _ | .joiningReply _ | .orphanDeadline _ | .phaseLimitReached _ | .stopDeadline _ => none
  | .remainingPaidSecondsZero _ | .pauseDeadline _ | .suspendDeadline _ | .grantWaitExpiry _ | .pay _ _ _ => none
  | .addTime _ _ _ | .queue _ _ | .balance _ | .requestError _ | .requestGapTimeout _ | .cardInserted _ => none
  | .cardRemoved _ | .insertionReadFail _ | .insertionReadDone _ _ | .writeBegun _ | .cardWriteDone _ _ => none
  | .verifyReadDone _ _ | .doubtDeadline _ | .holdDeadline _ | .servicePhaseDeadline | .windDownDeadline _ => none
  | .subtestReportDeadline _ | .storeAccessDone _ | .requestLineByte _ _ => none
  | .frameError _ | .portBreak _ | .frameDiscardedQueueFull _ | .unknownCode _ _ _ | .replySent _ => none
  | .receiveLineByte _ _ => none

/-- The state a command leaves, when it answers a next state. -/
def after (c : Instr) (s : State) : Option State :=
  match exec c s with
  | .next t => some t
  | .fault _ => none
  | .refused _ => none

/-- The state that commands taken one after another leave. -/
def afterAll : List Instr → State → Option State
  | [], s => some s
  | c :: cs, s => (after c s).bind (afterAll cs)

/-- A number in a field of a width in bytes, most significant byte first (3.2). -/
def field : Nat → Nat → List Byte
  | 0, _ => []
  | width + 1, n => BitVec.ofNat 8 (n / 256 ^ width) :: field width n

/-- A payload by its fields in order, each with its width in bytes (R166, R168). -/
def spell (fields : List (Nat × Nat)) : List Byte := fields.flatMap (fun f => field f.1 f.2)

/-- The bytes of a request frame: SYNC, LENGTH, CODE, the payload, and the CHECK that makes LENGTH through CHECK sum to 0
modulo 256 (8.1). -/
def frameBytes (code : Byte) (payload : List Byte) : List Byte :=
  let body := be1 (payload.length + 2) ++ [code] ++ payload
  [0xA5] ++ body ++ be1 (256 - byteSum body % 256)

/-- The five bytes of a panel message (R77). -/
def panelBytes (code target steps : Byte) : List Byte := [0x6B, code, target, steps] ++ be1 (byteCheck [code, target, steps])

/-- The configuration image of a part's tables, with the marker in place and the check at its end (9.2, R175). -/
def imageOf (s : State) : List Byte := layout s ++ be2 (byteSum (layout s))

/-- Tables whose values are all in the ranges of 9.2. -/
def Tables.inRange (t : Tables) : Prop :=
  t.params.clamp = t.params ∧ t.params.issuer < 65536 ∧
  (∀ a : Addr, ∀ e, t.roster[a] = some e → e.ratings.clamp = e.ratings) ∧
  (∀ n : Fin Config.programs, ∀ p, t.wash[n] = some p → p.clamp = p ∧ profileRule p = true) ∧
  (∀ n : Fin Config.programs, ∀ p, t.dry[n] = some p → p.clamp = p)

/-! ## What a command may touch -/

/-- The parts the state falls into. -/
inductive Part where
  | machines | flags | ports | pools | session | claims | faults | money | stations | doubts | counter | loader | bus | room | clock
  | base
deriving DecidableEq, Repr

/-- Two ports that differ in nothing but their flags. -/
def samePort (x y : PortState) : Prop := x.receiver = y.receiver ∧ x.replies = y.replies ∧ x.mask = y.mask

/-- Whether two states agree in a part. -/
def Same : Part → State → State → Prop
  | .machines, s, t => t.machines = s.machines
  | .flags, s, t => t.building.flags = s.building.flags ∧ t.operator.flags = s.operator.flags ∧ t.service.flags = s.service.flags
  | .ports, s, t => samePort t.building s.building ∧ samePort t.operator s.operator ∧ samePort t.service s.service
  | .pools, s, t => t.electric = s.electric ∧ t.water = s.water
  | .session, s, t => t.session = s.session
  | .claims, s, t => t.washers = s.washers ∧ t.dryers = s.dryers
  | .faults, s, t => t.faults = s.faults
  | .money, s, t => t.refunds = s.refunds ∧ t.audit = s.audit
  | .stations, s, t => t.stationA = s.stationA ∧ t.stationB = s.stationB
  | .doubts, s, t => t.doubts = s.doubts ∧ t.debitA = s.debitA ∧ t.debitB = s.debitB
  | .counter, s, t => t.cycleCounter = s.cycleCounter
  | .loader, s, t =>
    t.mode = s.mode ∧ t.configReason = s.configReason ∧ t.tables = s.tables ∧ t.store = s.store ∧ t.lastStore = s.lastStore
  | .bus, s, t =>
    t.roundNumber = s.roundNumber ∧ t.roundsBegun = s.roundsBegun ∧ t.slots = s.slots ∧ t.slot = s.slot ∧ t.pollFrame = s.pollFrame
  | .room, s, t => t.halted = s.halted ∧ t.band = s.band
  | .clock, s, t => t.now = s.now ∧ t.waitLimit = s.waitLimit
  | .base, s, t => t.pending = s.pending ∧ t.startReason = s.startReason ∧ t.retentionValid = s.retentionValid

/-- `t` differs from `s` only in the parts named. -/
def Touches (ps : List Part) (s t : State) : Prop := ∀ p, p ∉ ps → Same p s t

/-- The parts a request of a control port may touch besides the ports and the flags. -/
def requestParts : Req → List Part
  | .readMachine | .readRoom | .readEvents | .ackEvents | .setNoticeMask | .readPool => []
  | .readFaults | .readAudit | .readRefunds | .readDoubts | .readQueue => []
  | .setFeederLimit | .setWaterLimit | .servicePhase | .selfTest => [.machines, .session, .pools]
  | .setBand => [.room]
  | .haltRoom => [.room, .machines, .session, .pools, .claims, .faults]
  | .resumeRoom => [.room, .machines, .session, .pools, .claims]
  | .clearPoolStats => [.pools]
  | .setRoomParam | .setReserve => [.loader, .machines, .session, .pools]
  | .setWashProfile | .setDryProfile | .setPrice | .storeConfig => [.loader]
  | .setMachine => [.loader, .machines, .bus]
  | .lock | .unlock => [.machines, .claims]
  | .clearStrikes | .grantPermit => [.machines]
  | .stopMachine => [.machines, .session, .pools, .claims, .faults]
  | .clearFaults => [.faults]
  | .clearAudit | .cancelRefund => [.money]
  | .addRefund => [.machines, .claims, .faults, .money, .stations]
  | .confirmRefund => [.money, .stations]
  | .cancelClaim => [.machines, .claims]
  | .enterService => [.machines, .session]
  | .exitService => [.machines, .session, .pools, .claims]

/-- The parts a request may touch. -/
def requestFrame (r : Req) : List Part := .flags :: .ports :: requestParts r

/-- The parts that some request may touch. -/
def anyRequest : List Part :=
  [.machines, .flags, .ports, .pools, .session, .claims, .faults, .money, .stations, .loader, .bus, .room]

/-- The work of a machine: all that a reply, a stop or an absence of one machine may touch. -/
def workParts : List Part := [.flags, .machines, .claims, .faults, .money, .stations, .session, .pools]

/-- What an outcome of a debit may touch. -/
def debitParts : List Part :=
  [.flags, .machines, .claims, .faults, .money, .stations, .session, .pools, .counter, .doubts]

/-- The parts each command may touch. -/
def frameOf : Instr → List Part
  | .powerOn _ =>
    [.machines, .flags, .ports, .pools, .session, .claims, .faults, .money, .stations, .doubts, .counter, .loader, .bus, .room,
      .clock, .base]
  | .autoloadEnd _ => [.loader, .machines, .pools, .bus, .stations, .flags]
  | .roomSecondTick => [.clock, .machines, .pools, .bus]
  | .pollSlot => [.bus]
  | .replyValid _ => .bus :: workParts
  | .replyWindowMissed => .bus :: workParts
  | .discoveryReply _ => .bus :: workParts
  | .joiningReply _ => .bus :: workParts
  | .orphanDeadline _ => [.flags, .machines, .claims, .faults]
  | .phaseLimitReached _ => [.flags, .machines, .claims, .faults, .session, .pools]
  | .stopDeadline _ => workParts
  | .stopMachine _ _ => requestFrame .stopMachine
  | .remainingPaidSecondsZero _ => [.machines]
  | .pauseDeadline _ => [.flags, .machines, .session, .pools]
  | .haltRoom _ _ => requestFrame .haltRoom
  | .resumeRoom _ _ => requestFrame .resumeRoom
  | .setBand _ _ => requestFrame .setBand
  | .setFeederLimit _ _ => requestFrame .setFeederLimit
  | .setWaterLimit _ _ => requestFrame .setWaterLimit
  | .setReserve _ _ => requestFrame .setReserve
  | .suspendDeadline _ => [.flags, .machines, .claims, .faults, .session, .pools]
  | .grantWaitExpiry _ => [.flags, .machines, .claims, .faults, .session, .pools]
  | .readPool _ _ => requestFrame .readPool
  | .clearPoolStats _ _ => requestFrame .clearPoolStats
  | .pay _ _ _ => [.flags, .machines, .claims, .faults, .money, .stations, .session, .pools, .counter]
  | .addTime _ _ _ => [.flags, .machines, .claims, .faults, .money, .stations]
  | .queue _ _ => [.flags, .claims, .money, .stations]
  | .balance _ => [.stations]
  | .requestError _ => [.stations]
  | .requestGapTimeout _ => [.stations]
  | .cardInserted _ => [.stations]
  | .cardRemoved _ => [.flags, .machines, .claims, .faults, .money, .stations, .doubts]
  | .insertionReadFail _ => [.stations]
  | .insertionReadDone _ _ => debitParts
  | .writeBegun _ => [.stations, .doubts]
  | .cardWriteDone _ _ => [.flags, .machines, .claims, .faults, .money, .stations, .doubts]
  | .verifyReadDone _ _ => debitParts
  | .doubtDeadline _ => [.flags, .machines, .claims, .faults, .money, .doubts]
  | .readDoubts _ _ => requestFrame .readDoubts
  | .setPrice _ _ => requestFrame .setPrice
  | .addRefund _ _ => requestFrame .addRefund
  | .cancelRefund _ _ => requestFrame .cancelRefund
  | .confirmRefund _ _ => requestFrame .confirmRefund
  | .readRefunds _ _ => requestFrame .readRefunds
  | .clearAudit _ _ => requestFrame .clearAudit
  | .readAudit _ _ => requestFrame .readAudit
  | .holdDeadline _ => [.flags, .machines, .claims]
  | .readQueue _ _ => requestFrame .readQueue
  | .cancelClaim _ _ => requestFrame .cancelClaim
  | .readFaults _ _ => requestFrame .readFaults
  | .clearFaults _ _ => requestFrame .clearFaults
  | .lock _ _ => requestFrame .lock
  | .unlock _ _ => requestFrame .unlock
  | .clearStrikes _ _ => requestFrame .clearStrikes
  | .grantPermit _ _ => requestFrame .grantPermit
  | .enterService _ _ => requestFrame .enterService
  | .exitService _ _ => requestFrame .exitService
  | .servicePhase _ _ => requestFrame .servicePhase
  | .servicePhaseDeadline => [.flags, .machines, .claims, .faults, .session, .pools]
  | .windDownDeadline _ => [.flags, .machines, .claims, .faults, .session, .pools]
  | .selfTest _ _ => requestFrame .selfTest
  | .subtestReportDeadline _ => [.flags, .machines, .claims, .faults, .session, .pools]
  | .frameError _ => [.ports]
  | .portBreak _ => [.ports]
  | .frameDiscardedQueueFull _ => [.ports]
  | .unknownCode _ _ _ => anyRequest
  | .replySent _ => [.ports]
  | .readEvents _ _ => requestFrame .readEvents
  | .ackEvents _ _ => requestFrame .ackEvents
  | .setNoticeMask _ _ => requestFrame .setNoticeMask
  | .readRoom _ _ => requestFrame .readRoom
  | .readMachine _ _ => requestFrame .readMachine
  | .setRoomParam _ _ => requestFrame .setRoomParam
  | .setWashProfile _ _ => requestFrame .setWashProfile
  | .setDryProfile _ _ => requestFrame .setDryProfile
  | .setMachine _ _ => requestFrame .setMachine
  | .storeConfig _ _ => requestFrame .storeConfig
  | .storeAccessDone _ => [.loader, .flags]
  | .receiveLineByte _ _ => anyRequest
  | .requestLineByte _ _ => [.flags, .machines, .claims, .faults, .money, .stations, .session, .pools, .counter]

end Sys2Proof.Machine
end

