-- ==== Sys2Proof/Certificates/Slice0/Obligations.lean ====
section
/-! DEFINITION. The statements for the provers. Each docstring names the rules it rests on; a statement that formalises a
whole numbered rule is marked 'stated' in OBLIGATIONS.json, the others are derived from the sections they name.

A request row stands for a frame, and a panel row for a message, that has just been completed, so the receiver of the port is
HUNTING after it (R157) and no message is being gathered after it (R77, log entry 20). -/

open Sys2Proof Sys2Proof.Machine

/-! ## Steps, reset and invariants -/

/-- The model's queue of commands (log entry 8): a step takes the command at the front and is its effect on the state with
the rest of the queue; with no command waiting nothing changes. -/
def Obligations.StepTakesTheFrontCommand : Prop :=
  (∀ (c : Instr) (rest : List Instr) (s : State), s.pending = c :: rest → step s = exec c { s with pending := rest }) ∧
  ∀ s : State, s.pending = [] → step s = .next s

/-- What reset leaves, for the values the manual gives at a power-on with retention lost (R6, R21, R52, R53, R84, R122,
R126, R140, R165, R177). -/
def Obligations.ResetLeavesThePowerOnValues : Prop :=
  State.reset.now = 0 ∧ State.reset.mode = .loading ∧ State.reset.halted = true ∧ State.reset.band = .standard ∧
  State.reset.cycleCounter = 0 ∧ State.reset.startReason = .lost ∧ State.reset.retentionValid = true ∧
  (∀ p, State.reset.port p = { receiver := .hunting, replies := [], flags := 0b0010000#7, mask := 0#7 }) ∧
  (∀ p, lineDriven (State.reset.port p) = false) ∧
  (∀ a, (State.reset.machine a).state = .absent ∧ (State.reset.machine a).bus.presence = .absent ∧
    (State.reset.machine a).bus.inFlight = none ∧ (State.reset.machine a).cycle = none ∧
    (State.reset.machine a).payment = none ∧ (State.reset.machine a).lock = .none ∧
    (State.reset.machine a).strikes = 0 ∧ (State.reset.machine a).permit = false) ∧
  (∀ i, (State.reset.station i).state = .empty ∧ (State.reset.station i).awaitingRemoval = false) ∧
  (∀ k, (State.reset.pool k).grants = [] ∧ (State.reset.pool k).waits = [] ∧ (State.reset.pool k).halted = true ∧
    (State.reset.pool k).overLimit = false) ∧
  State.reset.doubts = [] ∧ State.reset.refunds = [] ∧ State.reset.audit = .zero ∧ State.reset.faults = [] ∧
  State.reset.session = none ∧ (∀ c, (State.reset.queue c).entries = [])

/-- The laws that every step keeps hold after reset. -/
def Obligations.ResetIsLawful : Prop :=
  State.reset.poolsLawful = true ∧ State.reset.balanced ∧ State.reset.queuesLawful = true ∧
  State.reset.repliesLawful = true ∧ State.reset.faultsLawful = true ∧ State.reset.refundsLawful = true ∧
  State.reset.cardsLawful ∧ State.reset.busLawful ∧ State.reset.grantsLawful ∧ State.reset.roomLawful ∧
  State.reset.holdsLawful

/-- R69: at every moment the grants of a pool are within its figures, or the pool is OVER_LIMIT. R57 to R62: each reserve is
held by at most one grant; the RESUME entries stand first, by suspension number; no pass count exceeds 3; no machine has two
grants or entries, or one of each; and a pool that may scan has left nothing waiting that a scan would grant. -/
def Obligations.EveryStepKeepsPoolsWithinFigures : Prop :=
  (∀ s t : State, s.poolsLawful = true → step s = .next t → t.poolsLawful = true) ∧
  ∀ s t : State, s.grantsLawful → step s = .next t → t.grantsLawful

/-- R123: refund issued equals refund credited, refund unplaced, refunds cancelled and the sum of the refund table, as long
as no total has reached its maximum. -/
def Obligations.EveryStepKeepsTheRefundBalance : Prop :=
  ∀ s t : State, s.balanced → step s = .next t →
    t.audit.issued < Config.largestTotal → t.audit.credited < Config.largestTotal →
    t.audit.unplaced < Config.largestTotal → t.audit.cancelled < Config.largestTotal → t.balanced

/-- 6.1 and R127: a claim queue holds at most 8 entries, and no card twice. R129 to R134: the holds of the entries and of the
machines name each other, and the machines with a hold are the HELD ones and the PAYING ones entered from HELD. -/
def Obligations.EveryStepKeepsClaimQueuesLawful : Prop :=
  (∀ s t : State, s.queuesLawful = true → step s = .next t → t.queuesLawful = true) ∧
  ∀ s t : State, s.queuesLawful = true → s.roomLawful → s.holdsLawful → step s = .next t → t.holdsLawful

/-- R159: a port holds at most 4 replies waiting. -/
def Obligations.EveryStepKeepsReplyQueuesLawful : Prop :=
  ∀ s t : State, s.repliesLawful = true → step s = .next t → t.repliesLawful = true

/-- R138, 5.4 and R114: the fault table holds at most 48 records, one for a machine and a code, and the refund table at
most 32 entries, one for a card and one for a position of 0 to 31. -/
def Obligations.EveryStepKeepsTheTablesLawful : Prop :=
  (∀ s t : State, s.faultsLawful = true → step s = .next t → t.faultsLawful = true) ∧
  ∀ s t : State, s.refundsLawful = true → step s = .next t → t.refundsLawful = true

/-- R86, R101 and 4.11: no card is in use at two places, and the doubt list holds at most 4 doubts of different cards. -/
def Obligations.EveryStepKeepsCardsInUseOnce : Prop :=
  ∀ s t : State, s.cardsLawful → step s = .next t → t.cardsLawful

/-- 1.2, R7 to R9, R11, R12, R15 to R18: an ABSENT address holds no command, deadline or missed reply, and any other has a
last status report; only a PRESENT address has a queued command, behind one in flight; fewer than 3 replies are missed; and the
command in flight carries the tag that the machine has not echoed last. R24, R28: a machine that is not PRESENT on the bus is
ABSENT in the room, and a cycle record stands exactly at the RUNNING and STOPPING machines. -/
def Obligations.EveryStepKeepsTheBusLawful : Prop :=
  (∀ s t : State, s.busLawful → step s = .next t → t.busLawful) ∧
  ∀ s t : State, s.roomLawful → step s = .next t → t.roomLawful

/-! ## Frames and requests -/

/-- What each command of the table can touch at all: every part of the state that `frameOf` does not name for a command is
unchanged by it. -/
def Obligations.EachCommandKeepsItsFrame : Prop :=
  ∀ (c : Instr) (s t : State), exec c s = .next t → Touches (frameOf c) s t

/-- R157, R159, R163, R164: what comes through one port leaves the receiver, the replies and the mask of the others as they
are. -/
def Obligations.OtherPortsKeepTheirQueues : Prop :=
  ∀ (c : Instr) (p q : Port) (s t : State), portOf c = some p → q ≠ p → exec c s = .next t →
    samePort (t.port q) (s.port q)

/-- R159 and R160: a request at a full reply queue is discarded; otherwise the tests of the right, the length and the mode
refuse it in this order, and the refusal changes nothing but the reply.
A request row stands for the completed frame (log entry 20). That a SET_PRICE of a class that is neither is refused BAD_ARG with
the lengths, and so before BUSY, is the model's reading (log entry 61). -/
def Obligations.RequestsAreAdmittedInOrder : Prop :=
  ∀ (c : Instr) (r : Req) (payload : List Byte) (p : Port) (s : State),
    requestOf c = some (r, payload) → portOf c = some p →
    let refused (st : Status) : Host.Outcome State Fault Refusal := .next (s.answering p (replyTo (reqCode r) st []) 0)
    (4 ≤ (s.port p).replies.length → exec c s = .next (s.setPort p { s.port p with receiver := .hunting })) ∧
    ((s.port p).replies.length < 4 →
      (reqRight p r = false → exec c s = refused .notPermitted) ∧
      (reqRight p r = true →
        (reqLength payload r = false → exec c s = refused .badArg) ∧
        (reqLength payload r = true →
          (s.mode = .loading → r ≠ .readRoom → exec c s = refused .busy) ∧
          (s.mode = .configFault → reqServed r = false → exec c s = refused .configFault))))

/-- R75, R102, R135, R139, R166 to R168: a read is answered with the record it names as it stands, field by field in the
layouts of R166 and R168, and changes nothing but the port it came through. READ_ROOM is answered in every mode, the others in
the CONFIG_FAULT mode too. The numbers of the listed values and of the yes/no fields that no table numbers, and what is sent for an absent record, for an
absent last status report, for the tag of an absent command in flight and for an absent refund, are the model's reading (log
entry 19). -/
def Obligations.ReadsAnswerAndChangeNothing : Prop :=
  ∀ (p : Port) (s : State), (s.port p).replies.length < 4 →
    let answer (code : Nat) (fields : List (Nat × Nat)) : Host.Outcome State Fault Refusal :=
      .next (s.answering p (replyTo code .ok (spell fields)) 0)
    let kind (k : Option PhaseKind) : Nat :=
      [none, some PhaseKind.fill, some .heat, some .wash, some .rinse, some .drain, some .spin, some .soak, some .dry,
        some .cool].idxOf k
    let command : Option BusCommand → Nat
      | none => 0
      | some (.startPhase _ _ _) => 1
      | some .suspend => 2
      | some .resume => 3
      | some (.stop _) => 4
      | some (.test _) => 5
    let outcome : Option PhaseOutcome → Nat × Nat
      | none => (0, 0)
      | some .complete => (1, 0)
      | some (.fault code) => (2, code)
      | some .timeout => (3, 0)
      | some .noPower => (4, 0)
      | some .aborted => (5, 0)
    let purpose (x : Purpose) : Nat := [Purpose.cyclePhase, .resume, .servicePhase, .subtest].idxOf x
    let cls (c : MachineClass) : Nat := if c = .washer then 1 else 2
    exec (.readRoom p []) s = answer 0x02 [
      (1, [Mode.loading, .operating, .configFault].idxOf s.mode), (1, bit s.halted),
      (1, [Band.standard, .offPeak, .quiet].idxOf s.band), (4, s.now),
      (1, [StartReason.kept, .lost].idxOf s.startReason), (2, s.cycleCounter), (1, bit s.store.isSome),
      (1, [none, some StoreResult.ok, some .writeFail].idxOf s.lastStore),
      (1, [none, some FaultReason.noMemory, some .badMarker, some .badLength, some .badCheck, some .badRecord, some .badField,
        some .duplicate, some .noRoomRecord].idxOf s.configReason),
      (1, if s.mode = .operating then (List.finRange 24).countP (fun a => (s.tables.roster[a]).isSome) else 0),
      (1, (List.finRange 24).countP (fun a => decide ((s.machine a).state ≠ .absent)))] ∧
    (s.mode ≠ .loading →
      (∀ a : Addr,
        let m := s.machine a
        let b := m.bus
        exec (.readMachine p [byte (a.val + 1)]) s = answer 0x01 (
          [(1, a.val + 1)] ++
          (match s.roster a with
            | none => [(1, 0), (1, 0), (1, 0), (1, 0), (1, 0), (1, 0)]
            | some e => [(1, 1), (1, cls e.cls), (1, e.ratings.motor), (1, e.ratings.spin), (1, e.ratings.heater),
                (1, e.ratings.fill)]) ++
          [(1, [MachineState.absent, .idle, .selected, .paying, .held, .running, .stopping, .finished, .testing, .service,
              .outOfService].idxOf m.state),
            (1, [Lock.none, .locked, .autoLocked].idxOf m.lock), (1, bit m.lockPending),
            (1, [none, some Door.opened, some .closed, some .locked].idxOf m.door),
            (1, (m.selection.map (· + 1)).getD 0), (4, (m.hold.map (·.card)).getD 0), (4, (m.hold.map (·.deadline)).getD 0),
            (4, (m.payment.map (·.card)).getD 0), (4, (m.payment.map (·.charge)).getD 0), (1, bit m.openedSinceFinish),
            (1, m.strikes), (1, bit m.permit),
            (1, [none, some TestOutcome.pass, some .fail, some .aborted, some .noPower].idxOf (m.lastTest.map (·.outcome))),
            (1, (m.lastTest.map (·.subtest)).getD 0), (1, (m.lastTest.map (·.code)).getD 0),
            (1, [Presence.absent, .joining, .present].idxOf b.presence), (1, b.missed),
            (1, command (b.inFlight.map (·.cmd))), (1, (b.inFlight.map (fun f => bit f.tag)).getD 0),
            (1, command (b.queued.map (·.cmd))), (1, bit b.report.isSome),
            (1, (b.report.map (fun r => [Activity.ready, .running, .complete, .suspended, .faultHold, .stopping, .stopped,
              .testing, .testDone].idxOf r.activity)).getD 0),
            (1, (b.report.map (·.arg)).getD 0), (1, (b.report.map (·.fault)).getD 0)] ++
          (match m.cycle with
            | none => [(1, 0)]
            | some c => [(1, 1), (2, c.number), (4, c.payer), (1, c.program), (1, c.plan.length), (1, c.index),
                (1, kind ((c.plan[c.index]?).map (·.kind))),
                (1, [SubState.waiting, .starting, .active, .suspending, .suspended, .resuming, .paused].idxOf c.sub),
                (1, bit c.everActive), (1, bit c.retryUsed), (2, c.timeUsed), (4, c.chargeTotal), (2, c.paidTotal),
                (2, c.remaining), (2, (c.topUp.map (·.amount)).getD 0),
                (1, [none, some StopCause.user, some .machine, some .operator, some .room].idxOf c.stopCause),
                (1, bit c.refund.isSome), (4, c.refund.getD 0), (4, c.startTime)]) ++
          (match s.session with
            | none => [(1, 0)]
            | some x => if x.machine = a then [(1, 1), (4, x.openedTime), (1, bit x.closing), (1, kind (x.phase.map (·.kind))),
                (1, [none, some ServiceSub.waiting, some .starting, some .active].idxOf (x.phase.map (·.sub))),
                (1, (outcome x.lastOutcome).1), (1, (outcome x.lastOutcome).2), (2, x.phasesRun)] else [(1, 0)]) ++
          (match m.testRun with
            | none => [(1, 0)]
            | some r => [(1, 1), (1, [TestOrigin.operator, .session].idxOf r.origin), (1, r.subtest),
                (1, [SubtestState.waiting, .starting, .running].idxOf r.sub)]))) ∧
      (p = .building ∨ p = .operator → ∀ (k : PoolId) (n : Byte), n.toNat ≤ 23 →
        let x := s.pool k
        let washer := min x.reqWasher x.limit
        let dryer := min x.reqDryer (x.limit - washer)
        let code := if k = .electric then 0 else 1
        exec (.readPool p [byte code, n]) s = answer 0x15 (
          [(1, code), (2, x.limit), (2, x.reqWasher), (2, x.reqDryer), (2, washer), (2, dryer), (2, x.limit - washer - dryer),
            (2, ((x.grants.filter (fun g => decide (g.portion = .shared))).map (·.amount)).sum), (1, bit x.overLimit),
            (1, bit x.halted), (1, x.grants.length)] ++
          ((x.grants.drop n.toNat).take 10).flatMap (fun g => [(1, g.machine.val + 1), (1, cls g.cls), (1, purpose g.purpose),
            (1, g.amount), (1, [Portion.shared, .washerReserve, .dryerReserve].idxOf g.portion), (4, g.time),
            (1, bit g.pending)]) ++
          [(1, x.waits.length)] ++
          ((x.waits.drop n.toNat).take 10).flatMap (fun e => [(1, e.machine.val + 1), (1, cls e.cls), (1, purpose e.purpose),
            (1, e.demand), (4, e.time), (1, e.passes)]) ++
          [(5, x.stats.unitSeconds), (4, x.stats.waits), (4, x.stats.sheds), (4, x.stats.overSeconds),
            (4, x.stats.expiries)])) ∧
      (p = .operator → ∀ c : MachineClass,
        let q := s.queue c
        exec (.readQueue p [byte (cls c)]) s = answer 0x60 (
          [(2, s.params.holdWindow), (1, q.entries.length)] ++
          q.entries.zipIdx.flatMap (fun e => [(1, e.2 + 1), (4, e.1.card), (4, e.1.joined),
            (1, (e.1.hold.map (fun h => h.machine.val + 1)).getD 0), (4, (e.1.hold.map (·.deadline)).getD 0),
            (1, bit e.1.paying)]) ++
          [(2, q.placed), (2, q.served), (2, q.expired), (2, q.cancelled)])) ∧
      (p = .operator → exec (.readDoubts p []) s = answer 0x56 (
        [(1, s.doubts.length)] ++ s.doubts.flatMap (fun d => [(1, if d.debit.kind = .start then 0 else 1), (4, d.debit.card),
          (1, d.debit.machine.val + 1), (2, d.debit.amount), (1, if d.debit.slot = .a then 0 else 1),
          (2, d.debit.oldPair.sequence), (2, d.debit.oldPair.value), (2, d.debit.expectedPair.sequence),
          (2, d.debit.expectedPair.value), (4, d.deadline)]))) ∧
      (p = .operator ∨ p = .service → ∀ n f : Byte, n.toNat ≤ 47 → f.toNat ≤ 24 ∨ f = 255 →
        let passed := if f = 255 then s.faults else s.faults.filter (fun r => r.machine == f.toNat)
        let sent := (passed.drop n.toNat).take 8
        (n.toNat < passed.length → exec (.readFaults p [n, f]) s = answer 0x40 (
          [(1, passed.length), (1, sent.length)] ++ sent.flatMap (fun r => [(1, r.machine), (1, r.code),
            (1, [Severity.soft, .hard, .info].idxOf r.severity), (4, r.firstTime), (4, r.lastTime), (2, r.count),
            (1, kind r.kind), (4, r.card.getD 0), (1, r.subtest.getD 0)]))) ∧
        (passed.length ≤ n.toNat →
          exec (.readFaults p [n, f]) s = .next (s.answering p (replyTo 0x40 .notFound [byte passed.length]) 0))))

/-- R121: the entry at a position, a free position and a position out of range; the pairs an entry does not have are sent as
zeros (log entry 19). -/
def Obligations.ReadRefundsNamesAPosition : Prop :=
  ∀ (n : Byte) (s : State), s.mode ≠ .loading → (s.port .operator).replies.length < 4 →
    let answer (st : Status) (payload : List Byte) : Host.Outcome State Fault Refusal :=
      .next (s.answering .operator (replyTo 0x52 st payload) 0)
    (31 < n.toNat → exec (.readRefunds .operator [n]) s = answer .badArg []) ∧
    (n.toNat ≤ 31 → (∀ e ∈ s.refunds, e.position ≠ n.toNat) →
      exec (.readRefunds .operator [n]) s = answer .notFound [byte s.refunds.length]) ∧
    (n.toNat ≤ 31 → ∀ (before behind : List RefundEntry) (e : RefundEntry), s.refunds = before ++ e :: behind →
      e.position = n.toNat → (∀ x ∈ before, x.position ≠ n.toNat) →
      exec (.readRefunds .operator [n]) s = answer .ok
        (byte s.refunds.length :: (be4 e.card ++ be2 e.amount ++ [byte (refundStateCode e.state), byte (bit e.inProgress)] ++
          (match e.pairs with
            | none => [0, 0, 0, 0, 0, 0, 0, 0, 0]
            | some (old, new) => 1 :: (be2 old.sequence ++ be2 old.value ++ be2 new.sequence ++ be2 new.value)) ++
          be4 e.created)))

/-- R124, whole: the seven totals, the number of entries of the refund table and the sum of their amounts, in the OPERATING
and in the CONFIG_FAULT mode. -/
def Obligations.ReadAuditGivesTheTotals : Prop :=
  ∀ s : State, s.mode ≠ .loading → (s.port .operator).replies.length < 4 →
    exec (.readAudit .operator []) s = .next (s.answering .operator (replyTo 0x50 .ok
      (be5 s.audit.charged ++ be5 s.audit.issued ++ be5 s.audit.credited ++ be5 s.audit.unplaced ++ be5 s.audit.cancelled ++
        be5 s.audit.debitsUnresolved ++ be5 s.audit.creditsUnresolved ++ [byte s.refunds.length] ++
        be4 (s.refunds.map (·.amount)).sum)) 0)

/-- R164, whole, with what R163 says of READ_EVENTS and ACK_EVENTS: the requests on any port, and the notice line, which is
driven while a flag is both set and named in the mask. -/
def Obligations.EventsAreReadAcknowledgedAndMasked : Prop :=
  ∀ (p : Port) (b : Byte) (s : State), s.mode ≠ .loading → (s.port p).replies.length < 4 →
    let x := s.port p
    let hunted := { x with receiver := .hunting }
    (lineDriven x = true ↔ ∃ n < 7, x.flags.getLsbD n = true ∧ x.mask.getLsbD n = true) ∧
    exec (.readEvents p []) s =
      .next (s.answering p (replyTo 0x03 .ok [x.flags.zeroExtend 8, x.mask.zeroExtend 8]) 0) ∧
    (b.msb = true →
      exec (.ackEvents p [b]) s = .next (s.answering p (replyTo 0x04 .badArg []) 0) ∧
      exec (.setNoticeMask p [b]) s = .next (s.answering p (replyTo 0x05 .badArg []) 0)) ∧
    (b.msb = false →
      exec (.ackEvents p [b]) s = .next (s.setPort p { hunted with
        flags := x.flags &&& ~~~(b.truncate 7),
        replies := x.replies ++ [replyTo 0x04 .ok [(x.flags &&& ~~~(b.truncate 7)).zeroExtend 8]] }) ∧
      exec (.setNoticeMask p [b]) s = .next (s.setPort p { hunted with
        mask := b.truncate 7, replies := x.replies ++ [replyTo 0x05 .ok [b]] }))

/-- R157 to R160: bad frames, breaks, discarded frames, unknown codes and sent replies; and a byte moves the receiver of its
port from HUNTING to COUNTING, from COUNTING to GATHERING, or into the frame. That a bad LENGTH gets no reply while 4 replies
wait is the model's reading (log entry 21), and that FRAME_DISCARDED_QUEUE_FULL discards the frame while fewer than 4 wait, too
(log entry 59), and that a reply counts among the 4 until it has been sent (log entry 79), are its choice. -/
def Obligations.PortsTakeBytesAndFrames : Prop :=
  ∀ (p : Port) (b : Byte) (s : State),
    exec (.portBreak p) s = .next (s.setPort p { s.port p with receiver := .hunting }) ∧
    exec (.frameDiscardedQueueFull p) s = .next (s.setPort p { s.port p with receiver := .hunting }) ∧
    exec (.replySent p) s = .next (s.setPort p { s.port p with replies := (s.port p).replies.tail }) ∧
    ((s.port p).replies.length < 4 →
      exec (.frameError p) s = .next (s.answering p (replyTo 0 .frameError []) 0) ∧
      ∀ (code : Byte) (payload : List Byte), reqOf code.toNat = none →
        exec (.unknownCode p code payload) s = .next (s.answering p { code := code, status := .unknownCode, payload := [] } 0)) ∧
    (4 ≤ (s.port p).replies.length →
      exec (.frameError p) s = .next (s.setPort p { s.port p with receiver := .hunting })) ∧
    ((s.port p).receiver = .hunting → b ≠ 0xA5 → exec (.receiveLineByte p b) s = .next s) ∧
    ((s.port p).receiver = .hunting → b = 0xA5 →
      exec (.receiveLineByte p b) s = .next (s.setPort p { s.port p with receiver := .counting })) ∧
    ((s.port p).receiver = .counting → 2 ≤ b.toNat → b.toNat ≤ 250 →
      exec (.receiveLineByte p b) s = .next (s.setPort p { s.port p with receiver := .gathering b.toNat [] })) ∧
    ((s.port p).receiver = .counting → b.toNat < 2 ∨ 250 < b.toNat →
      exec (.receiveLineByte p b) s = exec (.frameError p) s) ∧
    ∀ (n : Nat) (got : List Byte), (s.port p).receiver = .gathering n got → got.length + 1 < n →
      exec (.receiveLineByte p b) s = .next (s.setPort p { s.port p with receiver := .gathering n (got ++ [b]) })

/-- 8.1, R157, R158: the bytes of a request's frame, taken one by one by a HUNTING receiver, come to exactly that
request. That a request row stands for the completed frame is the model's reading (log entry 20). -/
def Obligations.FrameBytesSpellTheRequest : Prop :=
  ∀ (c : Instr) (r : Req) (payload : List Byte) (p : Port) (s : State),
    requestOf c = some (r, payload) → portOf c = some p → payload.length ≤ 248 → (s.port p).receiver = .hunting →
    afterAll ((frameBytes (byte (reqCode r)) payload).map (.receiveLineByte p)) s = after c s

/-- R77: a byte starts a panel message or joins the one being gathered, and the five bytes of a message come to the request
it names. -/
def Obligations.PanelBytesSpellTheRequest : Prop :=
  ∀ (i : StationId) (s : State),
    (∀ b : Byte, (s.station i).gathered = [] → b ≠ 0x6B → exec (.requestLineByte i b) s = .next s) ∧
    (∀ b : Byte, (s.station i).gathered ≠ [] ∨ b = 0x6B → (s.station i).gathered.length < 4 →
      exec (.requestLineByte i b) s =
        .next (s.setStation i { s.station i with gathered := (s.station i).gathered ++ [b] })) ∧
    ((s.station i).gathered = [] → ∀ target steps : Byte,
      afterAll ((panelBytes 1 target steps).map (.requestLineByte i)) s = after (.pay i target steps) s ∧
      afterAll ((panelBytes 2 target steps).map (.requestLineByte i)) s = after (.addTime i target steps) s ∧
      afterAll ((panelBytes 3 target steps).map (.requestLineByte i)) s = after (.queue i target) s ∧
      afterAll ((panelBytes 4 target steps).map (.requestLineByte i)) s = after (.balance i) s ∧
      afterAll ((panelBytes 5 target steps).map (.requestLineByte i)) s = after (.requestError i) s)

/-! ## The room bus -/

/-- R2, R31, R43, R71, R74: the room second counts time, the seconds of ACTIVE phases, the paid seconds of DRY and the pool
statistics, and in the OPERATING mode begins a round with a slot for every address that qualifies, in ascending order. That a
tick leaves an open reply window open and replaces the slots left over is the model's reading (log entry 23), and so is the
field that notes the grant-wait limit in force (log entry 63). -/
def Obligations.RoomSecondCountsAndBeginsARound : Prop :=
  ∀ s : State, s.mode = .operating →
    ∃ t, exec .roomSecondTick s = .next t ∧ t.now = s.now + 1 ∧ t.waitLimit = s.params.grantWait ∧
      (∀ k, t.pool k = { s.pool k with stats := { (s.pool k).stats with
        unitSeconds := min 999999999999 ((s.pool k).stats.unitSeconds + ((s.pool k).grants.map (·.amount)).sum),
        overSeconds := min 4294967295 ((s.pool k).stats.overSeconds + if (s.pool k).overLimit then 1 else 0) } }) ∧
      (∀ a, (s.machine a).state ≠ .running → t.machine a = s.machine a) ∧
      (∀ a, (s.machine a).state = .running → t.machine a = { s.machine a with
        cycle := (s.machine a).cycle.map (fun c => if c.sub = .active then { c with
          timeUsed := c.timeUsed + 1,
          remaining := if c.kind = some .dry then c.remaining - 1 else c.remaining } else c) }) ∧
      t.roundNumber = (if s.roundsBegun then s.roundNumber + 1 else 0) ∧ t.roundsBegun = true ∧
      (∀ a, a ∈ t.slots ↔ s.configured a = true ∧ ((s.machine a).bus.presence ≠ .absent ∨ t.roundNumber % 4 = 0)) ∧
      t.slots.Pairwise (· < ·) ∧ t.slot = s.slot ∧ t.pollFrame = s.pollFrame

/-- R1, R3: the next slot of the round begins with the poll frame of its address: start value, address, the tag and the joined
mark, the command with its arguments or NONE, and the check. Its ten bytes go out as characters of a start bit, eight data bits,
least significant first, and a stop bit; the part drives the pair for these and releases it at once, and drives nothing
without a slot. -/
def Obligations.PollSlotSendsThePollFrame : Prop :=
  ∀ (s : State) (a : Addr) (rest : List Addr), s.slot = none → s.slots = a :: rest →
    let joined := if (s.machine a).bus.presence = .absent then 0 else 2
    let frame (body : List Byte) : List Byte :=
      0x3C :: body ++ [byte ((65535 - byteSum body % 65536) / 256), byte (65535 - byteSum body % 65536)]
    let sent (body : List Byte) : State := { s with slots := rest, slot := some a, pollFrame := frame body }
    ((s.machine a).bus.inFlight = none →
      exec .pollSlot s = .next (sent [byte (a.val + 1), byte joined, 0, 0, 0, 0, 0])) ∧
    (∀ tag poster index kind third, (s.machine a).bus.inFlight = some ⟨.startPhase index kind third, tag, poster⟩ →
      exec .pollSlot s = .next (sent [byte (a.val + 1), byte (joined + bit tag), 1, byte index, byte (kindCode kind),
        byte (third / 256), byte third])) ∧
    (∀ tag poster, (s.machine a).bus.inFlight = some ⟨.suspend, tag, poster⟩ →
      exec .pollSlot s = .next (sent [byte (a.val + 1), byte (joined + bit tag), 2, 0, 0, 0, 0])) ∧
    (∀ tag poster, (s.machine a).bus.inFlight = some ⟨.resume, tag, poster⟩ →
      exec .pollSlot s = .next (sent [byte (a.val + 1), byte (joined + bit tag), 3, 0, 0, 0, 0])) ∧
    (∀ tag poster cause, (s.machine a).bus.inFlight = some ⟨.stop cause, tag, poster⟩ →
      exec .pollSlot s = .next (sent [byte (a.val + 1), byte (joined + bit tag), 4, byte (causeCode cause), 0, 0, 0])) ∧
    (∀ tag poster n, (s.machine a).bus.inFlight = some ⟨.test n, tag, poster⟩ →
      exec .pollSlot s = .next (sent [byte (a.val + 1), byte (joined + bit tag), 5, byte n, 0, 0, 0])) ∧
    (∀ after : Nat, s.slotPair after = List.replicate after .released) ∧
    let bits (b : Byte) : List BitTime := [.start, .data (b.getLsbD 0), .data (b.getLsbD 1), .data (b.getLsbD 2),
      .data (b.getLsbD 3), .data (b.getLsbD 4), .data (b.getLsbD 5), .data (b.getLsbD 6), .data (b.getLsbD 7), .stop]
    (∀ b : Byte, readCharacter (bits b) = some b) ∧
    ∀ (t : State) (after : Nat), exec .pollSlot s = .next t → t.pollFrame.length = 10 ∧
      t.slotPair after = (t.pollFrame.flatMap bits).map .driven ++ List.replicate after .released

/-- R11, R12, R18, R24: a reply window that closes without a reply. That NO_REPLY is the latest fault after the absence has
handed the work of the address over is the model's order (log entry 24). -/
def Obligations.AMissedWindowIsCounted : Prop :=
  ∀ (s : State) (a : Addr), s.slot = some a → s.configured a = true →
    let m := s.machine a
    let closed : State := { s with slot := none }
    (m.bus.presence = .absent → exec .replyWindowMissed s = .next closed) ∧
    (m.bus.presence ≠ .absent → m.bus.missed < 2 →
      exec .replyWindowMissed s = .next (closed.setMachine a { m with bus := { m.bus with missed := m.bus.missed + 1 } })) ∧
    (m.bus.presence = .joining → 2 ≤ m.bus.missed →
      exec .replyWindowMissed s = .next (closed.setMachine a { m with bus := { m.bus with
        presence := .absent, missed := 0, inFlight := none, queued := none, report := none, orphanDeadline := none } })) ∧
    (m.bus.presence = .present → 2 ≤ m.bus.missed →
      ∃ t, exec .replyWindowMissed s = .next t ∧ (t.machine a).state = .absent ∧ (t.machine a).door = none ∧
        (t.machine a).selection = none ∧ (t.machine a).bus = { m.bus with
          presence := .absent, missed := 0, inFlight := none, queued := none, report := none, orphanDeadline := none,
          mismatch := false } ∧
        faultLast (addrNum a) 0x01 t)

/-- R9 to R11, R22, R30, R32, R34, R35, R37, R42: a valid reply of a PRESENT machine whose identity is right and which has not
restarted. With nothing changed it settles the command in flight by its echo. A machine that stands IDLE follows its door and
its panel, and the door of a FINISHED one is the unloading act. A RUNNING one starts its phase, moves on to the next, finishes,
is stopped at its panel, by its door or by a fault, and tries a phase lost to a soft fault once more. Refunds are those of
R111 and R112 (statement RefundsNeverExceedTheCharge); nothing else of the machine waits for power. That a HARD fault whose
FAULT_HOLD names another phase index stops the cycle, too, is the model's choice (log entry 68). A RUNNING machine that has taken a
STOP left over from earlier work is not stopped at its panel when it reports STOPPING or STOPPED (R37); the field that notes the
STOP, and the START_PHASE that ends its effect, are the model's (log entry 78). -/
def Obligations.AValidReplySettlesTheCommandInFlight : Prop :=
  ∀ (s : State) (a : Addr) (bytes : List Byte) (echo : Bool) (r : Report),
    s.slot = some a → readReply a bytes = some (echo, r) → (s.machine a).bus.presence = .present → r.fresh = false →
    s.roster a = some ⟨r.cls, r.ratings⟩ →
    let m := s.machine a
    let closed : State := { s with slot := none }
    let heard : BusFields := { m.bus with missed := 0, report := some r }
    (m.bus.report = some r → m.state ≠ .running → m.state ≠ .stopping → m.state ≠ .testing → m.state ≠ .service →
      (m.bus.inFlight = none →
        exec (.replyValid bytes) s = .next (closed.setMachine a { m with bus := { m.bus with missed := 0 } })) ∧
      (∀ f, m.bus.inFlight = some f → f.tag = echo →
        exec (.replyValid bytes) s = .next (closed.setMachine a { m with bus := { m.bus with
          missed := 0, lastTag := echo, queued := none,
          inFlight := m.bus.queued.map (fun q => ⟨q.cmd, !echo, q.poster⟩) } })) ∧
      (∀ f, m.bus.inFlight = some f → f.tag ≠ echo → m.bus.missed < 2 →
        exec (.replyValid bytes) s = .next (closed.setMachine a { m with bus := { m.bus with
          missed := m.bus.missed + 1 } }))) ∧
    (∀ o, m.bus.report = some o → m.state = .idle → m.bus.inFlight = none → o.door ≠ r.door → o.selection ≠ r.selection →
      r.door = .closed → r.selection.isSome = true → o.activity = r.activity → o.arg = r.arg → o.fault = r.fault →
      exec (.replyValid bytes) s = .next ((closed.setMachine a { m with
        door := some r.door, selection := r.selection, state := .selected,
        bus := { m.bus with missed := 0, report := some r } }).raising (eventBit .machine))) ∧
    (∀ o, m.bus.report = some o → m.state = .finished → m.bus.inFlight = none → m.openedSinceFinish = true →
      o.door ≠ r.door → r.door ≠ .opened → o.selection = r.selection → o.activity = r.activity → o.arg = r.arg →
      o.fault = r.fault →
      (m.lock ≠ .none → exec (.replyValid bytes) s = .next ((closed.setMachine a { m with
        door := some r.door, openedSinceFinish := false, lockPending := false, state := .outOfService,
        bus := heard }).raising (eventBit .machine))) ∧
      (m.lock = .none → s.halted = true → exec (.replyValid bytes) s = .next ((closed.setMachine a { m with
        door := some r.door, openedSinceFinish := false, state := if m.selection.isSome = true then .selected else .idle,
        bus := heard }).raising (eventBit .machine)))) ∧
    ∀ (o : Report) (c : Cycle) (e : PlanEntry),
      m.bus.report = some o → m.state = .running → m.cycle = some c → c.plan[c.index]? = some e → o.selection = r.selection →
      s.electric.hasEntry a = false → s.water.hasEntry a = false → (∀ x, s.session = some x → x.machine ≠ a) →
      (∀ third poster, o.door = r.door → m.bus.inFlight = some ⟨.startPhase c.index e.kind third, echo, poster⟩ →
        m.bus.queued = none → c.sub = .starting → r.activity = .running → r.arg = c.index → r.fault = 0 →
        exec (.replyValid bytes) s = .next (closed.setMachine a { m with
          cycle := some { c with
            sub := .active, everActive := true, tookStop := false,
            dryBase := if e.kind = .dry then some (c.dryBase.getD c.remaining) else c.dryBase },
          bus := { heard with lastTag := echo, inFlight := none } })) ∧
      (∀ cause poster, o.door = r.door → m.bus.inFlight = some ⟨.stop cause, echo, poster⟩ → m.bus.queued = none →
        r.activity = .stopping ∨ r.activity = .stopped → r.fault = 0 →
        exec (.replyValid bytes) s = .next (closed.setMachine a { m with
          cycle := some { c with tookStop := true }, bus := { heard with lastTag := echo, inFlight := none } })) ∧
      (m.bus.inFlight = none →
        (o.door = r.door → r.activity = .stopping ∨ r.activity = .stopped → r.fault = 0 → c.tookStop = true →
          exec (.replyValid bytes) s = .next (closed.setMachine a { m with bus := heard })) ∧
        (o.door = r.door → o.activity ≠ .complete → r.activity = .complete → r.arg = c.index → r.fault = 0 →
          c.sub = .active → ¬ (e.kind = .dry ∧ c.coolPosted = true) →
          (c.index + 1 = c.plan.length → ∃ t, exec (.replyValid bytes) s = .next t ∧
            t.electric.holdsGrant a = false ∧ t.water.holdsGrant a = false ∧
            t.machine a = { m with
              state := .finished, cycle := none, openedSinceFinish := decide (m.door = some .opened), bus := heard }) ∧
          (∀ next, c.plan[c.index + 1]? = some next → ∃ t d, exec (.replyValid bytes) s = .next t ∧
            (t.machine a).state = .running ∧ (t.machine a).cycle = some d ∧
            d = { c with
              index := c.index + 1, everActive := false, retryUsed := false, timeUsed := 0, sub := d.sub } ∧
            (d.sub = .waiting ∧ (t.electric.hasEntry a = true ∨ t.water.hasEntry a = true) ∨
              d.sub = .starting ∧ (t.machine a).bus = { heard with
                inFlight := some ⟨.startPhase (c.index + 1) next.kind (if next.kind = .dry then c.remaining else 0),
                  !m.bus.lastTag, .cycleControl⟩ }))) ∧
        (o.door = r.door → o.activity ≠ .stopping → r.activity = .stopping → r.fault = 0 → c.refund = none →
          c.tookStop = false → ∃ t, exec (.replyValid bytes) s = .next t ∧ (t.machine a).state = .stopping ∧
            t.electric.holdsGrant a = false ∧ t.water.holdsGrant a = false ∧
            (t.machine a).cycle = some { c with
              stopCause := some .user, stopDeadline := some (s.now + 600), pauseDeadline := none,
              refund := some (refundOf (s.classOf a) c .user) }) ∧
        (o.door = r.door → r.activity = .faultHold → o.fault ≠ r.fault → 2 ≤ r.fault → r.fault ≤ 10 →
          (r.fault ≠ 3 → r.fault ≠ 4 → r.fault ≠ 7 →
            ∃ t, exec (.replyValid bytes) s = .next t ∧ StoppedWith .machine a s t ∧ faultLast (addrNum a) r.fault t ∧
              (t.machine a).strikes = min 15 (m.strikes + 1)) ∧
          (r.fault = 3 ∨ r.fault = 4 ∨ r.fault = 7 → r.arg = c.index →
            c.sub = .starting ∨ c.sub = .active ∨ c.sub = .resuming →
            (c.retryUsed = false → ∃ t, exec (.replyValid bytes) s = .next t ∧ faultLast (addrNum a) r.fault t ∧
              t.machine a = { m with
                cycle := some { c with retryUsed := true, sub := .starting },
                bus := { heard with
                  inFlight := some ⟨.startPhase c.index e.kind (if e.kind = .dry then c.remaining else 0), !m.bus.lastTag,
                    .cycleControl⟩ } }) ∧
            (c.retryUsed = true → ∃ t, exec (.replyValid bytes) s = .next t ∧ StoppedWith .machine a s t ∧
              faultLast (addrNum a) r.fault t ∧ (t.machine a).strikes = min 15 (m.strikes + 1)))) ∧
        (s.classOf a = .washer → o.door ≠ r.door → r.door = .opened → o.activity = r.activity → o.arg = r.arg →
          o.fault = r.fault →
          (c.index = 0 ∧ c.everActive = false → ∃ t, exec (.replyValid bytes) s = .next t ∧ StoppedWith .user a s t ∧
            t.faults = s.faults) ∧
          (c.index ≠ 0 ∨ c.everActive = true → ∃ t, exec (.replyValid bytes) s = .next t ∧ StoppedWith .machine a s t ∧
            faultLast (addrNum a) 0x02 t)))

/-- R14 to R17, R23, R24, R129, R137, R143: a discovery reply of an ABSENT address. A machine at rest joins and is released to
the room: a locked one to OUT_OF_SERVICE, one in a halted room to its door and panel, one in a running room to the oldest entry
of its queue without a hold, or to its door and panel. A machine at work is stopped as an orphan; a wrong identity is recorded
once and locks. That a fault code in the join's report is handed over, after the release, is the model's reading (log
entry 25). -/
def Obligations.ADiscoveryReplyJoinsOrOrphans : Prop :=
  ∀ (s : State) (a : Addr) (bytes : List Byte) (echo : Bool) (r : Report),
    s.slot = some a → readReply a bytes = some (echo, r) → (s.machine a).bus.presence = .absent →
    let m := s.machine a
    let q := s.queue (s.classOf a)
    let closed : State := { s with slot := none }
    let found := { m.bus with lastTag := echo, missed := 0, mismatch := false, report := some r }
    let resting : MachineState := if r.selection.isSome = true ∧ r.door ≠ .opened then .selected else .idle
    let joined := { m with
      door := some r.door, selection := r.selection, absenceExemption := false,
      bus := { found with presence := .present, seen := true } }
    (s.roster a = some ⟨r.cls, r.ratings⟩ → underWay r.activity = false → r.fault = 0 →
      (m.lock ≠ .none → exec (.discoveryReply bytes) s =
        .next ((closed.setMachine a { joined with lockPending := false, state := .outOfService }).raising
          (eventBit .machine))) ∧
      (m.lock = .none → s.halted = true ∨ (∀ e ∈ q.entries, e.hold.isSome = true) → exec (.discoveryReply bytes) s =
        .next ((closed.setMachine a { joined with state := resting }).raising (eventBit .machine))) ∧
      (∀ before e behind, m.lock = .none → s.halted = false → q.entries = before ++ e :: behind → e.hold = none →
        (∀ x ∈ before, x.hold.isSome = true) →
        let deadline := s.now + s.params.holdWindow
        exec (.discoveryReply bytes) s = .next (((closed.setQueue (s.classOf a) { q with
          entries := before ++ { e with hold := some ⟨a, deadline⟩, paying := false } :: behind,
          placed := min 65535 (q.placed + 1) }).setMachine a { joined with
            state := .held, hold := some ⟨e.card, deadline⟩ }).raising (eventBit .machine)))) ∧
    (s.roster a = some ⟨r.cls, r.ratings⟩ → underWay r.activity = false → 2 ≤ r.fault → r.fault ≤ 10 →
      ∃ t, exec (.discoveryReply bytes) s = .next t ∧ faultLast (addrNum a) r.fault t ∧ (t.machine a).bus = joined.bus ∧
        (t.machine a).strikes =
          if r.fault = 3 ∨ r.fault = 4 ∨ r.fault = 7 then m.strikes else min 15 (m.strikes + 1)) ∧
    (s.roster a = some ⟨r.cls, r.ratings⟩ → underWay r.activity = true →
      ∃ t, exec (.discoveryReply bytes) s = .next t ∧ OtherMachines a s t ∧ faultLast (addrNum a) 0x14 t ∧
        t.machine a = { m with bus := { found with
          presence := .joining, orphanDeadline := some (s.now + 600),
          inFlight := some ⟨.stop (if m.bus.seen then .machine else .room), !echo, .busController⟩ } }) ∧
    (∀ e, s.roster a = some e → e ≠ ⟨r.cls, r.ratings⟩ →
      (m.bus.mismatch = true → exec (.discoveryReply bytes) s = .next closed) ∧
      (m.bus.mismatch = false →
        ∃ t, exec (.discoveryReply bytes) s = .next t ∧ (t.machine a).bus = { m.bus with mismatch := true } ∧
          (t.machine a).lock = (if m.lock = .locked then .locked else .autoLocked) ∧ faultLast (addrNum a) 0x13 t))

/-- R11, R15, R17, R18, R23, R143: a reply of a JOINING machine. Still at work, it is updated and the command that it echoes has
been taken; at rest it joins, a locked one into OUT_OF_SERVICE and one in a halted room to its door and panel; with a wrong
identity it returns to ABSENT, keeping its last status report, and is recorded and locked; with the fresh mark it returns to
ABSENT and is taken as a discovery reply. A reply that does not echo the STOP counts as missed, and the third makes the address
ABSENT. Log entry 13 takes the fresh mark before the identity, log entry 16 counts a missed echo after the join, and log entry 48
leaves a STOP that the join did not echo in flight. -/
def Obligations.AJoiningReplyIsTakenByWhatItShows : Prop :=
  ∀ (s : State) (a : Addr) (bytes : List Byte) (echo : Bool) (r : Report),
    s.slot = some a → readReply a bytes = some (echo, r) → (s.machine a).bus.presence = .joining →
    let m := s.machine a
    let closed : State := { s with slot := none }
    let absent (b : BusFields) : BusFields :=
      { b with presence := .absent, missed := 0, inFlight := none, queued := none, orphanDeadline := none }
    let joined (b : BusFields) : MachineRecord := { m with
      door := some r.door, selection := r.selection, absenceExemption := false,
      bus := { b with presence := .present, seen := true, report := some r, orphanDeadline := none } }
    (r.fresh = true →
      (s.configured a = true →
        exec (.joiningReply bytes) s = exec (.discoveryReply bytes) (s.setMachine a { m with bus := absent m.bus })) ∧
      (s.roster a = some ⟨r.cls, r.ratings⟩ → underWay r.activity = false → r.fault = 0 → m.lock ≠ .none →
        exec (.joiningReply bytes) s = .next ((closed.setMachine a { joined { absent m.bus with
          lastTag := echo, mismatch := false } with lockPending := false, state := .outOfService }).raising
            (eventBit .machine)))) ∧
    (r.fresh = false → s.roster a = some ⟨r.cls, r.ratings⟩ → underWay r.activity = true →
      (∀ f, m.bus.inFlight = some f → f.tag = echo → m.bus.queued = none →
        exec (.joiningReply bytes) s = .next (closed.setMachine a { m with bus := { m.bus with
          lastTag := echo, inFlight := none, missed := 0, report := some r } })) ∧
      (∀ f, m.bus.inFlight = some f → f.tag ≠ echo → m.bus.missed < 2 →
        exec (.joiningReply bytes) s = .next (closed.setMachine a { m with bus := { m.bus with
          missed := m.bus.missed + 1, report := some r } })) ∧
      (∀ f, m.bus.inFlight = some f → f.tag ≠ echo → 2 ≤ m.bus.missed →
        exec (.joiningReply bytes) s = .next (closed.setMachine a { m with bus := { absent m.bus with report := none } })) ∧
      (m.bus.inFlight = none →
        exec (.joiningReply bytes) s = .next (closed.setMachine a { m with bus := { m.bus with
          missed := 0, report := some r } }))) ∧
    (r.fresh = false → s.roster a = some ⟨r.cls, r.ratings⟩ → underWay r.activity = false → r.fault = 0 →
      (m.bus.inFlight = none → m.lock ≠ .none →
        exec (.joiningReply bytes) s = .next ((closed.setMachine a { joined { m.bus with missed := 0 } with
          lockPending := false, state := .outOfService }).raising (eventBit .machine))) ∧
      (m.bus.inFlight = none → m.lock = .none → s.halted = true →
        exec (.joiningReply bytes) s = .next ((closed.setMachine a { joined { m.bus with missed := 0 } with
          state := if r.selection.isSome = true ∧ r.door ≠ .opened then .selected else .idle }).raising
            (eventBit .machine))) ∧
      (∀ f, m.bus.inFlight = some f → f.tag = echo → m.bus.queued = none → m.lock ≠ .none →
        exec (.joiningReply bytes) s = .next ((closed.setMachine a { joined { m.bus with
          missed := 0, lastTag := echo, inFlight := none } with lockPending := false, state := .outOfService }).raising
            (eventBit .machine))) ∧
      (∀ f, m.bus.inFlight = some f → f.tag ≠ echo → m.bus.missed < 2 → m.lock ≠ .none →
        exec (.joiningReply bytes) s = .next ((closed.setMachine a { joined { m.bus with
          missed := m.bus.missed + 1 } with lockPending := false, state := .outOfService }).raising
            (eventBit .machine)))) ∧
    (∀ e, r.fresh = false → s.roster a = some e → e ≠ ⟨r.cls, r.ratings⟩ → m.bus.mismatch = false →
      ∃ t, exec (.joiningReply bytes) s = .next t ∧ (t.machine a).bus = { absent m.bus with mismatch := true } ∧
        (t.machine a).lock = (if m.lock = .locked then .locked else .autoLocked) ∧ OtherMachines a s t ∧
        faultLast (addrNum a) 0x13 t)

/-- R19, R23, R47, R129, R134, R143: a JOINING machine whose orphan deadline is reached is handed over with STOP_TIMEOUT, which
locks it, loses the STOP, joins, and is in OUT_OF_SERVICE afterwards, whether the lock or the join reaches Cycle Control first.
Joined first, in a running room and unlocked, it is held for the oldest entry of its queue without a hold, and the lock makes it
hand that hold back: the entry keeps its place, and the hold stays counted in holds placed. In every other case the claim queues
are as they were. That the command carries the order, and that with the join first the fault follows it whole, is the model's
choice (log entry 52). -/
def Obligations.OrphanDeadlineLocksAndJoins : Prop :=
  ∀ (s : State) (a : Addr) (d : Nat) (r : Report) (joinFirst : Bool),
    (s.machine a).state = .absent → (s.machine a).bus.presence = .joining → (s.machine a).bus.orphanDeadline = some d →
    d ≤ s.now → (s.machine a).bus.report = some r → r.fault = 0 →
    let q := s.queue (s.classOf a)
    ∃ t, exec (.orphanDeadline ⟨addrNum a, joinFirst⟩) s = .next t ∧ (t.machine a).state = .outOfService ∧
      (t.machine a).lock = (if (s.machine a).lock = .locked then .locked else .autoLocked) ∧
      (t.machine a).door = some r.door ∧ (t.machine a).selection = r.selection ∧
      (t.machine a).bus = { (s.machine a).bus with
        presence := .present, seen := true, inFlight := none, orphanDeadline := none } ∧
      OtherMachines a s t ∧ faultLast (addrNum a) 0x12 t ∧
      (joinFirst = false ∨ s.halted = true ∨ (s.machine a).lock ≠ .none ∨ (∀ e ∈ q.entries, e.hold.isSome = true) →
        t.washers = s.washers ∧ t.dryers = s.dryers) ∧
      (∀ before e behind, joinFirst = true → s.halted = false → (s.machine a).lock = .none →
        q.entries = before ++ e :: behind → e.hold = none →
        (∀ x ∈ before, x.hold.isSome = true ∧ x.hold.map (·.machine) ≠ some a) →
        (t.machine a).hold = none ∧ t.queue (s.classOf a) = { q with
          entries := before ++ { e with paying := false } :: behind, placed := min 65535 (q.placed + 1) } ∧
        ∀ c, c ≠ s.classOf a → t.queue c = s.queue c)

/-- R4: a reply frame with one byte changed on the way is no valid reply. -/
def Obligations.OneWrongByteSpoilsAReply : Prop :=
  ∀ (a : Addr) (bytes : List Byte) (n : Nat) (b : Byte), (readReply a bytes).isSome = true → n < bytes.length →
    b ≠ bytes.getD n 0 → readReply a (bytes.set n b) = none

/-! ## Cycle Control and the room -/

/-- R31, R36, R46: a phase that has used its limit and a pause that has lasted to its deadline stop the cycle, the first
with PHASE_TIMEOUT and cause MACHINE, the second with cause USER. -/
def Obligations.PhaseLimitAndPauseDeadlineStopTheCycle : Prop :=
  ∀ (s : State) (a : Addr) (c : Cycle), (s.machine a).state = .running → (s.machine a).cycle = some c →
    (∀ e n, c.sub = .active → c.plan[c.index]? = some e →
      (if e.kind = .dry then c.dryBase.map (· + 120) else some e.limit) = some n → n ≤ c.timeUsed →
      ∃ t, exec (.phaseLimitReached (addrNum a)) s = .next t ∧ StoppedWith .machine a s t ∧ faultLast (addrNum a) 0x10 t) ∧
    (∀ d, c.pauseDeadline = some d → d ≤ s.now → c.sub = .paused ∨ c.sub = .suspending →
      ∃ t, exec (.pauseDeadline (addrNum a)) s = .next t ∧ StoppedWith .user a s t ∧ t.faults = s.faults)

/-- R38, R39, R42, R47, R110, R143: how a stop ends. A reply that takes the STOP and shows STOPPING or STOPPED confirms it: the
grant is handed back, the refund of the recorded cause is computed, written down and issued, and STOPPED makes the machine
FINISHED. A stop that the machine has not confirmed at its deadline ends in OUT_OF_SERVICE with STOP_TIMEOUT and an automatic
lock, the cycle record removed. That the STOP taken may be one left over from earlier work, which superseded the cycle's own, is
the model's choice (log entry 80). -/
def Obligations.StopDeadlineEndsOutOfService : Prop :=
  (∀ (s : State) (a : Addr) (c : Cycle) (d : Nat), (s.machine a).state = .stopping → (s.machine a).cycle = some c →
    c.stopDeadline = some d → d ≤ s.now →
    ∃ t, exec (.stopDeadline (addrNum a)) s = .next t ∧ (t.machine a).state = .outOfService ∧ (t.machine a).cycle = none ∧
      (t.machine a).lockPending = false ∧
      (t.machine a).lock = (if (s.machine a).lock = .locked then .locked else .autoLocked) ∧
      (∃ r ∈ t.faults, r.machine = addrNum a ∧ r.code = 0x12 ∧ r.lastTime = s.now) ∧
      (c.refund.isSome = true → faultLast (addrNum a) 0x12 t ∧ t.refunds = s.refunds ∧ t.audit = s.audit)) ∧
  ∀ (s : State) (a : Addr) (bytes : List Byte) (echo : Bool) (r : Report) (c : Cycle) (sent cause : StopCause)
    (poster : Poster),
    s.slot = some a → readReply a bytes = some (echo, r) → (s.machine a).bus.presence = .present → r.fresh = false →
    s.roster a = some ⟨r.cls, r.ratings⟩ →
    let m := s.machine a
    let amount := refundOf (s.classOf a) c cause
    m.state = .stopping → m.cycle = some c → c.stopCause = some cause → c.refund = none →
    m.bus.inFlight = some ⟨.stop sent, echo, poster⟩ → m.bus.queued = none → r.fault = 0 →
    s.electric.hasEntry a = false → s.water.hasEntry a = false →
    (r.activity = .stopping → ∃ t, exec (.replyValid bytes) s = .next t ∧ (t.machine a).state = .stopping ∧
      (t.machine a).cycle = some { c with refund := some amount } ∧ t.electric.holdsGrant a = false ∧
      t.water.holdsGrant a = false ∧
      t.audit.issued = (if amount = 0 then s.audit.issued else min 999999999999 (s.audit.issued + amount))) ∧
    (r.activity = .stopped → ∃ t, exec (.replyValid bytes) s = .next t ∧ (t.machine a).state = .finished ∧
      (t.machine a).cycle = none ∧ t.electric.holdsGrant a = false ∧ t.water.holdsGrant a = false ∧
      t.audit.issued = (if amount = 0 then s.audit.issued else min 999999999999 (s.audit.issued + amount)))

/-- R41: STOP_MACHINE stops a RUNNING machine with cause OPERATOR and is ACCEPTED; a machine that is neither RUNNING nor
TESTING is refused BAD_STATE. -/
def Obligations.StopMachineStopsARunningMachine : Prop :=
  ∀ (s : State) (a : Addr), s.listens .operator → s.configured a = true →
    ((s.machine a).state = .running →
      ∃ t, exec (.stopMachine .operator [byte (addrNum a)]) s = .next t ∧ Answers .operator (replyTo 0x34 .accepted []) s t ∧
        StoppedWith .operator a s t) ∧
    ((s.machine a).state ≠ .running → (s.machine a).state ≠ .testing →
      exec (.stopMachine .operator [byte (addrNum a)]) s = .next (s.answering .operator (replyTo 0x34 .badState []) 0))

/-- R43, R7: when no paid second is left, COOL is posted for the dryer, once (log entry 7). The reply that takes that command
hands the DRY grant back and, when it shows the dryer running COOL, makes COOL the ACTIVE phase. The field tookStop is the model's
own (log entry 78). -/
def Obligations.SpentDryerIsSentToCool : Prop :=
  (∀ (s : State) (a : Addr) (c : Cycle), (s.machine a).state = .running → (s.machine a).cycle = some c →
    c.kind = some .dry → c.sub = .active → c.remaining = 0 →
    let m := s.machine a
    (c.coolPosted = true → exec (.remainingPaidSecondsZero (addrNum a)) s = .next s) ∧
    (c.coolPosted = false → m.bus.presence = .present → m.bus.inFlight = none →
      exec (.remainingPaidSecondsZero (addrNum a)) s = .next (s.setMachine a { m with
        cycle := some { c with coolPosted := true },
        bus := { m.bus with inFlight := some ⟨.startPhase (c.index + 1) .cool 0, !m.bus.lastTag, .cycleControl⟩ } }))) ∧
  ∀ (s : State) (a : Addr) (bytes : List Byte) (echo : Bool) (r o : Report) (c : Cycle) (e : PlanEntry) (poster : Poster),
    s.slot = some a → readReply a bytes = some (echo, r) → (s.machine a).bus.presence = .present → r.fresh = false →
    s.roster a = some ⟨r.cls, r.ratings⟩ →
    let m := s.machine a
    m.state = .running → m.cycle = some c → c.kind = some .dry → c.coolPosted = true → c.plan[c.index + 1]? = some e →
    e.kind = .cool → m.bus.inFlight = some ⟨.startPhase (c.index + 1) .cool 0, echo, poster⟩ → m.bus.queued = none →
    m.bus.report = some o → o.door = r.door → o.selection = r.selection → r.activity = .running → r.arg = c.index + 1 →
    r.fault = 0 → s.electric.hasEntry a = false → s.water.hasEntry a = false →
    ∃ t, exec (.replyValid bytes) s = .next t ∧ (t.machine a).state = .running ∧ t.electric.holdsGrant a = false ∧
      t.water.holdsGrant a = false ∧
      (t.machine a).cycle = some { c with
        index := c.index + 1, sub := .active, everActive := true, retryUsed := false, timeUsed := 0, tookStop := false }

/-- R49, R50, R73, R129: HALT_ROOM stops every RUNNING machine with cause ROOM, gives every hold back, and halts both pools.
RESUME_ROOM ends the halt in both pools and offers the machines at rest: the first of a class to the card that has waited
longest without a hold, and none while no card of the class waits without one. Neither changes anything in a room that is
as it asks already. -/
def Obligations.HaltAndResumeTheRoom : Prop :=
  ∀ s : State, s.listens .building →
    (s.halted = true → exec (.haltRoom .building []) s = .next (s.answering .building (replyTo 0x13 .ok []) 0)) ∧
    (s.halted = false →
      ∃ t, exec (.haltRoom .building []) s = .next t ∧ Answers .building (replyTo 0x13 .ok []) s t ∧ t.halted = true ∧
        t.electric.halted = true ∧ t.water.halted = true ∧
        (∀ a, (s.machine a).state = .running → StoppedWith .room a s t) ∧
        (∀ a, (s.machine a).state = .held → (t.machine a).hold = none ∧
          ((t.machine a).state = .idle ∨ (t.machine a).state = .selected))) ∧
    (s.halted = false → exec (.resumeRoom .building []) s = .next (s.answering .building (replyTo 0x14 .ok []) 0)) ∧
    (s.halted = true →
      ∃ t, exec (.resumeRoom .building []) s = .next t ∧ Answers .building (replyTo 0x14 .ok []) s t ∧ t.halted = false ∧
        t.electric.halted = false ∧ t.water.halted = false ∧
        (∀ a, (∀ e ∈ (s.queue (s.classOf a)).entries, e.hold.isSome = true) →
          (t.machine a).state = (s.machine a).state ∧ (t.machine a).hold = (s.machine a).hold) ∧
        (∀ (a : Addr) (e : ClaimEntry), (s.machine a).state = .idle ∨ (s.machine a).state = .selected →
          (∀ b < a, s.classOf b = s.classOf a → (s.machine b).state ≠ .idle ∧ (s.machine b).state ≠ .selected) →
          (s.queue (s.classOf a)).entries.find? (fun e => e.hold.isNone) = some e →
          (t.machine a).state = .held ∧ (t.machine a).hold = some ⟨e.card, s.now + s.params.holdWindow⟩))

/-- R51: SET_BAND sets the band it names, raises ROOM and is answered OK; any other value is refused BAD_ARG. That the OK reply
carries no payload is the model's choice (log entry 71). -/
def Obligations.SetBandSetsTheBand : Prop :=
  ∀ (b : Byte) (s : State), s.listens .building →
    let set (band : Band) : Host.Outcome State Fault Refusal :=
      .next (State.answering { s with band := band } .building (replyTo 0x12 .ok []) (eventBit .room))
    (b = 0 → exec (.setBand .building [b]) s = set .standard) ∧
    (b = 1 → exec (.setBand .building [b]) s = set .offPeak) ∧
    (b = 2 → exec (.setBand .building [b]) s = set .quiet) ∧
    (2 < b.toNat → exec (.setBand .building [b]) s = .next (s.answering .building (replyTo 0x12 .badArg []) 0))

/-! ## The load pools -/

/-- R33, R54, R55, R66 to R69: SET_FEEDER_LIMIT and SET_WATER_LIMIT put the limit, brought into its range, in force, leave the
requested reserves as they are, set the state of the pool by its figures, and answer with the limit applied. The shed takes the
unmarked shared grants, the most recent first, while more of them is left than the shared portion, and then a reserve grant
larger than its reserve; each one whose machine can be suspended is marked, with a deadline 10 seconds ahead and the next
suspension number, its phase is SUSPENDING with SUSPEND posted, and the sheds are counted; every other grant stays as it was. -/
def Obligations.LimitRequestsSetTheLimitInForce : Prop :=
  ∀ (hi lo : Byte) (s : State), s.listens .building →
    let asked := hi.toNat * 256 + lo.toNat
    let result (c : Instr) (code : Nat) (k : PoolId) (limit : Nat) : Prop :=
      ∃ t, exec c s = .next t ∧
        Answers .building (replyTo code (if limit = asked then .ok else .clamped) [byte (limit / 256), byte limit]) s t ∧
        (t.pool k).limit = limit ∧ (t.pool k).reqWasher = (s.pool k).reqWasher ∧
        (t.pool k).reqDryer = (s.pool k).reqDryer ∧ (t.pool k).overLimit = !(t.pool k).withinFigures ∧
        (∀ j, j ≠ k → (t.pool j).limit = (s.pool j).limit ∧ (t.pool j).waits = (s.pool j).waits) ∧
        (s.grantsLawful →
          let p := s.pool k
          let washer := min p.reqWasher limit
          let dryer := min p.reqDryer (limit - washer)
          let shared := limit - washer - dryer
          let sum (gs : List Grant) : Nat := (gs.map (·.amount)).sum
          let ready (m : MachineRecord) : Bool := decide (m.state = .running) && (match m.cycle with
            | none => false
            | some c => decide (c.sub = .active) && (match c.plan[c.index]? with
              | none => false
              | some e => e.suspendable && (decide (e.kind = .heat) || decide (e.kind = .wash) || decide (e.kind = .rinse) ||
                  decide (e.kind = .soak) || decide (e.kind = .dry) && !c.coolPosted)))
          let yields (g : Grant) : Bool := !g.pending && g.suspendable && ready (s.machine g.machine)
          let isShared (g : Grant) : Bool := decide (g.portion = .shared)
          let chosen (i : Nat) (g : Grant) : Bool := yields g && (match g.portion with
            | .shared => decide (shared + sum ((p.grants.drop (i + 1)).filter (fun h => isShared h && yields h)) <
                sum (p.grants.filter (fun h => isShared h && !h.pending)))
            | .washerReserve => decide (washer < g.amount)
            | .dryerReserve => decide (dryer < g.amount))
          let count (before : Nat → Grant → Bool) : Nat := p.grants.zipIdx.countP (fun x => chosen x.2 x.1 && before x.2 x.1)
          let rank (i : Nat) (g : Grant) : Nat := match g.portion with
            | .shared => count (fun j h => isShared h && decide (i < j))
            | .washerReserve => count (fun _ h => isShared h)
            | .dryerReserve => count (fun _ h => decide (h.portion ≠ .dryerReserve))
          let sheds := count (fun _ _ => true)
          (t.pool k).stats.sheds = (if sheds = 0 then p.stats.sheds else min 4294967295 (p.stats.sheds + sheds)) ∧
          (∃ more, (t.pool k).grants = p.grants.zipIdx.map (fun x => if chosen x.2 x.1 then { x.1 with
            pending := true, deadline := some (s.now + 10), number := some (p.suspCounter + rank x.2 x.1) } else x.1) ++ more) ∧
          ∀ i g, p.grants[i]? = some g → chosen i g = true →
            ((t.machine g.machine).cycle = (s.machine g.machine).cycle.map (fun c => { c with sub := .suspending })) ∧
            (s.session = none → (s.machine g.machine).bus.presence = .present → (s.machine g.machine).bus.inFlight = none →
              (t.machine g.machine).bus.inFlight =
                some ⟨.suspend, !(s.machine g.machine).bus.lastTag, .cycleControl⟩))
    result (.setFeederLimit .building [hi, lo]) 0x10 .electric (max 10 (min asked 600)) ∧
    result (.setWaterLimit .building [hi, lo]) 0x11 .water (min asked 120)

/-- R54, R56, R67 to R69: SET_RESERVE puts a requested reserve, brought into its range, into the room parameters and into
its pool, and answers with the value applied; it is BUSY during a store, whatever its arguments (log entry 34). -/
def Obligations.SetReserveSetsTheRequestedReserve : Prop :=
  ∀ (hi lo : Byte) (s : State), s.listens .operator →
    let asked := hi.toNat * 256 + lo.toNat
    let answer (v : Nat) : PortReply := replyTo 0x25 (if v = asked then .ok else .clamped) [byte (v / 256), byte v]
    (s.store = none →
      (∃ t, exec (.setReserve .operator [0, 1, hi, lo]) s = .next t ∧ Answers .operator (answer (min asked 600)) s t ∧
        t.tables = { s.tables with params := { s.tables.params with electricWasher := min asked 600 } } ∧
        t.electric.reqWasher = min asked 600 ∧ t.electric.reqDryer = s.electric.reqDryer ∧
        t.electric.limit = s.electric.limit ∧ t.electric.overLimit = !t.electric.withinFigures) ∧
      (∃ t, exec (.setReserve .operator [0, 2, hi, lo]) s = .next t ∧ Answers .operator (answer (min asked 600)) s t ∧
        t.tables = { s.tables with params := { s.tables.params with electricDryer := min asked 600 } } ∧
        t.electric.reqDryer = min asked 600 ∧ t.electric.reqWasher = s.electric.reqWasher ∧
        t.electric.limit = s.electric.limit ∧ t.electric.overLimit = !t.electric.withinFigures) ∧
      (∃ t, exec (.setReserve .operator [1, 1, hi, lo]) s = .next t ∧ Answers .operator (answer (min asked 120)) s t ∧
        t.tables = { s.tables with params := { s.tables.params with waterWasher := min asked 120 } } ∧
        t.water.reqWasher = min asked 120 ∧ t.water.limit = s.water.limit ∧
        t.water.overLimit = !t.water.withinFigures) ∧
      exec (.setReserve .operator [1, 2, hi, lo]) s = .next (s.answering .operator (replyTo 0x25 .badArg []) 0)) ∧
    (s.store.isSome = true → ∀ k c : Byte,
      exec (.setReserve .operator [k, c, hi, lo]) s = .next (s.answering .operator (replyTo 0x25 .busy []) 0))

/-- R33, R45, R46, R64, R66, R70: suspensions. A dryer's door that opens in DRY sets the pause deadline, posts SUSPEND and marks
the grant. A confirmed suspension becomes PAUSED when a pause deadline stands and asks to be resumed when none does; a door
closed on a PAUSED dryer sends DRY back to wait for power. A suspension that has not been confirmed at the suspend deadline of
its marked grant stops the cycle with SUSPEND_IGNORED and cause MACHINE, and the deadline is cleared. -/
def Obligations.SuspendDeadlineStopsTheCycle : Prop :=
  (∀ (s : State) (a : Addr) (k : PoolId) (g : Grant) (d : Nat) (c : Cycle),
    g ∈ (s.pool k).grants → g.machine = a → g.pending = true → g.deadline = some d → d ≤ s.now →
    (s.machine a).state = .running → (s.machine a).cycle = some c → c.sub = .suspending →
    ∃ t, exec (.suspendDeadline (addrNum a)) s = .next t ∧ StoppedWith .machine a s t ∧ faultLast (addrNum a) 0x11 t ∧
      ∀ g ∈ (t.pool k).grants, g.machine = a → g.deadline = none) ∧
  ∀ (s : State) (a : Addr) (bytes : List Byte) (echo : Bool) (r o : Report) (c : Cycle),
    s.slot = some a → readReply a bytes = some (echo, r) → (s.machine a).bus.presence = .present → r.fresh = false →
    s.roster a = some ⟨r.cls, r.ratings⟩ →
    let m := s.machine a
    let heard : BusFields := { m.bus with missed := 0, report := some r }
    m.state = .running → m.cycle = some c → m.bus.inFlight = none → m.bus.queued = none → m.bus.report = some o →
    o.selection = r.selection → o.fault = r.fault → s.electric.hasEntry a = false → s.water.hasEntry a = false →
    (∀ x, s.session = some x → x.machine ≠ a) →
    (s.classOf a = .dryer → c.kind = some .dry → o.door ≠ r.door → o.activity = r.activity → o.arg = r.arg →
      (c.coolPosted = false → r.door = .opened → c.sub = .starting ∨ c.sub = .active ∨ c.sub = .resuming →
        ∃ t, exec (.replyValid bytes) s = .next t ∧
          t.machine a = { m with
            door := some r.door,
            cycle := some { c with pauseDeadline := some (s.now + s.params.doorPause), sub := .suspending },
            bus := { heard with inFlight := some ⟨.suspend, !m.bus.lastTag, .cycleControl⟩ } } ∧
          (∀ k, (t.pool k).waits = (s.pool k).waits ∧ ∀ g ∈ (t.pool k).grants, g.machine = a → g.pending = true)) ∧
      (c.sub = .paused → r.door ≠ .opened → s.electric.holdsGrant a = false → s.water.holdsGrant a = false →
        ∃ t d, exec (.replyValid bytes) s = .next t ∧ (t.machine a).cycle = some d ∧
          d = { c with pauseDeadline := none, sub := d.sub } ∧
          (d.sub = .waiting ∧ (t.electric.hasEntry a = true ∨ t.water.hasEntry a = true) ∨
            d.sub = .starting ∧ (t.machine a).bus = { heard with
              inFlight := some ⟨.startPhase c.index .dry c.remaining, !m.bus.lastTag, .cycleControl⟩ }))) ∧
    (c.sub = .suspending → o.door = r.door → o.activity ≠ r.activity → r.activity = .suspended → r.arg = c.index →
      (∀ d, c.pauseDeadline = some d → ∃ t, exec (.replyValid bytes) s = .next t ∧
        t.machine a = { m with cycle := some { c with sub := .paused }, bus := heard } ∧ t.electric.holdsGrant a = false ∧
        t.water.holdsGrant a = false) ∧
      (c.pauseDeadline = none → s.electric.holdsGrant a = true ∨ s.water.holdsGrant a = true →
        ∃ t, exec (.replyValid bytes) s = .next t ∧
          (t.machine a = { m with cycle := some { c with sub := .suspended }, bus := heard } ∧
              (t.electric.hasEntry a = true ∨ t.water.hasEntry a = true) ∨
            t.machine a = { m with
              cycle := some { c with sub := .resuming },
              bus := { heard with inFlight := some ⟨.resume, !m.bus.lastTag, .cycleControl⟩ } })))

/-- R71, R72: a wait entry of a cycle that has waited for the grant-wait limit leaves the list and is counted, and the cycle
stops with GRANT_WAIT and cause ROOM. A limit lowered within this room second does not make an older entry expire in it (R71;
the field that notes the limit is log entry 63). -/
def Obligations.GrantWaitExpiryStopsTheCycle : Prop :=
  ∀ (s : State) (a : Addr) (k : PoolId) (e : WaitEntry), e ∈ (s.pool k).waits → e.machine = a →
    (e.time + s.params.grantWait ≤ s.now → e.time + s.waitLimit ≤ s.now →
      (∀ x ∈ (s.pool k).waits, x.machine = a → x.purpose = .cyclePhase ∨ x.purpose = .resume) →
      (∀ j, j ≠ k → (s.pool j).hasEntry a = false) → (s.machine a).state = .running →
      ∃ t, exec (.grantWaitExpiry (addrNum a)) s = .next t ∧ StoppedWith .room a s t ∧ faultLast (addrNum a) 0x23 t ∧
        (t.pool k).stats.expiries = min 4294967295 ((s.pool k).stats.expiries + 1)) ∧
    ((∀ j, ∀ x ∈ (s.pool j).waits, x.machine = a → s.now < x.time + s.waitLimit) →
      exec (.grantWaitExpiry (addrNum a)) s = .next s)

/-- R76, whole. -/
def Obligations.ClearPoolStatsZeroesTheStatistics : Prop :=
  ∀ s : State, s.listens .building →
    let zero : PoolStats := { unitSeconds := 0, waits := 0, sheds := 0, overSeconds := 0, expiries := 0 }
    exec (.clearPoolStats .building []) s = .next (State.answering { s with
      electric := { s.electric with stats := zero }, water := { s.water with stats := zero } }
      .building (replyTo 0x16 .ok []) 0)

/-! ## The pay stations -/

/-- R98, whole: what a BALANCE request shows. It writes nothing to the card, whose contents the part does not hold, and changes
nothing of the part but the display and the message gathered. -/
def Obligations.BalanceShowsTheCard : Prop :=
  ∀ (i : StationId) (s : State), s.mode = .operating →
    let x := s.station i
    let shown (m : Message) : Host.Outcome State Fault Refusal :=
      .next (s.setStation i { x with gathered := [], display := x.display ++ [m] })
    (∀ card, x.state = .cardReady → x.card = some card →
      exec (.balance i) s = shown {
        code := 1, small := 0, minutes := 0, first := x.pair.value, third := 0,
        second := match s.refunds.find? (fun e => e.card == card) with
          | some e => if e.state = .ready then e.amount else 0
          | none => 0 }) ∧
    (x.state = .empty ∨ x.state = .reading →
      exec (.balance i) s = shown { code := 6, small := 0, minutes := 0, first := 0, second := 0, third := 0 }) ∧
    (x.state = .crediting ∨ x.state = .debiting ∨ x.state = .verifying →
      exec (.balance i) s = shown { code := 7, small := 0, minutes := 0, first := 0, second := 0, third := 0 })

/-- R25, R92, R93, R104, R106, R107, R131, R132: a PAY is refused by the first test that fails, in the order of R92, with its
message and nothing else. One whose tests pass begins the payment at the machine and the debit at the station: a washer's price,
or the granted steps of a dryer, less the discount of the OFF_PEAK band. The holder's payment for a HELD machine is told to the
claim queue, and a charge of 0 starts the cycle at once with no write. That the DRY entry of a dryer plan has limit seconds 0 and
the COOL entry is not suspendable is the model's choice (log entry 53), and so is that an IDLE machine and one HELD for another card
meet the message of their state with a payment present, too (log entry 55), and that the OUT_OF_ORDER for a target that is no
address carries the target byte is its reading (log entry 32). What a charge of 0 leads to is stated where the holds
are lawful, as every step keeps them (statement EveryStepKeepsClaimQueuesLawful). -/
def Obligations.PayBeginsThePaymentAndTheDebit : Prop :=
  ∀ (s : State) (i : StationId) (target steps : Byte), s.mode = .operating →
    let x := s.station i
    let pay := exec (.pay i target steps) s
    let message (code small minutes first second : Nat) : Message :=
      { code := code, small := small, minutes := minutes, first := first, second := second, third := 0 }
    let told (m : Message) : Station := { x with gathered := [], display := x.display ++ [m] }
    let shown (m : Message) : Host.Outcome State Fault Refusal := .next (s.setStation i (told m))
    (x.state = .empty ∨ x.state = .reading → pay = shown (message 6 0 0 0 0)) ∧
    (x.state = .crediting ∨ x.state = .debiting ∨ x.state = .verifying → pay = shown (message 7 0 0 0 0)) ∧
    ∀ (card : Nat) (slot : Slot), x.state = .cardReady → x.card = some card → x.slot = some slot →
      (s.halted = true → pay = shown (message 8 0 0 0 0)) ∧
      (s.halted = false → s.band = .quiet → pay = shown (message 9 0 0 0 0)) ∧
      (s.halted = false → s.band ≠ .quiet →
        ((∀ a, addrNum a = target.toNat → s.configured a = false ∨ (s.machine a).state = .absent) →
          pay = shown (message 10 target.toNat 0 0 0)) ∧
        ∀ a : Addr, target = byte (addrNum a) → s.configured a = true → (s.machine a).state ≠ .absent →
          let m := s.machine a
          let about (code : Nat) := shown (message code (addrNum a) 0 0 0)
          let closed : Prop := m.door = some .closed ∨ m.door = some .locked
          let mine : Prop := m.state = .selected ∨ m.state = .held ∧ m.hold.map (·.card) = some card
          (m.state = .idle → (closed → pay = about 14) ∧ (¬ closed → pay = about 13)) ∧
          (m.state = .held → m.hold.map (·.card) ≠ some card → pay = about 11) ∧
          (m.state ≠ .idle ∧ m.state ≠ .selected ∧ m.state ≠ .held ∨ mine ∧ m.payment ≠ none → pay = about 12) ∧
          (mine → m.payment = none →
            (m.lock ≠ .none ∨ m.lockPending = true → pay = about 10) ∧
            (m.lock = .none → m.lockPending = false →
              (¬ closed → pay = about 13) ∧
              (closed →
                (m.selection = none → pay = about 14) ∧
                ∀ n, m.selection = some n →
                  let off (amount : Nat) : Nat := amount - amount * (if s.band = .offPeak then s.params.discount else 0) / 100
                  let granted (p : DryProfile) : Nat := min (max 1 (min steps.toNat 180)) (p.maxMinutes / p.stepMinutes)
                  (s.classOf a = .washer → s.washProfile n = none → pay = about 14) ∧
                  (s.classOf a = .dryer → s.dryProfile n = none → pay = about 14) ∧
                  (∀ p, s.classOf a = .dryer → s.dryProfile n = some p → granted p = 0 → pay = about 17) ∧
                  ∀ (charge seconds minutes : Nat) (plan : List PlanEntry),
                    (s.classOf a = .washer ∧ seconds = 0 ∧ minutes = 0 ∧
                      (∃ p, s.washProfile n = some p ∧ charge = off p.price ∧ plan = p.plan) ∨
                     s.classOf a = .dryer ∧ (∃ p, s.dryProfile n = some p ∧ 0 < granted p ∧
                      charge = off (granted p * p.stepPrice) ∧ minutes = granted p * p.stepMinutes ∧ seconds = minutes * 60 ∧
                      plan = [⟨.dry, 0, p.dryLu, 0, 0, true⟩, ⟨.cool, p.coolSeconds, 0, 0, 0, false⟩])) →
                    let debit : Station := { x with
                      gathered := [], state := .debiting, request := some .pay, target := some a, amount := charge,
                      seconds := seconds, minutes := minutes, writing := some (if slot = .a then .b else .a), oldPair := x.pair,
                      expectedPair := { sequence := (x.pair.sequence + 1) % 65536, value := x.pair.value - charge },
                      attempt := 1, begun := false }
                    let begun (origin : PaymentOrigin) : MachineRecord := { m with
                      state := .paying, payment := some ⟨card, n, origin, charge, seconds, plan⟩ }
                    let q := s.queue (s.classOf a)
                    (x.pair.value < charge → pay = shown (message 15 0 0 charge x.pair.value)) ∧
                    (charge ≤ x.pair.value → s.params.ceiling < x.pair.value - charge →
                      pay = shown (message 16 0 0 (x.pair.value - charge) s.params.ceiling)) ∧
                    (charge ≤ x.pair.value → x.pair.value - charge ≤ s.params.ceiling → 0 < charge →
                      (m.state = .selected → pay = .next (State.raising
                        ((s.setMachine a (begun .selected)).setStation i debit) (eventBit .machine))) ∧
                      (∀ (before behind : List ClaimEntry) (e : ClaimEntry), m.state = .held →
                        q.entries = before ++ e :: behind → e.hold.map (·.machine) = some a →
                        (∀ y ∈ before, y.hold.map (·.machine) ≠ some a) →
                        pay = .next (State.raising (((s.setQueue (s.classOf a) { q with
                          entries := before ++ { e with paying := true } :: behind }).setMachine a (begun .held)).setStation i
                            debit) (eventBit .machine)))) ∧
                    (s.holdsLawful → charge = 0 → x.pair.value ≤ s.params.ceiling → ∃ t c, pay = .next t ∧
                      t.station i = told (message 2 (addrNum a) minutes 0 x.pair.value) ∧
                      t.audit = { s.audit with charged := min 999999999999 s.audit.charged } ∧
                      (t.machine a).state = .running ∧ (t.machine a).payment = none ∧ (t.machine a).hold = none ∧
                      t.cycleCounter = (s.cycleCounter + 1) % 65536 ∧ (t.machine a).cycle = some c ∧
                      c.number = s.cycleCounter ∧ c.payer = card ∧ c.program = n ∧ c.plan = plan ∧ c.index = 0 ∧
                      c.chargeTotal = 0 ∧ c.paidTotal = seconds ∧ c.remaining = seconds ∧ c.startTime = s.now ∧
                      (∀ (before behind : List ClaimEntry) (e : ClaimEntry), m.state = .held →
                        q.entries = before ++ e :: behind → e.hold.map (·.machine) = some a →
                        (∀ y ∈ before, y.hold.map (·.machine) ≠ some a) →
                        t.queue (s.classOf a) = { q with
                          entries := before ++ behind, served := min 65535 (q.served + 1) }))))))

/-- R44, R90, R97, R108, R109: an ADD_TIME is refused by the first test that fails, in the order of R97, with its message; a
refusal at a card that stands ready leaves it accepted, and the record settles, by the model's reading of R90 (log entry 54): a
READY refund below the ceiling begins its credit, whose mark raises no PAYMENT (log entry 36). One whose tests pass marks the
top-up pending and begins the debit of the granted steps, and a charge of 0 adds the seconds at once with no write. The mark that
BALANCE is still to be shown is the model's own (log entry 14), and that the OUT_OF_ORDER for a target that is no address carries
the target byte is its reading (log entry 32). -/
def Obligations.AddTimeBeginsTheTopUp : Prop :=
  ∀ (s : State) (i : StationId) (target steps : Byte), s.mode = .operating →
    let x := s.station i
    let add := exec (.addTime i target steps) s
    let message (code small minutes first second : Nat) : Message :=
      { code := code, small := small, minutes := minutes, first := first, second := second, third := 0 }
    let shown (m : Message) : Host.Outcome State Fault Refusal :=
      .next (s.setStation i { x with gathered := [], display := x.display ++ [m] })
    (x.state = .empty ∨ x.state = .reading → add = shown (message 6 0 0 0 0)) ∧
    (x.state = .crediting ∨ x.state = .debiting ∨ x.state = .verifying → add = shown (message 7 0 0 0 0)) ∧
    ∀ (card : Nat) (slot : Slot), x.state = .cardReady → x.card = some card → x.slot = some slot →
      let other : Slot := if slot = .a then .b else .a
      let held : Nat := match s.refunds.find? (fun e => e.card == card) with
        | some e => if e.state = .ready then e.amount else 0
        | none => 0
      let stands (m : Message) : Station := { x with
        gathered := [], request := none, target := none, amount := 0, seconds := 0, minutes := 0, writing := none,
        begun := false, attempt := 1, balanceDue := false,
        display := x.display ++ m :: (if x.balanceDue = true then [message 1 0 0 x.pair.value held] else []) }
      let nothingToCredit : Prop := ∀ e ∈ s.refunds, e.card = card → e.state ≠ .ready ∨ s.params.ceiling ≤ x.pair.value
      let refused (m : Message) : Prop :=
        (nothingToCredit → add = .next (s.setStation i (stands m))) ∧
        ∀ (before behind : List RefundEntry) (e : RefundEntry), s.refunds = before ++ e :: behind → e.card = card →
          (∀ y ∈ before, y.card ≠ card) → e.state = .ready → x.pair.value < s.params.ceiling →
          let credit := min e.amount (s.params.ceiling - x.pair.value)
          let expected : Pair := ⟨(x.pair.sequence + 1) % 65536, x.pair.value + credit⟩
          add = .next (State.setStation { s with
              refunds := before ++ ({ e with inProgress := true, pairs := some (x.pair, expected) } : RefundEntry) :: behind } i
            { x with
              gathered := [], display := x.display ++ [m], state := .crediting, request := some .credit, target := none,
              amount := credit, seconds := 0, minutes := 0, writing := some other, oldPair := x.pair,
              expectedPair := expected, attempt := 1, begun := false })
      ((∀ a, addrNum a = target.toNat → s.configured a = false ∨ (s.machine a).state = .absent) →
        refused (message 10 target.toNat 0 0 0)) ∧
      ∀ a : Addr, target = byte (addrNum a) → s.configured a = true →
        let m := s.machine a
        (m.state ≠ .absent →
          m.state ≠ .running ∨ s.classOf a ≠ .dryer ∨ (∀ c, m.cycle = some c → c.kind ≠ some .dry ∨ c.coolPosted = true) →
          refused (message 19 (addrNum a) 0 0 0)) ∧
        ∀ c : Cycle, m.state = .running → s.classOf a = .dryer → m.cycle = some c → c.kind = some .dry → c.coolPosted = false →
          (c.payer ≠ card → refused (message 18 (addrNum a) 0 0 0)) ∧
          (c.payer = card → c.topUp ≠ none → refused (message 12 (addrNum a) 0 0 0)) ∧
          (c.payer = card → c.topUp = none → s.dryProfile c.program = none → refused (message 17 (addrNum a) 0 0 0)) ∧
          ∀ p : DryProfile, c.payer = card → c.topUp = none → s.dryProfile c.program = some p →
            let room := min (p.maxMinutes * 60 - c.remaining) (10800 - c.paidTotal)
            let granted := min (max 1 (min steps.toNat 180)) (room / (p.stepMinutes * 60))
            let price := granted * p.stepPrice
            let charge := price - price * (if s.band = .offPeak then s.params.discount else 0) / 100
            let seconds := granted * p.stepMinutes * 60
            (granted = 0 → refused (message 17 (addrNum a) 0 0 0)) ∧
            (0 < granted →
              (x.pair.value < charge → refused (message 15 0 0 charge x.pair.value)) ∧
              (charge ≤ x.pair.value → s.params.ceiling < x.pair.value - charge →
                refused (message 16 0 0 (x.pair.value - charge) s.params.ceiling)) ∧
              (charge ≤ x.pair.value → x.pair.value - charge ≤ s.params.ceiling → 0 < charge →
                add = .next ((s.setMachine a { m with
                  cycle := some { c with topUp := some ⟨card, charge, seconds⟩ } }).setStation i { x with
                    gathered := [], state := .debiting, request := some .addTime, target := some a, amount := charge,
                    seconds := seconds, minutes := granted * p.stepMinutes, writing := some other, oldPair := x.pair,
                    expectedPair := { sequence := (x.pair.sequence + 1) % 65536, value := x.pair.value - charge },
                    attempt := 1, begun := false })) ∧
              (charge = 0 → x.pair.value ≤ s.params.ceiling → nothingToCredit →
                add = .next (State.raising (State.setStation (State.setMachine { s with
                    audit := { s.audit with charged := min 999999999999 s.audit.charged } } a { m with cycle := some { c with
                      remaining := c.remaining + seconds, paidTotal := c.paidTotal + seconds,
                      dryBase := c.dryBase.map (· + seconds) } }) i
                  (stands (message 3 (addrNum a) (granted * p.stepMinutes) 0 x.pair.value))) (eventBit .payment))))

/-- R127: a QUEUE whose tests pass makes an entry at the tail of the queue of its class and shows its position. R90: one that is
refused because the card waits already leaves the card accepted, and the record settles: a READY refund that the ceiling lets
be credited begins its credit. That R127's words for an entry made, the card unwritten, go before R90 is the model's reading
(log entry 54), and so is that the mark of a credit raises no PAYMENT (log entry 36). -/
def Obligations.QueueJoinsAtTheTail : Prop :=
  ∀ (s : State) (i : StationId) (c : MachineClass) (card : Nat),
    let x := s.station i
    let q := s.queue c
    s.mode = .operating → x.state = .cardReady → x.card = some card →
    (s.halted = true ∨ ∀ a, s.configured a = true → s.classOf a = c → (s.machine a).lock = .none →
      (s.machine a).lockPending = false → (s.machine a).state ≠ .idle ∧ (s.machine a).state ≠ .selected) →
    (∀ (before behind : List RefundEntry) (e : RefundEntry) (slot : Slot), (∃ y ∈ q.entries, y.card = card) →
      x.slot = some slot → s.refunds = before ++ e :: behind → e.card = card → (∀ y ∈ before, y.card ≠ card) →
      e.state = .ready → x.pair.value < s.params.ceiling →
      let credit := min e.amount (s.params.ceiling - x.pair.value)
      let expected : Pair := ⟨(x.pair.sequence + 1) % 65536, x.pair.value + credit⟩
      exec (.queue i (byte (classCode c))) s = .next (State.setStation { s with
          refunds := before ++ ({ e with inProgress := true, pairs := some (x.pair, expected) } : RefundEntry) :: behind } i { x with
        gathered := [], display := x.display ++ [{
          code := 21, small := 0, minutes := 0, first := classCode c, second := 0, third := 0 }],
        state := .crediting, request := some .credit, target := none, amount := credit, seconds := 0, minutes := 0,
        writing := some (if slot = .a then .b else .a), oldPair := x.pair, expectedPair := expected, attempt := 1,
        begun := false })) ∧
    ((∀ e ∈ q.entries, e.card ≠ card) → q.entries.length < 8 → exec (.queue i (byte (classCode c))) s = .next (State.raising
      ((s.setQueue c { q with entries := q.entries ++ [{ card := card, joined := s.now, hold := none, paying := false }] }).setStation i
        { x with gathered := [], display := x.display ++ [{
          code := 5, small := q.entries.length + 1, minutes := 0, first := classCode c, second := 0, third := 0 }] })
      (eventBit .machine)))

/-- R77, R79, R80, R84, R85, R87: the card-present switch, a failed insertion read, a bad panel message and a gap in one. In
READING the part sends the read of 32 bytes from offset 0 over the card link, and a stop at the first byte that the card does
not acknowledge. The switch is held beside the record, and what a message shows in the CONFIG_FAULT mode and a bad message in
any mode are the readings of log entries 32 and 44. -/
def Obligations.CardSwitchAndPanelErrors : Prop :=
  ∀ (i : StationId) (s : State),
    let x := s.station i
    let empty := { Station.initial with gathered := x.gathered, switchClosed := x.switchClosed, display := x.display }
    let message (code : Nat) : Message := { code := code, small := 0, minutes := 0, first := 0, second := 0, third := 0 }
    (x.switchClosed = false → x.state = .empty → x.awaitingRemoval = false → s.mode = .operating →
      exec (.cardInserted i) s = .next (s.setStation i { x with switchClosed := true, state := .reading })) ∧
    (x.switchClosed = false → x.state = .empty → x.awaitingRemoval = false → s.mode = .configFault →
      exec (.cardInserted i) s =
        .next (s.setStation i { x with switchClosed := true, display := x.display ++ [message 10] })) ∧
    (x.state = .empty ∨ x.state = .reading ∨ x.state = .cardReady →
      exec (.cardRemoved i) s = .next (s.setStation i { empty with switchClosed := false })) ∧
    (x.state = .reading → exec (.insertionReadFail i) s =
      .next (s.setStation i { empty with awaitingRemoval := true, display := x.display ++ [message 23] })) ∧
    (x.state = .reading → ∀ acks polls,
      cardTraffic x ⟨true :: true :: true :: acks, polls⟩ =
        ([.start, .put 0x6C, .put 0x00, .restart, .put 0x6D] : List LinkSymbol) ++ List.replicate 31 (.take true) ++
          ([.take false, .stop] : List LinkSymbol) ∧
      cardTraffic x ⟨true :: true :: false :: acks, polls⟩ =
        ([.start, .put 0x6C, .put 0x00, .restart, .put 0x6D, .stop] : List LinkSymbol) ∧
      cardTraffic x ⟨true :: false :: acks, polls⟩ = ([.start, .put 0x6C, .put 0x00, .stop] : List LinkSymbol) ∧
      cardTraffic x ⟨false :: acks, polls⟩ = ([.start, .put 0x6C, .stop] : List LinkSymbol)) ∧
    (x.state = .empty ∨ x.state = .cardReady → ∀ answers, cardTraffic x answers = []) ∧
    exec (.requestError i) s =
      .next (s.setStation i { x with gathered := [], display := x.display ++ [message 27] }) ∧
    exec (.requestGapTimeout i) s = .next (s.setStation i { x with gathered := [] })

/-- R80, R82, R83, R86, R88 to R91: the insertion read decides the card. A read whose device bytes or address byte the card does
not acknowledge has failed. A foreign card is refused. A card of the issuer with two valid slots takes the later one; its DEBIT
doubt and its IN_DOUBT refund are resolved by the pair read; and with no doubt it is CARD_READY with its balance shown, or its
READY refund begins the automatic credit. The mark that BALANCE is still to be shown is the model's own (log entry 14), and that
the mark of a credit raises no PAYMENT is its reading (log entry 36). -/
def Obligations.InsertionReadDecidesTheCard : Prop :=
  ∀ (s : State) (i : StationId),
    let x := s.station i
    x.state = .reading →
    (∀ y : ReadAnswers, y.bytes.length < 3 ∨ false ∈ y.bytes →
      exec (.insertionReadDone i y) s = exec (.insertionReadFail i) s) ∧
    (∀ bytes, at2 bytes 4 ≠ s.params.issuer →
      exec (.insertionReadDone i ⟨[true, true, true], bytes⟩) s = .next (s.setStation i { Station.initial with
        gathered := x.gathered, switchClosed := x.switchClosed, awaitingRemoval := true,
        display := x.display ++ [{ code := 24, small := 0, minutes := 0, first := 0, second := 0, third := 0 }] })) ∧
    (∀ (card : Nat) (rest : List Byte) (old new : Pair) (ma aa mb ab : Nat) (inB : Bool),
      0 < card → card < 4294967295 → s.params.issuer < 65536 → rest.length = 10 →
      old.value ≤ 50000 → new.value ≤ 50000 → old.sequence < 65536 → new.sequence < 65536 →
      1 ≤ (new.sequence + 65536 - old.sequence) % 65536 → (new.sequence + 65536 - old.sequence) % 65536 ≤ 32767 →
      holdsCard card (s.station (otherStation i)) = false →
      let read := exec (.insertionReadDone i ⟨[true, true, true], be4 card ++ be2 s.params.issuer ++ rest ++
        (if inB then slotBytes old ma aa ++ slotBytes new mb ab else slotBytes new mb ab ++ slotBytes old ma aa)⟩) s
      let held : Station := { x with
        card := some card, slot := some (if inB then .b else .a), pair := new, target := none, seconds := 0, minutes := 0,
        begun := false, attempt := 1 }
      let message (code machine first : Nat) : Message :=
        { code := code, small := machine, minutes := 0, first := first, second := 0, third := 0 }
      ((∀ d ∈ s.doubts, d.debit.card ≠ card) → (∀ e ∈ s.refunds, e.card ≠ card) →
        read = .next (s.setStation i { held with
          state := .cardReady, request := none, amount := 0, writing := none, balanceDue := false,
          display := x.display ++ [message 1 0 new.value] })) ∧
      (∀ (before behind : List RefundEntry) (e : RefundEntry), (∀ d ∈ s.doubts, d.debit.card ≠ card) →
        s.refunds = before ++ e :: behind → e.card = card → (∀ y ∈ before, y.card ≠ card) → e.state = .ready → new.value < s.params.ceiling →
        let credit := min e.amount (s.params.ceiling - new.value)
        let expected : Pair := ⟨(new.sequence + 1) % 65536, new.value + credit⟩
        read = .next (State.setStation { s with
            refunds := before ++ ({ e with inProgress := true, pairs := some (new, expected) } : RefundEntry) :: behind } i { held with
          state := .crediting, request := some .credit, amount := credit, writing := some (if inB then .a else .b),
          oldPair := new, expectedPair := expected, balanceDue := true })) ∧
      (∀ (before behind : List RefundEntry) (e : RefundEntry), (∀ d ∈ s.doubts, d.debit.card ≠ card) →
        s.refunds = before ++ e :: behind → e.card = card → (∀ y ∈ before ++ behind, y.card ≠ card) → e.state = .inDoubt → ∀ was expected, e.pairs = some (was, expected) →
        ∃ t, read = .next t ∧ (t.station i).card = some card ∧
          (new = expected → expected.value - was.value ≤ e.amount →
            let credit := expected.value - was.value
            t.audit.credited = min 999999999999 (s.audit.credited + credit) ∧
            (∃ more, (t.station i).display = x.display ++ ({ message 4 0 credit with
              second := new.value, third := e.amount - credit } : Message) :: more) ∧
            ∃ f : RefundEntry, f.position = e.position ∧ f.card = card ∧ f.amount = e.amount - credit ∧ f.state = .ready ∧
              f.created = e.created ∧
              t.refunds = before ++ (if e.amount - credit = 0 then [] else [f]) ++ behind) ∧
          (new ≠ expected → new = was → t.audit = s.audit ∧
            ∃ f, t.refunds = before ++ f :: behind ∧ f.card = card ∧ f.amount = e.amount ∧ f.state = .ready) ∧
          (new ≠ expected → new ≠ was → faultLast 0 0x21 t ∧
            t.refunds = before ++ ({ e with state := .suspect, inProgress := false } : RefundEntry) :: behind ∧
            t.audit = { s.audit with creditsUnresolved := min 999999999999 (s.audit.creditsUnresolved + 1) })) ∧
      (∀ (before behind : List Doubt) (d : Doubt), s.doubts = before ++ d :: behind → d.debit.card = card → (∀ y ∈ before, y.debit.card ≠ card) →
        ∃ t, read = .next t ∧ t.doubts = before ++ behind ∧ (t.station i).card = some card ∧
          (∃ more, (t.station i).display = x.display ++ message
            (if new = d.debit.expectedPair then 28 else if new = d.debit.oldPair then 29 else 30)
            (addrNum d.debit.machine) d.debit.amount :: more) ∧
          (new = d.debit.expectedPair →
            t.audit.charged = min 999999999999 (s.audit.charged + d.debit.amount)) ∧
          (new ≠ d.debit.expectedPair → t.audit.charged = s.audit.charged ∧
            t.audit.debitsUnresolved = (if new = d.debit.oldPair then s.audit.debitsUnresolved
              else min 999999999999 (s.audit.debitsUnresolved + 1)) ∧
            (d.debit.kind = .start → (t.machine d.debit.machine).payment = none)) ∧
          (new ≠ d.debit.expectedPair → new ≠ d.debit.oldPair →
            ∃ f ∈ t.faults, f.machine = addrNum d.debit.machine ∧ f.code = 0x20 ∧ f.card = some card)))

/-- R79, R81, R87, R91, R94, R95, R99: the write of a debit goes over the card link, begins, ends and is read back; the card's
acknowledgements say how it ends. A write that has begun keeps the copy of the debit in the retained domain; an end sends the
record to VERIFYING; a first mismatch writes the slot once more, and a read that the card does not acknowledge leaves a doubt; a
write that never began fails cleanly and abandons a top-up. A card withdrawn before the write has begun fails the debit cleanly,
too, and one withdrawn later leaves a doubt, which ends the oldest of four; a credit withdrawn so leaves its refund IN_DOUBT. A
write that has completed counts as begun (log entry 38), what the part sends after an unacknowledged byte is the model's choice
(log entry 62), and that a credit withdrawn before its write began raises no PAYMENT is its reading (log entry 36). -/
def Obligations.TheWriteOfADebitIsSeenThrough : Prop :=
  (∀ (s : State) (i : StationId) (card : Nat) (a : Addr) (slot : Slot) (kind : DoubtKind),
    let x := s.station i
    let copy : DebitCopy := ⟨kind, card, a, x.amount, slot, x.oldPair, x.expectedPair⟩
    let message (code : Nat) : Message := { code := code, small := 0, minutes := 0, first := 0, second := 0, third := 0 }
    let emptied (awaiting closed : Bool) (code : Nat) : Station := { Station.initial with
      gathered := x.gathered, switchClosed := closed, awaitingRemoval := awaiting, display := x.display ++ [message code] }
    x.card = some card → x.target = some a → x.writing = some slot →
    x.request = some (if kind = .topUp then .addTime else .pay) →
    (x.state = .debiting →
      (∀ late rest : List Bool, (∀ b ∈ late, b = false) → cardTraffic x ⟨List.replicate 10 true, late ++ true :: rest⟩ =
        ([.start, .put 0x6C, .put (if slot = .a then 16 else 24)] : List LinkSymbol) ++
        (slotBytes x.expectedPair (addrNum a) x.amount).map .put ++ ([.stop] : List LinkSymbol) ++
        (late ++ [true]).flatMap (fun _ => ([.start, .put 0x6C, .stop] : List LinkSymbol))) ∧
      exec (.writeBegun i) s = .next ((s.setDebitCopy i (some copy)).setStation i { x with begun := true }) ∧
      (∀ y : LinkAnswers, y.bytes.head? = some true →
        exec (.cardWriteDone i y) s =
          .next ((s.setDebitCopy i (some copy)).setStation i { x with state := .verifying, begun := true })) ∧
      (∀ (c : Cycle) (y : LinkAnswers), kind = .topUp → x.begun = false → x.attempt = 1 → (s.machine a).cycle = some c →
        (∃ u, c.topUp = some u ∧ u.card = card) → y.bytes.head? ≠ some true →
        let cleared := (s.setDebitCopy i none).setMachine a { s.machine a with cycle := some { c with topUp := none } }
        exec (.cardWriteDone i y) s = .next (cleared.setStation i (emptied true x.switchClosed 23)) ∧
        exec (.cardRemoved i) s = .next (cleared.setStation i (emptied false false 6)))) ∧
    (x.state = .debiting ∧ (x.begun = true ∨ x.attempt ≠ 1) ∨ x.state = .verifying →
      (s.doubts.length < 4 → exec (.cardRemoved i) s = .next (State.raising
        (State.setStation (State.setDebitCopy { s with
          doubts := s.doubts ++ [⟨copy, s.now + s.params.doubtWindow⟩] } i none) i (emptied false false 26))
        (eventBit .payment))) ∧
      (∀ old rest, s.doubts = old :: rest → rest.length = 3 → ∃ t, exec (.cardRemoved i) s = .next t ∧
        t.doubts = rest ++ [⟨copy, s.now + s.params.doubtWindow⟩] ∧ t.station i = emptied false false 26 ∧
        t.debitCopy i = none ∧ faultLast (addrNum old.debit.machine) 0x20 t ∧
        t.audit.debitsUnresolved = min 999999999999 (s.audit.debitsUnresolved + 1))) ∧
    (x.state = .verifying →
      (∀ acks polls, cardTraffic x ⟨true :: true :: true :: acks, polls⟩ =
        ([.start, .put 0x6C, .put (if slot = .a then 16 else 24), .restart, .put 0x6D] : List LinkSymbol) ++
          List.replicate 7 (.take true) ++ ([.take false, .stop] : List LinkSymbol)) ∧
      (x.attempt = 1 → ∀ bytes, bytes ≠ slotBytes x.expectedPair (addrNum a) x.amount →
        exec (.verifyReadDone i ⟨[true, true, true], bytes⟩) s =
          .next (s.setStation i { x with state := .debiting, attempt := 2, begun := false })) ∧
      (∀ y : ReadAnswers, y.bytes.length < 3 ∨ false ∈ y.bytes → s.doubts.length < 4 →
        exec (.verifyReadDone i y) s = .next (State.raising (State.setStation (State.setDebitCopy { s with
          doubts := s.doubts ++ [⟨copy, s.now + s.params.doubtWindow⟩] } i none) i (emptied true x.switchClosed 26))
          (eventBit .payment))))) ∧
  (∀ (s : State) (i : StationId) (card : Nat) (before behind : List RefundEntry) (e : RefundEntry),
    let x := s.station i
    let emptied (code : Nat) : Station := { Station.initial with
      gathered := x.gathered,
      display := x.display ++ [{ code := code, small := 0, minutes := 0, first := 0, second := 0, third := 0 }] }
    x.card = some card → x.request = some .credit → s.refunds = before ++ e :: behind → e.card = card →
    (∀ y ∈ before, y.card ≠ card) →
    (x.state = .crediting → x.begun = false → x.attempt = 1 →
      exec (.cardRemoved i) s = .next (State.setStation { s with
        refunds := before ++ { e with inProgress := false, pairs := none } :: behind } i (emptied 6))) ∧
    (x.state = .crediting ∧ (x.begun = true ∨ x.attempt ≠ 1) ∨ x.state = .verifying →
      exec (.cardRemoved i) s = .next (State.raising (State.setStation { s with
        refunds := before ++ { e with state := .inDoubt, inProgress := false } :: behind } i (emptied 26))
        (eventBit .payment)))) ∧
  (∀ y : LinkAnswers,
    (writeOutcome y = .notBegun ↔ y.bytes.head? ≠ some true) ∧
    (writeOutcome y = .completed ↔ 10 ≤ y.bytes.length ∧ (∀ b ∈ y.bytes, b = true) ∧ true ∈ y.polls)) ∧
  ∀ b : Byte, ((LinkSymbol.put b).lines.filter (·.clock)).map (·.data) =
    [b.getLsbD 7, b.getLsbD 6, b.getLsbD 5, b.getLsbD 4, b.getLsbD 3, b.getLsbD 2, b.getLsbD 1, b.getLsbD 0, true]

/-- R26, R28, R96, R109: a verify read that shows the written slot commits a debit or a credit: the slot is current. A start
counts its charge, and the machine is RUNNING its first phase with the next cycle number; one that meets a halt, a lock or a
machine that is no longer PAYING is closed, with the refund of the whole charge (R26, R110 to R112, R115). A top-up is added to a
cycle that is still drying and becomes a refund otherwise, of which what the entry cannot hold is unplaced (R44, R115). A credit
is counted and taken off its entry (R91, R116), and what is left or merged in is credited when the ceiling lets it (R90). A second
mismatch ends a debit or a credit cleanly when the old slot is still current, and unresolved when the slot read is later (R27, R89,
R95). The mark that BALANCE is still to be shown is the model's own (log entry 14), and neither the mark of a credit nor its
clean failure raises PAYMENT (log entry 36). That a new entry, too, is at most 50,000 and what it cannot hold unplaced is the
model's reading (log entry 70), and so is the message of a credit that ends unresolved, PAYMENT_UNRESOLVED with machine 0 and the
amount of the credit (log entry 37). -/
def Obligations.AVerifiedDebitStartsTheCycle : Prop :=
  ∀ (s : State) (i : StationId) (card : Nat) (slot : Slot),
    let x := s.station i
    let verify (bytes : List Byte) : Host.Outcome State Fault Refusal :=
      exec (.verifyReadDone i ⟨[true, true, true], bytes⟩) s
    let message (code small minutes first second third : Nat) : Message :=
      { code := code, small := small, minutes := minutes, first := first, second := second, third := third }
    let stands (m : Message) (held : Nat) : Station := { x with
      state := .cardReady, slot := some slot, pair := x.expectedPair, request := none, target := none, amount := 0,
      seconds := 0, minutes := 0, writing := none, begun := false, attempt := 1, balanceDue := false,
      display := x.display ++ m ::
        (if x.balanceDue = true then [message 1 0 0 x.expectedPair.value held 0] else []) }
    let gone (m : Message) : Station := { Station.initial with
      awaitingRemoval := true, gathered := x.gathered, switchClosed := x.switchClosed, display := x.display ++ [m] }
    let charged : Audit := { s.audit with charged := min 999999999999 (s.audit.charged + x.amount) }
    let issued (t : State) (amount : Nat) : Prop := t.audit.issued = min 999999999999 (s.audit.issued + amount)
    let tells (t : State) (m : Message) : Prop := ∃ more, (t.station i).display = x.display ++ m :: more
    let crediting (t : State) (amount : Nat) : Prop := (t.station i).state = .crediting ∧
      (t.station i).amount = min amount (s.params.ceiling - x.expectedPair.value) ∧ (t.station i).oldPair = x.expectedPair
    let placed (t : State) (amount : Nat) : Prop := (∀ e ∈ s.refunds, e.card ≠ card) → s.refunds.length < 32 →
      (∃ f : RefundEntry, t.refunds = s.refunds ++ [f] ∧ f.card = card ∧ f.amount = min 50000 amount ∧ f.state = .ready) ∧
      (x.expectedPair.value < s.params.ceiling → crediting t (min 50000 amount)) ∧
      (50000 < amount → t.audit.unplaced = min 999999999999 (s.audit.unplaced + (amount - 50000)))
    x.state = .verifying → x.card = some card → x.writing = some slot →
    (∀ a : Addr, x.target = some a →
      let m := s.machine a
      let written := slotBytes x.expectedPair (addrNum a) x.amount
      let current (t : State) : Prop := t.debitCopy i = none ∧ (t.station i).card = some card ∧
        (t.station i).slot = some slot ∧ (t.station i).pair = x.expectedPair
      (∀ p : Payment, x.request = some .pay → m.state = .paying → m.payment = some p → m.lock = .none →
        m.lockPending = false → s.halted = false → m.door = some .closed ∨ m.door = some .locked →
        ∃ t, verify written = .next t ∧ t.audit.charged = charged.charged ∧
          (t.machine a).state = .running ∧ (t.machine a).payment = none ∧
          (∃ c, (t.machine a).cycle = some c ∧ c.number = s.cycleCounter ∧ c.payer = p.card ∧ c.program = p.program ∧
            c.plan = p.plan ∧ c.index = 0 ∧ c.chargeTotal = p.charge ∧ c.refund = none ∧ c.startTime = s.now ∧
            c.paidTotal = (if s.classOf a = .dryer then p.paidSeconds else 0) ∧ c.remaining = c.paidTotal) ∧
          t.cycleCounter = (s.cycleCounter + 1) % 65536 ∧ current t ∧
          tells t (message 2 (addrNum a) x.minutes x.amount x.expectedPair.value 0) ∧
          ((t.station i).state = .cardReady ∨ (t.station i).state = .crediting)) ∧
      (∀ p : Payment, x.request = some .pay → m.payment = some p → p.card = card →
        s.halted = true ∨ m.state ≠ .paying ∨ m.lock ≠ .none →
        ∃ t, verify written = .next t ∧ t.audit.charged = charged.charged ∧ (t.machine a).payment = none ∧
          (t.machine a).cycle = m.cycle ∧ t.cycleCounter = (s.cycleCounter + 1) % 65536 ∧ current t ∧
          tells t (if s.halted = true then message 8 0 0 0 0 0 else message 10 (addrNum a) 0 0 0 0) ∧
          (m.state ≠ .paying → (t.machine a).state = m.state ∧ (t.machine a).hold = m.hold) ∧
          (m.state = .paying → (t.machine a).hold = none ∧
            (m.lock ≠ .none → (t.machine a).state = .outOfService) ∧
            (m.lock = .none → (t.machine a).state =
              if m.selection.isSome = true ∧ (m.door = some .closed ∨ m.door = some .locked) then .selected else .idle)) ∧
          (s.classOf a = .washer ∧ 0 < (p.plan.map (·.weight)).sum ∨
            s.classOf a = .dryer ∧ 0 < p.paidSeconds ∧ (p.plan[0]?).map (·.kind) = some .dry →
            0 < p.charge → issued t p.charge ∧ placed t p.charge)) ∧
      (∀ (c : Cycle) (u : TopUp), x.request = some .addTime → m.state = .running → s.classOf a = .dryer → m.cycle = some c →
        c.kind = some .dry → c.coolPosted = false → c.topUp = some u → u.card = card → (∀ e ∈ s.refunds, e.card ≠ card) →
        verify written = .next (State.raising (State.setStation (State.setMachine (State.setDebitCopy { s with
            audit := charged } i none) a { m with cycle := some { c with
              remaining := c.remaining + u.seconds, paidTotal := c.paidTotal + u.seconds,
              dryBase := c.dryBase.map (· + u.seconds), chargeTotal := c.chargeTotal + x.amount, topUp := none } }) i
          (stands (message 3 (addrNum a) x.minutes x.amount x.expectedPair.value 0) 0)) (eventBit .payment))) ∧
      (x.request = some .addTime → 0 < x.amount →
        m.state ≠ .running ∨ s.classOf a ≠ .dryer ∨ (∀ c, m.cycle = some c → c.kind ≠ some .dry ∨ c.coolPosted = true) →
        ∃ t, verify written = .next t ∧ t.audit.charged = charged.charged ∧ issued t x.amount ∧ current t ∧
          (t.machine a).state = m.state ∧ (t.machine a).cycle = m.cycle.map (fun c => { c with
            topUp := if c.topUp.map (·.card) = some card then none else c.topUp }) ∧
          tells t (message 19 (addrNum a) 0 0 0 0) ∧ placed t x.amount ∧
          (∀ (before behind : List RefundEntry) (e : RefundEntry), s.refunds = before ++ e :: behind → e.card = card →
            (∀ y ∈ before, y.card ≠ card) →
            (∃ f : RefundEntry, t.refunds = before ++ f :: behind ∧ f.card = card ∧ f.state = e.state ∧
              f.amount = min 50000 (e.amount + x.amount)) ∧
            (50000 < e.amount + x.amount → faultLast (addrNum a) 0x22 t ∧
              t.audit.unplaced = min 999999999999 (s.audit.unplaced + (e.amount + x.amount - 50000))))) ∧
      (∀ bytes : List Byte, bytes ≠ written → x.attempt ≠ 1 → x.request = some .pay ∨ x.request = some .addTime →
        let ended (t : State) : Prop := t.debitCopy i = none ∧
          (x.request = some .pay → (t.machine a).payment = none ∧ (t.machine a).cycle = m.cycle ∧
            (m.state ≠ .paying → (t.machine a).state = m.state ∧ (t.machine a).hold = m.hold) ∧
            (m.state = .paying → m.lock ≠ .none → (t.machine a).state = .outOfService ∧ (t.machine a).hold = none) ∧
            (∀ (h : Hold) (p : Payment), m.state = .paying → m.lock = .none → m.hold = some h → m.payment = some p →
              p.origin = .held → s.now < h.deadline → (t.machine a).state = .held ∧ (t.machine a).hold = m.hold) ∧
            (m.state = .paying → m.lock = .none → m.hold = none → (t.machine a).state =
              if m.selection.isSome = true ∧ (m.door = some .closed ∨ m.door = some .locked) then .selected else .idle)) ∧
          (x.request = some .addTime → t.machines = (s.setMachine a { m with cycle := m.cycle.map (fun c => { c with
            topUp := if c.topUp.map (·.card) = some card then none else c.topUp }) }).machines)
        (slotValid bytes = false ∨ laterThan (at2 bytes 2) x.oldPair.sequence = false →
          ∃ t, verify bytes = .next t ∧ ended t ∧ t.station i = gone (message 23 0 0 0 0 0) ∧ t.audit = s.audit ∧
            t.faults = s.faults) ∧
        (slotValid bytes = true → laterThan (at2 bytes 2) x.oldPair.sequence = true →
          ∃ t, verify bytes = .next t ∧ ended t ∧ t.station i = gone (message 30 (addrNum a) 0 x.amount 0 0) ∧
            t.audit = { s.audit with debitsUnresolved := min 999999999999 (s.audit.debitsUnresolved + 1) } ∧
            faultLast (addrNum a) 0x20 t ∧ ∃ f ∈ t.faults, f.machine = addrNum a ∧ f.code = 0x20 ∧ f.card = some card))) ∧
    (∀ (before behind : List RefundEntry) (e : RefundEntry), x.target = none → x.request = some .credit →
      s.refunds = before ++ e :: behind → e.card = card → (∀ y ∈ before ++ behind, y.card ≠ card) → x.amount ≤ e.amount →
      let rest := e.amount - x.amount
      let left : RefundEntry := { e with amount := rest, state := .ready, inProgress := false, pairs := none }
      let credited : Audit := { s.audit with credited := min 999999999999 (s.audit.credited + x.amount) }
      let written := slotBytes x.expectedPair 0 x.amount
      let refunded : Message := message 4 0 0 x.amount x.expectedPair.value rest
      (rest = 0 ∨ s.params.ceiling ≤ x.expectedPair.value →
        verify written = .next (State.raising (State.setStation { s with
          refunds := before ++ (if rest = 0 then [] else [left]) ++ behind, audit := credited } i (stands refunded rest))
          (eventBit .payment))) ∧
      (0 < rest → x.expectedPair.value < s.params.ceiling → ∃ t next, verify written = .next t ∧ t.audit = credited ∧
        t.refunds = before ++ { left with inProgress := true, pairs := some (x.expectedPair, next) } :: behind ∧
        crediting t rest ∧ (t.station i).expectedPair = next ∧ (t.station i).slot = some slot ∧
        (t.station i).pair = x.expectedPair ∧ tells t refunded) ∧
      (∀ bytes : List Byte, bytes ≠ written → x.attempt ≠ 1 →
        (slotValid bytes = false ∨ laterThan (at2 bytes 2) x.oldPair.sequence = false →
          verify bytes = .next (State.setStation { s with
            refunds := before ++ { e with inProgress := false, pairs := none } :: behind } i (gone (message 23 0 0 0 0 0)))) ∧
        (slotValid bytes = true → laterThan (at2 bytes 2) x.oldPair.sequence = true →
          ∃ t, verify bytes = .next t ∧ t.station i = gone (message 30 0 0 x.amount 0 0) ∧
            t.refunds = before ++ { e with state := .suspect, inProgress := false } :: behind ∧
            t.audit = { s.audit with creditsUnresolved := min 999999999999 (s.audit.creditsUnresolved + 1) } ∧
            faultLast 0 0x21 t ∧ ∃ f ∈ t.faults, f.machine = 0 ∧ f.code = 0x21 ∧ f.card = some card)))

/-- R100, R27: a doubt whose deadline is reached leaves the list, is counted and handed over with DEBIT_UNRESOLVED, and the
payment that waited for it is abandoned. -/
def Obligations.DoubtDeadlineEndsTheDebitUnresolved : Prop :=
  ∀ (s : State) (before behind : List Doubt) (d : Doubt), s.doubts = before ++ d :: behind →
    (∀ x ∈ before, x.debit.card ≠ d.debit.card) → d.deadline ≤ s.now →
    ∃ t, exec (.doubtDeadline d.debit.card) s = .next t ∧ t.doubts = before ++ behind ∧
      t.audit = { s.audit with debitsUnresolved := min 999999999999 (s.audit.debitsUnresolved + 1) } ∧
      t.refunds = s.refunds ∧ faultLast (addrNum d.debit.machine) 0x20 t ∧
      (d.debit.kind = .start → (t.machine d.debit.machine).payment = none)

/-! ## Charges, refunds and the audit totals -/

/-- R106 to R108, R110 to R112: the refund of a cycle by its weights or its paid seconds, and what a purchase costs with its
discount. A refund is never more than what was charged; the resident's own stop never gives back more than another stop of the
same washer cycle; a washer stopped before anything ran gets the whole charge back; and a dryer's purchases stay within the
figures of R107 and the two bounds of R108. -/
def Obligations.RefundsNeverExceedTheCharge : Prop :=
  (∀ (c : Cycle) (done todo : List PlanEntry) (e : PlanEntry) (cause : StopCause),
    c.plan = done ++ e :: todo → c.index = done.length →
    let weights (es : List PlanEntry) : Nat := (es.map (·.weight)).sum
    let notStarted := weights todo + (if c.everActive then 0 else e.weight)
    let current := if c.everActive then e.weight else 0
    refundOf .washer c cause =
      c.chargeTotal * (if cause = .user then notStarted else notStarted + current) / weights c.plan ∧
    refundOf .dryer c cause =
      if cause = .user then 0 else c.chargeTotal * (if e.kind = .cool then 0 else c.remaining) / c.paidTotal) ∧
  (∀ (plan : List PlanEntry) (index charge : Nat) (ever : Bool) (cause : StopCause),
    washerRefund plan index ever charge cause ≤ charge) ∧
  (∀ (plan : List PlanEntry) (index charge : Nat) (ever : Bool) (cause : StopCause),
    washerRefund plan index ever charge .user ≤ washerRefund plan index ever charge cause) ∧
  (∀ (plan : List PlanEntry) (charge : Nat) (cause : StopCause), 0 < (plan.map (·.weight)).sum →
    washerRefund plan 0 false charge cause = charge) ∧
  (∀ (cool : Bool) (charge remaining paid : Nat) (cause : StopCause), remaining ≤ paid →
    dryerRefund cool charge remaining paid cause ≤ charge) ∧
  (∀ (amount d : Nat), d ≤ 100 → discounted amount d = amount - amount * d / 100 ∧ discounted amount d ≤ amount ∧
    amount * (100 - d) ≤ discounted amount d * 100) ∧
  (∀ (p : WashProfile) (d : Nat), d ≤ 50 → washerCharge p d = p.price - p.price * d / 100 ∧
    (p.price + 1) / 2 ≤ washerCharge p d) ∧
  ∀ (p : DryProfile) (steps d remaining paid : Nat), 1 ≤ p.stepMinutes → p.stepPrice ≤ 500 → p.maxMinutes ≤ 180 →
    let keyed := max 1 (min steps 180)
    let bought (k : Nat) : Option Purchase :=
      if k = 0 then none else some ⟨k * p.stepPrice - k * p.stepPrice * d / 100, k * p.stepMinutes * 60, k * p.stepMinutes⟩
    dryerStart p steps d = bought (min keyed (p.maxMinutes / p.stepMinutes)) ∧
    dryerTopUp p remaining paid steps d =
      bought (min keyed (min (p.maxMinutes * 60 - remaining) (10800 - paid) / (p.stepMinutes * 60))) ∧
    (∀ x, dryerStart p steps d = some x → 1 ≤ x.minutes ∧ x.minutes ≤ 180 ∧ 60 ≤ x.seconds ∧ x.seconds ≤ p.maxMinutes * 60 ∧
      x.charge ≤ 90000) ∧
    ∀ x, dryerTopUp p remaining paid steps d = some x → remaining + x.seconds ≤ p.maxMinutes * 60 ∧ paid + x.seconds ≤ 10800

/-- R90, R91, R114 to R116, R118 to R120, R123: the operator's requests on the refund table and the audit totals. ADD_REFUND makes
an entry, merges into one, or is refused FULL; an amount placed for a card that stands ready below the ceiling is credited at
once; CANCEL_REFUND removes an entry, and CONFIRM_REFUND takes the torn credit off a SUSPECT one. -/
def Obligations.RefundRequestsKeepTheAccounts : Prop :=
  ∀ (s : State) (card : Nat), s.listens .operator → 0 < card → card < 4294967295 →
    let t := s.audit
    let answerAs (st : Status) (s : State) (code : Nat) (payload : List Byte) : Host.Outcome State Fault Refusal :=
      .next (s.answering .operator (replyTo code st payload) (eventBit .payment))
    let answer := answerAs .ok
    let refused (code : Nat) (st : Status) (payload : List Byte) : Host.Outcome State Fault Refusal :=
      .next (s.answering .operator (replyTo code st payload) 0)
    let away : Prop := ∀ i, (s.station i).card ≠ some card
    exec (.addRefund .operator (be4 card ++ be2 0)) s = refused 0x53 .badArg [] ∧
    (∀ asked, 0 < asked → asked < 65536 →
      let amount := min asked 50000
      let add := exec (.addRefund .operator (be4 card ++ be2 asked)) s
      let answerAdd := answerAs (if asked ≤ 50000 then .ok else .clamped)
      let issued : Audit := { t with issued := min 999999999999 (t.issued + amount) }
      ((∀ e ∈ s.refunds, e.card ≠ card) →
        (32 ≤ s.refunds.length → add = refused 0x53 .full (be2 0)) ∧
        (s.refunds.length < 32 →
          ∃ pos, pos < 32 ∧ (∀ e ∈ s.refunds, e.position ≠ pos) ∧ (∀ n < pos, ∃ e ∈ s.refunds, e.position = n) ∧
            (away → add = answerAdd { s with
              refunds := s.refunds ++ [⟨pos, card, amount, .ready, false, none, s.now⟩], audit := issued }
              0x53 (be2 amount ++ be2 amount)) ∧
            ∀ (i : StationId) (slot : Slot), (s.station i).state = .cardReady → (s.station i).card = some card →
              (s.station i).slot = some slot → (∀ j, j ≠ i → (s.station j).card ≠ some card) →
              (s.station i).pair.value < s.params.ceiling →
              let x := s.station i
              let credit := min amount (s.params.ceiling - x.pair.value)
              let expected : Pair := ⟨(x.pair.sequence + 1) % 65536, x.pair.value + credit⟩
              add = answerAdd (State.setStation { s with
                  refunds := s.refunds ++ [⟨pos, card, amount, .ready, true, some (x.pair, expected), s.now⟩],
                  audit := issued } i { x with
                state := .crediting, request := some .credit, target := none, amount := credit, seconds := 0, minutes := 0,
                writing := some (if slot = .a then .b else .a), oldPair := x.pair, expectedPair := expected, attempt := 1,
                begun := false }) 0x53 (be2 amount ++ be2 amount))) ∧
      ∀ (before behind : List RefundEntry) (e : RefundEntry), s.refunds = before ++ e :: behind → e.card = card →
        (∀ y ∈ before, y.card ≠ card) →
        (50000 < e.amount + amount → add = refused 0x53 .full (be2 e.amount)) ∧
        (e.amount + amount ≤ 50000 → away → add = answerAdd { s with
          refunds := before ++ { e with amount := e.amount + amount } :: behind, audit := issued }
          0x53 (be2 amount ++ be2 (e.amount + amount)))) ∧
    ((∀ e ∈ s.refunds, e.card ≠ card) →
      exec (.cancelRefund .operator (be4 card)) s = refused 0x54 .notFound [] ∧
      exec (.confirmRefund .operator (be4 card)) s = refused 0x55 .notFound []) ∧
    (∀ (before behind : List RefundEntry) (e : RefundEntry), s.refunds = before ++ e :: behind → e.card = card →
      (∀ x ∈ before, x.card ≠ card) →
      (e.state = .inDoubt → exec (.cancelRefund .operator (be4 card)) s = refused 0x54 .badState []) ∧
      (e.state = .ready → e.inProgress = true →
        exec (.cancelRefund .operator (be4 card)) s = refused 0x54 .busy []) ∧
      (e.state = .suspect ∨ e.state = .ready ∧ e.inProgress = false →
        exec (.cancelRefund .operator (be4 card)) s = answer { s with
          refunds := before ++ behind,
          audit := { t with cancelled := min 999999999999 (t.cancelled + e.amount) } } 0x54 (be2 e.amount)) ∧
      (∀ old new, e.state = .suspect → e.pairs = some (old, new) → new.value - old.value ≤ e.amount → away →
        let credit := new.value - old.value
        exec (.confirmRefund .operator (be4 card)) s = answer { s with
          refunds := before ++ (if credit = e.amount then [] else [{ e with
            amount := e.amount - credit, state := .ready, inProgress := false, pairs := none }]) ++ behind,
          audit := { t with credited := min 999999999999 (t.credited + credit) } }
          0x55 (be2 credit ++ be2 (e.amount - credit))) ∧
      (e.state ≠ .suspect → exec (.confirmRefund .operator (be4 card)) s = refused 0x55 .badState [])) ∧
    exec (.clearAudit .operator []) s = answer { s with audit := {
        charged := 0, issued := (s.refunds.map (·.amount)).sum, credited := 0, unplaced := 0, cancelled := 0,
        debitsUnresolved := 0, creditsUnresolved := 0 } } 0x51
      (be5 t.charged ++ be5 t.issued ++ be5 t.credited ++ be5 t.unplaced ++ be5 t.cancelled ++ be5 t.debitsUnresolved ++
        be5 t.creditsUnresolved)

/-! ## Claim queues -/

/-- R129, R130, R136: a hold that expires removes its entry and counts it, and the machine is offered to the oldest entry
without a hold, or goes to its resting state; CANCEL_CLAIM removes a card's entry and answers its position. -/
def Obligations.HoldsExpireAndClaimsAreCancelled : Prop :=
  ∀ (s : State) (c : MachineClass) (before behind : List ClaimEntry) (e : ClaimEntry),
    let q := s.queue c
    q.entries = before ++ e :: behind →
    (∀ (a : Addr) (d : Nat), s.classOf a = c → e.hold = some ⟨a, d⟩ → d ≤ s.now → e.paying = false →
      (∀ x ∈ before, x.hold.map (·.machine) ≠ some a) → (s.machine a).state = .held →
      (∀ x ∈ before, x.hold.isSome = true) →
      ((∀ x ∈ behind, x.hold.isSome = true) →
        exec (.holdDeadline (addrNum a)) s = .next (((s.setQueue c { q with
          entries := before ++ behind, expired := min 65535 (q.expired + 1) }).setMachine a { s.machine a with
            hold := none, state := restingState (s.machine a) }).raising (eventBit .machine))) ∧
      (∀ w rest, behind = w :: rest → w.hold = none →
        exec (.holdDeadline (addrNum a)) s = .next (((s.setQueue c { q with
          entries := before ++ { w with hold := some ⟨a, s.now + s.params.holdWindow⟩, paying := false } :: rest,
          expired := min 65535 (q.expired + 1), placed := min 65535 (q.placed + 1) }).setMachine a { s.machine a with
            hold := some ⟨w.card, s.now + s.params.holdWindow⟩ }).raising (eventBit .machine)))) ∧
    (s.listens .operator → 0 < e.card → e.card < 4294967295 → (∀ x ∈ before, x.card ≠ e.card) →
      (e.paying = true → exec (.cancelClaim .operator (byte (classCode c) :: be4 e.card)) s =
        .next (s.answering .operator (replyTo 0x61 .busy []) 0)) ∧
      (e.paying = false → e.hold = none → exec (.cancelClaim .operator (byte (classCode c) :: be4 e.card)) s =
        .next (State.answering (s.setQueue c { q with
          entries := before ++ behind, cancelled := min 65535 (q.cancelled + 1) }) .operator
          (replyTo 0x61 .ok [byte (before.length + 1)]) (eventBit .machine))))

/-! ## Faults, locks and service -/

/-- R140, its first part: CLEAR_FAULTS for a machine, for the room, for all, and in the CONFIG_FAULT mode. -/
def Obligations.ClearFaultsRemovesTheRecords : Prop :=
  ∀ (n : Byte) (s : State), (s.port .operator).replies.length < 4 →
    let left := if n = 255 then [] else s.faults.filter (fun r => r.machine != n.toNat)
    (s.mode = .operating → n.toNat ≤ 24 ∨ n = 255 →
      exec (.clearFaults .operator [n]) s = .next (State.answering { s with faults := left } .operator
        (replyTo 0x41 .ok [byte (s.faults.length - left.length)]) (eventBit .fault))) ∧
    (s.mode = .operating → 24 < n.toNat → n ≠ 255 →
      exec (.clearFaults .operator [n]) s = .next (s.answering .operator (replyTo 0x41 .badArg []) 0)) ∧
    (s.mode = .configFault →
      exec (.clearFaults .operator [n]) s = .next (s.answering .operator (replyTo 0x41 .configFault []) 0))

/-- R21, R23, R47, R48, R129, R134, R144, R145, R147: locks, strikes and permits of a configured machine. A lock that changes
nothing raises nothing; a HELD machine gives its hold back, and an unlocked one that was OUT_OF_SERVICE is released to the room:
to its door and panel, or to the oldest entry of its queue without a hold. An UNLOCK of a machine whose lock is NONE clears its
strikes and nothing else (log entry 41 names the part of R48 that it passes over). -/
def Obligations.LocksStrikesAndPermits : Prop :=
  ∀ (s : State) (a : Addr), s.listens .operator → s.configured a = true →
    let m := s.machine a
    let q := s.queue (s.classOf a)
    let lock := exec (.lock .operator [byte (addrNum a)]) s
    let unlock := exec (.unlock .operator [byte (addrNum a)]) s
    let leaves (m : MachineRecord) (code : Nat) (st : Status) : Host.Outcome State Fault Refusal :=
      .next (State.answering (s.setMachine a m) .operator (replyTo code st []) (eventBit .machine))
    let answers (code : Nat) (st : Status) : Host.Outcome State Fault Refusal :=
      .next (s.answering .operator (replyTo code st []) 0)
    let unlocked := { m with lock := .none, lockPending := false, strikes := 0 }
    (m.state = .idle ∨ m.state = .selected → lock = leaves { m with lock := .locked, state := .outOfService } 0x30 .ok) ∧
    (m.state = .absent ∨ m.state = .outOfService →
      (m.lock ≠ .locked → lock = leaves { m with lock := .locked } 0x30 .ok) ∧ (m.lock = .locked → lock = answers 0x30 .ok)) ∧
    (m.state = .paying →
      (m.lock ≠ .locked → lock = leaves { m with lock := .locked } 0x30 .accepted) ∧
      (m.lock = .locked → lock = answers 0x30 .accepted)) ∧
    (m.state = .running ∨ m.state = .stopping ∨ m.state = .finished ∨ m.state = .testing ∨ m.state = .service →
      (m.lock ≠ .locked → lock = leaves { m with lock := .locked, lockPending := true } 0x30 .accepted) ∧
      (m.lock = .locked → m.lockPending = true → lock = answers 0x30 .accepted)) ∧
    (m.state = .held → m.hold = none → lock = leaves { m with lock := .locked, state := .outOfService } 0x30 .ok) ∧
    (∀ before e behind, m.state = .held → m.hold.isSome = true → q.entries = before ++ e :: behind →
      (∀ x ∈ before, x.hold.map (·.machine) ≠ some a) → e.hold.map (·.machine) = some a →
      lock = .next (State.answering ((s.setQueue (s.classOf a) { q with
        entries := before ++ { e with hold := none, paying := false } :: behind }).setMachine a { m with
          lock := .locked, hold := none, state := .outOfService }) .operator (replyTo 0x30 .ok []) (eventBit .machine))) ∧
    (m.lock = .none → unlock = leaves { m with strikes := 0 } 0x31 .ok) ∧
    (m.lock ≠ .none → m.state ≠ .outOfService → unlock = leaves unlocked 0x31 .ok) ∧
    (m.lock ≠ .none → m.state = .outOfService → s.halted = true ∨ (∀ e ∈ q.entries, e.hold.isSome = true) →
      unlock = leaves { unlocked with
        state := if m.selection.isSome = true ∧ (m.door = some .closed ∨ m.door = some .locked) then .selected else .idle }
        0x31 .ok) ∧
    (∀ before e behind, m.lock ≠ .none → m.state = .outOfService → s.halted = false → q.entries = before ++ e :: behind →
      (∀ x ∈ before, x.hold.isSome = true) → e.hold = none →
      let deadline := s.now + s.params.holdWindow
      unlock = .next (State.answering ((s.setQueue (s.classOf a) { q with
        entries := before ++ { e with hold := some ⟨a, deadline⟩, paying := false } :: behind,
        placed := min 65535 (q.placed + 1) }).setMachine a { unlocked with
          state := .held, hold := some ⟨e.card, deadline⟩ }) .operator (replyTo 0x31 .ok []) (eventBit .machine))) ∧
    (0 < m.strikes → exec (.clearStrikes .operator [byte (addrNum a)]) s = leaves { m with strikes := 0 } 0x32 .ok) ∧
    (m.strikes = 0 → exec (.clearStrikes .operator [byte (addrNum a)]) s = answers 0x32 .ok) ∧
    exec (.grantPermit .operator [byte (addrNum a)]) s = leaves { m with permit := true } 0x33 .ok

/-- R148, R149: a session opens on a permitted machine that is IDLE or OUT_OF_SERVICE, and ends at once when it has no work:
the permit is spent and the machine is released to the room. -/
def Obligations.SessionsOpenAndEnd : Prop :=
  ∀ (s : State) (a : Addr), s.listens .service → s.configured a = true →
    let m := s.machine a
    let enter := exec (.enterService .service [byte (addrNum a)]) s
    let refused (st : Status) : Host.Outcome State Fault Refusal := .next (s.answering .service (replyTo 0x70 st []) 0)
    (m.permit = false → enter = refused .notPermitted) ∧
    (m.permit = true → s.halted = true → enter = refused .badState) ∧
    (m.permit = true → s.halted = false → s.session.isSome = true → enter = refused .busy) ∧
    (m.permit = true → s.halted = false → s.session = none → m.payment = none →
      m.state = .idle ∨ m.state = .outOfService →
      enter = .next (State.answering (State.setMachine { s with session := some ⟨a, s.now, false, none, none, 0⟩ } a
        { m with state := .service }) .service (replyTo 0x70 .ok []) (eventBit .machine ||| eventBit .test))) ∧
    (s.session = none → exec (.exitService .service []) s =
      .next (s.answering .service (replyTo 0x71 .badState []) 0)) ∧
    (∀ x, s.session = some x → x.machine = a → x.closing = false → x.phase = none → m.testRun = none →
      m.state = .service → m.lock ≠ .none →
      exec (.exitService .service []) s = .next (State.answering (State.setMachine { s with session := none } a
        { m with permit := false, lockPending := false, state := .outOfService }) .service (replyTo 0x71 .ok [])
        (eventBit .machine ||| eventBit .test)))

/-- R150, R151, R153 to R155: a service phase and a self-test that need no power begin at once: the command is posted and the
work is STARTING. The replies of the machine then see it through: a service phase runs, is complete or meets a fault; a subtest
runs, and is followed by the next, by PASS or by FAIL with its code and TEST_FAIL. That the ACCEPTED reply of a SERVICE_PHASE
carries no payload is the model's choice (log entry 71). -/
def Obligations.ServiceWorkBegins : Prop :=
  (∀ (s : State) (x : Session) (hi lo : Byte), s.listens .service → s.session = some x → x.closing = false →
    x.phase = none → (s.machine x.machine).testRun = none → (s.machine x.machine).bus.presence = .present →
    (s.machine x.machine).bus.inFlight = none →
    let m := s.machine x.machine
    let asked := hi.toNat * 256 + lo.toNat
    let seconds := max 10 (min asked 1800)
    exec (.servicePhase .service [5, hi, lo]) s = .next (State.answering
      (State.setMachine { s with session := some { x with
          phase := some ⟨.drain, seconds, 0, none, .starting, none, none⟩, phasesRun := min 65535 (x.phasesRun + 1) } }
        x.machine { m with bus := { m.bus with
          inFlight := some ⟨.startPhase 255 .drain seconds, !m.bus.lastTag, .faultService⟩ } })
      .service (replyTo 0x72 (if seconds = asked then .accepted else .clamped)
        (if seconds = asked then [] else [byte (seconds / 256), byte seconds])) (eventBit .test))) ∧
  (∀ (s : State) (a : Addr), s.listens .operator → s.configured a = true → s.halted = false →
    (s.machine a).state = .idle → (s.machine a).payment = none →
    let m := s.machine a
    (s.classOf a = .washer → m.door = some .opened →
      exec (.selfTest .operator [byte (addrNum a)]) s =
        .next (s.answering .operator (replyTo 0x35 .badState []) 0)) ∧
    (s.classOf a = .dryer ∨ m.door ≠ some .opened → m.bus.presence = .present → m.bus.inFlight = none →
      exec (.selfTest .operator [byte (addrNum a)]) s = .next (State.answering (s.setMachine a { m with
        state := .testing,
        testRun := some {
          origin := .operator, subtest := 1, sub := .starting, reportDeadline := some (s.now + 120), windDown := none },
        bus := { m.bus with inFlight := some ⟨.test 1, !m.bus.lastTag, .faultService⟩ } }) .operator
        (replyTo 0x35 .accepted []) (eventBit .machine ||| eventBit .test)))) ∧
  ∀ (s : State) (a : Addr) (bytes : List Byte) (echo : Bool) (r o : Report),
    s.slot = some a → readReply a bytes = some (echo, r) → (s.machine a).bus.presence = .present → r.fresh = false →
    s.roster a = some ⟨r.cls, r.ratings⟩ → (s.machine a).bus.report = some o → o.door = r.door → o.selection = r.selection →
    (s.machine a).bus.queued = none → s.electric.hasEntry a = false → s.water.hasEntry a = false →
    let m := s.machine a
    let closed : State := { s with slot := none }
    let heard : BusFields := { m.bus with missed := 0, report := some r }
    (∀ (x : Session) (ph : ServicePhase), m.state = .service → m.testRun = none → s.session = some x → x.machine = a →
      x.closing = false → x.phase = some ph → ph.windDown = none →
      (∀ kind third poster, ph.sub = .starting → m.bus.inFlight = some ⟨.startPhase 255 kind third, echo, poster⟩ →
        r.activity = .running → r.arg = 255 → r.fault = 0 →
        exec (.replyValid bytes) s = .next ((State.setMachine { closed with session := some { x with phase := some { ph with
            sub := .active, deadline := some (s.now + ph.seconds + 120) } } } a { m with
          bus := { heard with lastTag := echo, inFlight := none } }).raising (eventBit .test))) ∧
      (ph.sub = .active → m.bus.inFlight = none → o.activity ≠ .complete → r.activity = .complete → r.arg = 255 →
        r.fault = 0 → ∃ t y, exec (.replyValid bytes) s = .next t ∧ t.session = some y ∧ y.machine = a ∧ y.phase = none ∧
          y.lastOutcome = some .complete ∧ t.electric.holdsGrant a = false ∧ t.water.holdsGrant a = false) ∧
      (ph.sub = .active → m.bus.inFlight = none → r.activity = .faultHold → 2 ≤ r.fault → r.fault ≤ 10 →
        o.fault ≠ r.fault → ∃ t, exec (.replyValid bytes) s = .next t ∧ faultLast (addrNum a) r.fault t ∧
          t.session = some { x with phase := some { ph with
            deadline := none, windDown := some ⟨s.now + 600, false, .fault r.fault⟩ } } ∧
          (t.machine a).bus = { heard with inFlight := some ⟨.stop .machine, !m.bus.lastTag, .faultService⟩ })) ∧
    ∀ run : TestRun, m.state = .testing → m.testRun = some run → run.origin = .operator → run.windDown = none →
      r.arg = run.subtest → (∀ x, s.session = some x → x.machine ≠ a) →
      (∀ poster, run.sub = .starting → m.bus.inFlight = some ⟨.test run.subtest, echo, poster⟩ → r.activity = .testing →
        r.fault = 0 →
        exec (.replyValid bytes) s = .next ((closed.setMachine a { m with
          testRun := some { run with sub := .running },
          bus := { heard with lastTag := echo, inFlight := none } }).raising (eventBit .test))) ∧
      (run.sub = .running → m.bus.inFlight = none → o.activity ≠ .testDone → r.activity = .testDone →
        (r.fault = 0 → run.subtest = (if s.classOf a = .washer then 7 else 5) →
          ∃ t, exec (.replyValid bytes) s = .next t ∧ (t.machine a).testRun = none ∧
            (t.machine a).lastTest = some ⟨.pass, run.subtest, 0⟩ ∧ (t.machine a).state ≠ .testing ∧
            t.electric.holdsGrant a = false ∧ t.water.holdsGrant a = false) ∧
        (r.fault = 0 → run.subtest < (if s.classOf a = .washer then 7 else 5) →
          ∃ t next, exec (.replyValid bytes) s = .next t ∧ (t.machine a).testRun = some next ∧
            next.subtest = run.subtest + 1 ∧
            (next.sub = .waiting ∧ (t.electric.hasEntry a = true ∨ t.water.hasEntry a = true) ∨
              next.sub = .starting ∧ next.reportDeadline = some (s.now + 120) ∧
              (t.machine a).bus.inFlight = some ⟨.test (run.subtest + 1), !m.bus.lastTag, .faultService⟩)) ∧
        (r.fault ≠ 0 → ∃ t, exec (.replyValid bytes) s = .next t ∧ (t.machine a).testRun = none ∧
          (t.machine a).lastTest = some ⟨.fail, run.subtest, r.fault⟩ ∧ faultLast (addrNum a) 0x15 t ∧
          ∃ f ∈ t.faults, f.machine = addrNum a ∧ f.code = r.fault ∧ f.lastTime = s.now ∧ f.subtest = some run.subtest))

/-- R151, R152, R154: the deadlines of service work. A service phase and a subtest that overrun are wound down with
PHASE_TIMEOUT; a wind-down that overruns ends the work with the outcome it was given, with STOP_TIMEOUT. That TEST_FAIL is not
handed over at the report deadline of a subtest yet, but when its wind-down ends, is the model's reading (log entry 29). -/
def Obligations.ServiceDeadlinesWindTheWorkDown : Prop :=
  (∀ (s : State) (x : Session) (ph : ServicePhase) (d : Nat), s.session = some x → x.phase = some ph → ph.sub = .active →
    ph.windDown = none → ph.deadline = some d → d ≤ s.now →
    ∃ t, exec .servicePhaseDeadline s = .next t ∧ faultLast (addrNum x.machine) 0x10 t ∧
      t.session = some { x with phase := some { ph with
        deadline := none, windDown := some ⟨s.now + 600, false, .timeout⟩ } }) ∧
  (∀ (s : State) (a : Addr) (r : TestRun) (d : Nat), (s.machine a).testRun = some r → r.sub ≠ .waiting →
    r.windDown = none → r.reportDeadline = some d → d ≤ s.now →
    ∃ t, exec (.subtestReportDeadline (addrNum a)) s = .next t ∧ faultLast (addrNum a) 0x10 t ∧
      (t.machine a).testRun = some { r with
        reportDeadline := none, windDown := some ⟨s.now + 600, false, .fail, 0x10⟩ }) ∧
  (∀ (s : State) (a : Addr) (x : Session) (ph : ServicePhase) (w : PhaseWindDown), (s.machine a).testRun = none →
    s.session = some x → x.machine = a → x.closing = false → x.phase = some ph → ph.windDown = some w →
    w.deadline ≤ s.now →
    ∃ t y, exec (.windDownDeadline (addrNum a)) s = .next t ∧ faultLast (addrNum a) 0x12 t ∧ t.session = some y ∧
      y.machine = a ∧ y.phase = none ∧ y.lastOutcome = some w.outcome) ∧
  ∀ (s : State) (a : Addr) (r : TestRun) (w : TestWindDown), (s.machine a).testRun = some r → r.windDown = some w →
    w.deadline ≤ s.now →
    ∃ t, exec (.windDownDeadline (addrNum a)) s = .next t ∧ (t.machine a).testRun = none ∧
      (t.machine a).lastTest = some ⟨w.outcome, r.subtest, w.code⟩ ∧
      ∃ f ∈ t.faults, f.machine = addrNum a ∧ f.code = 0x12 ∧ f.lastTime = s.now

/-! ## Configuration, the store and power-on -/

/-- R20, R105, R172 to R174: the configuration requests write the loader's tables, with every value brought into its range, and
answer with what they applied; a profile or an address is removed so too. The MACHINE event of SET_MACHINE and the test for a
store before the arguments are the model's reading (log entry 34); what class 0 does with the four rating bytes (log entry 60),
that a request which leaves the tables as they were raises CONFIG, too (log entry 66), and that the OK reply to a profile removal
carries no payload (log entry 71), are its choice. -/
def Obligations.ConfigurationRequestsWriteTheTables : Prop :=
  ∀ s : State, s.listens .operator → s.store = none →
    let put (t : Tables) (code : Nat) (payload : List Byte) : Host.Outcome State Fault Refusal :=
      .next (State.answering { s with tables := t } .operator (replyTo code .ok payload) (eventBit .config))
    (∀ p : Params, p.clamp = p → p.issuer < 65536 → p.electricWasher = s.tables.params.electricWasher →
      p.electricDryer = s.tables.params.electricDryer → p.waterWasher = s.tables.params.waterWasher →
      exec (.setRoomParam .operator (paramsBytes p)) s = put { s.tables with params := p } 0x20 (paramsBytes p)) ∧
    (∀ (n : Fin Config.programs) (p : WashProfile), p.clamp = p → profileRule p = true →
      exec (.setWashProfile .operator (washBytes n p)) s =
        put { s.tables with wash := s.tables.wash.set n (some p) } 0x21 (washBytes n p)) ∧
    (∀ (n : Fin Config.programs) (p : DryProfile), p.clamp = p →
      exec (.setDryProfile .operator (dryBytes n p)) s =
        put { s.tables with dry := s.tables.dry.set n (some p) } 0x22 (dryBytes n p)) ∧
    (∀ n : Fin Config.programs,
      (s.tables.wash[n].isSome = true →
        exec (.setWashProfile .operator [byte n]) s = put { s.tables with wash := s.tables.wash.set n none } 0x21 []) ∧
      (s.tables.wash[n] = none →
        exec (.setWashProfile .operator [byte n]) s = .next (s.answering .operator (replyTo 0x21 .notFound []) 0)) ∧
      (s.tables.dry[n].isSome = true →
        exec (.setDryProfile .operator [byte n]) s = put { s.tables with dry := s.tables.dry.set n none } 0x22 []) ∧
      (s.tables.dry[n] = none →
        exec (.setDryProfile .operator [byte n]) s = .next (s.answering .operator (replyTo 0x22 .notFound []) 0))) ∧
    (∀ (n : Fin Config.programs) (p : WashProfile) (price : Nat), s.tables.wash[n] = some p → price ≤ 5000 →
      exec (.setPrice .operator ([1, byte n] ++ be2 price)) s =
        put { s.tables with wash := s.tables.wash.set n (some { p with price := price }) } 0x23 (be2 price)) ∧
    (∀ (n : Fin Config.programs) (p : WashProfile) (price : Nat), s.tables.wash[n] = some p → 5000 < price → price < 65536 →
      exec (.setPrice .operator ([1, byte n] ++ be2 price)) s = .next (State.answering
        { s with tables := { s.tables with wash := s.tables.wash.set n (some { p with price := 5000 }) } } .operator
        (replyTo 0x23 .clamped (be2 5000)) (eventBit .config))) ∧
    (∀ (n : Fin Config.programs) (p : DryProfile) (minutes price most : Nat), s.tables.dry[n] = some p →
      1 ≤ minutes → minutes ≤ 30 → price ≤ 500 → 10 ≤ most → most ≤ 180 →
      exec (.setPrice .operator ([2, byte n, byte minutes] ++ be2 price ++ [byte most])) s =
        put { s.tables with dry := s.tables.dry.set n (some { p with
          stepMinutes := minutes, stepPrice := price, maxMinutes := most }) } 0x23
          ([byte minutes] ++ be2 price ++ [byte most])) ∧
    (∀ (a : Addr) (c : MachineClass) (r : Ratings), r.clamp = r → s.tables.roster[a] = none →
      exec (.setMachine .operator ([byte (addrNum a), byte (classCode c)] ++ ratingsBytes r)) s =
        .next (State.answering (State.setMachine { s with
            tables := { s.tables with roster := s.tables.roster.set a (some ⟨c, r⟩) }, slots := s.slots.filter (· ≠ a),
            slot := if s.slot = some a then none else s.slot } a .initial) .operator
          (replyTo 0x24 .ok ([byte (addrNum a), byte (classCode c)] ++ ratingsBytes r))
          (eventBit .machine ||| eventBit .config))) ∧
    (∀ (a : Addr) (e : RosterEntry) (r : Ratings), r.clamp = r → s.tables.roster[a] = some e →
      let m := s.machine a
      (m.state = .absent ∨ m.state = .outOfService → m.payment = none → m.testRun = none →
        (∀ x, s.session = some x → x.machine ≠ a) →
        exec (.setMachine .operator ([byte (addrNum a), 0] ++ ratingsBytes r)) s =
          .next (State.answering (State.setMachine
            { s with tables := { s.tables with roster := s.tables.roster.set a none } } a .initial) .operator
            (replyTo 0x24 .ok ([byte (addrNum a), 0] ++ ratingsBytes r)) (eventBit .machine ||| eventBit .config)) ∧
        ∀ c, e ≠ ⟨c, r⟩ →
          exec (.setMachine .operator ([byte (addrNum a), byte (classCode c)] ++ ratingsBytes r)) s =
            .next (State.answering (State.setMachine
              { s with tables := { s.tables with roster := s.tables.roster.set a (some ⟨c, r⟩) } } a { m with
                bus := { m.bus with mismatch := false } }) .operator
              (replyTo 0x24 .ok ([byte (addrNum a), byte (classCode c)] ++ ratingsBytes r))
              (eventBit .machine ||| eventBit .config))) ∧
      (m.state ≠ .absent → m.state ≠ .outOfService → ∀ c : Byte, c.toNat ≤ 2 →
        exec (.setMachine .operator ([byte (addrNum a), c] ++ ratingsBytes r)) s =
          .next (s.answering .operator (replyTo 0x24 .badState []) 0)))

/-- R169 to R171, R175: STORE_CONFIG begins to write, each access of the store moves it on or ends it, and a store that ends OK
in the CONFIG_FAULT mode begins an autoload; an autoload whose read fails ends in CONFIG_FAULT. A write is done when the memory
has acknowledged every byte and a poll, and a read when it has acknowledged the device bytes and the address bytes; any other
access has failed. What goes over the config link follows the step the store or the autoload is at, with a stop at the first byte
that the memory does not acknowledge. How a store is divided into accesses is the model's choice (log entry 39), how much an
autoload reads is, too (log entry 62), and that a failing autoload leaves the loader's tables as they were is its reading (log
entries 6 and 33). -/
def Obligations.StoresAndFailedAutoloads : Prop :=
  ∀ s : State,
    let wrote (page : List Byte) (y : LinkAnswers) : Prop :=
      3 + page.length ≤ y.bytes.length ∧ (∀ b ∈ y.bytes, b = true) ∧ true ∈ y.polls
    let read (y : ReadAnswers) : Prop := 4 ≤ y.bytes.length ∧ ∀ b ∈ y.bytes, b = true
    let failed : Host.Outcome State Fault Refusal :=
      .next (State.raising { s with store := none, lastStore := some .writeFail } (eventBit .config))
    (s.mode ≠ .loading → (s.port .operator).replies.length < 4 → s.store = none →
      ∃ t image, exec (.storeConfig .operator []) s = .next t ∧
        t = State.answering { s with store := some ⟨.writing 0, image⟩ } .operator (replyTo 0x26 .accepted []) 0 ∧
        image = (imageOf s).take 32) ∧
    (∀ job, s.store = some job →
      let blank := ([0, 0] : List Byte) ++ job.image.drop 2
      (∀ (page : Nat) (y : LinkAnswers), job.step = .writing page →
        let bytes := (blank.drop (32 * page)).take 32
        (¬ wrote bytes y → exec (.storeAccessDone (.write y)) s = failed) ∧
        (wrote bytes y → 32 * (page + 1) < (imageOf s).length → job.image = (imageOf s).take (32 * (page + 1)) →
          exec (.storeAccessDone (.write y)) s =
            .next { s with store := some ⟨.writing (page + 1), (imageOf s).take (32 * (page + 2))⟩ }) ∧
        (wrote bytes y → (imageOf s).length ≤ 32 * (page + 1) →
          exec (.storeAccessDone (.write y)) s = .next { s with store := some ⟨.readingBack, job.image⟩ }) ∧
        (s.mode ≠ .loading → ∀ acks polls,
          configTraffic s ⟨List.replicate (3 + bytes.length) true, [true]⟩ =
            ([.start, .put 0xA0, .put (byte (32 * page / 256)), .put (byte (32 * page))] : List LinkSymbol) ++ bytes.map .put ++
              ([.stop, .start, .put 0xA0, .stop] : List LinkSymbol) ∧
          configTraffic s ⟨false :: acks, polls⟩ = ([.start, .put 0xA0, .stop] : List LinkSymbol))) ∧
      (∀ y : ReadAnswers, job.step = .readingBack →
        (read y → y.data = blank →
          exec (.storeAccessDone (.read y)) s = .next { s with store := some ⟨.marking, job.image⟩ }) ∧
        (¬ read y ∨ y.data ≠ blank → exec (.storeAccessDone (.read y)) s = failed)) ∧
      (∀ y : LinkAnswers, job.step = .marking →
        (¬ wrote (job.image.take 32) y → exec (.storeAccessDone (.write y)) s = failed) ∧
        (wrote (job.image.take 32) y → exec (.storeAccessDone (.write y)) s = .next (State.raising { s with
          store := none, lastStore := some .ok,
          mode := if s.mode = .configFault then .loading else s.mode } (eventBit .config))))) ∧
    (s.mode = .loading →
      (∀ y : ReadAnswers, ¬ read y → exec (.autoloadEnd y) s =
        .next (State.raising { s with mode := .configFault, configReason := some .noMemory } (eventBit .config))) ∧
      ∀ acks polls, configTraffic s ⟨true :: true :: true :: true :: acks, polls⟩ =
          ([.start, .put 0xA0, .put 0, .put 0, .restart, .put 0xA1] : List LinkSymbol) ++ List.replicate 8191 (.take true) ++
            ([.take false, .stop] : List LinkSymbol) ∧
        configTraffic s ⟨true :: false :: acks, polls⟩ = ([.start, .put 0xA0, .put 0, .stop] : List LinkSymbol))

/-- R146, R169, R170, R175: an image laid out from tables in range is loaded back whole: the same tables, and LOCKED for
every configured machine that was locked. -/
def Obligations.TheImageLoadsBackWhole : Prop :=
  ∀ s u : State, u.tables.inRange → s.mode = .loading →
    ∃ t, exec (.autoloadEnd ⟨[true, true, true, true], imageOf u⟩) s = .next t ∧ t.mode = .operating ∧ t.configReason = none ∧
      t.tables = u.tables ∧
      (∀ a, (u.tables.roster[a]).isSome = true →
        (t.machine a).lock = if (u.machine a).lock = .none then .none else .locked) ∧
      t.electric = ⟨u.tables.params.defaultElectric, u.tables.params.electricWasher, u.tables.params.electricDryer, [], 0, [],
        false, s.halted, ⟨0, 0, 0, 0, 0⟩⟩ ∧
      t.water = ⟨u.tables.params.defaultWater, u.tables.params.waterWasher, 0, [], 0, [], false, s.halted, ⟨0, 0, 0, 0, 0⟩⟩

/-- R52, R103, R114, R117, R122, R125, R165, R176, R177: power-on. With retention lost nothing is left but what power-on sets.
With retention kept the halt latch, the cycle counter, the refund table and the audit totals are kept; a credit in progress
comes to be in doubt, which raises PAYMENT; a cycle whose refund was not computed is closed with cause ROOM; and each doubt and
each debit in progress is closed unresolved. The other values of the state after it are those of the model's reset (log entries
4, 5, 6, 44 and 45). -/
def Obligations.PowerOnStartsThePart : Prop :=
  ∀ s : State,
    let fresh : State := { State.reset with
      pending := s.pending, stationA := { Station.initial with switchClosed := s.stationA.switchClosed },
      stationB := { Station.initial with switchClosed := s.stationB.switchClosed } }
    let refunds := s.refunds.map (fun e => if e.inProgress then { e with state := .inDoubt, inProgress := false } else e)
    let changed : BitVec 7 :=
      if ∃ e ∈ s.refunds, e.inProgress = true ∧ e.state ≠ .inDoubt then eventBit .payment else 0
    let kept : State := State.raising { fresh with
      startReason := .kept, halted := s.halted, cycleCounter := s.cycleCounter, audit := s.audit, refunds := refunds,
      electric := { fresh.electric with halted := s.halted }, water := { fresh.water with halted := s.halted } } changed
    let debits := s.doubts.map (·.debit) ++ s.debitA.toList ++ s.debitB.toList
    let settled (a : Addr) : Prop := ∀ c, (s.machine a).cycle = some c → c.refund.isSome = true
    exec (.powerOn false) s = .next fresh ∧
    (s.retentionValid = false → exec (.powerOn true) s = .next fresh) ∧
    (s.retentionValid = true → debits = [] → (∀ a, settled a) → exec (.powerOn true) s = .next kept) ∧
    (∀ d, s.retentionValid = true → debits = [d] → (∀ a, settled a) →
      exec (.powerOn true) s = .next (State.raising { kept with
        audit := { s.audit with debitsUnresolved := min 999999999999 (s.audit.debitsUnresolved + 1) },
        faults := [⟨addrNum d.machine, 0x20, .info, 0, 0, 1, none, some d.card, none⟩] }
        (eventBit .fault ||| eventBit .payment))) ∧
    (∀ (a : Addr) (c : Cycle), s.retentionValid = true → debits = [] → (∀ b, b ≠ a → settled b) →
      (s.machine a).cycle = some c → c.refund = none →
      let amount := refundOf (s.classOf a) c .room
      0 < amount → amount ≤ 50000 → (∀ e ∈ s.refunds, e.card ≠ c.payer) → s.refunds.length < 32 →
      ∃ pos, pos < 32 ∧ (∀ e ∈ s.refunds, e.position ≠ pos) ∧ (∀ n < pos, ∃ e ∈ s.refunds, e.position = n) ∧
        exec (.powerOn true) s = .next (State.raising { kept with
          refunds := refunds ++ [⟨pos, c.payer, amount, .ready, false, none, 0⟩],
          audit := { s.audit with issued := min 999999999999 (s.audit.issued + amount) } } (eventBit .payment))) ∧
    (s.retentionValid = true → ∃ t, exec (.powerOn true) s = .next t ∧ t.doubts = [] ∧ t.debitA = none ∧ t.debitB = none ∧
      (∀ a, t.machine a = .initial) ∧
      t.audit.debitsUnresolved = (if debits = [] then s.audit.debitsUnresolved
        else min 999999999999 (s.audit.debitsUnresolved + debits.length)))
end

