-- ==== Sys2Proof/Laws/State.lean ====
section
/-! SUPPORT. One lemma for each field of the state and each of its updates, so that no later proof unfolds a record
update, and the laws of reading a record after replacing one. -/

namespace Sys2Proof.Machine

variable (s : State)

/-! ## Fields an update leaves alone -/

@[simp] theorem setMachine_pending (a : Addr) (m : MachineRecord) : (s.setMachine a m).pending = s.pending := rfl
@[simp] theorem setMachine_now (a : Addr) (m : MachineRecord) : (s.setMachine a m).now = s.now := rfl
@[simp] theorem setMachine_waitLimit (a : Addr) (m : MachineRecord) : (s.setMachine a m).waitLimit = s.waitLimit := rfl
@[simp] theorem setMachine_mode (a : Addr) (m : MachineRecord) : (s.setMachine a m).mode = s.mode := rfl
@[simp] theorem setMachine_startReason (a : Addr) (m : MachineRecord) : (s.setMachine a m).startReason = s.startReason := rfl
@[simp] theorem setMachine_configReason (a : Addr) (m : MachineRecord) : (s.setMachine a m).configReason = s.configReason := rfl
@[simp] theorem setMachine_tables (a : Addr) (m : MachineRecord) : (s.setMachine a m).tables = s.tables := rfl
@[simp] theorem setMachine_store (a : Addr) (m : MachineRecord) : (s.setMachine a m).store = s.store := rfl
@[simp] theorem setMachine_lastStore (a : Addr) (m : MachineRecord) : (s.setMachine a m).lastStore = s.lastStore := rfl
@[simp] theorem setMachine_halted (a : Addr) (m : MachineRecord) : (s.setMachine a m).halted = s.halted := rfl
@[simp] theorem setMachine_band (a : Addr) (m : MachineRecord) : (s.setMachine a m).band = s.band := rfl
@[simp] theorem setMachine_cycleCounter (a : Addr) (m : MachineRecord) : (s.setMachine a m).cycleCounter = s.cycleCounter := rfl
@[simp] theorem setMachine_roundNumber (a : Addr) (m : MachineRecord) : (s.setMachine a m).roundNumber = s.roundNumber := rfl
@[simp] theorem setMachine_roundsBegun (a : Addr) (m : MachineRecord) : (s.setMachine a m).roundsBegun = s.roundsBegun := rfl
@[simp] theorem setMachine_slots (a : Addr) (m : MachineRecord) : (s.setMachine a m).slots = s.slots := rfl
@[simp] theorem setMachine_slot (a : Addr) (m : MachineRecord) : (s.setMachine a m).slot = s.slot := rfl
@[simp] theorem setMachine_pollFrame (a : Addr) (m : MachineRecord) : (s.setMachine a m).pollFrame = s.pollFrame := rfl
@[simp] theorem setMachine_electric (a : Addr) (m : MachineRecord) : (s.setMachine a m).electric = s.electric := rfl
@[simp] theorem setMachine_water (a : Addr) (m : MachineRecord) : (s.setMachine a m).water = s.water := rfl
@[simp] theorem setMachine_stationA (a : Addr) (m : MachineRecord) : (s.setMachine a m).stationA = s.stationA := rfl
@[simp] theorem setMachine_stationB (a : Addr) (m : MachineRecord) : (s.setMachine a m).stationB = s.stationB := rfl
@[simp] theorem setMachine_doubts (a : Addr) (m : MachineRecord) : (s.setMachine a m).doubts = s.doubts := rfl
@[simp] theorem setMachine_debitA (a : Addr) (m : MachineRecord) : (s.setMachine a m).debitA = s.debitA := rfl
@[simp] theorem setMachine_debitB (a : Addr) (m : MachineRecord) : (s.setMachine a m).debitB = s.debitB := rfl
@[simp] theorem setMachine_refunds (a : Addr) (m : MachineRecord) : (s.setMachine a m).refunds = s.refunds := rfl
@[simp] theorem setMachine_audit (a : Addr) (m : MachineRecord) : (s.setMachine a m).audit = s.audit := rfl
@[simp] theorem setMachine_washers (a : Addr) (m : MachineRecord) : (s.setMachine a m).washers = s.washers := rfl
@[simp] theorem setMachine_dryers (a : Addr) (m : MachineRecord) : (s.setMachine a m).dryers = s.dryers := rfl
@[simp] theorem setMachine_faults (a : Addr) (m : MachineRecord) : (s.setMachine a m).faults = s.faults := rfl
@[simp] theorem setMachine_session (a : Addr) (m : MachineRecord) : (s.setMachine a m).session = s.session := rfl
@[simp] theorem setMachine_building (a : Addr) (m : MachineRecord) : (s.setMachine a m).building = s.building := rfl
@[simp] theorem setMachine_operator (a : Addr) (m : MachineRecord) : (s.setMachine a m).operator = s.operator := rfl
@[simp] theorem setMachine_service (a : Addr) (m : MachineRecord) : (s.setMachine a m).service = s.service := rfl
@[simp] theorem setMachine_retentionValid (a : Addr) (m : MachineRecord) : (s.setMachine a m).retentionValid = s.retentionValid := rfl

@[simp] theorem setPool_pending (k : PoolId) (p : Pool) : (s.setPool k p).pending = s.pending := by cases k <;> rfl
@[simp] theorem setPool_now (k : PoolId) (p : Pool) : (s.setPool k p).now = s.now := by cases k <;> rfl
@[simp] theorem setPool_waitLimit (k : PoolId) (p : Pool) : (s.setPool k p).waitLimit = s.waitLimit := by cases k <;> rfl
@[simp] theorem setPool_mode (k : PoolId) (p : Pool) : (s.setPool k p).mode = s.mode := by cases k <;> rfl
@[simp] theorem setPool_startReason (k : PoolId) (p : Pool) : (s.setPool k p).startReason = s.startReason := by cases k <;> rfl
@[simp] theorem setPool_configReason (k : PoolId) (p : Pool) : (s.setPool k p).configReason = s.configReason := by cases k <;> rfl
@[simp] theorem setPool_tables (k : PoolId) (p : Pool) : (s.setPool k p).tables = s.tables := by cases k <;> rfl
@[simp] theorem setPool_store (k : PoolId) (p : Pool) : (s.setPool k p).store = s.store := by cases k <;> rfl
@[simp] theorem setPool_lastStore (k : PoolId) (p : Pool) : (s.setPool k p).lastStore = s.lastStore := by cases k <;> rfl
@[simp] theorem setPool_halted (k : PoolId) (p : Pool) : (s.setPool k p).halted = s.halted := by cases k <;> rfl
@[simp] theorem setPool_band (k : PoolId) (p : Pool) : (s.setPool k p).band = s.band := by cases k <;> rfl
@[simp] theorem setPool_cycleCounter (k : PoolId) (p : Pool) : (s.setPool k p).cycleCounter = s.cycleCounter := by cases k <;> rfl
@[simp] theorem setPool_machines (k : PoolId) (p : Pool) : (s.setPool k p).machines = s.machines := by cases k <;> rfl
@[simp] theorem setPool_roundNumber (k : PoolId) (p : Pool) : (s.setPool k p).roundNumber = s.roundNumber := by cases k <;> rfl
@[simp] theorem setPool_roundsBegun (k : PoolId) (p : Pool) : (s.setPool k p).roundsBegun = s.roundsBegun := by cases k <;> rfl
@[simp] theorem setPool_slots (k : PoolId) (p : Pool) : (s.setPool k p).slots = s.slots := by cases k <;> rfl
@[simp] theorem setPool_slot (k : PoolId) (p : Pool) : (s.setPool k p).slot = s.slot := by cases k <;> rfl
@[simp] theorem setPool_pollFrame (k : PoolId) (p : Pool) : (s.setPool k p).pollFrame = s.pollFrame := by cases k <;> rfl
@[simp] theorem setPool_stationA (k : PoolId) (p : Pool) : (s.setPool k p).stationA = s.stationA := by cases k <;> rfl
@[simp] theorem setPool_stationB (k : PoolId) (p : Pool) : (s.setPool k p).stationB = s.stationB := by cases k <;> rfl
@[simp] theorem setPool_doubts (k : PoolId) (p : Pool) : (s.setPool k p).doubts = s.doubts := by cases k <;> rfl
@[simp] theorem setPool_debitA (k : PoolId) (p : Pool) : (s.setPool k p).debitA = s.debitA := by cases k <;> rfl
@[simp] theorem setPool_debitB (k : PoolId) (p : Pool) : (s.setPool k p).debitB = s.debitB := by cases k <;> rfl
@[simp] theorem setPool_refunds (k : PoolId) (p : Pool) : (s.setPool k p).refunds = s.refunds := by cases k <;> rfl
@[simp] theorem setPool_audit (k : PoolId) (p : Pool) : (s.setPool k p).audit = s.audit := by cases k <;> rfl
@[simp] theorem setPool_washers (k : PoolId) (p : Pool) : (s.setPool k p).washers = s.washers := by cases k <;> rfl
@[simp] theorem setPool_dryers (k : PoolId) (p : Pool) : (s.setPool k p).dryers = s.dryers := by cases k <;> rfl
@[simp] theorem setPool_faults (k : PoolId) (p : Pool) : (s.setPool k p).faults = s.faults := by cases k <;> rfl
@[simp] theorem setPool_session (k : PoolId) (p : Pool) : (s.setPool k p).session = s.session := by cases k <;> rfl
@[simp] theorem setPool_building (k : PoolId) (p : Pool) : (s.setPool k p).building = s.building := by cases k <;> rfl
@[simp] theorem setPool_operator (k : PoolId) (p : Pool) : (s.setPool k p).operator = s.operator := by cases k <;> rfl
@[simp] theorem setPool_service (k : PoolId) (p : Pool) : (s.setPool k p).service = s.service := by cases k <;> rfl
@[simp] theorem setPool_retentionValid (k : PoolId) (p : Pool) : (s.setPool k p).retentionValid = s.retentionValid := by cases k <;> rfl

@[simp] theorem setStation_pending (i : StationId) (x : Station) : (s.setStation i x).pending = s.pending := by cases i <;> rfl
@[simp] theorem setStation_now (i : StationId) (x : Station) : (s.setStation i x).now = s.now := by cases i <;> rfl
@[simp] theorem setStation_waitLimit (i : StationId) (x : Station) : (s.setStation i x).waitLimit = s.waitLimit := by cases i <;> rfl
@[simp] theorem setStation_mode (i : StationId) (x : Station) : (s.setStation i x).mode = s.mode := by cases i <;> rfl
@[simp] theorem setStation_startReason (i : StationId) (x : Station) : (s.setStation i x).startReason = s.startReason := by cases i <;> rfl
@[simp] theorem setStation_configReason (i : StationId) (x : Station) : (s.setStation i x).configReason = s.configReason := by cases i <;> rfl
@[simp] theorem setStation_tables (i : StationId) (x : Station) : (s.setStation i x).tables = s.tables := by cases i <;> rfl
@[simp] theorem setStation_store (i : StationId) (x : Station) : (s.setStation i x).store = s.store := by cases i <;> rfl
@[simp] theorem setStation_lastStore (i : StationId) (x : Station) : (s.setStation i x).lastStore = s.lastStore := by cases i <;> rfl
@[simp] theorem setStation_halted (i : StationId) (x : Station) : (s.setStation i x).halted = s.halted := by cases i <;> rfl
@[simp] theorem setStation_band (i : StationId) (x : Station) : (s.setStation i x).band = s.band := by cases i <;> rfl
@[simp] theorem setStation_cycleCounter (i : StationId) (x : Station) : (s.setStation i x).cycleCounter = s.cycleCounter := by cases i <;> rfl
@[simp] theorem setStation_machines (i : StationId) (x : Station) : (s.setStation i x).machines = s.machines := by cases i <;> rfl
@[simp] theorem setStation_roundNumber (i : StationId) (x : Station) : (s.setStation i x).roundNumber = s.roundNumber := by cases i <;> rfl
@[simp] theorem setStation_roundsBegun (i : StationId) (x : Station) : (s.setStation i x).roundsBegun = s.roundsBegun := by cases i <;> rfl
@[simp] theorem setStation_slots (i : StationId) (x : Station) : (s.setStation i x).slots = s.slots := by cases i <;> rfl
@[simp] theorem setStation_slot (i : StationId) (x : Station) : (s.setStation i x).slot = s.slot := by cases i <;> rfl
@[simp] theorem setStation_pollFrame (i : StationId) (x : Station) : (s.setStation i x).pollFrame = s.pollFrame := by cases i <;> rfl
@[simp] theorem setStation_electric (i : StationId) (x : Station) : (s.setStation i x).electric = s.electric := by cases i <;> rfl
@[simp] theorem setStation_water (i : StationId) (x : Station) : (s.setStation i x).water = s.water := by cases i <;> rfl
@[simp] theorem setStation_doubts (i : StationId) (x : Station) : (s.setStation i x).doubts = s.doubts := by cases i <;> rfl
@[simp] theorem setStation_debitA (i : StationId) (x : Station) : (s.setStation i x).debitA = s.debitA := by cases i <;> rfl
@[simp] theorem setStation_debitB (i : StationId) (x : Station) : (s.setStation i x).debitB = s.debitB := by cases i <;> rfl
@[simp] theorem setStation_refunds (i : StationId) (x : Station) : (s.setStation i x).refunds = s.refunds := by cases i <;> rfl
@[simp] theorem setStation_audit (i : StationId) (x : Station) : (s.setStation i x).audit = s.audit := by cases i <;> rfl
@[simp] theorem setStation_washers (i : StationId) (x : Station) : (s.setStation i x).washers = s.washers := by cases i <;> rfl
@[simp] theorem setStation_dryers (i : StationId) (x : Station) : (s.setStation i x).dryers = s.dryers := by cases i <;> rfl
@[simp] theorem setStation_faults (i : StationId) (x : Station) : (s.setStation i x).faults = s.faults := by cases i <;> rfl
@[simp] theorem setStation_session (i : StationId) (x : Station) : (s.setStation i x).session = s.session := by cases i <;> rfl
@[simp] theorem setStation_building (i : StationId) (x : Station) : (s.setStation i x).building = s.building := by cases i <;> rfl
@[simp] theorem setStation_operator (i : StationId) (x : Station) : (s.setStation i x).operator = s.operator := by cases i <;> rfl
@[simp] theorem setStation_service (i : StationId) (x : Station) : (s.setStation i x).service = s.service := by cases i <;> rfl
@[simp] theorem setStation_retentionValid (i : StationId) (x : Station) : (s.setStation i x).retentionValid = s.retentionValid := by cases i <;> rfl

@[simp] theorem setDebitCopy_pending (i : StationId) (d : Option DebitCopy) : (s.setDebitCopy i d).pending = s.pending := by cases i <;> rfl
@[simp] theorem setDebitCopy_now (i : StationId) (d : Option DebitCopy) : (s.setDebitCopy i d).now = s.now := by cases i <;> rfl
@[simp] theorem setDebitCopy_waitLimit (i : StationId) (d : Option DebitCopy) : (s.setDebitCopy i d).waitLimit = s.waitLimit := by cases i <;> rfl
@[simp] theorem setDebitCopy_mode (i : StationId) (d : Option DebitCopy) : (s.setDebitCopy i d).mode = s.mode := by cases i <;> rfl
@[simp] theorem setDebitCopy_startReason (i : StationId) (d : Option DebitCopy) : (s.setDebitCopy i d).startReason = s.startReason := by cases i <;> rfl
@[simp] theorem setDebitCopy_configReason (i : StationId) (d : Option DebitCopy) : (s.setDebitCopy i d).configReason = s.configReason := by cases i <;> rfl
@[simp] theorem setDebitCopy_tables (i : StationId) (d : Option DebitCopy) : (s.setDebitCopy i d).tables = s.tables := by cases i <;> rfl
@[simp] theorem setDebitCopy_store (i : StationId) (d : Option DebitCopy) : (s.setDebitCopy i d).store = s.store := by cases i <;> rfl
@[simp] theorem setDebitCopy_lastStore (i : StationId) (d : Option DebitCopy) : (s.setDebitCopy i d).lastStore = s.lastStore := by cases i <;> rfl
@[simp] theorem setDebitCopy_halted (i : StationId) (d : Option DebitCopy) : (s.setDebitCopy i d).halted = s.halted := by cases i <;> rfl
@[simp] theorem setDebitCopy_band (i : StationId) (d : Option DebitCopy) : (s.setDebitCopy i d).band = s.band := by cases i <;> rfl
@[simp] theorem setDebitCopy_cycleCounter (i : StationId) (d : Option DebitCopy) : (s.setDebitCopy i d).cycleCounter = s.cycleCounter := by cases i <;> rfl
@[simp] theorem setDebitCopy_machines (i : StationId) (d : Option DebitCopy) : (s.setDebitCopy i d).machines = s.machines := by cases i <;> rfl
@[simp] theorem setDebitCopy_roundNumber (i : StationId) (d : Option DebitCopy) : (s.setDebitCopy i d).roundNumber = s.roundNumber := by cases i <;> rfl
@[simp] theorem setDebitCopy_roundsBegun (i : StationId) (d : Option DebitCopy) : (s.setDebitCopy i d).roundsBegun = s.roundsBegun := by cases i <;> rfl
@[simp] theorem setDebitCopy_slots (i : StationId) (d : Option DebitCopy) : (s.setDebitCopy i d).slots = s.slots := by cases i <;> rfl
@[simp] theorem setDebitCopy_slot (i : StationId) (d : Option DebitCopy) : (s.setDebitCopy i d).slot = s.slot := by cases i <;> rfl
@[simp] theorem setDebitCopy_pollFrame (i : StationId) (d : Option DebitCopy) : (s.setDebitCopy i d).pollFrame = s.pollFrame := by cases i <;> rfl
@[simp] theorem setDebitCopy_electric (i : StationId) (d : Option DebitCopy) : (s.setDebitCopy i d).electric = s.electric := by cases i <;> rfl
@[simp] theorem setDebitCopy_water (i : StationId) (d : Option DebitCopy) : (s.setDebitCopy i d).water = s.water := by cases i <;> rfl
@[simp] theorem setDebitCopy_stationA (i : StationId) (d : Option DebitCopy) : (s.setDebitCopy i d).stationA = s.stationA := by cases i <;> rfl
@[simp] theorem setDebitCopy_stationB (i : StationId) (d : Option DebitCopy) : (s.setDebitCopy i d).stationB = s.stationB := by cases i <;> rfl
@[simp] theorem setDebitCopy_doubts (i : StationId) (d : Option DebitCopy) : (s.setDebitCopy i d).doubts = s.doubts := by cases i <;> rfl
@[simp] theorem setDebitCopy_refunds (i : StationId) (d : Option DebitCopy) : (s.setDebitCopy i d).refunds = s.refunds := by cases i <;> rfl
@[simp] theorem setDebitCopy_audit (i : StationId) (d : Option DebitCopy) : (s.setDebitCopy i d).audit = s.audit := by cases i <;> rfl
@[simp] theorem setDebitCopy_washers (i : StationId) (d : Option DebitCopy) : (s.setDebitCopy i d).washers = s.washers := by cases i <;> rfl
@[simp] theorem setDebitCopy_dryers (i : StationId) (d : Option DebitCopy) : (s.setDebitCopy i d).dryers = s.dryers := by cases i <;> rfl
@[simp] theorem setDebitCopy_faults (i : StationId) (d : Option DebitCopy) : (s.setDebitCopy i d).faults = s.faults := by cases i <;> rfl
@[simp] theorem setDebitCopy_session (i : StationId) (d : Option DebitCopy) : (s.setDebitCopy i d).session = s.session := by cases i <;> rfl
@[simp] theorem setDebitCopy_building (i : StationId) (d : Option DebitCopy) : (s.setDebitCopy i d).building = s.building := by cases i <;> rfl
@[simp] theorem setDebitCopy_operator (i : StationId) (d : Option DebitCopy) : (s.setDebitCopy i d).operator = s.operator := by cases i <;> rfl
@[simp] theorem setDebitCopy_service (i : StationId) (d : Option DebitCopy) : (s.setDebitCopy i d).service = s.service := by cases i <;> rfl
@[simp] theorem setDebitCopy_retentionValid (i : StationId) (d : Option DebitCopy) : (s.setDebitCopy i d).retentionValid = s.retentionValid := by cases i <;> rfl

@[simp] theorem setQueue_pending (c : MachineClass) (q : ClaimQueue) : (s.setQueue c q).pending = s.pending := by cases c <;> rfl
@[simp] theorem setQueue_now (c : MachineClass) (q : ClaimQueue) : (s.setQueue c q).now = s.now := by cases c <;> rfl
@[simp] theorem setQueue_waitLimit (c : MachineClass) (q : ClaimQueue) : (s.setQueue c q).waitLimit = s.waitLimit := by cases c <;> rfl
@[simp] theorem setQueue_mode (c : MachineClass) (q : ClaimQueue) : (s.setQueue c q).mode = s.mode := by cases c <;> rfl
@[simp] theorem setQueue_startReason (c : MachineClass) (q : ClaimQueue) : (s.setQueue c q).startReason = s.startReason := by cases c <;> rfl
@[simp] theorem setQueue_configReason (c : MachineClass) (q : ClaimQueue) : (s.setQueue c q).configReason = s.configReason := by cases c <;> rfl
@[simp] theorem setQueue_tables (c : MachineClass) (q : ClaimQueue) : (s.setQueue c q).tables = s.tables := by cases c <;> rfl
@[simp] theorem setQueue_store (c : MachineClass) (q : ClaimQueue) : (s.setQueue c q).store = s.store := by cases c <;> rfl
@[simp] theorem setQueue_lastStore (c : MachineClass) (q : ClaimQueue) : (s.setQueue c q).lastStore = s.lastStore := by cases c <;> rfl
@[simp] theorem setQueue_halted (c : MachineClass) (q : ClaimQueue) : (s.setQueue c q).halted = s.halted := by cases c <;> rfl
@[simp] theorem setQueue_band (c : MachineClass) (q : ClaimQueue) : (s.setQueue c q).band = s.band := by cases c <;> rfl
@[simp] theorem setQueue_cycleCounter (c : MachineClass) (q : ClaimQueue) : (s.setQueue c q).cycleCounter = s.cycleCounter := by cases c <;> rfl
@[simp] theorem setQueue_machines (c : MachineClass) (q : ClaimQueue) : (s.setQueue c q).machines = s.machines := by cases c <;> rfl
@[simp] theorem setQueue_roundNumber (c : MachineClass) (q : ClaimQueue) : (s.setQueue c q).roundNumber = s.roundNumber := by cases c <;> rfl
@[simp] theorem setQueue_roundsBegun (c : MachineClass) (q : ClaimQueue) : (s.setQueue c q).roundsBegun = s.roundsBegun := by cases c <;> rfl
@[simp] theorem setQueue_slots (c : MachineClass) (q : ClaimQueue) : (s.setQueue c q).slots = s.slots := by cases c <;> rfl
@[simp] theorem setQueue_slot (c : MachineClass) (q : ClaimQueue) : (s.setQueue c q).slot = s.slot := by cases c <;> rfl
@[simp] theorem setQueue_pollFrame (c : MachineClass) (q : ClaimQueue) : (s.setQueue c q).pollFrame = s.pollFrame := by cases c <;> rfl
@[simp] theorem setQueue_electric (c : MachineClass) (q : ClaimQueue) : (s.setQueue c q).electric = s.electric := by cases c <;> rfl
@[simp] theorem setQueue_water (c : MachineClass) (q : ClaimQueue) : (s.setQueue c q).water = s.water := by cases c <;> rfl
@[simp] theorem setQueue_stationA (c : MachineClass) (q : ClaimQueue) : (s.setQueue c q).stationA = s.stationA := by cases c <;> rfl
@[simp] theorem setQueue_stationB (c : MachineClass) (q : ClaimQueue) : (s.setQueue c q).stationB = s.stationB := by cases c <;> rfl
@[simp] theorem setQueue_doubts (c : MachineClass) (q : ClaimQueue) : (s.setQueue c q).doubts = s.doubts := by cases c <;> rfl
@[simp] theorem setQueue_debitA (c : MachineClass) (q : ClaimQueue) : (s.setQueue c q).debitA = s.debitA := by cases c <;> rfl
@[simp] theorem setQueue_debitB (c : MachineClass) (q : ClaimQueue) : (s.setQueue c q).debitB = s.debitB := by cases c <;> rfl
@[simp] theorem setQueue_refunds (c : MachineClass) (q : ClaimQueue) : (s.setQueue c q).refunds = s.refunds := by cases c <;> rfl
@[simp] theorem setQueue_audit (c : MachineClass) (q : ClaimQueue) : (s.setQueue c q).audit = s.audit := by cases c <;> rfl
@[simp] theorem setQueue_faults (c : MachineClass) (q : ClaimQueue) : (s.setQueue c q).faults = s.faults := by cases c <;> rfl
@[simp] theorem setQueue_session (c : MachineClass) (q : ClaimQueue) : (s.setQueue c q).session = s.session := by cases c <;> rfl
@[simp] theorem setQueue_building (c : MachineClass) (q : ClaimQueue) : (s.setQueue c q).building = s.building := by cases c <;> rfl
@[simp] theorem setQueue_operator (c : MachineClass) (q : ClaimQueue) : (s.setQueue c q).operator = s.operator := by cases c <;> rfl
@[simp] theorem setQueue_service (c : MachineClass) (q : ClaimQueue) : (s.setQueue c q).service = s.service := by cases c <;> rfl
@[simp] theorem setQueue_retentionValid (c : MachineClass) (q : ClaimQueue) : (s.setQueue c q).retentionValid = s.retentionValid := by cases c <;> rfl

@[simp] theorem setPort_pending (p : Port) (x : PortState) : (s.setPort p x).pending = s.pending := by cases p <;> rfl
@[simp] theorem setPort_now (p : Port) (x : PortState) : (s.setPort p x).now = s.now := by cases p <;> rfl
@[simp] theorem setPort_waitLimit (p : Port) (x : PortState) : (s.setPort p x).waitLimit = s.waitLimit := by cases p <;> rfl
@[simp] theorem setPort_mode (p : Port) (x : PortState) : (s.setPort p x).mode = s.mode := by cases p <;> rfl
@[simp] theorem setPort_startReason (p : Port) (x : PortState) : (s.setPort p x).startReason = s.startReason := by cases p <;> rfl
@[simp] theorem setPort_configReason (p : Port) (x : PortState) : (s.setPort p x).configReason = s.configReason := by cases p <;> rfl
@[simp] theorem setPort_tables (p : Port) (x : PortState) : (s.setPort p x).tables = s.tables := by cases p <;> rfl
@[simp] theorem setPort_store (p : Port) (x : PortState) : (s.setPort p x).store = s.store := by cases p <;> rfl
@[simp] theorem setPort_lastStore (p : Port) (x : PortState) : (s.setPort p x).lastStore = s.lastStore := by cases p <;> rfl
@[simp] theorem setPort_halted (p : Port) (x : PortState) : (s.setPort p x).halted = s.halted := by cases p <;> rfl
@[simp] theorem setPort_band (p : Port) (x : PortState) : (s.setPort p x).band = s.band := by cases p <;> rfl
@[simp] theorem setPort_cycleCounter (p : Port) (x : PortState) : (s.setPort p x).cycleCounter = s.cycleCounter := by cases p <;> rfl
@[simp] theorem setPort_machines (p : Port) (x : PortState) : (s.setPort p x).machines = s.machines := by cases p <;> rfl
@[simp] theorem setPort_roundNumber (p : Port) (x : PortState) : (s.setPort p x).roundNumber = s.roundNumber := by cases p <;> rfl
@[simp] theorem setPort_roundsBegun (p : Port) (x : PortState) : (s.setPort p x).roundsBegun = s.roundsBegun := by cases p <;> rfl
@[simp] theorem setPort_slots (p : Port) (x : PortState) : (s.setPort p x).slots = s.slots := by cases p <;> rfl
@[simp] theorem setPort_slot (p : Port) (x : PortState) : (s.setPort p x).slot = s.slot := by cases p <;> rfl
@[simp] theorem setPort_pollFrame (p : Port) (x : PortState) : (s.setPort p x).pollFrame = s.pollFrame := by cases p <;> rfl
@[simp] theorem setPort_electric (p : Port) (x : PortState) : (s.setPort p x).electric = s.electric := by cases p <;> rfl
@[simp] theorem setPort_water (p : Port) (x : PortState) : (s.setPort p x).water = s.water := by cases p <;> rfl
@[simp] theorem setPort_stationA (p : Port) (x : PortState) : (s.setPort p x).stationA = s.stationA := by cases p <;> rfl
@[simp] theorem setPort_stationB (p : Port) (x : PortState) : (s.setPort p x).stationB = s.stationB := by cases p <;> rfl
@[simp] theorem setPort_doubts (p : Port) (x : PortState) : (s.setPort p x).doubts = s.doubts := by cases p <;> rfl
@[simp] theorem setPort_debitA (p : Port) (x : PortState) : (s.setPort p x).debitA = s.debitA := by cases p <;> rfl
@[simp] theorem setPort_debitB (p : Port) (x : PortState) : (s.setPort p x).debitB = s.debitB := by cases p <;> rfl
@[simp] theorem setPort_refunds (p : Port) (x : PortState) : (s.setPort p x).refunds = s.refunds := by cases p <;> rfl
@[simp] theorem setPort_audit (p : Port) (x : PortState) : (s.setPort p x).audit = s.audit := by cases p <;> rfl
@[simp] theorem setPort_washers (p : Port) (x : PortState) : (s.setPort p x).washers = s.washers := by cases p <;> rfl
@[simp] theorem setPort_dryers (p : Port) (x : PortState) : (s.setPort p x).dryers = s.dryers := by cases p <;> rfl
@[simp] theorem setPort_faults (p : Port) (x : PortState) : (s.setPort p x).faults = s.faults := by cases p <;> rfl
@[simp] theorem setPort_session (p : Port) (x : PortState) : (s.setPort p x).session = s.session := by cases p <;> rfl
@[simp] theorem setPort_retentionValid (p : Port) (x : PortState) : (s.setPort p x).retentionValid = s.retentionValid := by cases p <;> rfl

@[simp] theorem raise_pending (e : Event) : (raise e s).pending = s.pending := rfl
@[simp] theorem raise_now (e : Event) : (raise e s).now = s.now := rfl
@[simp] theorem raise_waitLimit (e : Event) : (raise e s).waitLimit = s.waitLimit := rfl
@[simp] theorem raise_mode (e : Event) : (raise e s).mode = s.mode := rfl
@[simp] theorem raise_startReason (e : Event) : (raise e s).startReason = s.startReason := rfl
@[simp] theorem raise_configReason (e : Event) : (raise e s).configReason = s.configReason := rfl
@[simp] theorem raise_tables (e : Event) : (raise e s).tables = s.tables := rfl
@[simp] theorem raise_store (e : Event) : (raise e s).store = s.store := rfl
@[simp] theorem raise_lastStore (e : Event) : (raise e s).lastStore = s.lastStore := rfl
@[simp] theorem raise_halted (e : Event) : (raise e s).halted = s.halted := rfl
@[simp] theorem raise_band (e : Event) : (raise e s).band = s.band := rfl
@[simp] theorem raise_cycleCounter (e : Event) : (raise e s).cycleCounter = s.cycleCounter := rfl
@[simp] theorem raise_machines (e : Event) : (raise e s).machines = s.machines := rfl
@[simp] theorem raise_roundNumber (e : Event) : (raise e s).roundNumber = s.roundNumber := rfl
@[simp] theorem raise_roundsBegun (e : Event) : (raise e s).roundsBegun = s.roundsBegun := rfl
@[simp] theorem raise_slots (e : Event) : (raise e s).slots = s.slots := rfl
@[simp] theorem raise_slot (e : Event) : (raise e s).slot = s.slot := rfl
@[simp] theorem raise_pollFrame (e : Event) : (raise e s).pollFrame = s.pollFrame := rfl
@[simp] theorem raise_electric (e : Event) : (raise e s).electric = s.electric := rfl
@[simp] theorem raise_water (e : Event) : (raise e s).water = s.water := rfl
@[simp] theorem raise_stationA (e : Event) : (raise e s).stationA = s.stationA := rfl
@[simp] theorem raise_stationB (e : Event) : (raise e s).stationB = s.stationB := rfl
@[simp] theorem raise_doubts (e : Event) : (raise e s).doubts = s.doubts := rfl
@[simp] theorem raise_debitA (e : Event) : (raise e s).debitA = s.debitA := rfl
@[simp] theorem raise_debitB (e : Event) : (raise e s).debitB = s.debitB := rfl
@[simp] theorem raise_refunds (e : Event) : (raise e s).refunds = s.refunds := rfl
@[simp] theorem raise_audit (e : Event) : (raise e s).audit = s.audit := rfl
@[simp] theorem raise_washers (e : Event) : (raise e s).washers = s.washers := rfl
@[simp] theorem raise_dryers (e : Event) : (raise e s).dryers = s.dryers := rfl
@[simp] theorem raise_faults (e : Event) : (raise e s).faults = s.faults := rfl
@[simp] theorem raise_session (e : Event) : (raise e s).session = s.session := rfl
@[simp] theorem raise_retentionValid (e : Event) : (raise e s).retentionValid = s.retentionValid := rfl

/-! ## Reading after replacing -/

@[simp] theorem machine_setMachine_self (a : Addr) (m : MachineRecord) : (s.setMachine a m).machine a = m := by
  simp [State.machine, State.setMachine]

theorem machine_setMachine_other {a b : Addr} (m : MachineRecord) (h : b ≠ a) : (s.setMachine a m).machine b = s.machine b := by
  have hv : a.val ≠ b.val := fun e => h (Fin.ext e.symm)
  simp [State.machine, State.setMachine, hv]

theorem machine_setMachine (a b : Addr) (m : MachineRecord) :
    (s.setMachine a m).machine b = if b = a then m else s.machine b := by
  by_cases h : b = a
  · subst h; simp
  · simp [h, machine_setMachine_other s m h]

@[simp] theorem pool_setPool_self (k : PoolId) (p : Pool) : (s.setPool k p).pool k = p := by cases k <;> rfl

theorem pool_setPool_other {j k : PoolId} (p : Pool) (h : j ≠ k) : (s.setPool k p).pool j = s.pool j := by
  cases j <;> cases k <;> first | rfl | exact absurd rfl h

@[simp] theorem station_setStation_self (i : StationId) (x : Station) : (s.setStation i x).station i = x := by
  cases i <;> rfl

theorem station_setStation_other {i j : StationId} (x : Station) (h : j ≠ i) : (s.setStation i x).station j = s.station j := by
  cases i <;> cases j <;> first | rfl | exact absurd rfl h

@[simp] theorem debitCopy_setDebitCopy_self (i : StationId) (d : Option DebitCopy) : (s.setDebitCopy i d).debitCopy i = d := by
  cases i <;> rfl

@[simp] theorem queue_setQueue_self (c : MachineClass) (q : ClaimQueue) : (s.setQueue c q).queue c = q := by cases c <;> rfl

theorem queue_setQueue_other {b c : MachineClass} (q : ClaimQueue) (h : b ≠ c) : (s.setQueue c q).queue b = s.queue b := by
  cases b <;> cases c <;> first | rfl | exact absurd rfl h

@[simp] theorem port_setPort_self (p : Port) (x : PortState) : (s.setPort p x).port p = x := by cases p <;> rfl

theorem port_setPort_other {p q : Port} (x : PortState) (h : q ≠ p) : (s.setPort p x).port q = s.port q := by
  cases p <;> cases q <;> first | rfl | exact absurd rfl h

theorem port_setPort (p q : Port) (x : PortState) : (s.setPort p x).port q = if q = p then x else s.port q := by
  cases p <;> cases q <;> rfl

/-! ## Readings that an update leaves alone -/

@[simp] theorem raise_port (e : Event) (p : Port) : (raise e s).port p = setFlag e (s.port p) := by cases p <;> rfl
@[simp] theorem raise_machine (e : Event) (a : Addr) : (raise e s).machine a = s.machine a := rfl
@[simp] theorem raise_pool (e : Event) (k : PoolId) : (raise e s).pool k = s.pool k := by cases k <;> rfl
@[simp] theorem raise_station (e : Event) (i : StationId) : (raise e s).station i = s.station i := by cases i <;> rfl
@[simp] theorem raise_queue (e : Event) (c : MachineClass) : (raise e s).queue c = s.queue c := by cases c <;> rfl
@[simp] theorem raise_inForce (e : Event) : (raise e s).inForce = s.inForce := rfl
@[simp] theorem raise_params (e : Event) : (raise e s).params = s.params := rfl
@[simp] theorem raise_roster (e : Event) (a : Addr) : (raise e s).roster a = s.roster a := rfl
@[simp] theorem raise_classOf (e : Event) (a : Addr) : (raise e s).classOf a = s.classOf a := rfl

@[simp] theorem setMachine_port (a : Addr) (m : MachineRecord) (p : Port) : (s.setMachine a m).port p = s.port p := by
  cases p <;> rfl
@[simp] theorem setMachine_pool (a : Addr) (m : MachineRecord) (k : PoolId) : (s.setMachine a m).pool k = s.pool k := by
  cases k <;> rfl
@[simp] theorem setMachine_station (a : Addr) (m : MachineRecord) (i : StationId) :
    (s.setMachine a m).station i = s.station i := by cases i <;> rfl
@[simp] theorem setMachine_queue (a : Addr) (m : MachineRecord) (c : MachineClass) : (s.setMachine a m).queue c = s.queue c := by
  cases c <;> rfl
@[simp] theorem setMachine_inForce (a : Addr) (m : MachineRecord) : (s.setMachine a m).inForce = s.inForce := rfl
@[simp] theorem setMachine_classOf (a b : Addr) (m : MachineRecord) : (s.setMachine a m).classOf b = s.classOf b := rfl

@[simp] theorem setPort_machine (p : Port) (x : PortState) (a : Addr) : (s.setPort p x).machine a = s.machine a := by
  cases p <;> rfl
@[simp] theorem setPort_pool (p : Port) (x : PortState) (k : PoolId) : (s.setPort p x).pool k = s.pool k := by
  cases p <;> cases k <;> rfl
@[simp] theorem setPort_station (p : Port) (x : PortState) (i : StationId) : (s.setPort p x).station i = s.station i := by
  cases p <;> cases i <;> rfl
@[simp] theorem setPort_queue (p : Port) (x : PortState) (c : MachineClass) : (s.setPort p x).queue c = s.queue c := by
  cases p <;> cases c <;> rfl
@[simp] theorem setPort_inForce (p : Port) (x : PortState) : (s.setPort p x).inForce = s.inForce := by cases p <;> rfl

@[simp] theorem setPool_machine (k : PoolId) (p : Pool) (a : Addr) : (s.setPool k p).machine a = s.machine a := by
  cases k <;> rfl
@[simp] theorem setPool_port (k : PoolId) (p : Pool) (q : Port) : (s.setPool k p).port q = s.port q := by
  cases k <;> cases q <;> rfl
@[simp] theorem setPool_station (k : PoolId) (p : Pool) (i : StationId) : (s.setPool k p).station i = s.station i := by
  cases k <;> cases i <;> rfl
@[simp] theorem setPool_inForce (k : PoolId) (p : Pool) : (s.setPool k p).inForce = s.inForce := by cases k <;> rfl

@[simp] theorem setStation_machine (i : StationId) (x : Station) (a : Addr) : (s.setStation i x).machine a = s.machine a := by
  cases i <;> rfl
@[simp] theorem setStation_port (i : StationId) (x : Station) (p : Port) : (s.setStation i x).port p = s.port p := by
  cases i <;> cases p <;> rfl
@[simp] theorem setStation_pool (i : StationId) (x : Station) (k : PoolId) : (s.setStation i x).pool k = s.pool k := by
  cases i <;> cases k <;> rfl
@[simp] theorem setStation_queue (i : StationId) (x : Station) (c : MachineClass) :
    (s.setStation i x).queue c = s.queue c := by cases i <;> cases c <;> rfl
@[simp] theorem setStation_inForce (i : StationId) (x : Station) : (s.setStation i x).inForce = s.inForce := by cases i <;> rfl

@[simp] theorem setQueue_machine (c : MachineClass) (q : ClaimQueue) (a : Addr) : (s.setQueue c q).machine a = s.machine a := by
  cases c <;> rfl
@[simp] theorem setQueue_port (c : MachineClass) (q : ClaimQueue) (p : Port) : (s.setQueue c q).port p = s.port p := by
  cases c <;> cases p <;> rfl
@[simp] theorem setQueue_inForce (c : MachineClass) (q : ClaimQueue) : (s.setQueue c q).inForce = s.inForce := by
  cases c <;> rfl

/-! ## Flags -/

@[simp] theorem setFlag_receiver (e : Event) (x : PortState) : (setFlag e x).receiver = x.receiver := rfl
@[simp] theorem setFlag_replies (e : Event) (x : PortState) : (setFlag e x).replies = x.replies := rfl
@[simp] theorem setFlag_mask (e : Event) (x : PortState) : (setFlag e x).mask = x.mask := rfl
@[simp] theorem setFlag_flags (e : Event) (x : PortState) : (setFlag e x).flags = x.flags ||| eventBit e := rfl

/-- Raising an event a second time changes nothing more (R162). -/
@[simp] theorem raise_raise (e : Event) : raise e (raise e s) = raise e s := by
  simp [raise, setFlag, BitVec.or_assoc]

end Sys2Proof.Machine
end

