-- ==== Sys2Proof/Laws/Touch.lean ====
section
/-! SUPPORT. What each shared operation can touch, said once: `Touches ps s t` says that `t` differs from `s` only in the
parts named in `ps`. Each operation has one lemma, in the form of an equivalence that `simp` applies to whatever the
operation is applied to; `touched_of` turns it into what a proof cites: an unnamed part is unchanged. -/

namespace Sys2Proof.Machine

theorem Same.refl (p : Part) (s : State) : Same p s s := by cases p <;> simp [Same, samePort]

theorem Same.symm {p : Part} {s t : State} (h : Same p s t) : Same p t s := by
  cases p <;> simp_all [Same, samePort]

theorem Same.trans {p : Part} {s t u : State} (h : Same p s t) (k : Same p t u) : Same p s u := by
  cases p <;> simp_all [Same, samePort]

@[simp] theorem Touches.refl (ps : List Part) (s : State) : Touches ps s s := fun p _ => Same.refl p s

theorem Touches.trans {ps : List Part} {s t u : State} (h : Touches ps s t) (k : Touches ps t u) : Touches ps s u :=
  fun p hp => (h p hp).trans (k p hp)

theorem Touches.mono {ps qs : List Part} {s t : State} (h : Touches ps s t) (hs : ps ⊆ qs) : Touches qs s t :=
  fun p hp => h p (fun hq => hp (hs hq))

/-- A part that is not named is unchanged. -/
theorem Touches.same {ps : List Part} {s t : State} (h : Touches ps s t) (p : Part) (hp : p ∉ ps) : Same p s t := h p hp

/-- An operation that touches only parts of `ps` is of no account to what differs outside `ps`. -/
theorem Touches.iff {ps qs : List Part} {s t u : State} (h : Touches qs t u) (hs : qs ⊆ ps) : Touches ps s u ↔ Touches ps s t :=
  ⟨fun k p hp => (k p hp).trans (((h.mono hs) p hp).symm), fun k => k.trans (h.mono hs)⟩

/-- From the equivalence of an operation to what it touches. -/
theorem touched_of {ps : List Part} {s t : State} (h : Touches ps s t ↔ Touches ps s s) : Touches ps s t :=
  h.mpr (Touches.refl ps s)

theorem Touches.foldl {α : Type} {ps : List Part} {f : State → α → State} (h : ∀ s x, Touches ps s (f s x)) (xs : List α) :
    ∀ s, Touches ps s (xs.foldl f s) := by
  induction xs with
  | nil => exact fun s => Touches.refl ps s
  | cons x xs ih => exact fun s => (h s x).trans (ih (f s x))

variable {ps : List Part} {s t : State}

/-! ## The plainest updates -/

@[simp] theorem touches_setMachine (h : [Part.machines] ⊆ ps) (a : Addr) (m : MachineRecord) :
    Touches ps s (t.setMachine a m) ↔ Touches ps s t := by
  refine Touches.iff (qs := [.machines]) (fun p hp => ?_) h
  cases p <;> simp_all [Same, samePort]

@[simp] theorem touches_raise (h : [Part.flags] ⊆ ps) (e : Event) : Touches ps s (raise e t) ↔ Touches ps s t := by
  refine Touches.iff (qs := [.flags]) (fun p hp => ?_) h
  cases p <;> simp_all [Same, samePort, raise, setFlag]

@[simp] theorem touches_setPool (h : [Part.pools] ⊆ ps) (k : PoolId) (p : Pool) :
    Touches ps s (t.setPool k p) ↔ Touches ps s t := by
  refine Touches.iff (qs := [.pools]) (fun q hp => ?_) h
  cases q <;> simp_all [Same, samePort]

@[simp] theorem touches_setStation (h : [Part.stations] ⊆ ps) (i : StationId) (x : Station) :
    Touches ps s (t.setStation i x) ↔ Touches ps s t := by
  refine Touches.iff (qs := [.stations]) (fun q hp => ?_) h
  cases q <;> simp_all [Same, samePort]

@[simp] theorem touches_setDebitCopy (h : [Part.doubts] ⊆ ps) (i : StationId) (d : Option DebitCopy) :
    Touches ps s (t.setDebitCopy i d) ↔ Touches ps s t := by
  refine Touches.iff (qs := [.doubts]) (fun q hp => ?_) h
  cases q <;> simp_all [Same, samePort]

@[simp] theorem touches_setQueue (h : [Part.claims] ⊆ ps) (c : MachineClass) (q : ClaimQueue) :
    Touches ps s (t.setQueue c q) ↔ Touches ps s t := by
  refine Touches.iff (qs := [.claims]) (fun p hp => ?_) h
  cases p <;> simp_all [Same, samePort]

@[simp] theorem touches_session (h : [Part.session] ⊆ ps) (x : Option Session) :
    Touches ps s { t with session := x } ↔ Touches ps s t := by
  refine Touches.iff (qs := [.session]) (fun p hp => ?_) h
  cases p <;> simp_all [Same, samePort]

@[simp] theorem touches_faults (h : [Part.faults] ⊆ ps) (x : List FaultRecord) :
    Touches ps s { t with faults := x } ↔ Touches ps s t := by
  refine Touches.iff (qs := [.faults]) (fun p hp => ?_) h
  cases p <;> simp_all [Same, samePort]

@[simp] theorem touches_refunds (h : [Part.money] ⊆ ps) (x : List RefundEntry) :
    Touches ps s { t with refunds := x } ↔ Touches ps s t := by
  refine Touches.iff (qs := [.money]) (fun p hp => ?_) h
  cases p <;> simp_all [Same, samePort]

@[simp] theorem touches_audit (h : [Part.money] ⊆ ps) (x : Audit) : Touches ps s { t with audit := x } ↔ Touches ps s t := by
  refine Touches.iff (qs := [.money]) (fun p hp => ?_) h
  cases p <;> simp_all [Same, samePort]

@[simp] theorem touches_doubts (h : [Part.doubts] ⊆ ps) (x : List Doubt) :
    Touches ps s { t with doubts := x } ↔ Touches ps s t := by
  refine Touches.iff (qs := [.doubts]) (fun p hp => ?_) h
  cases p <;> simp_all [Same, samePort]

@[simp] theorem touches_cycleCounter (h : [Part.counter] ⊆ ps) (n : Nat) :
    Touches ps s { t with cycleCounter := n } ↔ Touches ps s t := by
  refine Touches.iff (qs := [.counter]) (fun p hp => ?_) h
  cases p <;> simp_all [Same, samePort]

@[simp] theorem touches_slot (h : [Part.bus] ⊆ ps) (x : Option Addr) : Touches ps s { t with slot := x } ↔ Touches ps s t := by
  refine Touches.iff (qs := [.bus]) (fun p hp => ?_) h
  cases p <;> simp_all [Same, samePort]

@[simp] theorem touches_store (h : [Part.loader] ⊆ ps) (x : Option StoreJob) :
    Touches ps s { t with store := x } ↔ Touches ps s t := by
  refine Touches.iff (qs := [.loader]) (fun p hp => ?_) h
  cases p <;> simp_all [Same, samePort]

@[simp] theorem touches_tables (h : [Part.loader] ⊆ ps) (x : Tables) :
    Touches ps s { t with tables := x } ↔ Touches ps s t := by
  refine Touches.iff (qs := [.loader]) (fun p hp => ?_) h
  cases p <;> simp_all [Same, samePort]

end Sys2Proof.Machine
end

