-- ==== Sys2Proof/Laws/Frames.lean ====
section
/-! SUPPORT. What each shared operation can touch: one pair of lemmas for each, in the order of the operations' files. -/

namespace Sys2Proof.Machine

variable {ps : List Part} {s t : State}

@[simp] theorem touches_ite (c : Prop) [Decidable c] (x y : State) :
    Touches ps s (if c then x else y) ↔ (c → Touches ps s x) ∧ (¬c → Touches ps s y) := by
  by_cases h : c <;> simp [h]

/-! ## Records, the display line and the command slots -/

theorem touched_modifyMachine (a : Addr) (f : MachineRecord → MachineRecord) (t : State) : Touches [.machines] t (modifyMachine a f t) := by
  unfold modifyMachine
  try dsimp only
  all_goals simp

@[simp] theorem touches_modifyMachine (h : [Part.machines] ⊆ ps) (a : Addr) (f : MachineRecord → MachineRecord) :
    Touches ps s (modifyMachine a f t) ↔ Touches ps s t := Touches.iff (touched_modifyMachine a f t) h

theorem touched_modifyBus (a : Addr) (f : BusFields → BusFields) (t : State) : Touches [.machines] t (modifyBus a f t) := by
  unfold modifyBus
  try dsimp only
  all_goals simp

@[simp] theorem touches_modifyBus (h : [Part.machines] ⊆ ps) (a : Addr) (f : BusFields → BusFields) :
    Touches ps s (modifyBus a f t) ↔ Touches ps s t := Touches.iff (touched_modifyBus a f t) h

theorem touched_modifyCycle (a : Addr) (f : Cycle → Cycle) (t : State) : Touches [.machines] t (modifyCycle a f t) := by
  unfold modifyCycle
  try dsimp only
  all_goals simp

@[simp] theorem touches_modifyCycle (h : [Part.machines] ⊆ ps) (a : Addr) (f : Cycle → Cycle) :
    Touches ps s (modifyCycle a f t) ↔ Touches ps s t := Touches.iff (touched_modifyCycle a f t) h

theorem touched_post (a : Addr) (cmd : BusCommand) (poster : Poster) (t : State) : Touches [.machines] t (post a cmd poster t) := by
  unfold post
  try dsimp only
  all_goals simp

@[simp] theorem touches_post (h : [Part.machines] ⊆ ps) (a : Addr) (cmd : BusCommand) (poster : Poster) :
    Touches ps s (post a cmd poster t) ↔ Touches ps s t := Touches.iff (touched_post a cmd poster t) h

theorem touched_modifyStation (i : StationId) (f : Station → Station) (t : State) : Touches [.stations] t (modifyStation i f t) := by
  unfold modifyStation
  try dsimp only
  all_goals simp

@[simp] theorem touches_modifyStation (h : [Part.stations] ⊆ ps) (i : StationId) (f : Station → Station) :
    Touches ps s (modifyStation i f t) ↔ Touches ps s t := Touches.iff (touched_modifyStation i f t) h

theorem touched_display (i : StationId) (m : Message) (t : State) : Touches [.stations] t (display i m t) := by
  unfold display
  try dsimp only
  all_goals simp

@[simp] theorem touches_display (h : [Part.stations] ⊆ ps) (i : StationId) (m : Message) :
    Touches ps s (display i m t) ↔ Touches ps s t := Touches.iff (touched_display i m t) h

theorem touched_raiseIf (b : Bool) (e : Event) (t : State) : Touches [.flags] t (raiseIf b e t) := by
  unfold raiseIf
  try dsimp only
  repeat' split
  all_goals simp

@[simp] theorem touches_raiseIf (h : [Part.flags] ⊆ ps) (b : Bool) (e : Event) :
    Touches ps s (raiseIf b e t) ↔ Touches ps s t := Touches.iff (touched_raiseIf b e t) h

theorem touched_moveTo (a : Addr) (st : MachineState) (t : State) : Touches [.machines, .flags] t (moveTo a st t) := by
  unfold moveTo
  try dsimp only
  all_goals simp

@[simp] theorem touches_moveTo (h : [Part.machines, Part.flags] ⊆ ps) (a : Addr) (st : MachineState) :
    Touches ps s (moveTo a st t) ↔ Touches ps s t := Touches.iff (touched_moveTo a st t) h

/-! ## Claim queues, locks and faults -/

theorem touched_changeQueue (c : MachineClass) (f : ClaimQueue → ClaimQueue) (t : State) : Touches [.claims, .flags] t (changeQueue c f t) := by
  unfold changeQueue
  try dsimp only
  all_goals simp

@[simp] theorem touches_changeQueue (h : [Part.claims, Part.flags] ⊆ ps) (c : MachineClass) (f : ClaimQueue → ClaimQueue) :
    Touches ps s (changeQueue c f t) ↔ Touches ps s t := Touches.iff (touched_changeQueue c f t) h

theorem touched_placeHold (a : Addr) (t : State) : Touches [.machines, .flags, .claims] t (placeHold a t).1 := by
  unfold placeHold
  try dsimp only
  split <;> simp

@[simp] theorem touches_placeHold (h : [Part.machines, Part.flags, Part.claims] ⊆ ps) (a : Addr) :
    Touches ps s (placeHold a t).1 ↔ Touches ps s t := Touches.iff (touched_placeHold a t) h

theorem touched_offer (a : Addr) (t : State) : Touches [.machines, .flags, .claims] t (offer a t) := by
  have h := touched_placeHold a t
  unfold offer
  split <;> (rename_i e; rw [e] at h)
  all_goals simp_all

@[simp] theorem touches_offer (h : [Part.machines, Part.flags, Part.claims] ⊆ ps) (a : Addr) :
    Touches ps s (offer a t) ↔ Touches ps s t := Touches.iff (touched_offer a t) h

theorem touched_reoffer (a : Addr) (t : State) : Touches [.machines, .flags, .claims] t (reoffer a t) := by
  have h := touched_placeHold a t
  unfold reoffer
  split <;> (rename_i e; rw [e] at h)
  all_goals (try dsimp only); repeat' split
  all_goals simp_all

@[simp] theorem touches_reoffer (h : [Part.machines, Part.flags, Part.claims] ⊆ ps) (a : Addr) :
    Touches ps s (reoffer a t) ↔ Touches ps s t := Touches.iff (touched_reoffer a t) h

theorem touched_handBack (a : Addr) (t : State) : Touches [.machines, .flags, .claims] t (handBack a t) := by
  unfold handBack
  try dsimp only
  repeat' split
  all_goals simp

@[simp] theorem touches_handBack (h : [Part.machines, Part.flags, Part.claims] ⊆ ps) (a : Addr) :
    Touches ps s (handBack a t) ↔ Touches ps s t := Touches.iff (touched_handBack a t) h

theorem touched_expireHold (a : Addr) (t : State) : Touches [.machines, .flags, .claims] t (expireHold a t) := by
  unfold expireHold
  try dsimp only
  all_goals simp

@[simp] theorem touches_expireHold (h : [Part.machines, Part.flags, Part.claims] ⊆ ps) (a : Addr) :
    Touches ps s (expireHold a t) ↔ Touches ps s t := Touches.iff (touched_expireHold a t) h

theorem touched_holderPays (a : Addr) (t : State) : Touches [.machines, .flags, .claims] t (holderPays a t) := by
  unfold holderPays
  try dsimp only
  all_goals simp

@[simp] theorem touches_holderPays (h : [Part.machines, Part.flags, Part.claims] ⊆ ps) (a : Addr) :
    Touches ps s (holderPays a t) ↔ Touches ps s t := Touches.iff (touched_holderPays a t) h

theorem touched_holderStopsPaying (a : Addr) (t : State) : Touches [.machines, .flags, .claims] t (holderStopsPaying a t) := by
  unfold holderStopsPaying
  try dsimp only
  repeat' split
  all_goals simp

@[simp] theorem touches_holderStopsPaying (h : [Part.machines, Part.flags, Part.claims] ⊆ ps) (a : Addr) :
    Touches ps s (holderStopsPaying a t) ↔ Touches ps s t := Touches.iff (touched_holderStopsPaying a t) h

theorem touched_claimServed (a : Addr) (card : Nat) (t : State) : Touches [.machines, .flags, .claims] t (claimServed a card t) := by
  unfold claimServed
  try dsimp only
  repeat' split
  all_goals simp

@[simp] theorem touches_claimServed (h : [Part.machines, Part.flags, Part.claims] ⊆ ps) (a : Addr) (card : Nat) :
    Touches ps s (claimServed a card t) ↔ Touches ps s t := Touches.iff (touched_claimServed a card t) h

theorem touched_setLock (a : Addr) (kind : Lock) (t : State) : Touches [.machines, .flags] t (setLock a kind t) := by
  unfold setLock
  try dsimp only
  repeat' split
  all_goals simp

@[simp] theorem touches_setLock (h : [Part.machines, Part.flags] ⊆ ps) (a : Addr) (kind : Lock) :
    Touches ps s (setLock a kind t) ↔ Touches ps s t := Touches.iff (touched_setLock a kind t) h

theorem touched_setPending (a : Addr) (t : State) : Touches [.machines, .flags] t (setPending a t) := by
  unfold setPending
  try dsimp only
  repeat' split
  all_goals simp

@[simp] theorem touches_setPending (h : [Part.machines, Part.flags] ⊆ ps) (a : Addr) :
    Touches ps s (setPending a t) ↔ Touches ps s t := Touches.iff (touched_setPending a t) h

theorem touched_applyLock (a : Addr) (kind : Lock) (t : State) : Touches [.machines, .flags, .claims] t (applyLock a kind t) := by
  unfold applyLock
  try dsimp only
  repeat' split
  all_goals simp

@[simp] theorem touches_applyLock (h : [Part.machines, Part.flags, Part.claims] ⊆ ps) (a : Addr) (kind : Lock) :
    Touches ps s (applyLock a kind t) ↔ Touches ps s t := Touches.iff (touched_applyLock a kind t) h

theorem touched_strike (a : Addr) (x : Handing) (t : State) : Touches [.machines, .flags, .claims] t (strike a x t) := by
  unfold strike
  try dsimp only
  repeat' split
  all_goals simp

@[simp] theorem touches_strike (h : [Part.machines, Part.flags, Part.claims] ⊆ ps) (a : Addr) (x : Handing) :
    Touches ps s (strike a x t) ↔ Touches ps s t := Touches.iff (touched_strike a x t) h

theorem touched_forcedLock (a : Addr) (x : Handing) (t : State) : Touches [.machines, .flags, .claims] t (forcedLock a x t) := by
  unfold forcedLock
  try dsimp only
  repeat' split
  all_goals simp

@[simp] theorem touches_forcedLock (h : [Part.machines, Part.flags, Part.claims] ⊆ ps) (a : Addr) (x : Handing) :
    Touches ps s (forcedLock a x t) ↔ Touches ps s t := Touches.iff (touched_forcedLock a x t) h

theorem touched_handFault (x : Handing) (t : State) : Touches [.machines, .flags, .claims, .faults] t (handFault x t) := by
  unfold handFault
  try dsimp only
  repeat' split
  all_goals simp

@[simp] theorem touches_handFault (h : [Part.machines, Part.flags, Part.claims, Part.faults] ⊆ ps) (x : Handing) :
    Touches ps s (handFault x t) ↔ Touches ps s t := Touches.iff (touched_handFault x t) h

/-! ## Pools and grants -/

theorem touched_startPhase (a : Addr) (t : State) : Touches [.machines] t (startPhase a t) := by
  unfold startPhase
  try dsimp only
  repeat' split
  all_goals simp

@[simp] theorem touches_startPhase (h : [Part.machines] ⊆ ps) (a : Addr) :
    Touches ps s (startPhase a t) ↔ Touches ps s t := Touches.iff (touched_startPhase a t) h

theorem touched_resumePhase (a : Addr) (t : State) : Touches [.machines] t (resumePhase a t) := by
  unfold resumePhase
  try dsimp only
  all_goals simp

@[simp] theorem touches_resumePhase (h : [Part.machines] ⊆ ps) (a : Addr) :
    Touches ps s (resumePhase a t) ↔ Touches ps s t := Touches.iff (touched_resumePhase a t) h

theorem touched_startServicePhase (t : State) : Touches [.machines, .flags, .session] t (startServicePhase t) := by
  unfold startServicePhase
  try dsimp only
  repeat' split
  all_goals simp

@[simp] theorem touches_startServicePhase (h : [Part.machines, Part.flags, Part.session] ⊆ ps) :
    Touches ps s (startServicePhase t) ↔ Touches ps s t := Touches.iff (touched_startServicePhase t) h

theorem touched_modifyRun (a : Addr) (f : TestRun → TestRun) (t : State) : Touches [.machines, .flags] t (modifyRun a f t) := by
  unfold modifyRun
  try dsimp only
  all_goals simp

@[simp] theorem touches_modifyRun (h : [Part.machines, Part.flags] ⊆ ps) (a : Addr) (f : TestRun → TestRun) :
    Touches ps s (modifyRun a f t) ↔ Touches ps s t := Touches.iff (touched_modifyRun a f t) h

theorem touched_startSubtest (a : Addr) (t : State) : Touches [.machines, .flags] t (startSubtest a t) := by
  unfold startSubtest
  try dsimp only
  repeat' split
  all_goals simp

@[simp] theorem touches_startSubtest (h : [Part.machines, Part.flags] ⊆ ps) (a : Addr) :
    Touches ps s (startSubtest a t) ↔ Touches ps s t := Touches.iff (touched_startSubtest a t) h

theorem touched_deliverGrant (e : WaitEntry) (t : State) : Touches [.machines, .flags, .session] t (deliverGrant t e) := by
  unfold deliverGrant
  try dsimp only
  repeat' split
  all_goals simp

@[simp] theorem touches_deliverGrant (h : [Part.machines, Part.flags, Part.session] ⊆ ps) (e : WaitEntry) :
    Touches ps s (deliverGrant t e) ↔ Touches ps s t := Touches.iff (touched_deliverGrant e t) h

theorem touched_scanPool (k : PoolId) (t : State) : Touches [.machines, .flags, .session, .pools] t (scanPool k t) := by
  unfold scanPool
  dsimp only
  split
  · exact (touched_of (by simp)).trans (Touches.foldl (fun u e => (touched_deliverGrant e u).mono (by simp)) _ _)
  · simp

@[simp] theorem touches_scanPool (h : [Part.machines, Part.flags, Part.session, Part.pools] ⊆ ps) (k : PoolId) :
    Touches ps s (scanPool k t) ↔ Touches ps s t := Touches.iff (touched_scanPool k t) h

theorem touched_modifyStats (k : PoolId) (f : PoolStats → PoolStats) (t : State) : Touches [.pools] t (modifyStats k f t) := by
  unfold modifyStats
  try dsimp only
  all_goals simp

@[simp] theorem touches_modifyStats (h : [Part.pools] ⊆ ps) (k : PoolId) (f : PoolStats → PoolStats) :
    Touches ps s (modifyStats k f t) ↔ Touches ps s t := Touches.iff (touched_modifyStats k f t) h

theorem touched_countWait (k : PoolId) (a : Addr) (t : State) : Touches [.pools] t (countWait k a t) := by
  unfold countWait
  try dsimp only
  repeat' split
  all_goals simp

@[simp] theorem touches_countWait (h : [Part.pools] ⊆ ps) (k : PoolId) (a : Addr) :
    Touches ps s (countWait k a t) ↔ Touches ps s t := Touches.iff (touched_countWait k a t) h

theorem touched_requestGrant (k : PoolId) (a : Addr) (purpose : Purpose) (demand : Nat) (suspendable : Bool) (t : State) : Touches [.machines, .flags, .session, .pools] t (requestGrant k a purpose demand suspendable t) := by
  unfold requestGrant
  try dsimp only
  repeat' split
  all_goals simp

@[simp] theorem touches_requestGrant (h : [Part.machines, Part.flags, Part.session, Part.pools] ⊆ ps) (k : PoolId) (a : Addr) (purpose : Purpose) (demand : Nat) (suspendable : Bool) :
    Touches ps s (requestGrant k a purpose demand suspendable t) ↔ Touches ps s t := Touches.iff (touched_requestGrant k a purpose demand suspendable t) h

theorem touched_leaveOverLimit (k : PoolId) (t : State) : Touches [.flags, .pools] t (leaveOverLimit k t) := by
  unfold leaveOverLimit
  try dsimp only
  repeat' split
  all_goals simp

@[simp] theorem touches_leaveOverLimit (h : [Part.flags, Part.pools] ⊆ ps) (k : PoolId) :
    Touches ps s (leaveOverLimit k t) ↔ Touches ps s t := Touches.iff (touched_leaveOverLimit k t) h

theorem touched_releaseFrom (k : PoolId) (a : Addr) (t : State) : Touches [.machines, .flags, .session, .pools] t (releaseFrom k a t) := by
  unfold releaseFrom
  try dsimp only
  repeat' split
  all_goals simp

@[simp] theorem touches_releaseFrom (h : [Part.machines, Part.flags, Part.session, Part.pools] ⊆ ps) (k : PoolId) (a : Addr) :
    Touches ps s (releaseFrom k a t) ↔ Touches ps s t := Touches.iff (touched_releaseFrom k a t) h

theorem touched_releaseGrant (a : Addr) (t : State) : Touches [.machines, .flags, .session, .pools] t (releaseGrant a t) := by
  unfold releaseGrant
  try dsimp only
  all_goals simp

@[simp] theorem touches_releaseGrant (h : [Part.machines, Part.flags, Part.session, Part.pools] ⊆ ps) (a : Addr) :
    Touches ps s (releaseGrant a t) ↔ Touches ps s t := Touches.iff (touched_releaseGrant a t) h

theorem touched_withdrawFrom (k : PoolId) (a : Addr) (t : State) : Touches [.machines, .flags, .session, .pools] t (withdrawFrom k a t) := by
  unfold withdrawFrom
  try dsimp only
  repeat' split
  all_goals simp

@[simp] theorem touches_withdrawFrom (h : [Part.machines, Part.flags, Part.session, Part.pools] ⊆ ps) (k : PoolId) (a : Addr) :
    Touches ps s (withdrawFrom k a t) ↔ Touches ps s t := Touches.iff (touched_withdrawFrom k a t) h

theorem touched_withdrawEntry (a : Addr) (t : State) : Touches [.machines, .flags, .session, .pools] t (withdrawEntry a t) := by
  unfold withdrawEntry
  try dsimp only
  all_goals simp

@[simp] theorem touches_withdrawEntry (h : [Part.machines, Part.flags, Part.session, Part.pools] ⊆ ps) (a : Addr) :
    Touches ps s (withdrawEntry a t) ↔ Touches ps s t := Touches.iff (touched_withdrawEntry a t) h

theorem touched_resumeFrom (k : PoolId) (a : Addr) (t : State) : Touches [.machines, .flags, .session, .pools] t (resumeFrom k a t) := by
  unfold resumeFrom
  try dsimp only
  repeat' split
  all_goals simp

@[simp] theorem touches_resumeFrom (h : [Part.machines, Part.flags, Part.session, Part.pools] ⊆ ps) (k : PoolId) (a : Addr) :
    Touches ps s (resumeFrom k a t) ↔ Touches ps s t := Touches.iff (touched_resumeFrom k a t) h

theorem touched_askResume (a : Addr) (t : State) : Touches [.machines, .flags, .session, .pools] t (askResume a t) := by
  unfold askResume
  try dsimp only
  repeat' split
  all_goals simp

@[simp] theorem touches_askResume (h : [Part.machines, Part.flags, Part.session, Part.pools] ⊆ ps) (a : Addr) :
    Touches ps s (askResume a t) ↔ Touches ps s t := Touches.iff (touched_askResume a t) h

theorem touched_markFrom (k : PoolId) (a : Addr) (t : State) : Touches [.pools] t (markFrom k a t) := by
  unfold markFrom
  try dsimp only
  repeat' split
  all_goals simp

@[simp] theorem touches_markFrom (h : [Part.pools] ⊆ ps) (k : PoolId) (a : Addr) :
    Touches ps s (markFrom k a t) ↔ Touches ps s t := Touches.iff (touched_markFrom k a t) h

theorem touched_markGrant (a : Addr) (t : State) : Touches [.pools] t (markGrant a t) := by
  unfold markGrant
  try dsimp only
  all_goals simp

@[simp] theorem touches_markGrant (h : [Part.pools] ⊆ ps) (a : Addr) :
    Touches ps s (markGrant a t) ↔ Touches ps s t := Touches.iff (touched_markGrant a t) h

/-! ## Money -/

theorem touched_modifyAudit (f : Audit → Audit) (t : State) : Touches [.money] t (modifyAudit f t) := by
  unfold modifyAudit
  try dsimp only
  all_goals simp

@[simp] theorem touches_modifyAudit (h : [Part.money] ⊆ ps) (f : Audit → Audit) :
    Touches ps s (modifyAudit f t) ↔ Touches ps s t := Touches.iff (touched_modifyAudit f t) h

theorem touched_countCharged (amount : Nat) (t : State) : Touches [.money] t (countCharged amount t) := by
  unfold countCharged
  try dsimp only
  all_goals simp

@[simp] theorem touches_countCharged (h : [Part.money] ⊆ ps) (amount : Nat) :
    Touches ps s (countCharged amount t) ↔ Touches ps s t := Touches.iff (touched_countCharged amount t) h

theorem touched_countDebitUnresolved (t : State) : Touches [.money] t (countDebitUnresolved t) := by
  unfold countDebitUnresolved
  try dsimp only
  all_goals simp

@[simp] theorem touches_countDebitUnresolved (h : [Part.money] ⊆ ps) :
    Touches ps s (countDebitUnresolved t) ↔ Touches ps s t := Touches.iff (touched_countDebitUnresolved t) h

theorem touched_countCreditUnresolved (t : State) : Touches [.money] t (countCreditUnresolved t) := by
  unfold countCreditUnresolved
  try dsimp only
  all_goals simp

@[simp] theorem touches_countCreditUnresolved (h : [Part.money] ⊆ ps) :
    Touches ps s (countCreditUnresolved t) ↔ Touches ps s t := Touches.iff (touched_countCreditUnresolved t) h

theorem touched_modifyRefunds (f : List RefundEntry → List RefundEntry) (t : State) : Touches [.money, .flags] t (modifyRefunds f t) := by
  unfold modifyRefunds
  try dsimp only
  all_goals simp

@[simp] theorem touches_modifyRefunds (h : [Part.money, Part.flags] ⊆ ps) (f : List RefundEntry → List RefundEntry) :
    Touches ps s (modifyRefunds f t) ↔ Touches ps s t := Touches.iff (touched_modifyRefunds f t) h

theorem touched_updateRefund (card : Nat) (f : RefundEntry → RefundEntry) (t : State) : Touches [.money, .flags] t (updateRefund card f t) := by
  unfold updateRefund
  try dsimp only
  all_goals simp

@[simp] theorem touches_updateRefund (h : [Part.money, Part.flags] ⊆ ps) (card : Nat) (f : RefundEntry → RefundEntry) :
    Touches ps s (updateRefund card f t) ↔ Touches ps s t := Touches.iff (touched_updateRefund card f t) h

theorem touched_removeRefund (card : Nat) (t : State) : Touches [.money, .flags] t (removeRefund card t) := by
  unfold removeRefund
  try dsimp only
  all_goals simp

@[simp] theorem touches_removeRefund (h : [Part.money, Part.flags] ⊆ ps) (card : Nat) :
    Touches ps s (removeRefund card t) ↔ Touches ps s t := Touches.iff (touched_removeRefund card t) h

theorem touched_toReady (i : StationId) (t : State) : Touches [.stations] t (toReady i t) := by
  unfold toReady
  try dsimp only
  repeat' split
  all_goals simp

@[simp] theorem touches_toReady (h : [Part.stations] ⊆ ps) (i : StationId) :
    Touches ps s (toReady i t) ↔ Touches ps s t := Touches.iff (touched_toReady i t) h

theorem touched_beginCredit (i : StationId) (e : RefundEntry) (t : State) : Touches [.stations, .money] t (beginCredit i e t) := 
  (touches_refunds (by simp) _).mpr ((touches_setStation (by simp) _ _).mpr (Touches.refl _ _))

@[simp] theorem touches_beginCredit (h : [Part.stations, Part.money] ⊆ ps) (i : StationId) (e : RefundEntry) :
    Touches ps s (beginCredit i e t) ↔ Touches ps s t := Touches.iff (touched_beginCredit i e t) h

theorem touched_settleRecord (i : StationId) (t : State) : Touches [.stations, .money] t (settleRecord i t) := by
  unfold settleRecord
  try dsimp only
  repeat' split
  all_goals simp

@[simp] theorem touches_settleRecord (h : [Part.stations, Part.money] ⊆ ps) (i : StationId) :
    Touches ps s (settleRecord i t) ↔ Touches ps s t := Touches.iff (touched_settleRecord i t) h

theorem touched_settleIfReady (i : StationId) (card : Nat) (t : State) : Touches [.stations, .money] t (settleIfReady i card t) := by
  unfold settleIfReady
  try dsimp only
  repeat' split
  all_goals simp

@[simp] theorem touches_settleIfReady (h : [Part.stations, Part.money] ⊆ ps) (i : StationId) (card : Nat) :
    Touches ps s (settleIfReady i card t) ↔ Touches ps s t := Touches.iff (touched_settleIfReady i card t) h

theorem touched_tellPlacement (card : Nat) (t : State) : Touches [.stations, .money] t (tellPlacement card t) := by
  unfold tellPlacement
  try dsimp only
  all_goals simp

@[simp] theorem touches_tellPlacement (h : [Part.stations, Part.money] ⊆ ps) (card : Nat) :
    Touches ps s (tellPlacement card t) ↔ Touches ps s t := Touches.iff (touched_tellPlacement card t) h

theorem touched_unplaced (card amount machine : Nat) (t : State) : Touches [.machines, .flags, .claims, .faults, .money] t (unplaced card amount machine t) := by
  unfold unplaced
  try dsimp only
  repeat' split
  all_goals simp

@[simp] theorem touches_unplaced (h : [Part.machines, Part.flags, Part.claims, Part.faults, Part.money] ⊆ ps) (card amount machine : Nat) :
    Touches ps s (unplaced card amount machine t) ↔ Touches ps s t := Touches.iff (touched_unplaced card amount machine t) h

theorem touched_mergeRefund (card amount machine : Nat) (t : State) : Touches [.machines, .flags, .claims, .faults, .money] t (mergeRefund card amount machine t) := by
  unfold mergeRefund
  try dsimp only
  repeat' split
  all_goals simp

@[simp] theorem touches_mergeRefund (h : [Part.machines, Part.flags, Part.claims, Part.faults, Part.money] ⊆ ps) (card amount machine : Nat) :
    Touches ps s (mergeRefund card amount machine t) ↔ Touches ps s t := Touches.iff (touched_mergeRefund card amount machine t) h

theorem touched_placeRefund (card amount machine : Nat) (t : State) : Touches [.machines, .flags, .claims, .faults, .money, .stations] t (placeRefund card amount machine t) := by
  unfold placeRefund
  try dsimp only
  repeat' split
  all_goals simp

@[simp] theorem touches_placeRefund (h : [Part.machines, Part.flags, Part.claims, Part.faults, Part.money, Part.stations] ⊆ ps) (card amount machine : Nat) :
    Touches ps s (placeRefund card amount machine t) ↔ Touches ps s t := Touches.iff (touched_placeRefund card amount machine t) h

theorem touched_creditLanded (card credit : Nat) (t : State) : Touches [.money, .flags] t (creditLanded card credit t) := by
  unfold creditLanded
  try dsimp only
  repeat' split
  all_goals simp

@[simp] theorem touches_creditLanded (h : [Part.money, Part.flags] ⊆ ps) (card credit : Nat) :
    Touches ps s (creditLanded card credit t) ↔ Touches ps s t := Touches.iff (touched_creditLanded card credit t) h

theorem touched_creditFailed (card : Nat) (t : State) : Touches [.money] t (creditFailed card t) := by
  unfold creditFailed
  try dsimp only
  all_goals simp

@[simp] theorem touches_creditFailed (h : [Part.money] ⊆ ps) (card : Nat) :
    Touches ps s (creditFailed card t) ↔ Touches ps s t := Touches.iff (touched_creditFailed card t) h

theorem touched_creditVoid (card : Nat) (t : State) : Touches [.money, .flags] t (creditVoid card t) := by
  unfold creditVoid
  try dsimp only
  all_goals simp

@[simp] theorem touches_creditVoid (h : [Part.money, Part.flags] ⊆ ps) (card : Nat) :
    Touches ps s (creditVoid card t) ↔ Touches ps s t := Touches.iff (touched_creditVoid card t) h

theorem touched_creditTorn (card : Nat) (t : State) : Touches [.money, .flags] t (creditTorn card t) := by
  unfold creditTorn
  try dsimp only
  all_goals simp

@[simp] theorem touches_creditTorn (h : [Part.money, Part.flags] ⊆ ps) (card : Nat) :
    Touches ps s (creditTorn card t) ↔ Touches ps s t := Touches.iff (touched_creditTorn card t) h

theorem touched_creditSuspect (card : Nat) (t : State) : Touches [.machines, .flags, .claims, .faults, .money] t (creditSuspect card t) := by
  unfold creditSuspect
  try dsimp only
  all_goals simp

@[simp] theorem touches_creditSuspect (h : [Part.machines, Part.flags, Part.claims, Part.faults, Part.money] ⊆ ps) (card : Nat) :
    Touches ps s (creditSuspect card t) ↔ Touches ps s t := Touches.iff (touched_creditSuspect card t) h

/-! ## Cycles -/

theorem touched_releaseToRoom (a : Addr) (t : State) : Touches [.machines, .flags, .claims] t (releaseToRoom a t) := by
  unfold releaseToRoom
  try dsimp only
  repeat' split
  all_goals simp

@[simp] theorem touches_releaseToRoom (h : [Part.machines, Part.flags, Part.claims] ⊆ ps) (a : Addr) :
    Touches ps s (releaseToRoom a t) ↔ Touches ps s t := Touches.iff (touched_releaseToRoom a t) h

theorem touched_applyUnlock (a : Addr) (t : State) : Touches [.machines, .flags, .claims] t (applyUnlock a t) := by
  unfold applyUnlock
  try dsimp only
  repeat' split
  all_goals simp

@[simp] theorem touches_applyUnlock (h : [Part.machines, Part.flags, Part.claims] ⊆ ps) (a : Addr) :
    Touches ps s (applyUnlock a t) ↔ Touches ps s t := Touches.iff (touched_applyUnlock a t) h

theorem touched_enterFinished (a : Addr) (t : State) : Touches [.machines, .flags] t (enterFinished a t) := by
  unfold enterFinished
  try dsimp only
  all_goals simp

@[simp] theorem touches_enterFinished (h : [Part.machines, Part.flags] ⊆ ps) (a : Addr) :
    Touches ps s (enterFinished a t) ↔ Touches ps s t := Touches.iff (touched_enterFinished a t) h

theorem touched_askPhase (a : Addr) (t : State) : Touches [.machines, .flags, .session, .pools] t (askPhase a t) := by
  unfold askPhase
  try dsimp only
  repeat' split
  all_goals simp

@[simp] theorem touches_askPhase (h : [Part.machines, Part.flags, Part.session, Part.pools] ⊆ ps) (a : Addr) :
    Touches ps s (askPhase a t) ↔ Touches ps s t := Touches.iff (touched_askPhase a t) h

theorem touched_enterWaiting (a : Addr) (t : State) : Touches [.machines, .flags, .session, .pools] t (enterWaiting a t) := by
  unfold enterWaiting
  try dsimp only
  all_goals simp

@[simp] theorem touches_enterWaiting (h : [Part.machines, Part.flags, Part.session, Part.pools] ⊆ ps) (a : Addr) :
    Touches ps s (enterWaiting a t) ↔ Touches ps s t := Touches.iff (touched_enterWaiting a t) h

theorem touched_stopCycle (a : Addr) (cause : StopCause) (t : State) : Touches [.machines, .flags, .session, .pools] t (stopCycle a cause t) := by
  unfold stopCycle
  try dsimp only
  repeat' split
  all_goals simp

@[simp] theorem touches_stopCycle (h : [Part.machines, Part.flags, Part.session, Part.pools] ⊆ ps) (a : Addr) (cause : StopCause) :
    Touches ps s (stopCycle a cause t) ↔ Touches ps s t := Touches.iff (touched_stopCycle a cause t) h

theorem touched_settleRefund (a : Addr) (cause : StopCause) (t : State) : Touches [.machines, .flags, .claims, .faults, .money, .stations] t (settleRefund a cause t) := by
  unfold settleRefund
  try dsimp only
  repeat' split
  all_goals simp

@[simp] theorem touches_settleRefund (h : [Part.machines, Part.flags, Part.claims, Part.faults, Part.money, Part.stations] ⊆ ps) (a : Addr) (cause : StopCause) :
    Touches ps s (settleRefund a cause t) ↔ Touches ps s t := Touches.iff (touched_settleRefund a cause t) h

theorem touched_confirmStop (a : Addr) (t : State) : Touches [.machines, .flags, .claims, .faults, .money, .stations, .session, .pools] t (confirmStop a t) := by
  unfold confirmStop
  try dsimp only
  repeat' split
  all_goals simp

@[simp] theorem touches_confirmStop (h : [Part.machines, Part.flags, Part.claims, Part.faults, Part.money, Part.stations, Part.session, Part.pools] ⊆ ps) (a : Addr) :
    Touches ps s (confirmStop a t) ↔ Touches ps s t := Touches.iff (touched_confirmStop a t) h

theorem touched_timeoutStop (a : Addr) (t : State) : Touches [.machines, .flags, .claims, .faults, .session, .pools] t (timeoutStop a t) := by
  unfold timeoutStop
  try dsimp only
  all_goals simp

@[simp] theorem touches_timeoutStop (h : [Part.machines, Part.flags, Part.claims, Part.faults, Part.session, Part.pools] ⊆ ps) (a : Addr) :
    Touches ps s (timeoutStop a t) ↔ Touches ps s t := Touches.iff (touched_timeoutStop a t) h

theorem touched_beginSuspend (a : Addr) (t : State) : Touches [.machines, .pools] t (beginSuspend a t) := by
  unfold beginSuspend
  try dsimp only
  all_goals simp

@[simp] theorem touches_beginSuspend (h : [Part.machines, Part.pools] ⊆ ps) (a : Addr) :
    Touches ps s (beginSuspend a t) ↔ Touches ps s t := Touches.iff (touched_beginSuspend a t) h

theorem touched_completePhase (a : Addr) (t : State) : Touches [.machines, .flags, .session, .pools] t (completePhase a t) := by
  unfold completePhase
  try dsimp only
  repeat' split
  all_goals simp

@[simp] theorem touches_completePhase (h : [Part.machines, Part.flags, Part.session, Part.pools] ⊆ ps) (a : Addr) :
    Touches ps s (completePhase a t) ↔ Touches ps s t := Touches.iff (touched_completePhase a t) h

theorem touched_confirmSuspend (a : Addr) (t : State) : Touches [.machines, .flags, .session, .pools] t (confirmSuspend a t) := by
  unfold confirmSuspend
  try dsimp only
  repeat' split
  all_goals simp

@[simp] theorem touches_confirmSuspend (h : [Part.machines, Part.flags, Part.session, Part.pools] ⊆ ps) (a : Addr) :
    Touches ps s (confirmSuspend a t) ↔ Touches ps s t := Touches.iff (touched_confirmSuspend a t) h

theorem touched_washerDoorOpen (a : Addr) (t : State) : Touches [.machines, .flags, .claims, .faults, .session, .pools] t (washerDoorOpen a t) := by
  unfold washerDoorOpen
  try dsimp only
  repeat' split
  all_goals simp

@[simp] theorem touches_washerDoorOpen (h : [Part.machines, Part.flags, Part.claims, Part.faults, Part.session, Part.pools] ⊆ ps) (a : Addr) :
    Touches ps s (washerDoorOpen a t) ↔ Touches ps s t := Touches.iff (touched_washerDoorOpen a t) h

theorem touched_dryerDoorOpen (a : Addr) (t : State) : Touches [.machines, .flags, .session, .pools] t (dryerDoorOpen a t) := by
  unfold dryerDoorOpen
  try dsimp only
  repeat' split
  all_goals simp

@[simp] theorem touches_dryerDoorOpen (h : [Part.machines, Part.flags, Part.session, Part.pools] ⊆ ps) (a : Addr) :
    Touches ps s (dryerDoorOpen a t) ↔ Touches ps s t := Touches.iff (touched_dryerDoorOpen a t) h

theorem touched_dryerDoorClosed (a : Addr) (t : State) : Touches [.machines, .flags, .session, .pools] t (dryerDoorClosed a t) := by
  unfold dryerDoorClosed
  try dsimp only
  repeat' split
  all_goals simp

@[simp] theorem touches_dryerDoorClosed (h : [Part.machines, Part.flags, Part.session, Part.pools] ⊆ ps) (a : Addr) :
    Touches ps s (dryerDoorClosed a t) ↔ Touches ps s t := Touches.iff (touched_dryerDoorClosed a t) h

theorem touched_runningDoor (a : Addr) (door : Option Door) (t : State) : Touches [.machines, .flags, .claims, .faults, .session, .pools] t (runningDoor a door t) := by
  unfold runningDoor
  try dsimp only
  repeat' split
  all_goals simp

@[simp] theorem touches_runningDoor (h : [Part.machines, Part.flags, Part.claims, Part.faults, Part.session, Part.pools] ⊆ ps) (a : Addr) (door : Option Door) :
    Touches ps s (runningDoor a door t) ↔ Touches ps s t := Touches.iff (touched_runningDoor a door t) h

theorem touched_takeCycleNumber (t : State) : Touches [.counter] t (takeCycleNumber t) := by
  unfold takeCycleNumber
  try dsimp only
  all_goals simp

@[simp] theorem touches_takeCycleNumber (h : [Part.counter] ⊆ ps) :
    Touches ps s (takeCycleNumber t) ↔ Touches ps s t := Touches.iff (touched_takeCycleNumber t) h

theorem touched_closeStart (a : Addr) (p : Payment) (t : State) : Touches [.machines, .flags, .claims, .faults, .money, .stations, .counter] t (closeStart a p t) := by
  unfold closeStart
  try dsimp only
  repeat' split
  all_goals simp

@[simp] theorem touches_closeStart (h : [Part.machines, Part.flags, Part.claims, Part.faults, Part.money, Part.stations, Part.counter] ⊆ ps) (a : Addr) (p : Payment) :
    Touches ps s (closeStart a p t) ↔ Touches ps s t := Touches.iff (touched_closeStart a p t) h

theorem touched_openStart (a : Addr) (p : Payment) (t : State) : Touches [.machines, .flags, .claims, .faults, .session, .pools, .counter] t (openStart a p t) := by
  unfold openStart
  try dsimp only
  all_goals simp

@[simp] theorem touches_openStart (h : [Part.machines, Part.flags, Part.claims, Part.faults, Part.session, Part.pools, Part.counter] ⊆ ps) (a : Addr) (p : Payment) :
    Touches ps s (openStart a p t) ↔ Touches ps s t := Touches.iff (touched_openStart a p t) h

theorem touched_commitStart (a : Addr) (t : State) :
    Touches [.machines, .flags, .claims, .faults, .money, .stations, .session, .pools, .counter] t (commitStart a t).1 := by
  unfold commitStart
  dsimp only
  split
  · simp
  · split <;> simp

@[simp] theorem touches_commitStart
    (h : [Part.machines, Part.flags, Part.claims, Part.faults, Part.money, Part.stations, Part.session, Part.pools,
      Part.counter] ⊆ ps) (a : Addr) :
    Touches ps s (commitStart a t).1 ↔ Touches ps s t := Touches.iff (touched_commitStart a t) h

theorem touched_beginStart (a : Addr) (card : Nat) (x : Purchase) (t : State) : Touches [.machines, .flags, .claims, .faults, .money, .stations, .session, .pools, .counter] t (beginStart a card x t) := by
  unfold beginStart
  try dsimp only
  repeat' split
  all_goals simp

@[simp] theorem touches_beginStart (h : [Part.machines, Part.flags, Part.claims, Part.faults, Part.money, Part.stations, Part.session, Part.pools, Part.counter] ⊆ ps) (a : Addr) (card : Nat) (x : Purchase) :
    Touches ps s (beginStart a card x t) ↔ Touches ps s t := Touches.iff (touched_beginStart a card x t) h

theorem touched_abandonStart (a : Addr) (t : State) : Touches [.machines, .flags, .claims] t (abandonStart a t) := by
  unfold abandonStart
  try dsimp only
  repeat' split
  all_goals simp

@[simp] theorem touches_abandonStart (h : [Part.machines, Part.flags, Part.claims] ⊆ ps) (a : Addr) :
    Touches ps s (abandonStart a t) ↔ Touches ps s t := Touches.iff (touched_abandonStart a t) h

theorem touched_beginTopUp (a : Addr) (x : TopUp) (t : State) : Touches [.machines] t (beginTopUp a x t) := by
  unfold beginTopUp
  try dsimp only
  all_goals simp

@[simp] theorem touches_beginTopUp (h : [Part.machines] ⊆ ps) (a : Addr) (x : TopUp) :
    Touches ps s (beginTopUp a x t) ↔ Touches ps s t := Touches.iff (touched_beginTopUp a x t) h

theorem touched_clearTopUp (a : Addr) (card : Nat) (t : State) : Touches [.machines] t (clearTopUp a card t) := by
  unfold clearTopUp
  try dsimp only
  repeat' split
  all_goals simp

@[simp] theorem touches_clearTopUp (h : [Part.machines] ⊆ ps) (a : Addr) (card : Nat) :
    Touches ps s (clearTopUp a card t) ↔ Touches ps s t := Touches.iff (touched_clearTopUp a card t) h

theorem touched_commitTopUp (a : Addr) (card amount : Nat) (t : State) :
    Touches [.machines, .flags, .claims, .faults, .money, .stations] t (commitTopUp a card amount t).1 := by
  unfold commitTopUp
  repeat' split
  all_goals simp

@[simp] theorem touches_commitTopUp
    (h : [Part.machines, Part.flags, Part.claims, Part.faults, Part.money, Part.stations] ⊆ ps) (a : Addr) (card amount : Nat) :
    Touches ps s (commitTopUp a card amount t).1 ↔ Touches ps s t := Touches.iff (touched_commitTopUp a card amount t) h

/-! ## Sessions, service phases and self-tests -/

theorem touched_endSession (t : State) : Touches [.machines, .flags, .session, .claims] t (endSession t) := by
  unfold endSession
  try dsimp only
  repeat' split
  all_goals simp

@[simp] theorem touches_endSession (h : [Part.machines, Part.flags, Part.session, Part.claims] ⊆ ps) :
    Touches ps s (endSession t) ↔ Touches ps s t := Touches.iff (touched_endSession t) h

theorem touched_endIfClosing (a : Addr) (t : State) : Touches [.machines, .flags, .session, .claims] t (endIfClosing a t) := by
  unfold endIfClosing
  try dsimp only
  repeat' split
  all_goals simp

@[simp] theorem touches_endIfClosing (h : [Part.machines, Part.flags, Part.session, Part.claims] ⊆ ps) (a : Addr) :
    Touches ps s (endIfClosing a t) ↔ Touches ps s t := Touches.iff (touched_endIfClosing a t) h

theorem touched_finishTest (a : Addr) (outcome : TestOutcome) (code : Nat) (t : State) : Touches [.machines, .flags, .claims, .faults, .session] t (finishTest a outcome code t) := by
  unfold finishTest
  try dsimp only
  repeat' split
  all_goals simp

@[simp] theorem touches_finishTest (h : [Part.machines, Part.flags, Part.claims, Part.faults, Part.session] ⊆ ps) (a : Addr) (outcome : TestOutcome) (code : Nat) :
    Touches ps s (finishTest a outcome code t) ↔ Touches ps s t := Touches.iff (touched_finishTest a outcome code t) h

theorem touched_beginSubtest (a : Addr) (t : State) : Touches [.machines, .flags, .session, .pools] t (beginSubtest a t) := by
  unfold beginSubtest
  try dsimp only
  repeat' split
  all_goals simp

@[simp] theorem touches_beginSubtest (h : [Part.machines, Part.flags, Part.session, Part.pools] ⊆ ps) (a : Addr) :
    Touches ps s (beginSubtest a t) ↔ Touches ps s t := Touches.iff (touched_beginSubtest a t) h

theorem touched_windDownTest (a : Addr) (cause : StopCause) (outcome : TestOutcome) (code : Nat) (override : Bool) (t : State) : Touches [.machines, .flags, .claims, .faults, .session, .pools] t (windDownTest a cause outcome code override t) := by
  unfold windDownTest
  try dsimp only
  repeat' split
  all_goals simp

@[simp] theorem touches_windDownTest (h : [Part.machines, Part.flags, Part.claims, Part.faults, Part.session, Part.pools] ⊆ ps) (a : Addr) (cause : StopCause) (outcome : TestOutcome) (code : Nat) (override : Bool) :
    Touches ps s (windDownTest a cause outcome code override t) ↔ Touches ps s t := Touches.iff (touched_windDownTest a cause outcome code override t) h

theorem touched_subtestDone (a : Addr) (code : Nat) (t : State) : Touches [.machines, .flags, .claims, .faults, .session, .pools] t (subtestDone a code t) := by
  unfold subtestDone
  try dsimp only
  repeat' split
  all_goals simp

@[simp] theorem touches_subtestDone (h : [Part.machines, Part.flags, Part.claims, Part.faults, Part.session, Part.pools] ⊆ ps) (a : Addr) (code : Nat) :
    Touches ps s (subtestDone a code t) ↔ Touches ps s t := Touches.iff (touched_subtestDone a code t) h

theorem touched_subtestTimeout (a : Addr) (t : State) : Touches [.machines, .flags, .claims, .faults, .session, .pools] t (subtestTimeout a t) := by
  unfold subtestTimeout
  try dsimp only
  all_goals simp

@[simp] theorem touches_subtestTimeout (h : [Part.machines, Part.flags, Part.claims, Part.faults, Part.session, Part.pools] ⊆ ps) (a : Addr) :
    Touches ps s (subtestTimeout a t) ↔ Touches ps s t := Touches.iff (touched_subtestTimeout a t) h

theorem touched_modifyPhase (f : ServicePhase → ServicePhase) (t : State) : Touches [.flags, .session] t (modifyPhase f t) := by
  unfold modifyPhase
  try dsimp only
  all_goals simp

@[simp] theorem touches_modifyPhase (h : [Part.flags, Part.session] ⊆ ps) (f : ServicePhase → ServicePhase) :
    Touches ps s (modifyPhase f t) ↔ Touches ps s t := Touches.iff (touched_modifyPhase f t) h

theorem touched_finishPhase (a : Addr) (outcome : PhaseOutcome) (t : State) : Touches [.machines, .flags, .claims, .session] t (finishPhase a outcome t) := by
  unfold finishPhase
  try dsimp only
  all_goals simp

@[simp] theorem touches_finishPhase (h : [Part.machines, Part.flags, Part.claims, Part.session] ⊆ ps) (a : Addr) (outcome : PhaseOutcome) :
    Touches ps s (finishPhase a outcome t) ↔ Touches ps s t := Touches.iff (touched_finishPhase a outcome t) h

theorem touched_windDownPhase (a : Addr) (cause : StopCause) (outcome : PhaseOutcome) (t : State) : Touches [.machines, .flags, .claims, .session, .pools] t (windDownPhase a cause outcome t) := by
  unfold windDownPhase
  try dsimp only
  repeat' split
  all_goals simp

@[simp] theorem touches_windDownPhase (h : [Part.machines, Part.flags, Part.claims, Part.session, Part.pools] ⊆ ps) (a : Addr) (cause : StopCause) (outcome : PhaseOutcome) :
    Touches ps s (windDownPhase a cause outcome t) ↔ Touches ps s t := Touches.iff (touched_windDownPhase a cause outcome t) h

theorem touched_phaseTimeout (a : Addr) (t : State) : Touches [.machines, .flags, .claims, .faults, .session, .pools] t (phaseTimeout a t) := by
  unfold phaseTimeout
  try dsimp only
  all_goals simp

@[simp] theorem touches_phaseTimeout (h : [Part.machines, Part.flags, Part.claims, Part.faults, Part.session, Part.pools] ⊆ ps) (a : Addr) :
    Touches ps s (phaseTimeout a t) ↔ Touches ps s t := Touches.iff (touched_phaseTimeout a t) h

theorem touched_closeSession (t : State) : Touches [.flags, .session] t (closeSession t) := by
  unfold closeSession
  try dsimp only
  all_goals simp

@[simp] theorem touches_closeSession (h : [Part.flags, Part.session] ⊆ ps) :
    Touches ps s (closeSession t) ↔ Touches ps s t := Touches.iff (touched_closeSession t) h

theorem touched_closeWork (a : Addr) (cause : StopCause) (t : State) : Touches [.machines, .flags, .claims, .faults, .session, .pools] t (closeWork a cause t) := by
  unfold closeWork
  try dsimp only
  repeat' split
  all_goals simp

@[simp] theorem touches_closeWork (h : [Part.machines, Part.flags, Part.claims, Part.faults, Part.session, Part.pools] ⊆ ps) (a : Addr) (cause : StopCause) :
    Touches ps s (closeWork a cause t) ↔ Touches ps s t := Touches.iff (touched_closeWork a cause t) h

theorem touched_haltService (a : Addr) (t : State) : Touches [.machines, .flags, .claims, .faults, .session, .pools] t (haltService a t) := by
  unfold haltService
  try dsimp only
  repeat' split
  all_goals simp

@[simp] theorem touches_haltService (h : [Part.machines, Part.flags, Part.claims, Part.faults, Part.session, Part.pools] ⊆ ps) (a : Addr) :
    Touches ps s (haltService a t) ↔ Touches ps s t := Touches.iff (touched_haltService a t) h

theorem touched_absentService (a : Addr) (t : State) : Touches [.machines, .flags, .claims, .faults, .session, .pools] t (absentService a t) := by
  unfold absentService
  try dsimp only
  repeat' split
  all_goals simp

@[simp] theorem touches_absentService (h : [Part.machines, Part.flags, Part.claims, Part.faults, Part.session, Part.pools] ⊆ ps) (a : Addr) :
    Touches ps s (absentService a t) ↔ Touches ps s t := Touches.iff (touched_absentService a t) h

theorem touched_windTestReport (a : Addr) (subtest : Nat) (w : TestWindDown) (r : Report) (t : State) : Touches [.machines, .flags, .claims, .faults, .session, .pools] t (windTestReport a subtest w r t) := by
  unfold windTestReport
  try dsimp only
  repeat' split
  all_goals simp

@[simp] theorem touches_windTestReport (h : [Part.machines, Part.flags, Part.claims, Part.faults, Part.session, Part.pools] ⊆ ps) (a : Addr) (subtest : Nat) (w : TestWindDown) (r : Report) :
    Touches ps s (windTestReport a subtest w r t) ↔ Touches ps s t := Touches.iff (touched_windTestReport a subtest w r t) h

theorem touched_testActivity (a : Addr) (x : Shown) (t : State) : Touches [.machines, .flags, .claims, .faults, .session, .pools] t (testActivity a x t) := by
  unfold testActivity
  try dsimp only
  repeat' split
  all_goals simp

@[simp] theorem touches_testActivity (h : [Part.machines, Part.flags, Part.claims, Part.faults, Part.session, Part.pools] ⊆ ps) (a : Addr) (x : Shown) :
    Touches ps s (testActivity a x t) ↔ Touches ps s t := Touches.iff (touched_testActivity a x t) h

theorem touched_windPhaseReport (a : Addr) (w : PhaseWindDown) (r : Report) (t : State) : Touches [.machines, .flags, .claims, .session, .pools] t (windPhaseReport a w r t) := by
  unfold windPhaseReport
  try dsimp only
  repeat' split
  all_goals simp

@[simp] theorem touches_windPhaseReport (h : [Part.machines, Part.flags, Part.claims, Part.session, Part.pools] ⊆ ps) (a : Addr) (w : PhaseWindDown) (r : Report) :
    Touches ps s (windPhaseReport a w r t) ↔ Touches ps s t := Touches.iff (touched_windPhaseReport a w r t) h

theorem touched_phaseActivity (a : Addr) (x : Shown) (t : State) : Touches [.machines, .flags, .claims, .faults, .session, .pools] t (phaseActivity a x t) := by
  unfold phaseActivity
  try dsimp only
  repeat' split
  all_goals simp

@[simp] theorem touches_phaseActivity (h : [Part.machines, Part.flags, Part.claims, Part.faults, Part.session, Part.pools] ⊆ ps) (a : Addr) (x : Shown) :
    Touches ps s (phaseActivity a x t) ↔ Touches ps s t := Touches.iff (touched_phaseActivity a x t) h

theorem touched_serviceActivity (a : Addr) (x : Shown) (t : State) : Touches [.machines, .flags, .claims, .faults, .session, .pools] t (serviceActivity a x t) := by
  unfold serviceActivity
  try dsimp only
  repeat' split
  all_goals simp

@[simp] theorem touches_serviceActivity (h : [Part.machines, Part.flags, Part.claims, Part.faults, Part.session, Part.pools] ⊆ ps) (a : Addr) (x : Shown) :
    Touches ps s (serviceActivity a x t) ↔ Touches ps s t := Touches.iff (touched_serviceActivity a x t) h

theorem touched_serviceFault (a : Addr) (r : Report) (t : State) : Touches [.machines, .flags, .claims, .faults, .session, .pools] t (serviceFault a r t) := by
  unfold serviceFault
  try dsimp only
  repeat' split
  all_goals simp

@[simp] theorem touches_serviceFault (h : [Part.machines, Part.flags, Part.claims, Part.faults, Part.session, Part.pools] ⊆ ps) (a : Addr) (r : Report) :
    Touches ps s (serviceFault a r t) ↔ Touches ps s t := Touches.iff (touched_serviceFault a r t) h

theorem touched_serviceReport (a : Addr) (x : Shown) (activityChanged faultChanged : Bool) (t : State) : Touches [.machines, .flags, .claims, .faults, .session, .pools] t (serviceReport a x activityChanged faultChanged t) := by
  unfold serviceReport
  try dsimp only
  repeat' split
  all_goals simp

@[simp] theorem touches_serviceReport (h : [Part.machines, Part.flags, Part.claims, Part.faults, Part.session, Part.pools] ⊆ ps) (a : Addr) (x : Shown) (activityChanged faultChanged : Bool) :
    Touches ps s (serviceReport a x activityChanged faultChanged t) ↔ Touches ps s t := Touches.iff (touched_serviceReport a x activityChanged faultChanged t) h

/-! ## Replies, absences and joins -/

theorem touched_followPanel (a : Addr) (t : State) : Touches [.machines, .flags] t (followPanel a t) := by
  unfold followPanel
  try dsimp only
  repeat' split
  all_goals simp

@[simp] theorem touches_followPanel (h : [Part.machines, Part.flags] ⊆ ps) (a : Addr) :
    Touches ps s (followPanel a t) ↔ Touches ps s t := Touches.iff (touched_followPanel a t) h

theorem touched_finishedDoor (a : Addr) (door : Door) (t : State) : Touches [.machines, .flags, .claims] t (finishedDoor a door t) := by
  unfold finishedDoor
  try dsimp only
  repeat' split
  all_goals simp

@[simp] theorem touches_finishedDoor (h : [Part.machines, Part.flags, Part.claims] ⊆ ps) (a : Addr) (door : Door) :
    Touches ps s (finishedDoor a door t) ↔ Touches ps s t := Touches.iff (touched_finishedDoor a door t) h

theorem touched_takeDoor (a : Addr) (door : Door) (t : State) : Touches [.machines, .flags, .claims, .faults, .session, .pools] t (takeDoor a door t) := by
  unfold takeDoor
  try dsimp only
  repeat' split
  all_goals simp

@[simp] theorem touches_takeDoor (h : [Part.machines, Part.flags, Part.claims, Part.faults, Part.session, Part.pools] ⊆ ps) (a : Addr) (door : Door) :
    Touches ps s (takeDoor a door t) ↔ Touches ps s t := Touches.iff (touched_takeDoor a door t) h

theorem touched_takeSelection (a : Addr) (selection : Option Nat) (t : State) : Touches [.machines, .flags] t (takeSelection a selection t) := by
  unfold takeSelection
  try dsimp only
  all_goals simp

@[simp] theorem touches_takeSelection (h : [Part.machines, Part.flags] ⊆ ps) (a : Addr) (selection : Option Nat) :
    Touches ps s (takeSelection a selection t) ↔ Touches ps s t := Touches.iff (touched_takeSelection a selection t) h

theorem touched_retryPhase (a : Addr) (t : State) : Touches [.machines] t (retryPhase a t) := by
  unfold retryPhase
  try dsimp only
  all_goals simp

@[simp] theorem touches_retryPhase (h : [Part.machines] ⊆ ps) (a : Addr) :
    Touches ps s (retryPhase a t) ↔ Touches ps s t := Touches.iff (touched_retryPhase a t) h

theorem touched_takeCycleFault (a : Addr) (r : Report) (t : State) : Touches [.machines, .flags, .claims, .faults, .session, .pools] t (takeCycleFault a r t) := by
  unfold takeCycleFault
  try dsimp only
  repeat' split
  all_goals simp

@[simp] theorem touches_takeCycleFault (h : [Part.machines, Part.flags, Part.claims, Part.faults, Part.session, Part.pools] ⊆ ps) (a : Addr) (r : Report) :
    Touches ps s (takeCycleFault a r t) ↔ Touches ps s t := Touches.iff (touched_takeCycleFault a r t) h

theorem touched_takeFault (a : Addr) (r : Report) (t : State) : Touches [.machines, .flags, .claims, .faults, .session, .pools] t (takeFault a r t) := by
  unfold takeFault
  try dsimp only
  repeat' split
  all_goals simp

@[simp] theorem touches_takeFault (h : [Part.machines, Part.flags, Part.claims, Part.faults, Part.session, Part.pools] ⊆ ps) (a : Addr) (r : Report) :
    Touches ps s (takeFault a r t) ↔ Touches ps s t := Touches.iff (touched_takeFault a r t) h

theorem touched_noteStop (a : Addr) (taken : Option BusCommand) (t : State) : Touches [.machines] t (noteStop a taken t) := by
  unfold noteStop
  try dsimp only
  repeat' split
  all_goals simp

@[simp] theorem touches_noteStop (h : [Part.machines] ⊆ ps) (a : Addr) (taken : Option BusCommand) :
    Touches ps s (noteStop a taken t) ↔ Touches ps s t := Touches.iff (touched_noteStop a taken t) h

theorem touched_takeCool (a : Addr) (taken : Option BusCommand) (t : State) : Touches [.machines, .flags, .session, .pools] t (takeCool a taken t) := by
  unfold takeCool
  try dsimp only
  repeat' split
  all_goals simp

@[simp] theorem touches_takeCool (h : [Part.machines, Part.flags, Part.session, Part.pools] ⊆ ps) (a : Addr) (taken : Option BusCommand) :
    Touches ps s (takeCool a taken t) ↔ Touches ps s t := Touches.iff (touched_takeCool a taken t) h

theorem touched_readOutcome (a : Addr) (r : Report) (t : State) : Touches [.machines, .flags, .claims, .faults, .session, .pools] t (readOutcome a r t) := by
  unfold readOutcome
  try dsimp only
  repeat' split
  all_goals simp

@[simp] theorem touches_readOutcome (h : [Part.machines, Part.flags, Part.claims, Part.faults, Part.session, Part.pools] ⊆ ps) (a : Addr) (r : Report) :
    Touches ps s (readOutcome a r t) ↔ Touches ps s t := Touches.iff (touched_readOutcome a r t) h

theorem touched_panelStop (a : Addr) (t : State) : Touches [.machines, .flags, .session, .pools] t (panelStop a t) := by
  unfold panelStop
  try dsimp only
  all_goals simp

@[simp] theorem touches_panelStop (h : [Part.machines, Part.flags, Part.session, Part.pools] ⊆ ps) (a : Addr) :
    Touches ps s (panelStop a t) ↔ Touches ps s t := Touches.iff (touched_panelStop a t) h

theorem touched_takeConfirmation (a : Addr) (r : Report) (t : State) : Touches [.machines, .flags, .claims, .faults, .money, .stations, .session, .pools] t (takeConfirmation a r t) := by
  unfold takeConfirmation
  try dsimp only
  repeat' split
  all_goals simp

@[simp] theorem touches_takeConfirmation (h : [Part.machines, Part.flags, Part.claims, Part.faults, Part.money, Part.stations, Part.session, Part.pools] ⊆ ps) (a : Addr) (r : Report) :
    Touches ps s (takeConfirmation a r t) ↔ Touches ps s t := Touches.iff (touched_takeConfirmation a r t) h

theorem touched_runningActivity (a : Addr) (x : Shown) (t : State) : Touches [.machines, .flags, .claims, .faults, .money, .stations, .session, .pools] t (runningActivity a x t) := by
  unfold runningActivity
  try dsimp only
  repeat' split
  all_goals simp

@[simp] theorem touches_runningActivity (h : [Part.machines, Part.flags, Part.claims, Part.faults, Part.money, Part.stations, Part.session, Part.pools] ⊆ ps) (a : Addr) (x : Shown) :
    Touches ps s (runningActivity a x t) ↔ Touches ps s t := Touches.iff (touched_runningActivity a x t) h

theorem touched_stoppingActivity (a : Addr) (r : Report) (t : State) : Touches [.machines, .flags, .claims, .faults, .money, .stations, .session, .pools] t (stoppingActivity a r t) := by
  unfold stoppingActivity
  try dsimp only
  repeat' split
  all_goals simp

@[simp] theorem touches_stoppingActivity (h : [Part.machines, Part.flags, Part.claims, Part.faults, Part.money, Part.stations, Part.session, Part.pools] ⊆ ps) (a : Addr) (r : Report) :
    Touches ps s (stoppingActivity a r t) ↔ Touches ps s t := Touches.iff (touched_stoppingActivity a r t) h

theorem touched_takeActivity (a : Addr) (x : Shown) (t : State) : Touches [.machines, .flags, .claims, .faults, .money, .stations, .session, .pools] t (takeActivity a x t) := by
  unfold takeActivity
  try dsimp only
  repeat' split
  all_goals simp

@[simp] theorem touches_takeActivity (h : [Part.machines, Part.flags, Part.claims, Part.faults, Part.money, Part.stations, Part.session, Part.pools] ⊆ ps) (a : Addr) (x : Shown) :
    Touches ps s (takeActivity a x t) ↔ Touches ps s t := Touches.iff (touched_takeActivity a x t) h

theorem touched_takeWork (a : Addr) (x : Shown) (activity fault : Bool) (t : State) : Touches [.machines, .flags, .claims, .faults, .money, .stations, .session, .pools] t (takeWork a x activity fault t) := by
  unfold takeWork
  try dsimp only
  repeat' split
  all_goals simp

@[simp] theorem touches_takeWork (h : [Part.machines, Part.flags, Part.claims, Part.faults, Part.money, Part.stations, Part.session, Part.pools] ⊆ ps) (a : Addr) (x : Shown) (activity fault : Bool) :
    Touches ps s (takeWork a x activity fault t) ↔ Touches ps s t := Touches.iff (touched_takeWork a x activity fault t) h

theorem touched_takeOutcome (a : Addr) (x : Shown) (d : Changes) (t : State) : Touches [.machines, .flags, .claims, .faults, .money, .stations, .session, .pools] t (takeOutcome a x d t) := by
  unfold takeOutcome
  try dsimp only
  repeat' split
  all_goals simp

@[simp] theorem touches_takeOutcome (h : [Part.machines, Part.flags, Part.claims, Part.faults, Part.money, Part.stations, Part.session, Part.pools] ⊆ ps) (a : Addr) (x : Shown) (d : Changes) :
    Touches ps s (takeOutcome a x d t) ↔ Touches ps s t := Touches.iff (touched_takeOutcome a x d t) h

theorem touched_endWork (a : Addr) (st : MachineState) (t : State) : Touches [.machines, .flags, .claims, .faults, .money, .stations, .session, .pools] t (endWork a st t) := by
  unfold endWork
  try dsimp only
  repeat' split
  all_goals simp

@[simp] theorem touches_endWork (h : [Part.machines, Part.flags, Part.claims, Part.faults, Part.money, Part.stations, Part.session, Part.pools] ⊆ ps) (a : Addr) (st : MachineState) :
    Touches ps s (endWork a st t) ↔ Touches ps s t := Touches.iff (touched_endWork a st t) h

theorem touched_takeAbsence (a : Addr) (t : State) : Touches [.machines, .flags, .claims, .faults, .money, .stations, .session, .pools] t (takeAbsence a t) := by
  unfold takeAbsence
  try dsimp only
  all_goals simp

@[simp] theorem touches_takeAbsence (h : [Part.machines, Part.flags, Part.claims, Part.faults, Part.money, Part.stations, Part.session, Part.pools] ⊆ ps) (a : Addr) :
    Touches ps s (takeAbsence a t) ↔ Touches ps s t := Touches.iff (touched_takeAbsence a t) h

theorem touched_takeJoin (a : Addr) (r : Report) (t : State) : Touches [.machines, .flags, .claims, .faults] t (takeJoin a r t) := by
  unfold takeJoin
  try dsimp only
  repeat' split
  all_goals simp

@[simp] theorem touches_takeJoin (h : [Part.machines, Part.flags, Part.claims, Part.faults] ⊆ ps) (a : Addr) (r : Report) :
    Touches ps s (takeJoin a r t) ↔ Touches ps s t := Touches.iff (touched_takeJoin a r t) h

/-! ## The room bus -/

theorem touched_declareAbsent (a : Addr) (reason : AbsenceReason) (t : State) : Touches [.machines, .flags, .claims, .faults, .money, .stations, .session, .pools] t (declareAbsent a reason t) := by
  unfold declareAbsent
  try dsimp only
  all_goals simp

@[simp] theorem touches_declareAbsent (h : [Part.machines, Part.flags, Part.claims, Part.faults, Part.money, Part.stations, Part.session, Part.pools] ⊆ ps) (a : Addr) (reason : AbsenceReason) :
    Touches ps s (declareAbsent a reason t) ↔ Touches ps s t := Touches.iff (touched_declareAbsent a reason t) h

theorem touched_missedSlot (a : Addr) (t : State) : Touches [.machines, .flags, .claims, .faults, .money, .stations, .session, .pools] t (missedSlot a t) := by
  unfold missedSlot
  try dsimp only
  repeat' split
  all_goals simp

@[simp] theorem touches_missedSlot (h : [Part.machines, Part.flags, Part.claims, Part.faults, Part.money, Part.stations, Part.session, Part.pools] ⊆ ps) (a : Addr) :
    Touches ps s (missedSlot a t) ↔ Touches ps s t := Touches.iff (touched_missedSlot a t) h

theorem touched_joinMachine (a : Addr) (r : Report) (t : State) : Touches [.machines, .flags, .claims, .faults] t (joinMachine a r t) := by
  unfold joinMachine
  try dsimp only
  all_goals simp

@[simp] theorem touches_joinMachine (h : [Part.machines, Part.flags, Part.claims, Part.faults] ⊆ ps) (a : Addr) (r : Report) :
    Touches ps s (joinMachine a r t) ↔ Touches ps s t := Touches.iff (touched_joinMachine a r t) h

theorem touched_beginOrphan (a : Addr) (t : State) : Touches [.machines, .flags, .claims, .faults] t (beginOrphan a t) := by
  unfold beginOrphan
  try dsimp only
  all_goals simp

@[simp] theorem touches_beginOrphan (h : [Part.machines, Part.flags, Part.claims, Part.faults] ⊆ ps) (a : Addr) :
    Touches ps s (beginOrphan a t) ↔ Touches ps s t := Touches.iff (touched_beginOrphan a t) h

theorem touched_countSlot (a : Addr) (miss : Bool) (t : State) : Touches [.machines, .flags, .claims, .faults, .money, .stations, .session, .pools] t (countSlot a miss t) := by
  unfold countSlot
  try dsimp only
  repeat' split
  all_goals simp

@[simp] theorem touches_countSlot (h : [Part.machines, Part.flags, Part.claims, Part.faults, Part.money, Part.stations, Part.session, Part.pools] ⊆ ps) (a : Addr) (miss : Bool) :
    Touches ps s (countSlot a miss t) ↔ Touches ps s t := Touches.iff (touched_countSlot a miss t) h

theorem touched_recordMismatch (a : Addr) (t : State) : Touches [.machines, .flags, .claims, .faults] t (recordMismatch a t) := by
  unfold recordMismatch
  try dsimp only
  repeat' split
  all_goals simp

@[simp] theorem touches_recordMismatch (h : [Part.machines, Part.flags, Part.claims, Part.faults] ⊆ ps) (a : Addr) :
    Touches ps s (recordMismatch a t) ↔ Touches ps s t := Touches.iff (touched_recordMismatch a t) h

theorem touched_discoveryFrom (a : Addr) (echo : Bool) (r : Report) (t : State) : Touches [.machines, .flags, .claims, .faults] t (discoveryFrom a echo r t) := by
  unfold discoveryFrom
  try dsimp only
  repeat' split
  all_goals simp

@[simp] theorem touches_discoveryFrom (h : [Part.machines, Part.flags, Part.claims, Part.faults] ⊆ ps) (a : Addr) (echo : Bool) (r : Report) :
    Touches ps s (discoveryFrom a echo r t) ↔ Touches ps s t := Touches.iff (touched_discoveryFrom a echo r t) h

theorem touched_joiningFrom (a : Addr) (echo : Bool) (r : Report) (t : State) : Touches [.machines, .flags, .claims, .faults, .money, .stations, .session, .pools] t (joiningFrom a echo r t) := by
  unfold joiningFrom
  try dsimp only
  repeat' split
  all_goals simp

@[simp] theorem touches_joiningFrom (h : [Part.machines, Part.flags, Part.claims, Part.faults, Part.money, Part.stations, Part.session, Part.pools] ⊆ ps) (a : Addr) (echo : Bool) (r : Report) :
    Touches ps s (joiningFrom a echo r t) ↔ Touches ps s t := Touches.iff (touched_joiningFrom a echo r t) h

theorem touched_presentFrom (a : Addr) (echo : Bool) (r : Report) (t : State) : Touches [.machines, .flags, .claims, .faults, .money, .stations, .session, .pools] t (presentFrom a echo r t) := by
  unfold presentFrom
  try dsimp only
  repeat' split
  all_goals simp

@[simp] theorem touches_presentFrom (h : [Part.machines, Part.flags, Part.claims, Part.faults, Part.money, Part.stations, Part.session, Part.pools] ⊆ ps) (a : Addr) (echo : Bool) (r : Report) :
    Touches ps s (presentFrom a echo r t) ↔ Touches ps s t := Touches.iff (touched_presentFrom a echo r t) h

theorem touched_takeReply (bytes : List Byte) (t : State) : Touches [.machines, .flags, .claims, .faults, .money, .stations, .session, .pools, .bus] t (takeReply bytes t) := by
  unfold takeReply
  try dsimp only
  repeat' split
  all_goals simp

@[simp] theorem touches_takeReply (h : [Part.machines, Part.flags, Part.claims, Part.faults, Part.money, Part.stations, Part.session, Part.pools, Part.bus] ⊆ ps) (bytes : List Byte) :
    Touches ps s (takeReply bytes t) ↔ Touches ps s t := Touches.iff (touched_takeReply bytes t) h

theorem touched_windowMissed (t : State) : Touches [.machines, .flags, .claims, .faults, .money, .stations, .session, .pools, .bus] t (windowMissed t) := by
  unfold windowMissed
  try dsimp only
  repeat' split
  all_goals simp

@[simp] theorem touches_windowMissed (h : [Part.machines, Part.flags, Part.claims, Part.faults, Part.money, Part.stations, Part.session, Part.pools, Part.bus] ⊆ ps) :
    Touches ps s (windowMissed t) ↔ Touches ps s t := Touches.iff (touched_windowMissed t) h

theorem touched_orphanTimeout (joinFirst : Bool) (a : Addr) (t : State) :
    Touches [.machines, .flags, .claims, .faults] t (orphanTimeout joinFirst a t) := by
  unfold orphanTimeout
  try dsimp only
  repeat' split
  all_goals simp

@[simp] theorem touches_orphanTimeout (h : [Part.machines, Part.flags, Part.claims, Part.faults] ⊆ ps) (joinFirst : Bool)
    (a : Addr) : Touches ps s (orphanTimeout joinFirst a t) ↔ Touches ps s t :=
  Touches.iff (touched_orphanTimeout joinFirst a t) h

/-! ## Limits, sheds and the deadlines of the pools -/

theorem touched_offerSuspension (k : PoolId) (g : Grant) (t : State) : Touches [.machines, .pools] t (offerSuspension k g t) := by
  unfold offerSuspension
  try dsimp only
  repeat' split
  all_goals simp

@[simp] theorem touches_offerSuspension (h : [Part.machines, Part.pools] ⊆ ps) (k : PoolId) (g : Grant) :
    Touches ps s (offerSuspension k g t) ↔ Touches ps s t := Touches.iff (touched_offerSuspension k g t) h

theorem touched_relieveShared (k : PoolId) (gs : List Grant) : ∀ t : State,
    Touches [.machines, .pools] t (relieveShared k gs t) := by
  induction gs with
  | nil => exact fun t => Touches.refl _ t
  | cons g gs ih =>
    intro t
    unfold relieveShared
    split
    · exact (touched_offerSuspension k g t).trans (ih _)
    · simp

@[simp] theorem touches_relieveShared (h : [Part.machines, Part.pools] ⊆ ps) (k : PoolId) (gs : List Grant) :
    Touches ps s (relieveShared k gs t) ↔ Touches ps s t := Touches.iff (touched_relieveShared k gs t) h

theorem touched_relieveReserve (k : PoolId) (c : MachineClass) (t : State) : Touches [.machines, .pools] t (relieveReserve k c t) := by
  unfold relieveReserve
  try dsimp only
  repeat' split
  all_goals simp

@[simp] theorem touches_relieveReserve (h : [Part.machines, Part.pools] ⊆ ps) (k : PoolId) (c : MachineClass) :
    Touches ps s (relieveReserve k c t) ↔ Touches ps s t := Touches.iff (touched_relieveReserve k c t) h

theorem touched_setOverLimit (k : PoolId) (t : State) : Touches [.flags, .pools] t (setOverLimit k t) := by
  unfold setOverLimit
  try dsimp only
  repeat' split
  all_goals simp

@[simp] theorem touches_setOverLimit (h : [Part.flags, Part.pools] ⊆ ps) (k : PoolId) :
    Touches ps s (setOverLimit k t) ↔ Touches ps s t := Touches.iff (touched_setOverLimit k t) h

theorem touched_shed (k : PoolId) (t : State) : Touches [.machines, .flags, .session, .pools] t (shed k t) := by
  unfold shed
  try dsimp only
  all_goals simp

@[simp] theorem touches_shed (h : [Part.machines, Part.flags, Part.session, Part.pools] ⊆ ps) (k : PoolId) :
    Touches ps s (shed k t) ↔ Touches ps s t := Touches.iff (touched_shed k t) h

theorem touched_setLimit (k : PoolId) (limit : Nat) (t : State) : Touches [.machines, .flags, .session, .pools] t (setLimit k limit t) := by
  unfold setLimit
  try dsimp only
  all_goals simp

@[simp] theorem touches_setLimit (h : [Part.machines, Part.flags, Part.session, Part.pools] ⊆ ps) (k : PoolId) (limit : Nat) :
    Touches ps s (setLimit k limit t) ↔ Touches ps s t := Touches.iff (touched_setLimit k limit t) h

theorem touched_setReserve (k : PoolId) (c : MachineClass) (n : Nat) (t : State) : Touches [.machines, .flags, .session, .pools] t (setReserve k c n t) := by
  unfold setReserve
  try dsimp only
  all_goals simp

@[simp] theorem touches_setReserve (h : [Part.machines, Part.flags, Part.session, Part.pools] ⊆ ps) (k : PoolId) (c : MachineClass) (n : Nat) :
    Touches ps s (setReserve k c n t) ↔ Touches ps s t := Touches.iff (touched_setReserve k c n t) h

theorem touched_tellPool (k : PoolId) (halted : Bool) (t : State) : Touches [.machines, .flags, .session, .pools] t (tellPool k halted t) := by
  unfold tellPool
  try dsimp only
  all_goals simp

@[simp] theorem touches_tellPool (h : [Part.machines, Part.flags, Part.session, Part.pools] ⊆ ps) (k : PoolId) (halted : Bool) :
    Touches ps s (tellPool k halted t) ↔ Touches ps s t := Touches.iff (touched_tellPool k halted t) h

theorem touched_tellExpiry (e : WaitEntry) (t : State) : Touches [.machines, .flags, .claims, .faults, .session, .pools] t (tellExpiry e t) := by
  unfold tellExpiry
  try dsimp only
  repeat' split
  all_goals simp

@[simp] theorem touches_tellExpiry (h : [Part.machines, Part.flags, Part.claims, Part.faults, Part.session, Part.pools] ⊆ ps) (e : WaitEntry) :
    Touches ps s (tellExpiry e t) ↔ Touches ps s t := Touches.iff (touched_tellExpiry e t) h

theorem touched_expireFrom (k : PoolId) (a : Addr) (t : State) : Touches [.machines, .flags, .claims, .faults, .session, .pools] t (expireFrom k a t) := by
  unfold expireFrom
  try dsimp only
  repeat' split
  all_goals simp

@[simp] theorem touches_expireFrom (h : [Part.machines, Part.flags, Part.claims, Part.faults, Part.session, Part.pools] ⊆ ps) (k : PoolId) (a : Addr) :
    Touches ps s (expireFrom k a t) ↔ Touches ps s t := Touches.iff (touched_expireFrom k a t) h

theorem touched_clearSuspendDeadline (k : PoolId) (a : Addr) (t : State) : Touches [.pools] t (clearSuspendDeadline k a t) := by
  unfold clearSuspendDeadline
  try dsimp only
  all_goals simp

@[simp] theorem touches_clearSuspendDeadline (h : [Part.pools] ⊆ ps) (k : PoolId) (a : Addr) :
    Touches ps s (clearSuspendDeadline k a t) ↔ Touches ps s t := Touches.iff (touched_clearSuspendDeadline k a t) h

theorem touched_suspendIgnored (a : Addr) (t : State) : Touches [.machines, .flags, .claims, .faults, .session, .pools] t (suspendIgnored a t) := by
  unfold suspendIgnored
  try dsimp only
  repeat' split
  all_goals simp

@[simp] theorem touches_suspendIgnored (h : [Part.machines, Part.flags, Part.claims, Part.faults, Part.session, Part.pools] ⊆ ps) (a : Addr) :
    Touches ps s (suspendIgnored a t) ↔ Touches ps s t := Touches.iff (touched_suspendIgnored a t) h

theorem touched_suspendTimeout (k : PoolId) (a : Addr) (t : State) : Touches [.machines, .flags, .claims, .faults, .session, .pools] t (suspendTimeout k a t) := by
  unfold suspendTimeout
  try dsimp only
  repeat' split
  all_goals simp

@[simp] theorem touches_suspendTimeout (h : [Part.machines, Part.flags, Part.claims, Part.faults, Part.session, Part.pools] ⊆ ps) (k : PoolId) (a : Addr) :
    Touches ps s (suspendTimeout k a t) ↔ Touches ps s t := Touches.iff (touched_suspendTimeout k a t) h

theorem touched_clearStats (k : PoolId) (t : State) : Touches [.pools] t (clearStats k t) := by
  unfold clearStats
  try dsimp only
  all_goals simp

@[simp] theorem touches_clearStats (h : [Part.pools] ⊆ ps) (k : PoolId) :
    Touches ps s (clearStats k t) ↔ Touches ps s t := Touches.iff (touched_clearStats k t) h

/-! ## The pay stations -/

theorem touched_endCard (i : StationId) (awaiting : Bool) (code : Nat) (t : State) : Touches [.stations] t (endCard i awaiting code t) := by
  unfold endCard
  try dsimp only
  all_goals simp

@[simp] theorem touches_endCard (h : [Part.stations] ⊆ ps) (i : StationId) (awaiting : Bool) (code : Nat) :
    Touches ps s (endCard i awaiting code t) ↔ Touches ps s t := Touches.iff (touched_endCard i awaiting code t) h

theorem touched_abandonDebit (kind : DoubtKind) (a : Addr) (card : Nat) (t : State) : Touches [.machines, .flags, .claims] t (abandonDebit kind a card t) := by
  unfold abandonDebit
  try dsimp only
  repeat' split
  all_goals simp

@[simp] theorem touches_abandonDebit (h : [Part.machines, Part.flags, Part.claims] ⊆ ps) (kind : DoubtKind) (a : Addr) (card : Nat) :
    Touches ps s (abandonDebit kind a card t) ↔ Touches ps s t := Touches.iff (touched_abandonDebit kind a card t) h

theorem touched_debitUnresolved (d : DebitCopy) (t : State) : Touches [.machines, .flags, .claims, .faults, .money] t (debitUnresolved d t) := by
  unfold debitUnresolved
  try dsimp only
  all_goals simp

@[simp] theorem touches_debitUnresolved (h : [Part.machines, Part.flags, Part.claims, Part.faults, Part.money] ⊆ ps) (d : DebitCopy) :
    Touches ps s (debitUnresolved d t) ↔ Touches ps s t := Touches.iff (touched_debitUnresolved d t) h

theorem touched_commitDebit (d : DebitCopy) (t : State) :
    Touches [.machines, .flags, .claims, .faults, .money, .stations, .session, .pools, .counter] t (commitDebit d t).1 := by
  unfold commitDebit
  dsimp only
  split <;> simp

@[simp] theorem touches_commitDebit
    (h : [Part.machines, Part.flags, Part.claims, Part.faults, Part.money, Part.stations, Part.session, Part.pools,
      Part.counter] ⊆ ps) (d : DebitCopy) :
    Touches ps s (commitDebit d t).1 ↔ Touches ps s t := Touches.iff (touched_commitDebit d t) h

theorem touched_landDebit (i : StationId) (d : DebitCopy) (t : State) : Touches [.machines, .flags, .claims, .faults, .money, .stations, .session, .pools, .counter, .doubts] t (landDebit i d t) := by
  unfold landDebit
  try dsimp only
  all_goals simp

@[simp] theorem touches_landDebit (h : [Part.machines, Part.flags, Part.claims, Part.faults, Part.money, Part.stations, Part.session, Part.pools, Part.counter, Part.doubts] ⊆ ps) (i : StationId) (d : DebitCopy) :
    Touches ps s (landDebit i d t) ↔ Touches ps s t := Touches.iff (touched_landDebit i d t) h

theorem touched_evictDoubt (t : State) : Touches [.machines, .flags, .claims, .faults, .money, .doubts] t (evictDoubt t) := by
  unfold evictDoubt
  try dsimp only
  repeat' split
  all_goals simp

@[simp] theorem touches_evictDoubt (h : [Part.machines, Part.flags, Part.claims, Part.faults, Part.money, Part.doubts] ⊆ ps) :
    Touches ps s (evictDoubt t) ↔ Touches ps s t := Touches.iff (touched_evictDoubt t) h

theorem touched_makeDoubt (i : StationId) (d : DebitCopy) (t : State) : Touches [.machines, .flags, .claims, .faults, .money, .doubts] t (makeDoubt i d t) := by
  unfold makeDoubt
  try dsimp only
  all_goals simp

@[simp] theorem touches_makeDoubt (h : [Part.machines, Part.flags, Part.claims, Part.faults, Part.money, Part.doubts] ⊆ ps) (i : StationId) (d : DebitCopy) :
    Touches ps s (makeDoubt i d t) ↔ Touches ps s t := Touches.iff (touched_makeDoubt i d t) h

theorem touched_doubtTimeout (card : Nat) (t : State) : Touches [.machines, .flags, .claims, .faults, .money, .doubts] t (doubtTimeout card t) := by
  unfold doubtTimeout
  try dsimp only
  repeat' split
  all_goals simp

@[simp] theorem touches_doubtTimeout (h : [Part.machines, Part.flags, Part.claims, Part.faults, Part.money, Part.doubts] ⊆ ps) (card : Nat) :
    Touches ps s (doubtTimeout card t) ↔ Touches ps s t := Touches.iff (touched_doubtTimeout card t) h

theorem touched_dropWrite (i : StationId) (t : State) : Touches [.machines, .flags, .claims, .faults, .money, .doubts] t (dropWrite i t) := by
  unfold dropWrite
  try dsimp only
  repeat' split
  all_goals simp

@[simp] theorem touches_dropWrite (h : [Part.machines, Part.flags, Part.claims, Part.faults, Part.money, Part.doubts] ⊆ ps) (i : StationId) :
    Touches ps s (dropWrite i t) ↔ Touches ps s t := Touches.iff (touched_dropWrite i t) h

theorem touched_loseWrite (i : StationId) (t : State) : Touches [.machines, .flags, .claims, .faults, .money, .doubts] t (loseWrite i t) := by
  unfold loseWrite
  try dsimp only
  repeat' split
  all_goals simp

@[simp] theorem touches_loseWrite (h : [Part.machines, Part.flags, Part.claims, Part.faults, Part.money, Part.doubts] ⊆ ps) (i : StationId) :
    Touches ps s (loseWrite i t) ↔ Touches ps s t := Touches.iff (touched_loseWrite i t) h

theorem touched_refuseCard (i : StationId) (code : Nat) (t : State) : Touches [.stations] t (refuseCard i code t) := by
  unfold refuseCard
  try dsimp only
  all_goals simp

@[simp] theorem touches_refuseCard (h : [Part.stations] ⊆ ps) (i : StationId) (code : Nat) :
    Touches ps s (refuseCard i code t) ↔ Touches ps s t := Touches.iff (touched_refuseCard i code t) h

theorem touched_resolveDoubt (i : StationId) (pair : Pair) (d : DebitCopy) (t : State) : Touches [.machines, .flags, .claims, .faults, .money, .stations, .session, .pools, .counter] t (resolveDoubt i pair d t) := by
  unfold resolveDoubt
  try dsimp only
  repeat' split
  all_goals simp

@[simp] theorem touches_resolveDoubt (h : [Part.machines, Part.flags, Part.claims, Part.faults, Part.money, Part.stations, Part.session, Part.pools, Part.counter] ⊆ ps) (i : StationId) (pair : Pair) (d : DebitCopy) :
    Touches ps s (resolveDoubt i pair d t) ↔ Touches ps s t := Touches.iff (touched_resolveDoubt i pair d t) h

theorem touched_resolveDoubts (i : StationId) (card : Nat) (pair : Pair) (t : State) : Touches [.machines, .flags, .claims, .faults, .money, .stations, .session, .pools, .counter, .doubts] t (resolveDoubts i card pair t) := by
  unfold resolveDoubts
  try dsimp only
  repeat' split
  all_goals simp

@[simp] theorem touches_resolveDoubts (h : [Part.machines, Part.flags, Part.claims, Part.faults, Part.money, Part.stations, Part.session, Part.pools, Part.counter, Part.doubts] ⊆ ps) (i : StationId) (card : Nat) (pair : Pair) :
    Touches ps s (resolveDoubts i card pair t) ↔ Touches ps s t := Touches.iff (touched_resolveDoubts i card pair t) h

theorem touched_resolveCredit (i : StationId) (card : Nat) (pair : Pair) (t : State) : Touches [.machines, .flags, .claims, .faults, .money, .stations] t (resolveCredit i card pair t) := by
  unfold resolveCredit
  try dsimp only
  repeat' split
  all_goals simp

@[simp] theorem touches_resolveCredit (h : [Part.machines, Part.flags, Part.claims, Part.faults, Part.money, Part.stations] ⊆ ps) (i : StationId) (card : Nat) (pair : Pair) :
    Touches ps s (resolveCredit i card pair t) ↔ Touches ps s t := Touches.iff (touched_resolveCredit i card pair t) h

theorem touched_acceptCard (i : StationId) (card : Nat) (slot : Slot) (pair : Pair) (t : State) : Touches [.machines, .flags, .claims, .faults, .money, .stations, .session, .pools, .counter, .doubts] t (acceptCard i card slot pair t) := by
  unfold acceptCard
  try dsimp only
  all_goals simp

@[simp] theorem touches_acceptCard (h : [Part.machines, Part.flags, Part.claims, Part.faults, Part.money, Part.stations, Part.session, Part.pools, Part.counter, Part.doubts] ⊆ ps) (i : StationId) (card : Nat) (slot : Slot) (pair : Pair) :
    Touches ps s (acceptCard i card slot pair t) ↔ Touches ps s t := Touches.iff (touched_acceptCard i card slot pair t) h

theorem touched_decideCard (i : StationId) (bytes : List Byte) (t : State) : Touches [.machines, .flags, .claims, .faults, .money, .stations, .session, .pools, .counter, .doubts] t (decideCard i bytes t) := by
  unfold decideCard
  try dsimp only
  repeat' split
  all_goals simp

@[simp] theorem touches_decideCard (h : [Part.machines, Part.flags, Part.claims, Part.faults, Part.money, Part.stations, Part.session, Part.pools, Part.counter, Part.doubts] ⊆ ps) (i : StationId) (bytes : List Byte) :
    Touches ps s (decideCard i bytes t) ↔ Touches ps s t := Touches.iff (touched_decideCard i bytes t) h

theorem touched_beginReading (i : StationId) (t : State) : Touches [.stations] t (beginReading i t) := by
  unfold beginReading
  try dsimp only
  repeat' split
  all_goals simp

@[simp] theorem touches_beginReading (h : [Part.stations] ⊆ ps) (i : StationId) :
    Touches ps s (beginReading i t) ↔ Touches ps s t := Touches.iff (touched_beginReading i t) h

theorem touched_insertCard (i : StationId) (t : State) : Touches [.stations] t (insertCard i t) := by
  unfold insertCard
  try dsimp only
  repeat' split
  all_goals simp

@[simp] theorem touches_insertCard (h : [Part.stations] ⊆ ps) (i : StationId) :
    Touches ps s (insertCard i t) ↔ Touches ps s t := Touches.iff (touched_insertCard i t) h

theorem touched_removeCard (i : StationId) (t : State) : Touches [.machines, .flags, .claims, .faults, .money, .stations, .doubts] t (removeCard i t) := by
  unfold removeCard
  try dsimp only
  repeat' split
  all_goals simp

@[simp] theorem touches_removeCard (h : [Part.machines, Part.flags, Part.claims, Part.faults, Part.money, Part.stations, Part.doubts] ⊆ ps) (i : StationId) :
    Touches ps s (removeCard i t) ↔ Touches ps s t := Touches.iff (touched_removeCard i t) h

theorem touched_readFails (i : StationId) (t : State) : Touches [.stations] t (readFails i t) := by
  unfold readFails
  try dsimp only
  repeat' split
  all_goals simp

@[simp] theorem touches_readFails (h : [Part.stations] ⊆ ps) (i : StationId) :
    Touches ps s (readFails i t) ↔ Touches ps s t := Touches.iff (touched_readFails i t) h

theorem touched_readCompletes (i : StationId) (bytes : List Byte) (t : State) : Touches [.machines, .flags, .claims, .faults, .money, .stations, .session, .pools, .counter, .doubts] t (readCompletes i bytes t) := by
  unfold readCompletes
  try dsimp only
  repeat' split
  all_goals simp

@[simp] theorem touches_readCompletes (h : [Part.machines, Part.flags, Part.claims, Part.faults, Part.money, Part.stations, Part.session, Part.pools, Part.counter, Part.doubts] ⊆ ps) (i : StationId) (bytes : List Byte) :
    Touches ps s (readCompletes i bytes t) ↔ Touches ps s t := Touches.iff (touched_readCompletes i bytes t) h

theorem touched_readEnds (i : StationId) (bytes : Option (List Byte)) (t : State) : Touches [.machines, .flags, .claims, .faults, .money, .stations, .session, .pools, .counter, .doubts] t (readEnds i bytes t) := by
  unfold readEnds
  split <;> simp

@[simp] theorem touches_readEnds (h : [Part.machines, Part.flags, Part.claims, Part.faults, Part.money, Part.stations, Part.session, Part.pools, Part.counter, Part.doubts] ⊆ ps) (i : StationId) (bytes : Option (List Byte)) :
    Touches ps s (readEnds i bytes t) ↔ Touches ps s t := Touches.iff (touched_readEnds i bytes t) h

theorem touched_keepCopy (i : StationId) (t : State) : Touches [.doubts] t (keepCopy i t) := by
  unfold keepCopy
  try dsimp only
  repeat' split
  all_goals simp

@[simp] theorem touches_keepCopy (h : [Part.doubts] ⊆ ps) (i : StationId) :
    Touches ps s (keepCopy i t) ↔ Touches ps s t := Touches.iff (touched_keepCopy i t) h

theorem touched_writeBegins (i : StationId) (t : State) : Touches [.stations, .doubts] t (writeBegins i t) := by
  unfold writeBegins
  try dsimp only
  repeat' split
  all_goals simp

@[simp] theorem touches_writeBegins (h : [Part.stations, Part.doubts] ⊆ ps) (i : StationId) :
    Touches ps s (writeBegins i t) ↔ Touches ps s t := Touches.iff (touched_writeBegins i t) h

theorem touched_writeEnds (i : StationId) (outcome : WriteOutcome) (t : State) : Touches [.machines, .flags, .claims, .faults, .money, .stations, .doubts] t (writeEnds i outcome t) := by
  unfold writeEnds
  try dsimp only
  repeat' split
  all_goals simp

@[simp] theorem touches_writeEnds (h : [Part.machines, Part.flags, Part.claims, Part.faults, Part.money, Part.stations, Part.doubts] ⊆ ps) (i : StationId) (outcome : WriteOutcome) :
    Touches ps s (writeEnds i outcome t) ↔ Touches ps s t := Touches.iff (touched_writeEnds i outcome t) h

theorem touched_rewrite (i : StationId) (t : State) : Touches [.stations] t (rewrite i t) := by
  unfold rewrite
  try dsimp only
  all_goals simp

@[simp] theorem touches_rewrite (h : [Part.stations] ⊆ ps) (i : StationId) :
    Touches ps s (rewrite i t) ↔ Touches ps s t := Touches.iff (touched_rewrite i t) h

theorem touched_landCredit (i : StationId) (t : State) : Touches [.stations, .money, .flags] t (landCredit i t) := by
  unfold landCredit
  try dsimp only
  all_goals simp

@[simp] theorem touches_landCredit (h : [Part.stations, Part.money, Part.flags] ⊆ ps) (i : StationId) :
    Touches ps s (landCredit i t) ↔ Touches ps s t := Touches.iff (touched_landCredit i t) h

theorem touched_secondMismatch (i : StationId) (bytes : List Byte) (t : State) : Touches [.machines, .flags, .claims, .faults, .money, .stations, .doubts] t (secondMismatch i bytes t) := by
  unfold secondMismatch
  try dsimp only
  repeat' split
  all_goals simp

@[simp] theorem touches_secondMismatch (h : [Part.machines, Part.flags, Part.claims, Part.faults, Part.money, Part.stations, Part.doubts] ⊆ ps) (i : StationId) (bytes : List Byte) :
    Touches ps s (secondMismatch i bytes t) ↔ Touches ps s t := Touches.iff (touched_secondMismatch i bytes t) h

theorem touched_verifyEnds (i : StationId) (bytes : Option (List Byte)) (t : State) : Touches [.machines, .flags, .claims, .faults, .money, .stations, .session, .pools, .counter, .doubts] t (verifyEnds i bytes t) := by
  unfold verifyEnds
  try dsimp only
  repeat' split
  all_goals simp

@[simp] theorem touches_verifyEnds (h : [Part.machines, Part.flags, Part.claims, Part.faults, Part.money, Part.stations, Part.session, Part.pools, Part.counter, Part.doubts] ⊆ ps) (i : StationId) (bytes : Option (List Byte)) :
    Touches ps s (verifyEnds i bytes t) ↔ Touches ps s t := Touches.iff (touched_verifyEnds i bytes t) h

theorem touched_beginDebit (i : StationId) (a : Addr) (request : CardRequest) (p : Purchase) (t : State) : Touches [.stations] t (beginDebit i a request p t) := by
  unfold beginDebit
  try dsimp only
  all_goals simp

@[simp] theorem touches_beginDebit (h : [Part.stations] ⊆ ps) (i : StationId) (a : Addr) (request : CardRequest) (p : Purchase) :
    Touches ps s (beginDebit i a request p t) ↔ Touches ps s t := Touches.iff (touched_beginDebit i a request p t) h

theorem touched_payFor (i : StationId) (a : Addr) (p : Purchase) (t : State) : Touches [.machines, .flags, .claims, .faults, .money, .stations, .session, .pools, .counter] t (payFor i a p t) := by
  unfold payFor
  try dsimp only
  repeat' split
  all_goals simp

@[simp] theorem touches_payFor (h : [Part.machines, Part.flags, Part.claims, Part.faults, Part.money, Part.stations, Part.session, Part.pools, Part.counter] ⊆ ps) (i : StationId) (a : Addr) (p : Purchase) :
    Touches ps s (payFor i a p t) ↔ Touches ps s t := Touches.iff (touched_payFor i a p t) h

theorem touched_decidePay (i : StationId) (target steps : Nat) (t : State) : Touches [.machines, .flags, .claims, .faults, .money, .stations, .session, .pools, .counter] t (decidePay i target steps t) := by
  unfold decidePay
  try dsimp only
  repeat' split
  all_goals simp

@[simp] theorem touches_decidePay (h : [Part.machines, Part.flags, Part.claims, Part.faults, Part.money, Part.stations, Part.session, Part.pools, Part.counter] ⊆ ps) (i : StationId) (target steps : Nat) :
    Touches ps s (decidePay i target steps t) ↔ Touches ps s t := Touches.iff (touched_decidePay i target steps t) h

theorem touched_refusePanel (i : StationId) (m : Message) (t : State) : Touches [.stations, .money] t (refusePanel i m t) := by
  unfold refusePanel
  simp

@[simp] theorem touches_refusePanel (h : [Part.stations, Part.money] ⊆ ps) (i : StationId) (m : Message) :
    Touches ps s (refusePanel i m t) ↔ Touches ps s t := Touches.iff (touched_refusePanel i m t) h

theorem touched_addTimeFor (i : StationId) (a : Addr) (p : Purchase) (t : State) : Touches [.machines, .flags, .claims, .faults, .money, .stations] t (addTimeFor i a p t) := by
  unfold addTimeFor
  try dsimp only
  repeat' split
  all_goals simp

@[simp] theorem touches_addTimeFor (h : [Part.machines, Part.flags, Part.claims, Part.faults, Part.money, Part.stations] ⊆ ps) (i : StationId) (a : Addr) (p : Purchase) :
    Touches ps s (addTimeFor i a p t) ↔ Touches ps s t := Touches.iff (touched_addTimeFor i a p t) h

theorem touched_decideAddTime (i : StationId) (target steps : Nat) (t : State) : Touches [.machines, .flags, .claims, .faults, .money, .stations] t (decideAddTime i target steps t) := by
  unfold decideAddTime
  try dsimp only
  repeat' split
  all_goals simp

@[simp] theorem touches_decideAddTime (h : [Part.machines, Part.flags, Part.claims, Part.faults, Part.money, Part.stations] ⊆ ps) (i : StationId) (target steps : Nat) :
    Touches ps s (decideAddTime i target steps t) ↔ Touches ps s t := Touches.iff (touched_decideAddTime i target steps t) h

theorem touched_decideQueue (i : StationId) (c : MachineClass) (t : State) : Touches [.stations, .claims, .flags, .money] t (decideQueue i c t) := by
  unfold decideQueue
  try dsimp only
  repeat' split
  all_goals simp

@[simp] theorem touches_decideQueue (h : [Part.stations, Part.claims, Part.flags, Part.money] ⊆ ps) (i : StationId) (c : MachineClass) :
    Touches ps s (decideQueue i c t) ↔ Touches ps s t := Touches.iff (touched_decideQueue i c t) h

theorem touched_decideBalance (i : StationId) (t : State) : Touches [.stations] t (decideBalance i t) := by
  unfold decideBalance
  try dsimp only
  repeat' split
  all_goals simp

@[simp] theorem touches_decideBalance (h : [Part.stations] ⊆ ps) (i : StationId) :
    Touches ps s (decideBalance i t) ↔ Touches ps s t := Touches.iff (touched_decideBalance i t) h

theorem touched_clearPanel (i : StationId) (t : State) : Touches [.stations] t (clearPanel i t) := by
  unfold clearPanel
  try dsimp only
  all_goals simp

@[simp] theorem touches_clearPanel (h : [Part.stations] ⊆ ps) (i : StationId) :
    Touches ps s (clearPanel i t) ↔ Touches ps s t := Touches.iff (touched_clearPanel i t) h

theorem touched_panelError (i : StationId) (t : State) : Touches [.stations] t (panelError i t) := by
  unfold panelError
  try dsimp only
  all_goals simp

@[simp] theorem touches_panelError (h : [Part.stations] ⊆ ps) (i : StationId) :
    Touches ps s (panelError i t) ↔ Touches ps s t := Touches.iff (touched_panelError i t) h

theorem touched_takePay (i : StationId) (target steps : Nat) (t : State) : Touches [.machines, .flags, .claims, .faults, .money, .stations, .session, .pools, .counter] t (takePay i target steps t) := by
  unfold takePay inService
  split <;> simp

@[simp] theorem touches_takePay (h : [Part.machines, Part.flags, Part.claims, Part.faults, Part.money, Part.stations, Part.session, Part.pools, Part.counter] ⊆ ps) (i : StationId) (target steps : Nat) :
    Touches ps s (takePay i target steps t) ↔ Touches ps s t := Touches.iff (touched_takePay i target steps t) h

theorem touched_takeAddTime (i : StationId) (target steps : Nat) (t : State) : Touches [.machines, .flags, .claims, .faults, .money, .stations] t (takeAddTime i target steps t) := by
  unfold takeAddTime inService
  split <;> simp

@[simp] theorem touches_takeAddTime (h : [Part.machines, Part.flags, Part.claims, Part.faults, Part.money, Part.stations] ⊆ ps) (i : StationId) (target steps : Nat) :
    Touches ps s (takeAddTime i target steps t) ↔ Touches ps s t := Touches.iff (touched_takeAddTime i target steps t) h

theorem touched_takeQueue (i : StationId) (cls : Nat) (t : State) : Touches [.stations, .claims, .flags, .money] t (takeQueue i cls t) := by
  unfold takeQueue inService
  repeat' split
  all_goals simp

@[simp] theorem touches_takeQueue (h : [Part.stations, Part.claims, Part.flags, Part.money] ⊆ ps) (i : StationId) (cls : Nat) :
    Touches ps s (takeQueue i cls t) ↔ Touches ps s t := Touches.iff (touched_takeQueue i cls t) h

theorem touched_takeBalance (i : StationId) (t : State) : Touches [.stations] t (takeBalance i t) := by
  unfold takeBalance inService
  split <;> simp

@[simp] theorem touches_takeBalance (h : [Part.stations] ⊆ ps) (i : StationId) :
    Touches ps s (takeBalance i t) ↔ Touches ps s t := Touches.iff (touched_takeBalance i t) h

theorem touched_takePanel (i : StationId) (bs : List Byte) (t : State) : Touches [.machines, .flags, .claims, .faults, .money, .stations, .session, .pools, .counter] t (takePanel i bs t) := by
  unfold takePanel
  try dsimp only
  repeat' split
  all_goals simp

@[simp] theorem touches_takePanel (h : [Part.machines, Part.flags, Part.claims, Part.faults, Part.money, Part.stations, Part.session, Part.pools, Part.counter] ⊆ ps) (i : StationId) (bs : List Byte) :
    Touches ps s (takePanel i bs t) ↔ Touches ps s t := Touches.iff (touched_takePanel i bs t) h

theorem touched_panelByte (i : StationId) (b : Byte) (t : State) : Touches [.machines, .flags, .claims, .faults, .money, .stations, .session, .pools, .counter] t (panelByte i b t) := by
  unfold panelByte
  try dsimp only
  repeat' split
  all_goals simp

@[simp] theorem touches_panelByte (h : [Part.machines, Part.flags, Part.claims, Part.faults, Part.money, Part.stations, Part.session, Part.pools, Part.counter] ⊆ ps) (i : StationId) (b : Byte) :
    Touches ps s (panelByte i b t) ↔ Touches ps s t := Touches.iff (touched_panelByte i b t) h

/-! ## Requests that change the room -/

theorem touched_haltMachine (a : Addr) (t : State) : Touches [.machines, .flags, .claims, .faults, .session, .pools] t (haltMachine t a) := by
  unfold haltMachine
  try dsimp only
  repeat' split
  all_goals simp

@[simp] theorem touches_haltMachine (h : [Part.machines, Part.flags, Part.claims, Part.faults, Part.session, Part.pools] ⊆ ps) (a : Addr) :
    Touches ps s (haltMachine t a) ↔ Touches ps s t := Touches.iff (touched_haltMachine a t) h

theorem touched_resumeOffer (a : Addr) (t : State) : Touches [.machines, .flags, .claims] t (resumeOffer t a) := by
  have h := touched_placeHold a t
  unfold resumeOffer
  split
  all_goals try exact Touches.refl _ t
  all_goals split <;> (rename_i e; rw [e] at h)
  all_goals simp_all

@[simp] theorem touches_resumeOffer (h : [Part.machines, Part.flags, Part.claims] ⊆ ps) (a : Addr) :
    Touches ps s (resumeOffer t a) ↔ Touches ps s t := Touches.iff (touched_resumeOffer a t) h

theorem touched_openSession (a : Addr) (t : State) : Touches [.machines, .flags, .session] t (openSession a t) := by
  unfold openSession
  try dsimp only
  all_goals simp

@[simp] theorem touches_openSession (h : [Part.machines, Part.flags, Part.session] ⊆ ps) (a : Addr) :
    Touches ps s (openSession a t) ↔ Touches ps s t := Touches.iff (touched_openSession a t) h

theorem touched_makePhase (a : Addr) (kind : PhaseKind) (seconds : Nat) (t : State) : Touches [.machines, .flags, .session, .pools] t (makePhase a kind seconds t) := by
  unfold makePhase
  try dsimp only
  repeat' split
  all_goals simp

@[simp] theorem touches_makePhase (h : [Part.machines, Part.flags, Part.session, Part.pools] ⊆ ps) (a : Addr) (kind : PhaseKind) (seconds : Nat) :
    Touches ps s (makePhase a kind seconds t) ↔ Touches ps s t := Touches.iff (touched_makePhase a kind seconds t) h

theorem touched_makeRun (a : Addr) (origin : TestOrigin) (t : State) : Touches [.machines, .flags, .session, .pools] t (makeRun a origin t) := by
  unfold makeRun
  try dsimp only
  all_goals simp

@[simp] theorem touches_makeRun (h : [Part.machines, Part.flags, Part.session, Part.pools] ⊆ ps) (a : Addr) (origin : TestOrigin) :
    Touches ps s (makeRun a origin t) ↔ Touches ps s t := Touches.iff (touched_makeRun a origin t) h

theorem touched_cancelEntry (c : MachineClass) (e : ClaimEntry) (t : State) : Touches [.machines, .flags, .claims] t (cancelEntry c e t) := by
  unfold cancelEntry
  try dsimp only
  repeat' split
  all_goals simp

@[simp] theorem touches_cancelEntry (h : [Part.machines, Part.flags, Part.claims] ⊆ ps) (c : MachineClass) (e : ClaimEntry) :
    Touches ps s (cancelEntry c e t) ↔ Touches ps s t := Touches.iff (touched_cancelEntry c e t) h

/-! ## The loader -/

theorem touched_setTables (x : Tables) (t : State) : Touches [.loader, .flags] t (setTables x t) := by
  unfold setTables
  try dsimp only
  all_goals simp

@[simp] theorem touches_setTables (h : [Part.loader, Part.flags] ⊆ ps) (x : Tables) :
    Touches ps s (setTables x t) ↔ Touches ps s t := Touches.iff (touched_setTables x t) h

theorem touched_reserveChanged (k : PoolId) (c : MachineClass) (old new : Nat) (t : State) : Touches [.machines, .flags, .session, .pools] t (reserveChanged k c old new t) := by
  unfold reserveChanged
  try dsimp only
  repeat' split
  all_goals simp

@[simp] theorem touches_reserveChanged (h : [Part.machines, Part.flags, Part.session, Part.pools] ⊆ ps) (k : PoolId) (c : MachineClass) (old new : Nat) :
    Touches ps s (reserveChanged k c old new t) ↔ Touches ps s t := Touches.iff (touched_reserveChanged k c old new t) h

@[simp] theorem touched_dropSlot (a : Addr) (t : State) : Touches [.bus] t (dropSlot a t) := by
  intro p hp
  cases p <;> simp_all [Same, samePort, dropSlot]

@[simp] theorem touches_dropSlot (h : [Part.bus] ⊆ ps) (a : Addr) :
    Touches ps s (dropSlot a t) ↔ Touches ps s t := Touches.iff (touched_dropSlot a t) h

theorem touched_setRoster (a : Addr) (new : Option RosterEntry) (t : State) : Touches [.loader, .bus, .machines, .flags] t (setRoster a new t) := by
  unfold setRoster
  try dsimp only
  repeat' split
  all_goals simp

@[simp] theorem touches_setRoster (h : [Part.loader, Part.bus, Part.machines, Part.flags] ⊆ ps) (a : Addr) (new : Option RosterEntry) :
    Touches ps s (setRoster a new t) ↔ Touches ps s t := Touches.iff (touched_setRoster a new t) h

/-! ## Timers -/

theorem touched_limitTimeout (a : Addr) (t : State) : Touches [.machines, .flags, .claims, .faults, .session, .pools] t (limitTimeout a t) := by
  unfold limitTimeout
  try dsimp only
  repeat' split
  all_goals simp

@[simp] theorem touches_limitTimeout (h : [Part.machines, Part.flags, Part.claims, Part.faults, Part.session, Part.pools] ⊆ ps) (a : Addr) :
    Touches ps s (limitTimeout a t) ↔ Touches ps s t := Touches.iff (touched_limitTimeout a t) h

theorem touched_stopTimeout (a : Addr) (t : State) : Touches [.machines, .flags, .claims, .faults, .money, .stations, .session, .pools] t (stopTimeout a t) := by
  unfold stopTimeout
  try dsimp only
  repeat' split
  all_goals simp

@[simp] theorem touches_stopTimeout (h : [Part.machines, Part.flags, Part.claims, Part.faults, Part.money, Part.stations, Part.session, Part.pools] ⊆ ps) (a : Addr) :
    Touches ps s (stopTimeout a t) ↔ Touches ps s t := Touches.iff (touched_stopTimeout a t) h

theorem touched_postCool (a : Addr) (t : State) : Touches [.machines] t (postCool a t) := by
  unfold postCool
  try dsimp only
  repeat' split
  all_goals simp

@[simp] theorem touches_postCool (h : [Part.machines] ⊆ ps) (a : Addr) :
    Touches ps s (postCool a t) ↔ Touches ps s t := Touches.iff (touched_postCool a t) h

theorem touched_pauseTimeout (a : Addr) (t : State) : Touches [.machines, .flags, .session, .pools] t (pauseTimeout a t) := by
  unfold pauseTimeout
  try dsimp only
  repeat' split
  all_goals simp

@[simp] theorem touches_pauseTimeout (h : [Part.machines, Part.flags, Part.session, Part.pools] ⊆ ps) (a : Addr) :
    Touches ps s (pauseTimeout a t) ↔ Touches ps s t := Touches.iff (touched_pauseTimeout a t) h

theorem touched_holdTimeout (a : Addr) (t : State) : Touches [.machines, .flags, .claims] t (holdTimeout a t) := by
  unfold holdTimeout
  try dsimp only
  repeat' split
  all_goals simp

@[simp] theorem touches_holdTimeout (h : [Part.machines, Part.flags, Part.claims] ⊆ ps) (a : Addr) :
    Touches ps s (holdTimeout a t) ↔ Touches ps s t := Touches.iff (touched_holdTimeout a t) h

theorem touched_servicePhaseTimeout (t : State) : Touches [.machines, .flags, .claims, .faults, .session, .pools] t (servicePhaseTimeout t) := by
  unfold servicePhaseTimeout
  try dsimp only
  repeat' split
  all_goals simp

@[simp] theorem touches_servicePhaseTimeout (h : [Part.machines, Part.flags, Part.claims, Part.faults, Part.session, Part.pools] ⊆ ps) :
    Touches ps s (servicePhaseTimeout t) ↔ Touches ps s t := Touches.iff (touched_servicePhaseTimeout t) h

theorem touched_windDownTimeout (a : Addr) (t : State) : Touches [.machines, .flags, .claims, .faults, .session, .pools] t (windDownTimeout a t) := by
  unfold windDownTimeout
  try dsimp only
  repeat' split
  all_goals simp

@[simp] theorem touches_windDownTimeout (h : [Part.machines, Part.flags, Part.claims, Part.faults, Part.session, Part.pools] ⊆ ps) (a : Addr) :
    Touches ps s (windDownTimeout a t) ↔ Touches ps s t := Touches.iff (touched_windDownTimeout a t) h

theorem touched_reportTimeout (a : Addr) (t : State) : Touches [.machines, .flags, .claims, .faults, .session, .pools] t (reportTimeout a t) := by
  unfold reportTimeout
  try dsimp only
  repeat' split
  all_goals simp

@[simp] theorem touches_reportTimeout (h : [Part.machines, Part.flags, Part.claims, Part.faults, Part.session, Part.pools] ⊆ ps) (a : Addr) :
    Touches ps s (reportTimeout a t) ↔ Touches ps s t := Touches.iff (touched_reportTimeout a t) h

end Sys2Proof.Machine
end

