-- ==== Sys2Proof/Laws/Links.lean ====
section
/-! SUPPORT. What goes over a link as the device acknowledges it, said once for runs of bytes sent and bytes taken. -/

namespace Sys2Proof.Machine

/-- When a number of bytes was acknowledged. -/
theorem allAcknowledged_iff (count : Nat) (acks : List Bool) :
    allAcknowledged count acks = true ↔ count ≤ acks.length ∧ ∀ b ∈ acks, b = true := by simp [allAcknowledged]

/-- When a read gives its bytes, and which. -/
theorem bytesRead_eq_some (d : LinkDevice) (x : ReadAnswers) (data : List Byte) :
    bytesRead d x = some data ↔ (d.offsetBytes + 2 ≤ x.bytes.length ∧ ∀ b ∈ x.bytes, b = true) ∧ x.data = data := by
  simp [bytesRead, allAcknowledged_iff]

/-- When a read fails. -/
theorem bytesRead_eq_none (d : LinkDevice) (x : ReadAnswers) :
    bytesRead d x = none ↔ ¬ (d.offsetBytes + 2 ≤ x.bytes.length ∧ ∀ b ∈ x.bytes, b = true) := by
  simp [bytesRead, allAcknowledged_iff]

/-- When a write has gone through. -/
theorem writeDone_iff (d : LinkDevice) (count : Nat) (x : LinkAnswers) :
    writeDone d count x = true ↔
      (d.offsetBytes + 1 + count ≤ x.bytes.length ∧ ∀ b ∈ x.bytes, b = true) ∧ true ∈ x.polls := by
  simp [writeDone, allAcknowledged_iff]

/-- A run of bytes that are all acknowledged goes out whole, and what follows it is judged by the answers left. -/
theorem acknowledged_puts (bytes : List Byte) (rest : List LinkSymbol) (acks : List Bool) :
    acknowledged (bytes.map .put ++ rest) (List.replicate bytes.length true ++ acks) =
      bytes.map .put ++ acknowledged rest acks := by
  induction bytes with
  | nil => rfl
  | cons b bs ih => simp [List.replicate_succ, acknowledged, ih]

/-- Bytes that the part takes, and the stop behind them, need no answer of the device. -/
theorem acknowledged_takes (count : Nat) (acks : List Bool) :
    acknowledged (takes count ++ [.stop]) acks = takes count ++ [.stop] := by
  unfold takes
  induction count - 1 with
  | zero => rfl
  | succ n ih => simpa [List.replicate_succ, acknowledged] using ih

/-- The first byte that is not acknowledged is the last one sent, and a stop follows it. -/
theorem acknowledged_stops (b : Byte) (rest : List LinkSymbol) (acks : List Bool) :
    acknowledged (.put b :: rest) (false :: acks) = [.put b, .stop] := rfl

/-- Polls that go unacknowledged are repeated, and the first that is acknowledged is the last. -/
theorem pollTraffic_late (d : LinkDevice) (late rest : List Bool) (h : ∀ b ∈ late, b = false) :
    pollTraffic d (late ++ true :: rest) = (late ++ [true]).flatMap (fun _ => [.start, .put (d.byteFor false), .stop]) := by
  induction late with
  | nil => rfl
  | cons b bs ih =>
    have hb : b = false := h b List.mem_cons_self
    simp [pollTraffic, hb, ih (fun x hx => h x (List.mem_cons_of_mem _ hx))]

end Sys2Proof.Machine
end

