-- ==== Sys2Proof/Laws/PerInstr.lean ====
section
/-! SUPPORT. What holds of every command as it is written: a row of the rights table comes through a port, and what the
link can carry of it is bounded by its payload alone. -/

namespace Sys2Proof.Laws.Requests

open Sys2Proof.Machine

/-- A command that is a request of the rights table names the port it comes through, and is well formed exactly when a
frame can carry its payload (8.1, 8.3). -/
def Statement (i : Instr) : Prop :=
  ∀ (r : Req) (payload : List Byte), requestOf i = some (r, payload) → (portOf i).isSome = true ∧ i.wf = payloadOk payload

theorem powerOn (backupHeld : Bool) : Statement (.powerOn backupHeld) := nofun

theorem autoloadEnd (answers : ReadAnswers) : Statement (.autoloadEnd answers) := nofun

theorem roomSecondTick : Statement .roomSecondTick := nofun

theorem pollSlot : Statement .pollSlot := nofun

theorem replyValid (bytes : List Byte) : Statement (.replyValid bytes) := nofun

theorem replyWindowMissed : Statement .replyWindowMissed := nofun

theorem discoveryReply (bytes : List Byte) : Statement (.discoveryReply bytes) := nofun

theorem joiningReply (bytes : List Byte) : Statement (.joiningReply bytes) := nofun

theorem orphanDeadline (expiry : OrphanExpiry) : Statement (.orphanDeadline expiry) := nofun

theorem phaseLimitReached (address : Nat) : Statement (.phaseLimitReached address) := nofun

theorem stopDeadline (address : Nat) : Statement (.stopDeadline address) := nofun

theorem stopMachine (port : Port) (payload : List Byte) : Statement (.stopMachine port payload) := by
  rintro r x ⟨⟩
  exact ⟨rfl, rfl⟩

theorem remainingPaidSecondsZero (address : Nat) : Statement (.remainingPaidSecondsZero address) := nofun

theorem pauseDeadline (address : Nat) : Statement (.pauseDeadline address) := nofun

theorem haltRoom (port : Port) (payload : List Byte) : Statement (.haltRoom port payload) := by
  rintro r x ⟨⟩
  exact ⟨rfl, rfl⟩

theorem resumeRoom (port : Port) (payload : List Byte) : Statement (.resumeRoom port payload) := by
  rintro r x ⟨⟩
  exact ⟨rfl, rfl⟩

theorem setBand (port : Port) (payload : List Byte) : Statement (.setBand port payload) := by
  rintro r x ⟨⟩
  exact ⟨rfl, rfl⟩

theorem setFeederLimit (port : Port) (payload : List Byte) : Statement (.setFeederLimit port payload) := by
  rintro r x ⟨⟩
  exact ⟨rfl, rfl⟩

theorem setWaterLimit (port : Port) (payload : List Byte) : Statement (.setWaterLimit port payload) := by
  rintro r x ⟨⟩
  exact ⟨rfl, rfl⟩

theorem setReserve (port : Port) (payload : List Byte) : Statement (.setReserve port payload) := by
  rintro r x ⟨⟩
  exact ⟨rfl, rfl⟩

theorem suspendDeadline (address : Nat) : Statement (.suspendDeadline address) := nofun

theorem grantWaitExpiry (address : Nat) : Statement (.grantWaitExpiry address) := nofun

theorem readPool (port : Port) (payload : List Byte) : Statement (.readPool port payload) := by
  rintro r x ⟨⟩
  exact ⟨rfl, rfl⟩

theorem clearPoolStats (port : Port) (payload : List Byte) : Statement (.clearPoolStats port payload) := by
  rintro r x ⟨⟩
  exact ⟨rfl, rfl⟩

theorem pay (station : StationId) (target : Byte) (steps : Byte) : Statement (.pay station target steps) := nofun

theorem addTime (station : StationId) (target : Byte) (steps : Byte) : Statement (.addTime station target steps) := nofun

theorem queue (station : StationId) (cls : Byte) : Statement (.queue station cls) := nofun

theorem balance (station : StationId) : Statement (.balance station) := nofun

theorem requestError (station : StationId) : Statement (.requestError station) := nofun

theorem requestGapTimeout (station : StationId) : Statement (.requestGapTimeout station) := nofun

theorem cardInserted (station : StationId) : Statement (.cardInserted station) := nofun

theorem cardRemoved (station : StationId) : Statement (.cardRemoved station) := nofun

theorem insertionReadFail (station : StationId) : Statement (.insertionReadFail station) := nofun

theorem insertionReadDone (station : StationId) (answers : ReadAnswers) : Statement (.insertionReadDone station answers) := nofun

theorem writeBegun (station : StationId) : Statement (.writeBegun station) := nofun

theorem cardWriteDone (station : StationId) (answers : LinkAnswers) : Statement (.cardWriteDone station answers) := nofun

theorem verifyReadDone (station : StationId) (answers : ReadAnswers) : Statement (.verifyReadDone station answers) := nofun

theorem doubtDeadline (card : Nat) : Statement (.doubtDeadline card) := nofun

theorem readDoubts (port : Port) (payload : List Byte) : Statement (.readDoubts port payload) := by
  rintro r x ⟨⟩
  exact ⟨rfl, rfl⟩

theorem setPrice (port : Port) (payload : List Byte) : Statement (.setPrice port payload) := by
  rintro r x ⟨⟩
  exact ⟨rfl, rfl⟩

theorem addRefund (port : Port) (payload : List Byte) : Statement (.addRefund port payload) := by
  rintro r x ⟨⟩
  exact ⟨rfl, rfl⟩

theorem cancelRefund (port : Port) (payload : List Byte) : Statement (.cancelRefund port payload) := by
  rintro r x ⟨⟩
  exact ⟨rfl, rfl⟩

theorem confirmRefund (port : Port) (payload : List Byte) : Statement (.confirmRefund port payload) := by
  rintro r x ⟨⟩
  exact ⟨rfl, rfl⟩

theorem readRefunds (port : Port) (payload : List Byte) : Statement (.readRefunds port payload) := by
  rintro r x ⟨⟩
  exact ⟨rfl, rfl⟩

theorem clearAudit (port : Port) (payload : List Byte) : Statement (.clearAudit port payload) := by
  rintro r x ⟨⟩
  exact ⟨rfl, rfl⟩

theorem readAudit (port : Port) (payload : List Byte) : Statement (.readAudit port payload) := by
  rintro r x ⟨⟩
  exact ⟨rfl, rfl⟩

theorem holdDeadline (address : Nat) : Statement (.holdDeadline address) := nofun

theorem readQueue (port : Port) (payload : List Byte) : Statement (.readQueue port payload) := by
  rintro r x ⟨⟩
  exact ⟨rfl, rfl⟩

theorem cancelClaim (port : Port) (payload : List Byte) : Statement (.cancelClaim port payload) := by
  rintro r x ⟨⟩
  exact ⟨rfl, rfl⟩

theorem readFaults (port : Port) (payload : List Byte) : Statement (.readFaults port payload) := by
  rintro r x ⟨⟩
  exact ⟨rfl, rfl⟩

theorem clearFaults (port : Port) (payload : List Byte) : Statement (.clearFaults port payload) := by
  rintro r x ⟨⟩
  exact ⟨rfl, rfl⟩

theorem lock (port : Port) (payload : List Byte) : Statement (.lock port payload) := by
  rintro r x ⟨⟩
  exact ⟨rfl, rfl⟩

theorem unlock (port : Port) (payload : List Byte) : Statement (.unlock port payload) := by
  rintro r x ⟨⟩
  exact ⟨rfl, rfl⟩

theorem clearStrikes (port : Port) (payload : List Byte) : Statement (.clearStrikes port payload) := by
  rintro r x ⟨⟩
  exact ⟨rfl, rfl⟩

theorem grantPermit (port : Port) (payload : List Byte) : Statement (.grantPermit port payload) := by
  rintro r x ⟨⟩
  exact ⟨rfl, rfl⟩

theorem enterService (port : Port) (payload : List Byte) : Statement (.enterService port payload) := by
  rintro r x ⟨⟩
  exact ⟨rfl, rfl⟩

theorem exitService (port : Port) (payload : List Byte) : Statement (.exitService port payload) := by
  rintro r x ⟨⟩
  exact ⟨rfl, rfl⟩

theorem servicePhase (port : Port) (payload : List Byte) : Statement (.servicePhase port payload) := by
  rintro r x ⟨⟩
  exact ⟨rfl, rfl⟩

theorem servicePhaseDeadline : Statement .servicePhaseDeadline := nofun

theorem windDownDeadline (address : Nat) : Statement (.windDownDeadline address) := nofun

theorem selfTest (port : Port) (payload : List Byte) : Statement (.selfTest port payload) := by
  rintro r x ⟨⟩
  exact ⟨rfl, rfl⟩

theorem subtestReportDeadline (address : Nat) : Statement (.subtestReportDeadline address) := nofun

theorem frameError (port : Port) : Statement (.frameError port) := nofun

theorem portBreak (port : Port) : Statement (.portBreak port) := nofun

theorem frameDiscardedQueueFull (port : Port) : Statement (.frameDiscardedQueueFull port) := nofun

theorem unknownCode (port : Port) (code : Byte) (payload : List Byte) : Statement (.unknownCode port code payload) := nofun

theorem replySent (port : Port) : Statement (.replySent port) := nofun

theorem readEvents (port : Port) (payload : List Byte) : Statement (.readEvents port payload) := by
  rintro r x ⟨⟩
  exact ⟨rfl, rfl⟩

theorem ackEvents (port : Port) (payload : List Byte) : Statement (.ackEvents port payload) := by
  rintro r x ⟨⟩
  exact ⟨rfl, rfl⟩

theorem setNoticeMask (port : Port) (payload : List Byte) : Statement (.setNoticeMask port payload) := by
  rintro r x ⟨⟩
  exact ⟨rfl, rfl⟩

theorem readRoom (port : Port) (payload : List Byte) : Statement (.readRoom port payload) := by
  rintro r x ⟨⟩
  exact ⟨rfl, rfl⟩

theorem readMachine (port : Port) (payload : List Byte) : Statement (.readMachine port payload) := by
  rintro r x ⟨⟩
  exact ⟨rfl, rfl⟩

theorem setRoomParam (port : Port) (payload : List Byte) : Statement (.setRoomParam port payload) := by
  rintro r x ⟨⟩
  exact ⟨rfl, rfl⟩

theorem setWashProfile (port : Port) (payload : List Byte) : Statement (.setWashProfile port payload) := by
  rintro r x ⟨⟩
  exact ⟨rfl, rfl⟩

theorem setDryProfile (port : Port) (payload : List Byte) : Statement (.setDryProfile port payload) := by
  rintro r x ⟨⟩
  exact ⟨rfl, rfl⟩

theorem setMachine (port : Port) (payload : List Byte) : Statement (.setMachine port payload) := by
  rintro r x ⟨⟩
  exact ⟨rfl, rfl⟩

theorem storeConfig (port : Port) (payload : List Byte) : Statement (.storeConfig port payload) := by
  rintro r x ⟨⟩
  exact ⟨rfl, rfl⟩

theorem storeAccessDone (access : StoreAccess) : Statement (.storeAccessDone access) := nofun

theorem receiveLineByte (port : Port) (byte : Byte) : Statement (.receiveLineByte port byte) := nofun

theorem requestLineByte (station : StationId) (byte : Byte) : Statement (.requestLineByte station byte) := nofun

end Sys2Proof.Laws.Requests
end

