-- ==== Sys2Proof/Laws/Requests.lean ====
section
/-! SUPPORT. What the decisions of the requests can touch, what a request that is admitted comes to, and what becomes of
the ports. -/

namespace Sys2Proof.Machine

variable {ps : List Part} {s t : State}

@[simp] theorem refuse_state (status : Status) (s : State) : (refuse status s).state = s := rfl
@[simp] theorem done_state (payload : List Byte) (s : State) : (done payload s).state = s := rfl
@[simp] theorem accepted_state (s : State) : (accepted s).state = s := rfl
@[simp] theorem applied_state (b : Bool) (payload : List Byte) (s : State) : (applied b payload s).state = s := rfl

@[simp] theorem touches_setPort (h : [Part.flags, Part.ports] ⊆ ps) (p : Port) (x : PortState) :
    Touches ps s (t.setPort p x) ↔ Touches ps s t := by
  refine Touches.iff (qs := [.flags, .ports]) (fun q hp => ?_) h
  cases q <;> cases p <;> simp_all [Same, State.setPort]

@[simp] theorem touches_hunt (h : [Part.ports] ⊆ ps) (p : Port) : Touches ps s (hunt p t) ↔ Touches ps s t := by
  refine Touches.iff (qs := [.ports]) (fun q hp => ?_) h
  cases q <;> cases p <;> simp_all [Same, State.setPort, hunt, State.port]

@[simp] theorem touches_pushReply (h : [Part.ports] ⊆ ps) (p : Port) (x : PortReply) :
    Touches ps s (pushReply p x t) ↔ Touches ps s t := by
  refine Touches.iff (qs := [.ports]) (fun q hp => ?_) h
  cases q <;> cases p <;> simp_all [Same, State.setPort, pushReply, State.port]

@[simp] theorem touches_replySent (h : [Part.ports] ⊆ ps) (p : Port) : Touches ps s (replySent p t) ↔ Touches ps s t := by
  refine Touches.iff (qs := [.ports]) (fun q hp => ?_) h
  cases q <;> cases p <;> simp_all [Same, State.setPort, replySent, State.port]

@[simp] theorem touches_room_halted (h : [Part.room] ⊆ ps) (b : Bool) :
    Touches ps s { t with halted := b } ↔ Touches ps s t := by
  refine Touches.iff (qs := [.room]) (fun q hp => ?_) h
  cases q <;> simp_all [Same, samePort]

@[simp] theorem touches_room_band (h : [Part.room] ⊆ ps) (b : Band) : Touches ps s { t with band := b } ↔ Touches ps s t := by
  refine Touches.iff (qs := [.room]) (fun q hp => ?_) h
  cases q <;> simp_all [Same, samePort]

theorem touched_haltRoom (t : State) :
    Touches [.room, .machines, .session, .pools, .claims, .faults, .flags] t (haltRoom t) :=
  (touched_of (by simp)).trans (Touches.foldl (fun u a => (touched_haltMachine a u).mono (by simp)) _ _)

theorem touched_resumeRoom (t : State) : Touches [.room, .machines, .session, .pools, .claims, .flags] t (resumeRoom t) :=
  (touched_of (by simp)).trans (Touches.foldl (fun u a => (touched_resumeOffer a u).mono (by simp)) _ _)

/-! ## The decisions -/

theorem touched_decideReadMachine (payload : List Byte) (t : State) : Touches [] t (decideReadMachine payload t).state := by
  unfold decideReadMachine withAddress
  repeat' split
  all_goals simp

theorem touched_decideReadRoom (t : State) : Touches [] t (decideReadRoom t).state := by
  unfold decideReadRoom
  try dsimp only
  all_goals simp

theorem touched_decideReadEvents (p : Port) (t : State) : Touches [] t (decideReadEvents p t).state := by
  unfold decideReadEvents
  try dsimp only
  all_goals simp

theorem touched_decideAck (p : Port) (payload : List Byte) (t : State) : Touches [.flags, .ports] t (decideAck p payload t).state := by
  unfold decideAck
  try dsimp only
  repeat' split
  all_goals simp

theorem touched_decideMask (p : Port) (payload : List Byte) (t : State) : Touches [.flags, .ports] t (decideMask p payload t).state := by
  unfold decideMask
  try dsimp only
  repeat' split
  all_goals simp

theorem touched_decideLimit (k : PoolId) (payload : List Byte) (t : State) : Touches [.machines, .flags, .session, .pools] t (decideLimit k payload t).state := by
  unfold decideLimit
  try dsimp only
  all_goals simp

theorem touched_decideBand (payload : List Byte) (t : State) : Touches [.room, .flags] t (decideBand payload t).state := by
  unfold decideBand
  try dsimp only
  repeat' split
  all_goals simp

theorem touched_decideHalt (t : State) : Touches [.room, .machines, .session, .pools, .claims, .faults, .flags] t (decideHalt t).state := by
  simp only [decideHalt, done_state]
  split
  · simp
  · exact (touched_haltRoom t).mono (by simp)

theorem touched_decideResume (t : State) : Touches [.room, .machines, .session, .pools, .claims, .flags] t (decideResume t).state := by
  simp only [decideResume, done_state]
  split
  · exact (touched_resumeRoom t).mono (by simp)
  · simp

theorem touched_decideReadPool (payload : List Byte) (t : State) : Touches [] t (decideReadPool payload t).state := by
  unfold decideReadPool
  try dsimp only
  repeat' split
  all_goals simp

theorem touched_decideClearStats (t : State) : Touches [.pools] t (decideClearStats t).state := by
  unfold decideClearStats
  try dsimp only
  all_goals simp

theorem touched_decideRoomParam (payload : List Byte) (t : State) : Touches [.loader, .machines, .flags, .session, .pools] t (decideRoomParam payload t).state := by
  unfold decideRoomParam
  try dsimp only
  repeat' split
  all_goals simp

theorem touched_decideWashProfile (payload : List Byte) (t : State) : Touches [.loader, .flags] t (decideWashProfile payload t).state := by
  unfold decideWashProfile
  try dsimp only
  repeat' split
  all_goals simp

theorem touched_decideDryProfile (payload : List Byte) (t : State) : Touches [.loader, .flags] t (decideDryProfile payload t).state := by
  unfold decideDryProfile
  try dsimp only
  repeat' split
  all_goals simp

theorem touched_decidePrice (payload : List Byte) (t : State) : Touches [.loader, .flags] t (decidePrice payload t).state := by
  unfold decidePrice priceWasher priceDryer
  dsimp only
  repeat' split
  all_goals simp

theorem touched_decideMachine (payload : List Byte) (t : State) : Touches [.loader, .bus, .machines, .flags] t (decideMachine payload t).state := by
  unfold decideMachine
  try dsimp only
  repeat' split
  all_goals simp

theorem touched_decideReserve (payload : List Byte) (t : State) : Touches [.loader, .machines, .flags, .session, .pools] t (decideReserve payload t).state := by
  unfold decideReserve
  try dsimp only
  repeat' split
  all_goals simp

theorem touched_decideStore (t : State) : Touches [.loader] t (decideStore t).state := by
  unfold decideStore
  try dsimp only
  repeat' split
  all_goals simp

theorem touched_decideLock (payload : List Byte) (t : State) : Touches [.machines, .flags, .claims] t (decideLock payload t).state := by
  unfold decideLock withConfigured withAddress
  split
  · simp
  · dsimp only
    repeat' split
    all_goals simp

theorem touched_decideUnlock (payload : List Byte) (t : State) : Touches [.machines, .flags, .claims] t (decideUnlock payload t).state := by
  unfold decideUnlock withConfigured withAddress
  split
  · simp
  · dsimp only
    repeat' split
    all_goals simp

theorem touched_decideClearStrikes (payload : List Byte) (t : State) : Touches [.machines, .flags] t (decideClearStrikes payload t).state := by
  unfold decideClearStrikes withAddress
  repeat' split
  all_goals simp

theorem touched_decidePermit (payload : List Byte) (t : State) : Touches [.machines, .flags] t (decidePermit payload t).state := by
  unfold decidePermit withConfigured withAddress
  split
  · simp
  · dsimp only
    repeat' split
    all_goals simp

theorem touched_decideStop (payload : List Byte) (t : State) : Touches [.machines, .flags, .claims, .faults, .session, .pools] t (decideStop payload t).state := by
  unfold decideStop withConfigured withAddress
  split
  · simp
  · dsimp only
    repeat' split
    all_goals simp

theorem touched_decideTest (p : Port) (payload : List Byte) (t : State) : Touches [.machines, .flags, .session, .pools] t (decideTest p payload t).state := by
  unfold decideTest withAddress operatorTest sessionTest
  dsimp only
  repeat' split
  all_goals simp

theorem touched_decideReadFaults (payload : List Byte) (t : State) : Touches [] t (decideReadFaults payload t).state := by
  unfold decideReadFaults
  try dsimp only
  repeat' split
  all_goals simp

theorem touched_decideClearFaults (payload : List Byte) (t : State) : Touches [.faults, .flags] t (decideClearFaults payload t).state := by
  unfold decideClearFaults
  try dsimp only
  repeat' split
  all_goals simp

theorem touched_decideReadAudit (t : State) : Touches [] t (decideReadAudit t).state := by
  unfold decideReadAudit
  try dsimp only
  all_goals simp

theorem touched_decideClearAudit (t : State) : Touches [.money, .flags] t (decideClearAudit t).state := by
  unfold decideClearAudit
  try dsimp only
  all_goals simp

theorem touched_decideReadRefunds (payload : List Byte) (t : State) : Touches [] t (decideReadRefunds payload t).state := by
  unfold decideReadRefunds
  try dsimp only
  repeat' split
  all_goals simp

theorem touched_decideAddRefund (payload : List Byte) (t : State) : Touches [.machines, .flags, .claims, .faults, .money, .stations] t (decideAddRefund payload t).state := by
  unfold decideAddRefund
  try dsimp only
  repeat' split
  all_goals simp

theorem touched_decideCancelRefund (payload : List Byte) (t : State) : Touches [.money, .flags] t (decideCancelRefund payload t).state := by
  unfold decideCancelRefund
  try dsimp only
  repeat' split
  all_goals simp

theorem touched_decideConfirmRefund (payload : List Byte) (t : State) : Touches [.money, .flags, .stations] t (decideConfirmRefund payload t).state := by
  unfold decideConfirmRefund
  try dsimp only
  repeat' split
  all_goals simp

theorem touched_decideReadDoubts (t : State) : Touches [] t (decideReadDoubts t).state := by
  unfold decideReadDoubts
  try dsimp only
  all_goals simp

theorem touched_decideReadQueue (payload : List Byte) (t : State) : Touches [] t (decideReadQueue payload t).state := by
  unfold decideReadQueue
  try dsimp only
  repeat' split
  all_goals simp

theorem touched_decideCancelClaim (payload : List Byte) (t : State) : Touches [.machines, .flags, .claims] t (decideCancelClaim payload t).state := by
  unfold decideCancelClaim
  try dsimp only
  repeat' split
  all_goals simp

theorem touched_decideEnter (payload : List Byte) (t : State) : Touches [.machines, .flags, .session] t (decideEnter payload t).state := by
  unfold decideEnter withConfigured withAddress
  split
  · simp
  · dsimp only
    repeat' split
    all_goals simp

theorem touched_decideExit (t : State) : Touches [.machines, .flags, .claims, .session, .pools] t (decideExit t).state := by
  unfold decideExit
  try dsimp only
  repeat' split
  all_goals simp

theorem touched_decidePhase (payload : List Byte) (t : State) : Touches [.machines, .flags, .session, .pools] t (decidePhase payload t).state := by
  unfold decidePhase
  try dsimp only
  repeat' split
  all_goals simp

/-! ## Requests -/

/-- What the owner of a request can touch. -/
theorem touched_ownerDecision (r : Req) (p : Port) (payload : List Byte) (t : State) :
    Touches (requestFrame r) t (ownerDecision r p payload t).state := by
  cases r
  case readMachine => exact (touched_decideReadMachine _ _).mono (by simp [requestFrame, requestParts])
  case readRoom => exact (touched_decideReadRoom _).mono (by simp [requestFrame, requestParts])
  case readEvents => exact (touched_decideReadEvents _ _).mono (by simp [requestFrame, requestParts])
  case ackEvents => exact (touched_decideAck _ _ _).mono (by simp [requestFrame, requestParts])
  case setNoticeMask => exact (touched_decideMask _ _ _).mono (by simp [requestFrame, requestParts])
  case setFeederLimit => exact (touched_decideLimit _ _ _).mono (by simp [requestFrame, requestParts])
  case setWaterLimit => exact (touched_decideLimit _ _ _).mono (by simp [requestFrame, requestParts])
  case setBand => exact (touched_decideBand _ _).mono (by simp [requestFrame, requestParts])
  case haltRoom => exact (touched_decideHalt _).mono (by simp [requestFrame, requestParts])
  case resumeRoom => exact (touched_decideResume _).mono (by simp [requestFrame, requestParts])
  case readPool => exact (touched_decideReadPool _ _).mono (by simp [requestFrame, requestParts])
  case clearPoolStats => exact (touched_decideClearStats _).mono (by simp [requestFrame, requestParts])
  case setRoomParam => exact (touched_decideRoomParam _ _).mono (by simp [requestFrame, requestParts])
  case setWashProfile => exact (touched_decideWashProfile _ _).mono (by simp [requestFrame, requestParts])
  case setDryProfile => exact (touched_decideDryProfile _ _).mono (by simp [requestFrame, requestParts])
  case setPrice => exact (touched_decidePrice _ _).mono (by simp [requestFrame, requestParts])
  case setMachine => exact (touched_decideMachine _ _).mono (by simp [requestFrame, requestParts])
  case setReserve => exact (touched_decideReserve _ _).mono (by simp [requestFrame, requestParts])
  case storeConfig => exact (touched_decideStore _).mono (by simp [requestFrame, requestParts])
  case lock => exact (touched_decideLock _ _).mono (by simp [requestFrame, requestParts])
  case unlock => exact (touched_decideUnlock _ _).mono (by simp [requestFrame, requestParts])
  case clearStrikes => exact (touched_decideClearStrikes _ _).mono (by simp [requestFrame, requestParts])
  case grantPermit => exact (touched_decidePermit _ _).mono (by simp [requestFrame, requestParts])
  case stopMachine => exact (touched_decideStop _ _).mono (by simp [requestFrame, requestParts])
  case selfTest => exact (touched_decideTest _ _ _).mono (by simp [requestFrame, requestParts])
  case readFaults => exact (touched_decideReadFaults _ _).mono (by simp [requestFrame, requestParts])
  case clearFaults => exact (touched_decideClearFaults _ _).mono (by simp [requestFrame, requestParts])
  case readAudit => exact (touched_decideReadAudit _).mono (by simp [requestFrame, requestParts])
  case clearAudit => exact (touched_decideClearAudit _).mono (by simp [requestFrame, requestParts])
  case readRefunds => exact (touched_decideReadRefunds _ _).mono (by simp [requestFrame, requestParts])
  case addRefund => exact (touched_decideAddRefund _ _).mono (by simp [requestFrame, requestParts])
  case cancelRefund => exact (touched_decideCancelRefund _ _).mono (by simp [requestFrame, requestParts])
  case confirmRefund => exact (touched_decideConfirmRefund _ _).mono (by simp [requestFrame, requestParts])
  case readDoubts => exact (touched_decideReadDoubts _).mono (by simp [requestFrame, requestParts])
  case readQueue => exact (touched_decideReadQueue _ _).mono (by simp [requestFrame, requestParts])
  case cancelClaim => exact (touched_decideCancelClaim _ _).mono (by simp [requestFrame, requestParts])
  case enterService => exact (touched_decideEnter _ _).mono (by simp [requestFrame, requestParts])
  case exitService => exact (touched_decideExit _).mono (by simp [requestFrame, requestParts])
  case servicePhase => exact (touched_decidePhase _ _).mono (by simp [requestFrame, requestParts])

theorem touched_takeRequest (r : Req) (p : Port) (payload : List Byte) (t : State) :
    Touches (requestFrame r) t (takeRequest r p payload t) := by
  have hp : [Part.ports] ⊆ requestFrame r := by simp [requestFrame]
  unfold takeRequest decideRequest
  dsimp only
  split
  · simp [hp]
  · rw [touches_pushReply hp]
    split
    · simp [hp]
    · exact ((touches_hunt hp p).mpr (Touches.refl _ _)).trans (touched_ownerDecision _ _ _ _)

/-- A timer touches what its machine's timer touches. -/
theorem touched_atAddress {f : Addr → State → State} (h : ∀ a t, Touches ps t (f a t)) (n : Nat) (t : State) :
    Touches ps t (atAddress n f t) := by
  unfold atAddress
  split
  · exact Touches.refl ps t
  · exact h _ t

/-! ## What a request comes to -/

/-- A command of the rights table is its request, taken from its port. -/
theorem exec_request {c : Instr} {r : Req} {payload : List Byte} {p : Port} (hr : requestOf c = some (r, payload))
    (hp : portOf c = some p) (s : State) : exec c s = .next (takeRequest r p payload s) := by
  cases c <;> simp [requestOf] at hr <;> simp [portOf] at hp <;> obtain ⟨rfl, rfl⟩ := hr <;> subst hp <;> rfl

/-- At a full reply queue a request leaves nothing but a HUNTING receiver. -/
theorem takeRequest_full {r : Req} {p : Port} {payload : List Byte} {s : State} (h : 4 ≤ (s.port p).replies.length) :
    takeRequest r p payload s = hunt p s := by
  have : ((hunt p s).port p).replies = (s.port p).replies := by cases p <;> rfl
  simp [takeRequest, queueFull, this, Config.waitingReplies, h]

/-- A request that finds room for its reply is answered with what was decided. -/
theorem takeRequest_decided {r : Req} {p : Port} {payload : List Byte} {s : State} (h : (s.port p).replies.length < 4) :
    takeRequest r p payload s = pushReply p ⟨byte (reqCode r), (decideRequest r p payload (hunt p s)).status,
      (decideRequest r p payload (hunt p s)).payload⟩ (decideRequest r p payload (hunt p s)).state := by
  have hr : ((hunt p s).port p).replies = (s.port p).replies := by cases p <;> rfl
  have : ¬ 4 ≤ (s.port p).replies.length := by omega
  simp [takeRequest, queueFull, hr, Config.waitingReplies, this]

/-- A request on a port that listens, with its right and its length, is answered with its owner's decision. -/
theorem takeRequest_admitted {r : Req} {p : Port} {payload : List Byte} {s : State} (h : s.listens p)
    (h1 : reqRight p r = true) (h2 : reqLength payload r = true) :
    takeRequest r p payload s = pushReply p ⟨byte (reqCode r), (ownerDecision r p payload (hunt p s)).status,
      (ownerDecision r p payload (hunt p s)).payload⟩ (ownerDecision r p payload (hunt p s)).state := by
  have hm : (hunt p s).mode = .operating := by cases p <;> exact h.1
  rw [takeRequest_decided h.2]
  simp [decideRequest, admission, h1, h2, hm]

/-- A request that its owner leaves without a change is answered and nothing else. -/
theorem pushReply_hunt (p : Port) (x : PortReply) (s : State) : pushReply p x (hunt p s) = s.answering p x 0 := by
  cases p <;> simp [pushReply, hunt, State.setPort, State.port, State.answering, portAfter]

end Sys2Proof.Machine
end

