-- ==== Sys2Proof/Laws/Records.lean ====
section
/-! SUPPORT. What the shared operations do to one machine record and to one wait list, for the operations that several
machines pass through: locks and fault handings, grants and scans, withdrawals and stops. -/

namespace Sys2Proof.Machine

variable {s : State}

/-! ## One machine at a time -/

theorem machine_modifyMachine (a b : Addr) (f : MachineRecord → MachineRecord) (s : State) :
    (modifyMachine a f s).machine b = if b = a then f (s.machine a) else s.machine b := machine_setMachine s a b _

@[simp] theorem machine_modifyMachine_self (a : Addr) (f : MachineRecord → MachineRecord) (s : State) :
    (modifyMachine a f s).machine a = f (s.machine a) := by simp [machine_modifyMachine]

theorem machine_modifyMachine_other {a b : Addr} (h : b ≠ a) (f : MachineRecord → MachineRecord) (s : State) :
    (modifyMachine a f s).machine b = s.machine b := by simp [machine_modifyMachine, h]

/-- An operation that touches no machine leaves every record. -/
theorem Touches.machine {ps : List Part} {s t : State} (h : Touches ps s t) (hp : Part.machines ∉ ps) (a : Addr) :
    t.machine a = s.machine a := by
  have := h _ hp
  simp only [Same] at this
  simp [State.machine, this]

@[simp] theorem changeQueue_machine (c : MachineClass) (f : ClaimQueue → ClaimQueue) (s : State) (a : Addr) :
    (changeQueue c f s).machine a = s.machine a := (touched_changeQueue c f s).machine (by simp) a

/-! ## Claim queues -/

theorem handBack_machine_self (a : Addr) (s : State) : (handBack a s).machine a = { s.machine a with hold := none } := by
  unfold handBack
  split
  · simp
  · rename_i h
    have : (s.machine a).hold = none := by simpa using h
    rw [← this]

theorem handBack_machine_other {a b : Addr} (h : b ≠ a) (s : State) : (handBack a s).machine b = s.machine b := by
  unfold handBack
  split <;> simp [machine_modifyMachine_other h]

@[simp] theorem moveTo_machine_self (a : Addr) (st : MachineState) (s : State) :
    (moveTo a st s).machine a = { s.machine a with state := st } := by simp [moveTo]

theorem moveTo_machine_other {a b : Addr} (h : b ≠ a) (st : MachineState) (s : State) :
    (moveTo a st s).machine b = s.machine b := by simp [moveTo, machine_modifyMachine_other h]

/-! ## Locks and faults -/

/-- What a lock makes of a machine record (R47). -/
def lockedRecord (kind : Lock) (m : MachineRecord) : MachineRecord :=
  let m := { m with lock := lockField m.lock kind }
  match m.state with
  | .idle | .selected => { m with state := .outOfService }
  | .held => { m with hold := none, state := .outOfService }
  | .running | .stopping | .finished | .testing | .service => { m with lockPending := true }
  | .paying | .absent | .outOfService => m

@[simp] theorem setLock_machine_self (a : Addr) (kind : Lock) (s : State) :
    (setLock a kind s).machine a = { s.machine a with lock := lockField (s.machine a).lock kind } := by
  unfold setLock
  split
  · rename_i h; rw [h]
  · simp

theorem setLock_machine_other {a b : Addr} (h : b ≠ a) (kind : Lock) (s : State) :
    (setLock a kind s).machine b = s.machine b := by
  unfold setLock
  split <;> simp [machine_modifyMachine_other h]

@[simp] theorem setPending_machine_self (a : Addr) (s : State) :
    (setPending a s).machine a = { s.machine a with lockPending := true } := by
  unfold setPending
  split
  · rename_i h
    generalize s.machine a = m at h
    cases m; simp_all
  · simp

theorem setPending_machine_other {a b : Addr} (h : b ≠ a) (s : State) : (setPending a s).machine b = s.machine b := by
  unfold setPending
  split <;> simp [machine_modifyMachine_other h]

theorem applyLock_machine_self (a : Addr) (kind : Lock) (s : State) :
    (applyLock a kind s).machine a = lockedRecord kind (s.machine a) := by
  unfold applyLock lockedRecord
  dsimp only
  simp only [setLock_machine_self]
  split <;> simp_all [handBack_machine_self]

theorem applyLock_machine_other {a b : Addr} (h : b ≠ a) (kind : Lock) (s : State) :
    (applyLock a kind s).machine b = s.machine b := by
  unfold applyLock
  dsimp only
  split <;> simp [moveTo_machine_other h, handBack_machine_other h, setLock_machine_other h, setPending_machine_other h]

/-- What a record keeps through a handing of a fault: all but its state, its locks, its hold, its strikes and its
exemption; and a machine that is neither free nor held keeps its state. -/
structure Struck (m n : MachineRecord) : Prop where
  bus : n.bus = m.bus
  door : n.door = m.door
  selection : n.selection = m.selection
  payment : n.payment = m.payment
  opened : n.openedSinceFinish = m.openedSinceFinish
  cycle : n.cycle = m.cycle
  permit : n.permit = m.permit
  lastTest : n.lastTest = m.lastTest
  testRun : n.testRun = m.testRun
  state : m.state ≠ .idle → m.state ≠ .selected → m.state ≠ .held → n.state = m.state ∧ n.hold = m.hold

theorem Struck.refl (m : MachineRecord) : Struck m m := by constructor <;> simp

theorem Struck.trans {m n o : MachineRecord} (h : Struck m n) (k : Struck n o) : Struck m o where
  bus := k.bus.trans h.bus
  door := k.door.trans h.door
  selection := k.selection.trans h.selection
  payment := k.payment.trans h.payment
  opened := k.opened.trans h.opened
  cycle := k.cycle.trans h.cycle
  permit := k.permit.trans h.permit
  lastTest := k.lastTest.trans h.lastTest
  testRun := k.testRun.trans h.testRun
  state := fun h1 h2 h3 => by
    have ⟨e1, e2⟩ := h.state h1 h2 h3
    have ⟨f1, f2⟩ := k.state (by rwa [e1]) (by rwa [e1]) (by rwa [e1])
    exact ⟨f1.trans e1, f2.trans e2⟩

theorem struck_lockedRecord (kind : Lock) (m : MachineRecord) : Struck m (lockedRecord kind m) := by
  unfold lockedRecord
  dsimp only
  split <;> constructor <;> simp_all

theorem struck_applyLock (a b : Addr) (kind : Lock) (s : State) : Struck (s.machine b) ((applyLock a kind s).machine b) := by
  by_cases h : b = a
  · subst h; rw [applyLock_machine_self]; exact struck_lockedRecord _ _
  · rw [applyLock_machine_other h]; exact Struck.refl _

theorem struck_strike (a b : Addr) (h : Handing) (s : State) : Struck (s.machine b) ((strike a h s).machine b) := by
  have key : ∀ (f : MachineRecord → MachineRecord), (∀ m, Struck m (f m)) →
      Struck (s.machine b) ((modifyMachine a f s).machine b) := by
    intro f hf
    rw [machine_modifyMachine]
    split
    · rename_i e; subst e; exact hf _
    · exact Struck.refl _
  unfold strike
  dsimp only
  split
  · exact key _ (fun m => by constructor <;> simp)
  · split
    · split
      · refine Struck.trans ?_ (struck_applyLock a b _ _)
        simp only [raise_machine]
        exact key _ (fun m => by constructor <;> simp)
      · simp only [raise_machine]
        exact key _ (fun m => by constructor <;> simp)
    · exact Struck.refl _

theorem struck_forcedLock (a b : Addr) (h : Handing) (s : State) : Struck (s.machine b) ((forcedLock a h s).machine b) := by
  unfold forcedLock
  split
  · exact struck_applyLock a b _ s
  · exact Struck.refl _

/-- A handing of a fault keeps of every machine record what `Struck` says. -/
theorem struck_handFault (h : Handing) (b : Addr) (s : State) : Struck (s.machine b) ((handFault h s).machine b) := by
  unfold handFault
  dsimp only
  split
  · exact Struck.refl (s.machine b)
  · rename_i a _
    refine Struck.trans ?_ (struck_forcedLock a b h _)
    exact struck_strike a b h (raise .fault { s with faults := recordFault s.now h s.faults })

/-- A handing of a fault for one machine leaves the others. -/
theorem handFault_machine_other {h : Handing} {a b : Addr} (ha : h.machine = addrNum a) (hb : b ≠ a) (s : State) :
    (handFault h s).machine b = s.machine b := by
  have e : addr? h.machine = some a := by
    rw [ha]
    have : a.val < 24 := a.isLt
    have h : (1 ≤ a.val + 1 ∧ a.val + 1 ≤ 24) := ⟨by omega, by omega⟩
    simp [addr?, addrNum, h]
  unfold handFault
  simp only [e]
  have hs : ∀ t : State, (strike a h t).machine b = t.machine b := by
    intro t
    unfold strike
    dsimp only
    split
    · exact machine_modifyMachine_other hb _ _
    · split
      · split
        · rw [applyLock_machine_other hb]; simp [machine_modifyMachine_other hb]
        · simp [machine_modifyMachine_other hb]
      · rfl
  have hf : ∀ t : State, (forcedLock a h t).machine b = t.machine b := by
    intro t
    unfold forcedLock
    split
    · exact applyLock_machine_other hb _ _
    · rfl
  rw [hf, hs]
  rfl

theorem handFault_faults (h : Handing) (s : State) : (handFault h s).faults = recordFault s.now h s.faults := by
  have key : ∀ (a : Addr) (t : State), (forcedLock a h (strike a h t)).faults = t.faults := by
    intro a t
    exact (touched_of (ps := [.machines, .flags, .claims]) (by simp)).same .faults (by simp)
  unfold handFault
  dsimp only
  split
  · rfl
  · rw [key]; rfl

/-- The record of a handing stands at the tail of the table after it. -/
theorem recordFault_last (now : Nat) (h : Handing) (t : List FaultRecord) :
    ∃ r, (recordFault now h t).getLast? = some r ∧ r.machine = h.machine ∧ r.code = h.code ∧ r.lastTime = now := by
  unfold recordFault
  cases hf : t.find? (recordOf h) with
  | none => exact ⟨_, List.getLast?_concat .., rfl, rfl, rfl⟩
  | some r =>
    have hr := List.find?_some hf
    simp only [recordOf, Bool.and_eq_true, beq_iff_eq] at hr
    exact ⟨_, List.getLast?_concat .., hr.1, hr.2, rfl⟩

theorem handFault_now (h : Handing) (s : State) : (handFault h s).now = s.now :=
  ((touched_handFault h s).same .clock (by simp)).1

theorem faultLast_handFault (h : Handing) (s : State) : faultLast h.machine h.code (handFault h s) := by
  obtain ⟨r, h1, h2, h3, h4⟩ := recordFault_last s.now h s.faults
  exact ⟨r, by rw [handFault_faults]; exact h1, h2, h3, by rw [handFault_now]; exact h4⟩

/-- What touches neither the fault table nor the clock keeps the last record. -/
theorem faultLast.of_touches {ps : List Part} {s t : State} {m c : Nat} (h : faultLast m c s) (ht : Touches ps s t)
    (h1 : Part.faults ∉ ps) (h2 : Part.clock ∉ ps) : faultLast m c t := by
  obtain ⟨r, e1, e2, e3, e4⟩ := h
  have hf : t.faults = s.faults := ht _ h1
  have hn : t.now = s.now := (ht _ h2).1
  exact ⟨r, by rw [hf]; exact e1, e2, e3, by rw [hn]; exact e4⟩

/-- STOP_TIMEOUT and ROSTER_MISMATCH leave their machine locked (R143). -/
theorem handFault_lock {h : Handing} {a : Addr} (ha : addr? h.machine = some a)
    (hc : h.code = faultStopTimeout ∨ h.code = faultRosterMismatch) (s : State) :
    ((handFault h s).machine a).lock = if (s.machine a).lock = .locked then .locked else .autoLocked := by
  have hl : ∀ (m : MachineRecord), (lockedRecord .autoLocked m).lock = if m.lock = .locked then .locked else .autoLocked := by
    intro m
    unfold lockedRecord
    dsimp only
    split <;> simp [lockField]
  have hs : ∀ t : State, ((strike a h t).machine a).lock = .locked ↔ (t.machine a).lock = .locked := by
    intro t
    unfold strike
    dsimp only
    split
    · simp
    · split
      · split
        · rw [applyLock_machine_self, hl]; simp
        · simp
      · rfl
  unfold handFault
  simp only [ha]
  unfold forcedLock
  rw [if_pos hc, applyLock_machine_self, hl]
  simp only [hs, raise_machine]
  rfl

/-! ## Grants, scans and withdrawals -/

/-- A cycle but for the sub-state of its phase. -/
def apartSub (c : Cycle) : Cycle := { c with sub := .waiting }

/-- What a record keeps while grants are delivered: all but its commands, the sub-state of its phase and its test run. -/
structure Calm (m n : MachineRecord) : Prop where
  state : n.state = m.state
  lock : n.lock = m.lock
  lockPending : n.lockPending = m.lockPending
  door : n.door = m.door
  selection : n.selection = m.selection
  hold : n.hold = m.hold
  payment : n.payment = m.payment
  opened : n.openedSinceFinish = m.openedSinceFinish
  cycle : n.cycle.map apartSub = m.cycle.map apartSub
  strikes : n.strikes = m.strikes
  permit : n.permit = m.permit
  lastTest : n.lastTest = m.lastTest
  exemption : n.absenceExemption = m.absenceExemption
  presence : n.bus.presence = m.bus.presence
  report : n.bus.report = m.bus.report

theorem Calm.refl (m : MachineRecord) : Calm m m := by constructor <;> rfl

theorem Calm.trans {m n o : MachineRecord} (h : Calm m n) (k : Calm n o) : Calm m o := by
  constructor <;> first
    | exact k.state.trans h.state | exact k.lock.trans h.lock | exact k.lockPending.trans h.lockPending
    | exact k.door.trans h.door | exact k.selection.trans h.selection | exact k.hold.trans h.hold
    | exact k.payment.trans h.payment | exact k.opened.trans h.opened | exact k.cycle.trans h.cycle
    | exact k.strikes.trans h.strikes | exact k.permit.trans h.permit | exact k.lastTest.trans h.lastTest
    | exact k.exemption.trans h.exemption | exact k.presence.trans h.presence | exact k.report.trans h.report

@[simp] theorem postBus_presence (cmd : BusCommand) (poster : Poster) (b : BusFields) :
    (postBus cmd poster b).presence = b.presence := by
  unfold postBus
  split
  · split <;> rfl
  · rfl

@[simp] theorem postBus_report (cmd : BusCommand) (poster : Poster) (b : BusFields) :
    (postBus cmd poster b).report = b.report := by
  unfold postBus
  split
  · split <;> rfl
  · rfl

theorem post_machine (a b : Addr) (cmd : BusCommand) (poster : Poster) (s : State) :
    (post a cmd poster s).machine b =
      if b = a then { s.machine a with bus := postBus cmd poster (s.machine a).bus } else s.machine b := by
  simp [post, modifyBus, machine_modifyMachine]

theorem calm_post (a b : Addr) (cmd : BusCommand) (poster : Poster) (s : State) :
    Calm (s.machine b) ((post a cmd poster s).machine b) := by
  rw [post_machine]
  split
  · rename_i e; subst e; constructor <;> simp
  · exact Calm.refl _

theorem modifyCycle_machine (a b : Addr) (f : Cycle → Cycle) (s : State) :
    (modifyCycle a f s).machine b = if b = a then { s.machine a with cycle := (s.machine a).cycle.map f } else s.machine b := by
  simp [modifyCycle, machine_modifyMachine]

theorem noteStop_machine (a b : Addr) (taken : Option BusCommand) (s : State) :
    (noteStop a taken s).machine b =
      if b = a ∧ (s.machine a).state = .running then
        match taken with
        | some (.stop _) => { s.machine a with cycle := (s.machine a).cycle.map (fun c => { c with tookStop := true }) }
        | some (.startPhase _ _ _) => { s.machine a with cycle := (s.machine a).cycle.map (fun c => { c with tookStop := false }) }
        | some .suspend | some .resume | some (.test _) | none => s.machine a
      else s.machine b := by
  unfold noteStop
  by_cases e : b = a
  · subst e
    by_cases h : (s.machine b).state = .running
    · rw [if_pos h, if_pos ⟨rfl, h⟩]
      split <;> simp [modifyCycle_machine]
    · rw [if_neg h, if_neg (fun k => h k.2)]
  · have k : ¬ (b = a ∧ (s.machine a).state = .running) := fun k => e k.1
    rw [if_neg k]
    repeat' split
    all_goals first | rfl | rw [modifyCycle_machine, if_neg e]

theorem calm_modifySub (a b : Addr) (x : SubState) (s : State) :
    Calm (s.machine b) ((modifyCycle a (fun c => { c with sub := x }) s).machine b) := by
  rw [modifyCycle_machine]
  split
  · rename_i e; subst e; constructor <;> simp [Function.comp_def, apartSub]
    cases (s.machine b).cycle <;> rfl
  · exact Calm.refl _

theorem calm_deliverGrant (e : WaitEntry) (b : Addr) (s : State) : Calm (s.machine b) ((deliverGrant s e).machine b) := by
  unfold deliverGrant
  split
  · unfold startPhase
    split
    · exact Calm.refl _
    · split
      · exact Calm.refl _
      · exact (calm_modifySub _ b _ s).trans (calm_post _ b _ _ _)
  · exact (calm_modifySub _ b _ s).trans (calm_post _ b _ _ _)
  · unfold startServicePhase
    split
    · exact Calm.refl _
    · split
      · exact Calm.refl _
      · rw [raise_machine]
        exact calm_post _ b _ _ _
  · unfold startSubtest
    split
    · exact Calm.refl _
    · refine Calm.trans ?_ (calm_post _ b _ _ _)
      rw [modifyRun, raise_machine, machine_modifyMachine]
      split
      · rename_i h; subst h; constructor <;> simp
      · exact Calm.refl _

/-- A grant of another machine leaves the cycle and the test run of a machine. -/
theorem deliverGrant_other {e : WaitEntry} {b : Addr} (h : e.machine ≠ b) (s : State) :
    ((deliverGrant s e).machine b).cycle = (s.machine b).cycle ∧
    ((deliverGrant s e).machine b).testRun = (s.machine b).testRun := by
  have h' : b ≠ e.machine := fun x => h x.symm
  unfold deliverGrant
  split
  · unfold startPhase
    split
    · exact ⟨rfl, rfl⟩
    · split
      · exact ⟨rfl, rfl⟩
      · simp [post_machine, modifyCycle_machine, h']
  · simp [resumePhase, post_machine, modifyCycle_machine, h']
  · unfold startServicePhase
    split
    · exact ⟨rfl, rfl⟩
    · split
      · exact ⟨rfl, rfl⟩
      · rw [raise_machine, post_machine]
        split
        · rename_i e; subst e; exact ⟨rfl, rfl⟩
        · exact ⟨rfl, rfl⟩
  · unfold startSubtest
    split
    · exact ⟨rfl, rfl⟩
    · simp [post_machine, modifyRun, machine_modifyMachine_other h', h']

/-- A scan grants only entries of the list it scans, and leaves only entries of machines that were in it. -/
theorem scanFrom_sub (now : Nat) (P : Addr → Prop) : ∀ (l : List WaitEntry) (p : Pool) (kept : List WaitEntry),
    (∀ e ∈ l, P e.machine) → (∀ e ∈ kept, P e.machine) →
    (∀ e ∈ (scanFrom now p kept l).granted, P e.machine) ∧ ∀ e ∈ (scanFrom now p kept l).waits, P e.machine := by
  intro l
  induction l with
  | nil => intro p kept _ hk; exact ⟨by simp [scanFrom], by simpa [scanFrom] using hk⟩
  | cons e rest ih =>
    intro p kept hl hk
    have he : P e.machine := hl e (by simp)
    have hr : ∀ x ∈ rest, P x.machine := fun x hx => hl x (by simp [hx])
    unfold scanFrom
    split
    · have hk' : ∀ x ∈ kept.map (fun k => { k with passes := k.passes + 1 }), P x.machine := by
        intro x hx
        obtain ⟨y, hy, rfl⟩ := List.mem_map.mp hx
        exact hk y hy
      dsimp only
      split
      · refine ⟨by simpa using he, ?_⟩
        intro x hx
        rcases List.mem_append.mp hx with h | h
        · exact hk' x h
        · exact hr x h
      · refine ⟨?_, (ih _ _ hr hk').2⟩
        intro x hx
        rcases List.mem_cons.mp hx with h | h
        · rw [h]; exact he
        · exact (ih _ _ hr hk').1 x h
    · split
      · refine ⟨by simp, ?_⟩
        intro x hx
        rcases List.mem_append.mp hx with h | h
        · exact hk x h
        · rcases List.mem_cons.mp h with h | h
          · rw [h]; exact he
          · exact hr x h
      · refine ih _ _ hr ?_
        intro x hx
        rcases List.mem_append.mp hx with h | h
        · exact hk x h
        · rw [List.mem_singleton.mp h]; exact he

theorem calm_grants (b : Addr) : ∀ (l : List WaitEntry) (s : State), Calm (s.machine b) ((l.foldl deliverGrant s).machine b) := by
  intro l
  induction l with
  | nil => exact fun s => Calm.refl _
  | cons e l ih => exact fun s => (calm_deliverGrant e b s).trans (ih _)

theorem grants_other {b : Addr} : ∀ (l : List WaitEntry) (s : State), (∀ e ∈ l, e.machine ≠ b) →
    ((l.foldl deliverGrant s).machine b).cycle = (s.machine b).cycle ∧
    ((l.foldl deliverGrant s).machine b).testRun = (s.machine b).testRun := by
  intro l
  induction l with
  | nil => exact fun s _ => ⟨rfl, rfl⟩
  | cons e l ih =>
    intro s h
    have h1 := deliverGrant_other (h e (by simp)) s
    have h2 := ih (deliverGrant s e) (fun x hx => h x (by simp [hx]))
    exact ⟨h2.1.trans h1.1, h2.2.trans h1.2⟩

theorem grants_pool (k : PoolId) (l : List WaitEntry) (s : State) : (l.foldl deliverGrant s).pool k = s.pool k := by
  have h := Touches.foldl (ps := [.machines, .flags, .session]) (fun u e => touched_deliverGrant e u) l s
  have := h .pools (by simp)
  cases k
  · exact this.1
  · exact this.2

theorem calm_scanPool (k : PoolId) (b : Addr) (s : State) : Calm (s.machine b) ((scanPool k s).machine b) := by
  unfold scanPool
  dsimp only
  split
  · refine Calm.trans ?_ (calm_grants b _ _)
    rw [setPool_machine]
    exact Calm.refl _
  · exact Calm.refl _

/-- A scan of a list without an entry of a machine leaves its cycle and its test run. -/
theorem scanPool_other {k : PoolId} {b : Addr} {s : State} (h : (s.pool k).hasEntry b = false) :
    ((scanPool k s).machine b).cycle = (s.machine b).cycle ∧ ((scanPool k s).machine b).testRun = (s.machine b).testRun := by
  have hw : ∀ e ∈ (s.pool k).waits, e.machine ≠ b := by
    intro e he hb
    simp [Pool.hasEntry] at h
    exact h e he hb
  unfold scanPool
  dsimp only
  split
  · have := grants_other _ ((s.setPool k { (scanFrom s.now (s.pool k) [] (s.pool k).waits).pool with
      waits := (scanFrom s.now (s.pool k) [] (s.pool k).waits).waits }))
      (scanFrom_sub s.now (fun m => m ≠ b) (s.pool k).waits (s.pool k) [] hw (by simp)).1
    simpa using this
  · exact ⟨rfl, rfl⟩

theorem scanPool_pool_other {j k : PoolId} (h : j ≠ k) (s : State) : (scanPool k s).pool j = s.pool j := by
  unfold scanPool
  dsimp only
  split
  · rw [grants_pool, pool_setPool_other _ _ h]
  · rfl

/-- A scan gives no machine an entry. -/
theorem scanPool_hasEntry {j k : PoolId} {b : Addr} {s : State} (h : (s.pool j).hasEntry b = false) :
    ((scanPool k s).pool j).hasEntry b = false := by
  by_cases hj : j = k
  · subst hj
    have hw : ∀ e ∈ (s.pool j).waits, e.machine ≠ b := by
      intro e he hb
      simp [Pool.hasEntry] at h
      exact h e he hb
    unfold scanPool
    dsimp only
    split
    · rw [grants_pool, pool_setPool_self]
      have := (scanFrom_sub s.now (fun m => m ≠ b) (s.pool j).waits (s.pool j) [] hw (by simp)).2
      simp only [Pool.hasEntry, List.any_eq_false, decide_eq_true_eq]
      exact this
    · exact h
  · rw [scanPool_pool_other hj]
    exact h

theorem setPool_hasEntry (k : PoolId) (b : Addr) (p : Pool) (s : State) (h : p.waits = (s.pool k).waits) :
    ((s.setPool k p).pool k).hasEntry b = (s.pool k).hasEntry b := by simp [Pool.hasEntry, h]

/-- After a withdrawal a machine has no entry in that pool, and keeps what `Calm` says, its cycle and its test run. -/
theorem withdrawFrom_self (k : PoolId) (b : Addr) (s : State) :
    ((withdrawFrom k b s).pool k).hasEntry b = false ∧ Calm (s.machine b) ((withdrawFrom k b s).machine b) ∧
    ((withdrawFrom k b s).machine b).cycle = (s.machine b).cycle ∧
    ((withdrawFrom k b s).machine b).testRun = (s.machine b).testRun := by
  unfold withdrawFrom
  dsimp only
  split
  · have hn : ((s.setPool k { s.pool k with
        waits := (s.pool k).waits.filter (fun e => !decide (e.machine = b)) }).pool k).hasEntry b = false := by
      simp [Pool.hasEntry]
    refine ⟨scanPool_hasEntry hn, ?_, ?_, ?_⟩
    · simpa using calm_scanPool k b (s.setPool k { s.pool k with
        waits := (s.pool k).waits.filter (fun e => !decide (e.machine = b)) })
    · rw [(scanPool_other hn).1, setPool_machine]
    · rw [(scanPool_other hn).2, setPool_machine]
  · rename_i h
    exact ⟨by simpa using h, Calm.refl _, rfl, rfl⟩

theorem withdrawFrom_pool_other {j k : PoolId} (h : j ≠ k) (b : Addr) (s : State) : (withdrawFrom k b s).pool j = s.pool j := by
  unfold withdrawFrom
  dsimp only
  split
  · rw [scanPool_pool_other h, pool_setPool_other _ _ h]
  · rfl

theorem withdrawFrom_hasEntry {j k : PoolId} {a b : Addr} {s : State} (h : (s.pool j).hasEntry b = false) :
    ((withdrawFrom k a s).pool j).hasEntry b = false := by
  by_cases hj : j = k
  · subst hj
    unfold withdrawFrom
    dsimp only
    split
    · refine scanPool_hasEntry ?_
      simp only [pool_setPool_self, Pool.hasEntry, List.any_eq_false, decide_eq_true_eq] at h ⊢
      exact fun e he => h e (List.mem_of_mem_filter he)
    · exact h
  · rw [withdrawFrom_pool_other hj]
    exact h

/-- After its entries are withdrawn a machine has none, and keeps what `Calm` says, its cycle and its test run. -/
theorem withdrawEntry_self (b : Addr) (s : State) :
    (withdrawEntry b s).electric.hasEntry b = false ∧ (withdrawEntry b s).water.hasEntry b = false ∧
    Calm (s.machine b) ((withdrawEntry b s).machine b) ∧ ((withdrawEntry b s).machine b).cycle = (s.machine b).cycle ∧
    ((withdrawEntry b s).machine b).testRun = (s.machine b).testRun := by
  have h1 := withdrawFrom_self .electric b s
  have h2 := withdrawFrom_self .water b (withdrawFrom .electric b s)
  refine ⟨?_, h2.1, h1.2.1.trans h2.2.1, h2.2.2.1.trans h1.2.2.1, h2.2.2.2.trans h1.2.2.2⟩
  have : ((withdrawFrom .electric b s).pool .electric).hasEntry b = false := h1.1
  exact withdrawFrom_hasEntry (j := .electric) (k := .water) this

/-! ## Stops -/

/-- A stop of a RUNNING machine is what `StoppedWith` says (R36). -/
theorem stopCycle_running {a : Addr} {cause : StopCause} {s : State} (h : (s.machine a).state = .running) :
    StoppedWith cause a s (stopCycle a cause s) := by
  have hw := withdrawEntry_self a (moveTo a .stopping (modifyCycle a (fun c => { c with
    stopCause := some cause, stopDeadline := some (s.now + 600), pauseDeadline := none }) s))
  have hp : ∀ t : State, (post a (.stop cause) .cycleControl t).electric = t.electric ∧
      (post a (.stop cause) .cycleControl t).water = t.water := fun t => (touched_post a _ _ t).same .pools (by simp)
  unfold stopCycle
  rw [if_pos h]
  dsimp only
  refine ⟨?_, ?_, ?_, ?_⟩
  · rw [(calm_post a a _ _ _).state, hw.2.2.1.state]
    simp
  · rw [post_machine, if_pos rfl]
    show ((withdrawEntry a _).machine a).cycle = _
    rw [hw.2.2.2.1]
    simp [modifyCycle_machine]
  · rw [(hp _).1]; exact hw.1
  · rw [(hp _).2]; exact hw.2.1

end Sys2Proof.Machine
end

