-- ==== Sys2Proof/Tests/Slice0.lean ====
section
/-! SUPPORT. Tests of single steps against the manual's worked examples, the refusals of `Instr.wf`, and one witness for
each statement with hypotheses: a state and operands that meet them, clause by clause. -/

namespace Sys2Proof.Tests

open Sys2Proof.Machine

/-! ## A small room -/

/-- The washer profile Hot 60 of 2.13. -/
def hot : WashProfile := ⟨350, [⟨.fill, 600, 0, 12, 10, false⟩, ⟨.heat, 1800, 60, 0, 25, true⟩, ⟨.wash, 1200, 4, 0, 30, true⟩,
  ⟨.drain, 300, 3, 0, 5, false⟩, ⟨.rinse, 900, 4, 0, 15, true⟩, ⟨.spin, 600, 30, 0, 15, false⟩]⟩

/-- The dryer profile of 2.14. -/
def warm : DryProfile := ⟨45, 300, 10, 60, 60⟩

/-- The plan of a dryer with that profile. -/
def warmPlan : List PlanEntry := [⟨.dry, 0, 45, 0, 0, true⟩, ⟨.cool, 300, 0, 0, 0, false⟩]

/-- The ratings of washer 11 in 7.9. -/
def rated : Ratings := ⟨4, 30, 60, 12⟩

/-- A roster of washer 1, dryer 2 and washer 24, with one program of each class. -/
def tables : Tables := { Tables.initial with
  params := { Params.initial with issuer := 7, discount := 20, defaultElectric := 120, defaultWater := 30 }
  roster := ((Tables.initial.roster.set 0 (some ⟨.washer, rated⟩)).set 1 (some ⟨.dryer, rated⟩)).set 23 (some ⟨.washer, rated⟩)
  wash := Tables.initial.wash.set 0 (some hot), dry := Tables.initial.dry.set 0 (some warm) }

/-- The room in the OPERATING mode, resumed, with nobody in it. -/
def room : State := { State.reset with
  mode := .operating, halted := false, tables := tables
  electric := .starting 120 20 50 false, water := .starting 30 12 0 false }

/-- What a washer at rest reports. -/
def rest : Report := ⟨false, .closed, none, .ready, 0, 0, .washer, rated⟩

/-- The bus fields of a PRESENT machine at rest. -/
def there : BusFields := { BusFields.initial with presence := .present, seen := true, report := some rest }

/-- A PRESENT machine in a state, with its door closed. -/
def machine (st : MachineState) : MachineRecord := { MachineRecord.initial with state := st, bus := there, door := some .closed }

/-- The room with a record for washer 1. -/
def washer (m : MachineRecord) : State := room.setMachine 0 m

/-- The room with a record for dryer 2. -/
def dryer (m : MachineRecord) : State := room.setMachine 1 m

/-- The dryer cycle of 2.14 as its fault is reported. -/
def drying : Cycle := ⟨9, 81220, 0, warmPlan, 0, .active, true, false, 2070, 330, 3600, 1530, some 3600, false, none, none,
  none, none, none, 0, false⟩

/-- The washer cycle of 2.13 as its fault is reported. -/
def washing : Cycle := ⟨9, 40117, 0, hot.plan, 2, .active, true, false, 199, 280, 0, 0, none, false, none, none, none, none,
  none, 0, false⟩

/-- The sixteen bytes of a reply (R4). -/
def reply (a : Addr) (echo : Bool) (r : Report) : List Byte :=
  let body := be1 (addrNum a) ++ be1 (bit echo) ++ be1 (bit r.fresh) ++ be1 (doorCode (some r.door) - 1) ++
    be1 ((r.selection.map (· + 1)).getD 0) ++ be1 (activityCode r.activity) ++ be1 r.arg ++ be1 r.fault ++
    be1 (classCode r.cls) ++ ratingsBytes r.ratings
  [0xC3] ++ body ++ be2 (busCheck body)

/-- A room in which washer 1 has its slot. -/
def slotted (m : MachineRecord) : State := { washer m with slot := some 0 }

/-- A station with a card in it. -/
def carded (st : StationState) (card value : Nat) : Station :=
  { Station.initial with state := st, card := some card, slot := some .a, pair := ⟨41, value⟩, switchClosed := true }

/-! ## Ill-formed commands -/

theorem test_wf_address : (Instr.orphanDeadline ⟨0, false⟩).wf = false ∧ (Instr.stopDeadline 25).wf = false := by decide
theorem test_wf_card : (Instr.doubtDeadline 0).wf = false ∧ (Instr.doubtDeadline 4294967295).wf = false := by decide
theorem test_wf_payload : (Instr.readRoom .building (List.replicate 249 0)).wf = false := by
  rw [Instr.wf, payloadOk, List.length_replicate]; decide
theorem test_wf_reply : (Instr.replyValid [0xC3]).wf = false := by decide
theorem test_wf_image : (Instr.autoloadEnd ⟨[true, true, true, true], List.replicate 8193 0⟩).wf = false := by
  rw [Instr.wf, imageOk, List.length_replicate]; decide
theorem test_wf_store : (Instr.storeAccessDone (.read ⟨[true, true, true, true], List.replicate 8193 0⟩)).wf = false := by
  rw [Instr.wf]; dsimp only; rw [imageOk, List.length_replicate]; decide
theorem test_wf_insertion : (Instr.insertionReadDone .a ⟨[true, true, true], List.replicate 31 0⟩).wf = false := by decide
theorem test_wf_verify : (Instr.verifyReadDone .a ⟨[true, true, false], List.replicate 8 0⟩).wf = false := by decide

/-- The ELECTRIC pool of 3.8 before the cut, without dryer B: a dryer and two washers at work. -/
def evening : State := { (((dryer { machine .running with cycle := some drying }).setMachine 0
      { machine .running with cycle := some washing }).setMachine 23 { machine .running with cycle := some washing }) with
  electric := { Pool.starting 120 20 50 false with grants := [
    ⟨1, .dryer, .cyclePhase, 45, .shared, 18000, true, false, none, none⟩,
    ⟨23, .washer, .cyclePhase, 20, .washerReserve, 18020, true, false, none, none⟩,
    ⟨0, .washer, .cyclePhase, 3, .shared, 18040, true, false, none, none⟩] } }

/-! ## The manual's worked examples -/

/-- 8.8: the reply to SET_FEEDER_LIMIT with 90. -/
theorem test_reply_frame : replyFrame (replyTo 0x10 .ok [0x00, 0x5A]) = [0xA5, 0x05, 0x10, 0x00, 0x00, 0x5A, 0x91] := by decide

/-- 8.8: the frame of that request. -/
theorem test_request_frame : frameBytes 0x10 [0x00, 0x5A] = [0xA5, 0x04, 0x10, 0x00, 0x5A, 0x92] := by decide

/-- 5.8.1: the charge at OFF_PEAK, and the refunds of Hot 60. -/
theorem test_washer_charge : washerCharge hot 20 = 280 := by decide
theorem test_washer_refunds :
    [washerRefund hot.plan 0 true 280 .user, washerRefund hot.plan 2 true 280 .machine, washerRefund hot.plan 2 true 280 .user,
      washerRefund hot.plan 1 false 280 .user, washerRefund hot.plan 5 true 280 .room] = [252, 182, 98, 252, 42] := by decide

/-- 5.8.2: a dryer's start, its top-up and its refund. -/
theorem test_dryer_start : dryerStart warm 4 0 = some ⟨240, 2400, 40⟩ := by decide
theorem test_dryer_topup : dryerTopUp warm 2100 2400 4 25 = some ⟨90, 1200, 20⟩ := by decide
theorem test_dryer_refund : [dryerRefund false 330 1530 3600 .machine, dryerRefund false 330 1530 3600 .user] = [140, 0] := by
  decide

/-- 3.8: the figures of the ELECTRIC pool after the evening cut. -/
theorem test_pool_figures : [(Pool.starting 90 20 50 false).effWasher, (Pool.starting 90 20 50 false).effDryer,
    (Pool.starting 90 20 50 false).sharedPortion] = [20, 50, 20] := by decide

/-- 4.12: slot A with sequence 41 is current against slot B with 40. -/
theorem test_current_slot : currentSlot (slotBytes ⟨41, 1500⟩ 0 0) (slotBytes ⟨40, 1740⟩ 0 0) = some (.a, ⟨41, 1500⟩) := by
  decide

/-- R83: a sequence that has wrapped is later. -/
theorem test_later_wraps : laterThan 0 65535 = true ∧ laterThan 32768 0 = false ∧ laterThan 32767 0 = true := by decide

/-- 4.12: the PAY of dryer 9 at 240 writes slot B with the expected pair 42 and 1,260 (here dryer 2). -/
theorem test_pay_prepares_the_write :
    ((after (.pay .a 2 4) { dryer { machine .selected with selection := some 0 } with
      stationA := carded .cardReady 52006 1500 }).map (fun t => (t.stationA.writing, t.stationA.expectedPair))) =
      some (some .b, ⟨42, 1260⟩) := by decide

/-- 2.13: the confirmation of the heater stop refunds 182 and ends the grant; here washer 1. -/
theorem test_confirmation_refunds :
    ((after (.replyValid (reply 0 true { rest with activity := .stopping })) { slotted { machine .stopping with
        cycle := some { washing with stopCause := some .machine, stopDeadline := some 600 },
        bus := { there with inFlight := some ⟨.stop .machine, true, .cycleControl⟩ } } with now := 7501 }).map
      (fun t => t.refunds.map (fun e => (e.card, e.amount)))) = some [(40117, 182)] := by decide

/-- 2.14: OVERTEMP stops the dryer with cause MACHINE and a stop deadline 600 s away. -/
theorem test_overtemp_stops :
    ((after (.replyValid (reply 1 false { rest with activity := .faultHold, fault := 8, cls := .dryer }))
      { dryer { machine .running with cycle := some drying } with now := 4171, slot := some 1 }).map
      (fun t => ((t.machine 1).state, (t.machine 1).cycle.map (fun c => (c.stopCause, c.stopDeadline)), (t.machine 1).strikes))) =
      some (.stopping, some (some .machine, some 4771), 1) := by decide

/-- R10: a TEST_DONE that stands unchanged in the reply that echoes a STOP passes no subtest of a new test. -/
theorem test_equal_activity_is_not_handed_over :
    let done : Report := { rest with activity := .testDone, arg := 1 }
    let run : TestRun := ⟨.operator, 1, .starting, some 120, none⟩
    let m := { machine .testing with
      testRun := some run, bus := { there with report := some done, inFlight := some ⟨.stop .room, true, .faultService⟩ } }
    (match exec (.replyValid (reply 0 true done)) (slotted m) with
      | .next t => decide ((t.machine 0).testRun = some run ∧ (t.machine 0).bus.inFlight = none)
      | .fault _ => false
      | .refused _ => false) = true := by decide

/-- R37: a RUNNING machine that took a leftover STOP in an earlier reply is not stopped at its panel by the STOPPED that follows;
one that took none is, and ends FINISHED. -/
theorem test_leftover_stop_is_no_panel_stop :
    [true, false].map (fun took => (after (.replyValid (reply 0 true { rest with activity := .stopped }))
      (slotted { machine .running with
        cycle := some { washing with tookStop := took }, bus := { there with report := some rest } })).map (fun t =>
      (t.machine 0).state)) = [some .running, some .finished] := by decide

/-- R155: a TEST_DONE of the current subtest that brings a new code ends the test FAIL with it and posts no STOP, also where the
same TEST_DONE stood in the last status report. -/
theorem test_new_code_of_an_equal_test_done_fails :
    let done : Report := { rest with activity := .testDone, arg := 1 }
    let run : TestRun := ⟨.operator, 1, .starting, some 120, none⟩
    let m := { machine .testing with
      testRun := some run, bus := { there with report := some done, inFlight := some ⟨.test 1, true, .faultService⟩ } }
    (match exec (.replyValid (reply 0 false { done with fault := 4 })) (slotted m) with
      | .next t => decide ((t.machine 0).testRun = none ∧ (t.machine 0).lastTest = some ⟨.fail, 1, 4⟩ ∧
          t.faults.map (fun f => (f.code, f.subtest)) = [(4, some 1), (0x15, some 1)] ∧ (t.machine 0).bus.queued = none)
      | .fault _ => false
      | .refused _ => false) = true := by decide

/-- 3.8: the building's write of 90 LU suspends D and then A and puts the pool OVER_LIMIT; C keeps the washer reserve (here A is
dryer 2, C washer 24 and D washer 1). -/
theorem test_evening_cut :
    ((after (.setFeederLimit .building [0, 90]) evening).map (fun t => (t.electric.grants.map (fun g => (g.pending, g.number)),
      t.electric.stats.sheds, t.electric.overLimit))) =
      some ([(true, some 1), (false, none), (true, some 0)], 2, true) := by decide

/-! ## The links -/

/-- R1: a start bit, the bits of 0x3C with the least significant first, and a stop bit. -/
theorem test_bus_character : character 0x3C = [.start, .data false, .data false, .data true, .data true, .data true,
    .data true, .data false, .data false, .stop] := by decide

/-- R79, R80, R169: the device bytes of the card and of the configuration memory. -/
theorem test_device_bytes : [purseCard.byteFor false, purseCard.byteFor true, configMemory.byteFor false,
    configMemory.byteFor true] = [0x6C, 0x6D, 0xA0, 0xA1] := by decide

/-- R79: while the clock is high in a byte the data line keeps its level; a start lets it fall, a stop lets it rise. -/
theorem test_start_and_stop : LinkSymbol.start.lines = [⟨true, true⟩, ⟨true, false⟩, ⟨false, false⟩] ∧
    LinkSymbol.stop.lines = [⟨false, false⟩, ⟨true, false⟩, ⟨true, true⟩] := by decide

/-- R79: 0x6C goes out as 0 1 1 0 1 1 0 0, and data is released in the ninth period. -/
theorem test_byte_on_the_lines : ((LinkSymbol.put 0x6C).lines.filter (·.clock)).map (·.data) =
    [false, true, true, false, true, true, false, false, true] := by decide

/-- R81: a poll is the device byte alone, between a start and a stop, and an acknowledged one is the last. -/
theorem test_polls : pollTraffic purseCard [false, true, true] = [.start, .put 0x6C, .stop, .start, .put 0x6C, .stop] := by
  decide

/-- R81: what the acknowledgements say of a write. -/
theorem test_write_outcomes :
    [writeOutcome ⟨[false], []⟩, writeOutcome ⟨[true, false], []⟩, writeOutcome ⟨List.replicate 10 true, [false, false]⟩,
      writeOutcome ⟨List.replicate 10 true, [false, true]⟩] = [.notBegun, .faulted, .faulted, .completed] := by decide

/-! ## Witnesses: steps, invariants, frames and requests

Each theorem is named after its statement and shows, clause by clause, values that meet the hypotheses. -/

theorem witness_StepTakesTheFrontCommand :
    { room with pending := [.pollSlot, .roomSecondTick] }.pending = .pollSlot :: [.roomSecondTick] ∧ room.pending = [] := by
  decide

/-- A machine held for a card. -/
def heldFor (card : Nat) : MachineRecord := { machine .held with hold := some ⟨card, 300⟩ }

/-- A room at work: a grant, a waiting dryer, a card, a doubt, a refund, a held washer with its claim, a fault, a waiting
reply, a command in flight, and a request to come. -/
def busy : State := { (washer { machine .running with
      cycle := some washing, bus := { there with inFlight := some ⟨.suspend, true, .cycleControl⟩ } }).setMachine 23
        (heldFor 11400) with
  electric := { Pool.starting 120 20 50 false with
    grants := [⟨0, .washer, .cyclePhase, 4, .shared, 5, true, true, some 15, some 0⟩],
    waits := [⟨1, .dryer, .cyclePhase, 117, true, 6, 0, none⟩] }
  stationA := carded .cardReady 52006 1500
  doubts := [⟨⟨.start, 60333, 0, 280, .a, ⟨7, 900⟩, ⟨8, 620⟩⟩, 120⟩]
  refunds := [⟨0, 81220, 300, .ready, false, none, 0⟩]
  audit := { Audit.zero with issued := 300 }
  washers := { ClaimQueue.initial with entries := [⟨11400, 3, some ⟨23, 300⟩, false⟩] }
  faults := [⟨1, 5, .hard, 2, 2, 1, some .wash, some 40117, none⟩]
  building := { PortState.initial with replies := [replyTo 0x13 .ok []] }
  pending := [.setFeederLimit .building [0, 90]] }

theorem busy_runs : runs busy := ⟨_, rfl⟩

theorem witness_EveryStepKeepsPoolsWithinFigures : busy.poolsLawful = true ∧ busy.grantsLawful ∧ runs busy :=
  ⟨by decide, by unfold State.grantsLawful; decide, busy_runs⟩

theorem witness_EveryStepKeepsTheRefundBalance : busy.balanced ∧ ∃ t, step busy = .next t ∧
    t.audit.issued < Config.largestTotal ∧ t.audit.credited < Config.largestTotal ∧
    t.audit.unplaced < Config.largestTotal ∧ t.audit.cancelled < Config.largestTotal :=
  ⟨by unfold State.balanced; decide, _, rfl, by decide⟩

theorem busy_roomLawful : busy.roomLawful := by unfold State.roomLawful; decide

/-- The holds of a state are lawful when two finite checks pass and no machine but a HELD one has a hold. -/
theorem holdsLawful_of_checks {s : State}
    (hq : ∀ c, ∀ e ∈ (s.queue c).entries, e.hold.all (fun h => decide (s.classOf h.machine = c ∧
      (s.machine h.machine).hold = some ⟨e.card, h.deadline⟩)) = true)
    (hm : ∀ a, ((s.machine a).state = .held → (s.machine a).hold.isSome = true) ∧
      (s.machine a).hold.all (fun h => decide ((s.machine a).state = .held ∧
        ∃ e ∈ (s.queue (s.classOf a)).entries, e.card = h.card ∧ e.hold = some ⟨a, h.deadline⟩)) = true) :
    s.holdsLawful := by
  refine ⟨fun c e he h hh => by simpa [hh] using hq c e he, fun a => ⟨(hm a).1, fun h hh => ?_⟩⟩
  have := (hm a).2
  simp only [hh, Option.all_some, decide_eq_true_eq] at this
  exact ⟨this.2, .inl this.1⟩

theorem busy_holdsLawful : busy.holdsLawful := holdsLawful_of_checks (fun c => by cases c <;> decide) (by decide)

theorem witness_EveryStepKeepsClaimQueuesLawful : busy.queuesLawful = true ∧ busy.roomLawful ∧ busy.holdsLawful ∧ runs busy :=
  ⟨by decide, busy_roomLawful, busy_holdsLawful, busy_runs⟩

theorem witness_EveryStepKeepsReplyQueuesLawful : busy.repliesLawful = true ∧ runs busy := ⟨by decide, busy_runs⟩

theorem witness_EveryStepKeepsTheTablesLawful : busy.faultsLawful = true ∧ busy.refundsLawful = true ∧ runs busy :=
  ⟨by decide, by decide, busy_runs⟩

theorem witness_EveryStepKeepsCardsInUseOnce : busy.cardsLawful ∧ runs busy := by
  refine ⟨⟨by decide, by decide, fun card => ?_⟩, busy_runs⟩
  have hb : holdsCard card busy.stationB = false := by simp [busy, washer, room, holdsCard, busyStation, State.reset, Station.initial, State.setMachine]
  refine ⟨by simp [hb], fun h => ?_⟩
  have ha : card = 52006 := by
    rcases h with h | h
    · simpa [busy, carded, holdsCard, busyStation, eq_comm] using h
    · simp [hb] at h
  subst ha
  decide

theorem witness_EveryStepKeepsTheBusLawful : busy.busLawful ∧ busy.roomLawful ∧ runs busy :=
  ⟨by unfold State.busLawful; decide, busy_roomLawful, busy_runs⟩

theorem witness_EachCommandKeepsItsFrame : ∃ t, exec .roomSecondTick busy = .next t := ⟨_, rfl⟩

theorem witness_OtherPortsKeepTheirQueues : portOf (.readRoom .building []) = some .building ∧ Port.operator ≠ .building ∧
    ∃ t, exec (.readRoom .building []) busy = .next t := ⟨rfl, by decide, _, rfl⟩

/-- A port with some replies waiting. -/
def waiting (n : Nat) : PortState := { PortState.initial with replies := List.replicate n (replyTo 0x13 .ok []) }

theorem witness_RequestsAreAdmittedInOrder :
    requestOf (.setBand .operator [0]) = some (.setBand, [0]) ∧ portOf (.setBand .operator [0]) = some .operator ∧
    4 ≤ ({ room with operator := waiting 4 }.port .operator).replies.length ∧
    ({ room with operator := waiting 3 }.port .operator).replies.length < 4 ∧ reqRight .operator .setBand = false ∧
    requestOf (.setBand .building []) = some (.setBand, []) ∧ reqRight .building .setBand = true ∧
    reqLength [] .setBand = false ∧ reqLength [0] .setBand = true ∧ State.reset.mode = .loading ∧
    Req.setBand ≠ .readRoom ∧ { room with mode := .configFault }.mode = .configFault ∧ reqServed .setBand = false := by decide

/-- The room listens on every port. -/
theorem room_listens (p : Port) : room.listens p := by cases p <;> exact ⟨rfl, by decide⟩

theorem witness_ReadsAnswerAndChangeNothing : (State.reset.port .building).replies.length < 4 ∧ State.reset.mode = .loading ∧
    room.listens .operator ∧ room.listens .service ∧ room.listens .building ∧ { room with mode := .configFault }.mode ≠ .loading ∧
    (23 : Byte).toNat ≤ 23 ∧ ((47 : Byte).toNat ≤ 47 ∧ (24 : Byte).toNat ≤ 24 ∧ (255 : Byte) = 255) ∧
    (0 : Byte).toNat < busy.faults.length ∧ room.faults.length ≤ (0 : Byte).toNat := by
  exact ⟨by decide, rfl, room_listens _, room_listens _, room_listens _, by decide⟩

theorem witness_ReadRefundsNamesAPosition :
    (busy.mode ≠ .loading ∧ (busy.port .operator).replies.length < 4) ∧ 31 < (32 : Byte).toNat ∧ (31 : Byte).toNat ≤ 31 ∧
    (∀ e ∈ busy.refunds, e.position ≠ (31 : Byte).toNat) ∧
    ∃ e, busy.refunds = [] ++ e :: [] ∧ e.position = (0 : Byte).toNat :=
  ⟨by decide, by decide, by decide, by decide, _, rfl, rfl⟩

theorem witness_ReadAuditGivesTheTotals : { room with mode := .configFault, operator := waiting 3 }.mode ≠ .loading ∧
    ({ room with mode := .configFault, operator := waiting 3 }.port .operator).replies.length < 4 := by decide

theorem witness_EventsAreReadAcknowledgedAndMasked : { room with mode := .configFault }.mode ≠ .loading ∧
    ({ room with mode := .configFault }.port .service).replies.length < 4 ∧ (0x80 : Byte).msb = true ∧
    (0x7F : Byte).msb = false := by decide

theorem witness_PortsTakeBytesAndFrames :
    ((room.port .service).replies.length < 4 ∧ reqOf (0x06 : Byte).toNat = none) ∧
    4 ≤ ({ room with service := waiting 4 }.port .service).replies.length ∧
    ((room.port .service).receiver = .hunting ∧ (0xA4 : Byte) ≠ 0xA5) ∧
    (({ room with service := { waiting 0 with receiver := .counting } }.port .service).receiver = .counting ∧
      2 ≤ (2 : Byte).toNat ∧ (250 : Byte).toNat ≤ 250 ∧ (1 : Byte).toNat < 2 ∧ 250 < (251 : Byte).toNat) ∧
    (({ room with service := { waiting 0 with receiver := .gathering 2 [] } }.port .service).receiver = .gathering 2 [] ∧
      ([] : List Byte).length + 1 < 2) := by decide

theorem witness_FrameBytesSpellTheRequest : requestOf (.readPool .building [0, 23]) = some (.readPool, [0, 23]) ∧
    portOf (.readPool .building [0, 23]) = some .building ∧ [0, (23 : Byte)].length ≤ 248 ∧
    (room.port .building).receiver = .hunting := by decide

theorem witness_PanelBytesSpellTheRequest : (room.station .a).gathered = [] ∧ (0x6A : Byte) ≠ 0x6B ∧
    ({ room with stationA := { Station.initial with gathered := [0x6B, 1, 2] } }.station .a).gathered.length < 4 ∧
    ({ room with stationA := { Station.initial with gathered := [0x6B, 1, 2] } }.station .a).gathered ≠ [] := by decide

/-! ## Witnesses: the room bus -/

theorem witness_RoomSecondCountsAndBeginsARound : busy.mode = .operating ∧ (busy.machine 0).state = .running ∧
    (busy.machine 1).state ≠ .running := by decide

/-- A PRESENT washer with a command in flight. -/
def told (c : BusCommand) : MachineRecord :=
  { machine .running with bus := { there with inFlight := some ⟨c, true, .cycleControl⟩ } }

/-- The round has come to washer 1. -/
def turn (m : MachineRecord) : State := { washer m with slots := [0, 23] }

theorem witness_PollSlotSendsThePollFrame : (turn (machine .idle)).slot = none ∧
    (turn (machine .idle)).slots = 0 :: [23] ∧ ((turn (machine .idle)).machine 0).bus.inFlight = none ∧
    ((turn (told (.startPhase 11 .cool 65535))).machine 0).bus.inFlight =
      some ⟨.startPhase 11 .cool 65535, true, .cycleControl⟩ ∧
    ((turn (told .suspend)).machine 0).bus.inFlight = some ⟨.suspend, true, .cycleControl⟩ ∧
    ((turn (told .resume)).machine 0).bus.inFlight = some ⟨.resume, true, .cycleControl⟩ ∧
    ((turn (told (.stop .room))).machine 0).bus.inFlight = some ⟨.stop .room, true, .cycleControl⟩ ∧
    ((turn (told (.test 7))).machine 0).bus.inFlight = some ⟨.test 7, true, .cycleControl⟩ ∧
    ∃ t, exec .pollSlot (turn (machine .idle)) = .next t :=
  ⟨by decide, by decide, by decide, by decide, by decide, by decide, by decide, by decide, _, rfl⟩

/-- The bus fields of a JOINING washer that still runs. -/
def joining : BusFields := { BusFields.initial with
  presence := .joining, report := some { rest with activity := .running }, orphanDeadline := some 600
  inFlight := some ⟨.stop .machine, true, .busController⟩ }

/-- A washer whose address has missed `n` replies. -/
def missing (b : BusFields) (n : Nat) : State := slotted { machine .idle with bus := { b with missed := n } }

theorem witness_AMissedWindowIsCounted : (missing there 1).slot = some 0 ∧ (missing there 1).configured 0 = true ∧
    ((missing .initial 0).machine 0).bus.presence = .absent ∧
    (((missing there 1).machine 0).bus.presence ≠ .absent ∧ ((missing there 1).machine 0).bus.missed < 2) ∧
    (((missing joining 2).machine 0).bus.presence = .joining ∧ 2 ≤ ((missing joining 2).machine 0).bus.missed) ∧
    (((missing there 2).machine 0).bus.presence = .present ∧ 2 ≤ ((missing there 2).machine 0).bus.missed) := by decide

/-- What the statements about a reply of a PRESENT machine share. -/
abbrev Hears (s : State) (a : Addr) (echo : Bool) (r : Report) : Prop :=
  s.slot = some a ∧ readReply a (reply a echo r) = some (echo, r) ∧ (s.machine a).bus.presence = .present ∧ r.fresh = false ∧
  s.roster a = some ⟨r.cls, r.ratings⟩

/-- Washer 1 in a state, with a last status report and a command in flight, has its slot. -/
def heard (m : MachineRecord) (o : Report) (f : Option InFlight) : State :=
  slotted { m with bus := { there with report := some o, inFlight := f } }

/-- Washer 1 RUNNING a cycle. -/
def heardWasher (c : Cycle) (o : Report) (f : Option InFlight) : State := heard { machine .running with cycle := some c } o f

/-- The washing cycle at its first phase, before it has been ACTIVE. -/
def first : Cycle := { washing with index := 0, everActive := false, sub := .starting }

/-- Washer 1 in FAULT_HOLD in phase 2. -/
def faulting (n : Nat) : Report := { rest with activity := .faultHold, arg := 2, fault := n }

/-- Dryer 2 RUNNING a cycle, with a last status report, has its slot. -/
def heardDryer (c : Cycle) (o : Report) : State :=
  { dryer { machine .running with cycle := some c, bus := { there with report := some o } } with slot := some 1 }

/-- A machine RUNNING, with nothing waiting for power and no session. -/
abbrev RunsAlone (s : State) (a : Addr) (o : Report) (c : Cycle) : Prop :=
  (s.machine a).bus.report = some o ∧ (s.machine a).state = .running ∧ (s.machine a).cycle = some c ∧
  s.electric.hasEntry a = false ∧ s.water.hasEntry a = false ∧ s.session = none

theorem witness_AValidReplySettlesTheCommandInFlight :
    (∀ echo, Hears (heard (machine .finished) rest none) 0 echo rest ∧
      ((heard (machine .finished) rest none).machine 0).bus.report = some rest ∧ (machine .finished).state = .finished ∧
      ((heard (machine .finished) rest (some ⟨.resume, true, .cycleControl⟩)).machine 0).bus.inFlight =
        some ⟨.resume, true, .cycleControl⟩ ∧ { there with missed := 1 }.missed < 2) ∧
    (let o := { rest with door := .opened };
      let r := { rest with selection := some 7 };
      Hears (heard (machine .idle) o none) 0 true r ∧ o.door ≠ r.door ∧ o.selection ≠ r.selection ∧ r.door = .closed ∧
      r.selection.isSome = true ∧ o.activity = r.activity ∧ o.arg = r.arg ∧ o.fault = r.fault) ∧
    (let o := { rest with door := .opened };
      Hears (heard { machine .finished with openedSinceFinish := true } o none) 0 true rest ∧ o.door ≠ rest.door ∧
      rest.door ≠ .opened ∧ o.selection = rest.selection ∧ (Lock.autoLocked ≠ .none ∧ (machine .finished).lock = .none) ∧
      { room with halted := true }.halted = true) ∧
    washing.plan[washing.index]? = some ⟨.wash, 1200, 4, 0, 30, true⟩ ∧
    (let f : InFlight := ⟨.startPhase 2 .wash 0, true, .cycleControl⟩;
      let s := heardWasher { washing with sub := .starting } rest (some f);
      let r := { rest with activity := .running, arg := 2 };
      Hears s 0 true r ∧ RunsAlone s 0 rest { washing with sub := .starting } ∧ (s.machine 0).bus.inFlight = some f ∧
      (s.machine 0).bus.queued = none) ∧
    (let r := { rest with activity := .complete, arg := 5 };
      let s := heardWasher { washing with index := 5 } rest none;
      Hears s 0 true r ∧ RunsAlone s 0 rest { washing with index := 5 } ∧ 5 + 1 = washing.plan.length) ∧
    (let r := { rest with activity := .complete, arg := 2 };
      Hears (heardWasher washing rest none) 0 true r ∧ RunsAlone (heardWasher washing rest none) 0 rest washing ∧ washing.sub = .active ∧
      washing.plan[2 + 1]? = some ⟨.drain, 300, 3, 0, 5, false⟩) ∧
    (let r := { rest with activity := .stopping };
      let f : InFlight := ⟨.stop .machine, true, .faultService⟩;
      Hears (heardWasher washing rest none) 0 true r ∧ rest.activity ≠ .stopping ∧ washing.refund = none ∧
      washing.tookStop = false ∧ ({ washing with tookStop := true } : Cycle).tookStop = true ∧
      Hears (heardWasher washing rest (some f)) 0 true r ∧ RunsAlone (heardWasher washing rest (some f)) 0 rest washing) ∧
    (∀ n ∈ [2, 3, 10], Hears (heardWasher washing rest none) 0 true (faulting n) ∧ rest.fault ≠ n ∧ 2 ≤ n ∧ n ≤ 10 ∧
      (faulting n).arg = washing.index) ∧
    (washing.retryUsed = false ∧ { washing with retryUsed := true }.retryUsed = true) ∧
    (let r := { rest with door := .opened };
      Hears (heardWasher first rest none) 0 true r ∧ RunsAlone (heardWasher first rest none) 0 rest first ∧
      (heardWasher first rest none).classOf 0 = .washer ∧ rest.door ≠ r.door ∧ r.door = .opened ∧ rest.activity = r.activity ∧
      (first.index = 0 ∧ first.everActive = false) ∧ { first with everActive := true }.everActive = true) := by
  refine ⟨?_, ?_, ?_, ?_, ?_, ?_, ?_, ?_, ?_, ?_, ?_⟩ <;> decide

theorem witness_ADiscoveryReplyJoinsOrOrphans :
    let other := { rest with cls := .dryer }
    (slotted .initial).slot = some 0 ∧ ((slotted .initial).machine 0).bus.presence = .absent ∧
    readReply 0 (reply 0 true rest) = some (true, rest) ∧ (slotted .initial).roster 0 = some ⟨rest.cls, rest.ratings⟩ ∧
    underWay rest.activity = false ∧ rest.fault = 0 ∧
    { MachineRecord.initial with lock := .locked }.lock ≠ .none ∧
    (MachineRecord.initial.lock = .none ∧ { slotted .initial with halted := true }.halted = true) ∧
    (∀ e ∈ (busy.queue (busy.classOf 0)).entries, e.hold.isSome = true) ∧
    (let e : ClaimEntry := ⟨12515, 30, none, false⟩;
      let before : List ClaimEntry := [⟨11400, 3, some ⟨23, 300⟩, false⟩];
      let s : State := { slotted .initial with washers := { ClaimQueue.initial with entries := before ++ [e] } };
      s.halted = false ∧ (s.queue (s.classOf 0)).entries = before ++ e :: [] ∧ e.hold = none ∧
      ∀ x ∈ before, x.hold.isSome = true) ∧
    (∀ n ∈ [2, 3, 10], readReply 0 (reply 0 true { rest with fault := n }) = some (true, { rest with fault := n }) ∧
      2 ≤ n ∧ n ≤ 10) ∧
    (readReply 0 (reply 0 true { rest with activity := .running }) = some (true, { rest with activity := .running }) ∧
      underWay .running = true) ∧
    (readReply 0 (reply 0 true other) = some (true, other) ∧ (⟨.washer, rated⟩ : RosterEntry) ≠ ⟨other.cls, other.ratings⟩ ∧
      { BusFields.initial with mismatch := true }.mismatch = true ∧ BusFields.initial.mismatch = false) := by decide

/-- Washer 1, JOINING, has its slot. -/
def stopped (b : BusFields) (l : Lock) : State := slotted { MachineRecord.initial with bus := b, lock := l }

theorem witness_AJoiningReplyIsTakenByWhatItShows :
    let working := { rest with activity := .stopping }
    let other := { rest with cls := .dryer }
    let fresh := { rest with fresh := true }
    (stopped joining .none).slot = some 0 ∧ ((stopped joining .none).machine 0).bus.presence = .joining ∧
    rest.fresh = false ∧ (stopped joining .none).roster 0 = some ⟨rest.cls, rest.ratings⟩ ∧
    (stopped joining .none).configured 0 = true ∧
    (readReply 0 (reply 0 true fresh) = some (true, fresh) ∧ fresh.fresh = true ∧ underWay fresh.activity = false ∧
      fresh.fault = 0 ∧ ((stopped joining .autoLocked).machine 0).lock ≠ .none) ∧
    (∀ echo, readReply 0 (reply 0 echo working) = some (echo, working)) ∧ underWay working.activity = true ∧
    (joining.inFlight = some ⟨.stop .machine, true, .busController⟩ ∧ joining.queued = none ∧ joining.missed < 2 ∧
      2 ≤ { joining with missed := 2 }.missed ∧ { joining with inFlight := none }.inFlight = none) ∧
    (∀ echo, readReply 0 (reply 0 echo rest) = some (echo, rest)) ∧ underWay rest.activity = false ∧ rest.fault = 0 ∧
    (((stopped joining .none).machine 0).lock = .none ∧ { stopped joining .none with halted := true }.halted = true) ∧
    (readReply 0 (reply 0 true other) = some (true, other) ∧ other.fresh = false ∧
      (⟨.washer, rated⟩ : RosterEntry) ≠ ⟨other.cls, other.ratings⟩ ∧ joining.mismatch = false) := by decide

theorem witness_OrphanDeadlineLocksAndJoins :
    let s : State := { stopped joining .none with now := 600 }
    (s.machine 0).state = .absent ∧ (s.machine 0).bus.presence = .joining ∧ (s.machine 0).bus.orphanDeadline = some 600 ∧
    600 ≤ s.now ∧ (s.machine 0).bus.report = some { rest with activity := .running } ∧
    { rest with activity := .running }.fault = 0 ∧
    (let e : ClaimEntry := ⟨12515, 30, none, false⟩;
      let before : List ClaimEntry := [⟨11400, 3, some ⟨23, 300⟩, false⟩];
      let u : State := { s with washers := { ClaimQueue.initial with entries := before ++ [e] } };
      u.halted = false ∧ (u.machine 0).lock = .none ∧ (u.machine 0).state = .absent ∧
      (u.machine 0).bus.orphanDeadline = some 600 ∧ (u.queue (u.classOf 0)).entries = before ++ e :: [] ∧ e.hold = none ∧
      ∀ x ∈ before, x.hold.isSome = true ∧ x.hold.map (·.machine) ≠ some 0) ∧
    { s with halted := true }.halted = true ∧ ((({ stopped joining .locked with now := 600 } : State).machine 0).lock ≠ .none) ∧
    (∀ e ∈ (s.queue (s.classOf 0)).entries, e.hold.isSome = true) := by decide

/-- R19: joined before it is locked, a machine is held for the waiting card, whose hold it hands back; locked first, it is not. -/
theorem test_orphan_orders : ∀ joinFirst : Bool,
    (after (.orphanDeadline ⟨1, joinFirst⟩) { stopped joining .none with
      now := 600, washers := { ClaimQueue.initial with entries := [⟨12515, 30, none, false⟩] } }).map (fun t =>
      ((t.machine 0).state, (t.machine 0).hold, t.washers.entries, t.washers.placed)) =
      some (.outOfService, none, [⟨12515, 30, none, false⟩], if joinFirst then 1 else 0) := by decide

theorem witness_OneWrongByteSpoilsAReply : (readReply 0 (reply 0 true rest)).isSome = true ∧
    15 < (reply 0 true rest).length ∧ (0 : Byte) ≠ (reply 0 true rest).getD 15 0 := by decide

/-! ## Witnesses: Cycle Control and the room -/

/-- Washer 1 RUNNING a cycle. -/
def runningWasher (c : Cycle) : State := washer { machine .running with cycle := some c }

/-- Dryer 2 RUNNING a cycle. -/
def runningDryer (c : Cycle) : State := dryer { machine .running with cycle := some c }

theorem witness_PhaseLimitAndPauseDeadlineStopTheCycle :
    let s := runningDryer { drying with timeUsed := 3720 }
    let w := runningWasher { washing with timeUsed := 1200 }
    let p := runningDryer { drying with sub := .paused, pauseDeadline := some 300 }
    ((s.machine 1).state = .running ∧ (s.machine 1).cycle = some { drying with timeUsed := 3720 } ∧
      drying.sub = .active ∧ drying.plan[drying.index]? = some ⟨.dry, 0, 45, 0, 0, true⟩ ∧
      (if (PhaseKind.dry) = .dry then drying.dryBase.map (· + 120) else some 0) = some 3720) ∧
    ((w.machine 0).state = .running ∧ washing.sub = .active ∧
      washing.plan[washing.index]? = some ⟨.wash, 1200, 4, 0, 30, true⟩) ∧
    ((p.machine 1).state = .running ∧
      ((p.machine 1).cycle.bind (·.pauseDeadline)) = some 300 ∧ 300 ≤ { p with now := 300 }.now) := by decide

theorem witness_StopDeadlineEndsOutOfService :
    let c : Cycle := { washing with stopCause := some .machine, stopDeadline := some 600 }
    let s : State := { washer { machine .stopping with cycle := some c } with now := 600 }
    let f : InFlight := ⟨.stop .user, true, .cycleControl⟩
    let t := heard { machine .stopping with cycle := some c } { rest with activity := .running } (some f)
    (s.machine 0).state = .stopping ∧ (s.machine 0).cycle = some c ∧ c.stopDeadline = some 600 ∧ 600 ≤ s.now ∧
    { c with refund := some 182 }.refund.isSome = true ∧
    (∀ x ∈ [Activity.stopping, .stopped], Hears t 0 true { rest with activity := x }) ∧ (t.machine 0).state = .stopping ∧
    (t.machine 0).cycle = some c ∧ c.stopCause = some .machine ∧ c.refund = none ∧ (t.machine 0).bus.inFlight = some f ∧
    (t.machine 0).bus.queued = none ∧ rest.fault = 0 ∧ t.electric.hasEntry 0 = false ∧ t.water.hasEntry 0 = false := by decide

theorem witness_StopMachineStopsARunningMachine : room.listens .operator ∧ (runningWasher washing).listens .operator ∧
    (runningWasher washing).configured 0 = true ∧ ((runningWasher washing).machine 0).state = .running ∧
    (room.configured 0 = true ∧ (room.machine 0).state ≠ .running ∧ (room.machine 0).state ≠ .testing) :=
  ⟨room_listens _, ⟨rfl, by decide⟩, by decide⟩

theorem witness_SpentDryerIsSentToCool :
    let c := { drying with remaining := 0 }
    let s := runningDryer c
    let d := { c with coolPosted := true }
    let o := { rest with cls := .dryer, activity := .running }
    let r := { o with arg := 1 }
    let f : InFlight := ⟨.startPhase 1 .cool 0, true, .cycleControl⟩
    let t : State := { dryer { machine .running with
      cycle := some d, bus := { there with report := some o, inFlight := some f } } with slot := some 1 }
    ((s.machine 1).state = .running ∧ (s.machine 1).cycle = some c ∧ c.kind = some .dry ∧ c.sub = .active ∧
      c.remaining = 0 ∧ c.coolPosted = false ∧ d.coolPosted = true ∧ (s.machine 1).bus.presence = .present ∧
      (s.machine 1).bus.inFlight = none) ∧
    Hears t 1 true r ∧ RunsAlone t 1 o d ∧ d.kind = some .dry ∧ d.plan[d.index + 1]? = some ⟨.cool, 300, 0, 0, 0, false⟩ ∧
    (t.machine 1).bus.inFlight = some f ∧ (t.machine 1).bus.queued = none ∧ o.door = r.door ∧ o.selection = r.selection ∧
    r.activity = .running ∧ r.arg = d.index + 1 ∧ r.fault = 0 := by decide

theorem witness_HaltAndResumeTheRoom :
    let held : State := { washer (heldFor 11400) with washers := { ClaimQueue.initial with
      entries := [⟨11400, 0, some ⟨0, 300⟩, false⟩] } }
    let idle : State := { (washer (machine .idle)).setMachine 23 (machine .selected) with
      halted := true, washers := { ClaimQueue.initial with entries := [⟨11400, 0, none, false⟩] } }
    room.listens .building ∧ { room with halted := true }.listens .building ∧ room.halted = false ∧
    ((runningWasher washing).machine 0).state = .running ∧ (held.machine 0).state = .held ∧
    idle.listens .building ∧ idle.halted = true ∧
    (∀ e ∈ (idle.queue (idle.classOf 1)).entries, e.hold.isSome = true) ∧
    (idle.machine 0).state = .idle ∧
    (∀ b : Addr, b < 0 → idle.classOf b = idle.classOf 0 → (idle.machine b).state ≠ .idle ∧ (idle.machine b).state ≠ .selected) ∧
    (idle.queue (idle.classOf 0)).entries.find? (fun e => e.hold.isNone) = some ⟨11400, 0, none, false⟩ := by
  refine ⟨room_listens _, ⟨rfl, by decide⟩, rfl, by decide, by decide, ⟨rfl, by decide⟩, rfl, by decide, by decide, ?_, by decide⟩
  intro b hb
  exact absurd hb (by simp)

theorem witness_SetBandSetsTheBand : room.listens .building ∧ 2 < (3 : Byte).toNat := ⟨room_listens _, by decide⟩

/-! ## Witnesses: the load pools -/

theorem witness_LimitRequestsSetTheLimitInForce : room.listens .building ∧ busy.listens .building ∧
    (evening.listens .building ∧ evening.grantsLawful ∧ evening.session = none ∧ (evening.machine 0).bus.presence = .present ∧
      (evening.machine 0).bus.inFlight = none) :=
  ⟨room_listens _, ⟨rfl, by decide⟩, ⟨rfl, by decide⟩, by unfold State.grantsLawful; decide, rfl, by decide, by decide⟩

theorem witness_SetReserveSetsTheRequestedReserve : room.listens .operator ∧ room.store = none ∧
    { room with store := some ⟨.writing 0, []⟩ }.listens .operator ∧
    { room with store := some ⟨.writing 0, []⟩ }.store.isSome = true := ⟨room_listens _, rfl, ⟨rfl, by decide⟩, rfl⟩

theorem witness_SuspendDeadlineStopsTheCycle :
    let c : Cycle := { washing with sub := .suspending }
    let g : Grant := ⟨0, .washer, .cyclePhase, 4, .shared, 5, true, true, some 15, some 0⟩
    let s : State := { runningWasher c with
      now := 15, electric := { Pool.starting 120 20 50 false with grants := [g] } }
    let o := { rest with cls := .dryer, activity := .running }
    let opened := { o with door := .opened }
    let paused := { drying with sub := .paused, pauseDeadline := some 300 }
    let leaving := { drying with sub := .suspending }
    let still := { o with activity := .suspended }
    (g ∈ (s.pool .electric).grants ∧ g.machine = 0 ∧ g.pending = true ∧ g.deadline = some 15 ∧ 15 ≤ s.now ∧
      (s.machine 0).state = .running ∧ (s.machine 0).cycle = some c ∧ c.sub = .suspending) ∧
    (Hears (heardDryer drying o) 1 true opened ∧ RunsAlone (heardDryer drying o) 1 o drying ∧ ((heardDryer drying o).machine 1).bus.inFlight = none ∧
      (heardDryer drying o).classOf 1 = .dryer ∧ drying.kind = some .dry ∧ o.door ≠ opened.door ∧ drying.coolPosted = false ∧
      drying.sub = .active) ∧
    (Hears (heardDryer paused opened) 1 true o ∧ RunsAlone (heardDryer paused opened) 1 opened paused ∧ paused.sub = .paused ∧
      o.door ≠ .opened ∧ (heardDryer paused opened).electric.holdsGrant 1 = false ∧ (heardDryer paused opened).water.holdsGrant 1 = false) ∧
    (Hears (heardDryer leaving o) 1 true still ∧ RunsAlone (heardDryer leaving o) 1 o leaving ∧ leaving.sub = .suspending ∧
      o.activity ≠ still.activity ∧ still.activity = .suspended ∧ still.arg = leaving.index ∧ leaving.pauseDeadline = none ∧
      { leaving with pauseDeadline := some 300 }.pauseDeadline = some 300 ∧
      { heardDryer leaving o with electric := { Pool.starting 120 20 50 false with
        grants := [{ g with machine := 1 }] } }.electric.holdsGrant 1 = true) := by
  refine ⟨?_, ?_, ?_, ?_⟩ <;> decide

theorem witness_GrantWaitExpiryStopsTheCycle :
    let e : WaitEntry := ⟨0, .washer, .resume, 60, true, 100, 0, some 0⟩
    let s : State := { runningWasher { washing with sub := .suspended } with
      now := 1000, electric := { Pool.starting 10 0 0 false with waits := [e] } }
    e ∈ (s.pool .electric).waits ∧ e.machine = 0 ∧ e.time + s.params.grantWait ≤ s.now ∧ e.time + s.waitLimit ≤ s.now ∧
    (∀ x ∈ (s.pool .electric).waits, x.machine = 0 → x.purpose = .cyclePhase ∨ x.purpose = .resume) ∧
    (s.pool .water).hasEntry 0 = false ∧ (s.machine 0).state = .running ∧
    (∀ j, ∀ x ∈ ({ s with waitLimit := 901 }.pool j).waits, x.machine = 0 → s.now < x.time + 901) := by
  refine ⟨by decide, by decide, by decide, by decide, by decide, by decide, by decide, fun j => ?_⟩
  cases j <;> decide

theorem witness_ClearPoolStatsZeroesTheStatistics : room.listens .building := room_listens _

/-! ## Witnesses: the pay stations -/

/-- A room with a record at station A. -/
def atA (x : Station) : State := { room with stationA := x }

theorem witness_BalanceShowsTheCard : room.mode = .operating ∧
    ((atA (carded .cardReady 52006 1500)).stationA.state = .cardReady ∧
      (atA (carded .cardReady 52006 1500)).stationA.card = some 52006) ∧
    (room.station .a).state = .empty ∧ ((atA (carded .verifying 52006 1500)).station .a).state = .verifying := by decide

theorem witness_PayBeginsThePaymentAndTheDebit :
    let w : State := { washer { machine .selected with selection := some 0 } with
      stationA := carded .cardReady 52006 350 }
    let d : State := { dryer { machine .selected with selection := some 0 } with
      stationA := carded .cardReady 52006 1500 }
    (w.mode = .operating ∧ w.stationA.state = .cardReady ∧ w.stationA.card = some 52006 ∧ w.stationA.slot = some .a ∧
      w.halted = false ∧ w.band ≠ .quiet ∧ w.configured 0 = true ∧ (w.machine 0).state = .selected ∧
      (w.machine 0).payment = none ∧ (w.machine 0).lock = .none ∧ (w.machine 0).lockPending = false ∧
      (w.machine 0).door = some .closed ∧ (w.machine 0).selection = some 0 ∧ w.classOf 0 = .washer ∧
      w.washProfile 0 = some hot ∧ 350 ≤ w.stationA.pair.value ∧ w.stationA.pair.value - 350 ≤ w.params.ceiling) ∧
    (d.stationA.state = .cardReady ∧ (d.machine 1).state = .selected ∧ d.classOf 1 = .dryer ∧
      d.dryProfile 0 = some warm ∧ min (max 1 (min (4 : Byte).toNat 180)) (warm.maxMinutes / warm.stepMinutes) = 4 ∧
      warmPlan = [⟨.dry, 0, warm.dryLu, 0, 0, true⟩, ⟨.cool, warm.coolSeconds, 0, 0, 0, false⟩] ∧
      240 ≤ d.stationA.pair.value ∧ d.stationA.pair.value - 240 ≤ d.params.ceiling) := by decide

theorem witness_PayBeginsThePaymentAndTheDebit_refused :
    let w (m : MachineRecord) : State := { washer m with stationA := carded .cardReady 52006 349 }
    let ready := { machine .selected with selection := some 0 }
    let held := { machine .held with selection := some 0, hold := some ⟨52006, 300⟩ }
    ((atA (carded .verifying 52006 0)).stationA.state = .verifying ∧ { room with halted := true }.halted = true ∧
      { room with band := .quiet }.band = .quiet ∧ addrNum 0 = (1 : Byte).toNat ∧ (1 : Byte) = byte (addrNum 0) ∧
      (∀ a, addrNum a = (25 : Byte).toNat → room.configured a = false)) ∧
    ((w (machine .idle)).machine 0).state = .idle ∧ held.hold.map (·.card) ≠ some 7 ∧
    (held.state = .held ∧ held.hold.map (·.card) = some 52006 ∧ held.payment = none ∧ held.door = some .closed) ∧
    (machine .running).state ≠ .held ∧ { ready with lock := .autoLocked }.lock ≠ .none ∧
    { ready with door := some .opened }.door ≠ some .closed ∧ (machine .selected).selection = none ∧
    room.washProfile 7 = none ∧ room.dryProfile 7 = none ∧
    min (max 1 (min (4 : Byte).toNat 180)) ({ warm with maxMinutes := 9 }.maxMinutes / warm.stepMinutes) = 0 ∧
    (w ready).stationA.pair.value < 350 ∧ 20000 < 20351 - 350 := by decide

theorem witness_PayBeginsThePaymentAndTheDebit_held :
    let e : ClaimEntry := ⟨52006, 0, some ⟨0, 300⟩, false⟩
    let free : WashProfile := { hot with price := 0 }
    let s : State := { washer { machine .held with selection := some 0, hold := some ⟨52006, 300⟩ } with
      stationA := carded .cardReady 52006 350, washers := { ClaimQueue.initial with entries := [e] }
      tables := { tables with wash := tables.wash.set 0 (some free) } }
    s.holdsLawful ∧ (s.machine 0).state = .held ∧ (s.machine 0).hold.map (·.card) = some 52006 ∧
    s.washProfile 0 = some free ∧ free.price - free.price * 0 / 100 = 0 ∧ s.stationA.pair.value ≤ s.params.ceiling ∧
    (s.queue (s.classOf 0)).entries = [] ++ e :: [] ∧ e.hold.map (·.machine) = some 0 :=
  ⟨holdsLawful_of_checks (fun c => by cases c <;> decide) (by decide), by decide⟩

theorem witness_AddTimeBeginsTheTopUp :
    let c : Cycle := { drying with remaining := 2100, paidTotal := 2400 }
    let s : State := { runningDryer c with stationA := carded .cardReady 81220 120 }
    s.mode = .operating ∧ s.stationA.state = .cardReady ∧ s.stationA.card = some 81220 ∧ s.stationA.slot = some .a ∧
    s.configured 1 = true ∧ s.classOf 1 = .dryer ∧ (s.machine 1).state = .running ∧ (s.machine 1).cycle = some c ∧
    c.kind = some .dry ∧ c.coolPosted = false ∧ c.payer = 81220 ∧ c.topUp = none ∧ s.dryProfile c.program = some warm ∧
    min (max 1 (min (4 : Byte).toNat 180)) (min (warm.maxMinutes * 60 - c.remaining) (10800 - c.paidTotal) /
      (warm.stepMinutes * 60)) = 2 ∧
    2 * warm.stepPrice ≤ s.stationA.pair.value ∧ s.stationA.pair.value - 120 ≤ s.params.ceiling := by decide

theorem witness_AddTimeBeginsTheTopUp_refused :
    let c : Cycle := { drying with remaining := 3300, paidTotal := 10500 }
    let e : RefundEntry := ⟨0, 81220, 300, .ready, false, none, 0⟩
    let s : State := { runningDryer c with stationA := carded .cardReady 81220 19999, refunds := [e] }
    let granted (p : DryProfile) := min (max 1 (min (0 : Byte).toNat 180))
      (min (p.maxMinutes * 60 - c.remaining) (10800 - c.paidTotal) / (p.stepMinutes * 60))
    (s.refunds = [] ++ e :: [] ∧ e.state = .ready ∧ s.stationA.pair.value < s.params.ceiling) ∧
    (∀ e ∈ room.refunds, e.card ≠ 81220) ∧ (2 : Byte) = byte (addrNum 1) ∧ s.classOf 0 ≠ .dryer ∧
    { c with coolPosted := true }.coolPosted = true ∧ c.payer = 81220 ∧ { c with payer := 7 }.payer ≠ 81220 ∧
    { c with topUp := some ⟨7, 60, 300⟩ }.topUp ≠ none ∧ s.dryProfile 7 = none ∧
    granted { warm with stepMinutes := 6 } = 0 ∧ granted { warm with stepMinutes := 5 } = 1 ∧
    granted { warm with stepMinutes := 5, stepPrice := 0 } * 0 = 0 ∧ 59 < 1 * warm.stepPrice ∧ 20000 < 20061 - 60 := by decide

theorem witness_QueueJoinsAtTheTail :
    let entries : List ClaimEntry := (List.range 7).map (fun n => ⟨n + 1, 0, none, false⟩)
    let s : State := { atA (carded .cardReady 11400 900) with washers := { ClaimQueue.initial with entries := entries } }
    s.mode = .operating ∧ s.stationA.state = .cardReady ∧ s.stationA.card = some 11400 ∧
    (∀ e ∈ (s.queue .washer).entries, e.card ≠ 11400) ∧ (s.queue .washer).entries.length = 7 ∧
    { s with halted := true }.halted = true ∧
    (∀ a, s.configured a = true → s.classOf a = .washer → (s.machine a).lock = .none →
      (s.machine a).lockPending = false → (s.machine a).state ≠ .idle ∧ (s.machine a).state ≠ .selected) := by decide

theorem witness_QueueJoinsAtTheTail_refused :
    let e : RefundEntry := ⟨0, 7, 300, .ready, false, none, 0⟩
    let s : State := { atA (carded .cardReady 7 900) with
      washers := { ClaimQueue.initial with entries := [⟨7, 0, none, false⟩] }, refunds := [e], halted := true }
    s.mode = .operating ∧ s.stationA.state = .cardReady ∧ s.stationA.card = some 7 ∧ s.halted = true ∧
    (∃ y ∈ (s.queue .washer).entries, y.card = 7) ∧ s.stationA.slot = some .a ∧ s.refunds = [] ++ e :: [] ∧
    e.card = 7 ∧ e.state = .ready ∧ s.stationA.pair.value < s.params.ceiling := by decide

theorem witness_CardSwitchAndPanelErrors : (room.station .a).switchClosed = false ∧ (room.station .a).state = .empty ∧
    (room.station .a).awaitingRemoval = false ∧ room.mode = .operating ∧
    { room with mode := .configFault }.mode = .configFault ∧
    (carded .reading 1 0).state = .reading ∧ (carded .cardReady 1 0).state = .cardReady := by decide

theorem witness_InsertionReadDecidesTheCard :
    let s := atA { Station.initial with state := .reading, switchClosed := true }
    let e : RefundEntry := ⟨31, 4294967294, 300, .ready, false, none, 0⟩
    let doubtful : RefundEntry := { e with state := .inDoubt, pairs := some (⟨7, 1000⟩, ⟨8, 1300⟩) }
    let d : Doubt := ⟨⟨.start, 4294967294, 0, 280, .a, ⟨7, 900⟩, ⟨8, 620⟩⟩, 120⟩
    (s.station .a).state = .reading ∧ false ∈ (⟨[true, false], []⟩ : ReadAnswers).bytes ∧
    (⟨[], []⟩ : ReadAnswers).bytes.length < 3 ∧ at2 (List.replicate 32 0) 4 ≠ s.params.issuer ∧ 4294967294 < 4294967295 ∧
    s.params.issuer < 65536 ∧ (List.replicate 10 (0 : Byte)).length = 10 ∧
    (1 ≤ (0 + 65536 - 65535) % 65536 ∧ (0 + 65536 - 65535) % 65536 ≤ 32767 ∧ (32768 + 65536 - 1) % 65536 ≤ 32767) ∧
    (∀ d ∈ s.doubts, d.debit.card ≠ 4294967294) ∧ (∀ e ∈ s.refunds, e.card ≠ 4294967294) ∧
    holdsCard 4294967294 (s.station (otherStation .a)) = false ∧
    ({ s with refunds := [e] }.refunds = [] ++ e :: [] ∧ e.card = 4294967294 ∧ e.state = .ready ∧ 1300 < s.params.ceiling) ∧
    ({ s with refunds := [doubtful] }.refunds = [] ++ doubtful :: [] ∧ doubtful.card = 4294967294 ∧ doubtful.state = .inDoubt ∧
      doubtful.pairs = some (⟨7, 1000⟩, ⟨8, 1300⟩) ∧ 1300 - 1000 ≤ doubtful.amount ∧ doubtful.amount - (1300 - 1000) = 0 ∧
      ((⟨7, 1000⟩ : Pair) ≠ ⟨8, 1300⟩ ∧ (⟨9, 1000⟩ : Pair) ≠ ⟨8, 1300⟩ ∧ (⟨9, 1000⟩ : Pair) ≠ ⟨7, 1000⟩)) ∧
    ({ s with doubts := [d] }.doubts = [] ++ d :: [] ∧ d.debit.card = 4294967294 ∧ d.debit.kind = .start ∧
      d.debit.oldPair ≠ d.debit.expectedPair ∧ (⟨9, 900⟩ : Pair) ≠ d.debit.oldPair ∧ (⟨9, 900⟩ : Pair) ≠ d.debit.expectedPair) := by
  decide

/-- Station A in the middle of a debit for a machine. -/
def debiting (st : StationState) (r : CardRequest) (a : Addr) : Station := { carded st 52006 1500 with
  request := some r, target := some a, amount := 240, writing := some .b, oldPair := ⟨41, 1500⟩
  expectedPair := ⟨42, 1260⟩ }

theorem witness_TheWriteOfADebitIsSeenThrough :
    let c : Cycle := { drying with topUp := some ⟨52006, 240, 2400⟩ }
    let x := debiting .debiting .addTime 1
    let y := { debiting .crediting .credit 1 with begun := true }
    let e : RefundEntry := ⟨0, 52006, 300, .ready, true, some (⟨41, 1500⟩, ⟨42, 1260⟩), 0⟩
    let d : Doubt := ⟨⟨.start, 60333, 0, 280, .a, ⟨7, 900⟩, ⟨8, 620⟩⟩, 120⟩
    x.card = some 52006 ∧ x.target = some 1 ∧ x.writing = some .b ∧
    x.request = some (if DoubtKind.topUp = .topUp then .addTime else .pay) ∧
    (debiting .debiting .pay 1).request = some (if DoubtKind.start = .topUp then .addTime else .pay) ∧
    x.state = .debiting ∧ (⟨List.replicate 9 true, []⟩ : LinkAnswers).bytes.head? = some true ∧
    (x.begun = false ∧ x.attempt = 1 ∧ { x with begun := true }.begun = true ∧ { x with attempt := 2 }.attempt ≠ 1) ∧
    ((runningDryer c).machine 1).cycle = some c ∧ (∃ u, c.topUp = some u ∧ u.card = 52006) ∧
    (⟨[], []⟩ : LinkAnswers).bytes.head? ≠ some true ∧ (⟨[false], [true]⟩ : LinkAnswers).bytes.head? ≠ some true ∧
    (room.doubts.length < 4 ∧ { room with doubts := [d, d, d, d] }.doubts = d :: [d, d, d] ∧ [d, d, d].length = 3) ∧
    (debiting .verifying .pay 1).state = .verifying ∧ false ∈ (⟨[true, false], []⟩ : ReadAnswers).bytes ∧
    [] ≠ slotBytes x.expectedPair (addrNum 1) x.amount ∧
    (y.card = some 52006 ∧ y.request = some .credit ∧ { room with refunds := [e] }.refunds = [] ++ e :: [] ∧
      e.card = 52006 ∧ y.state = .crediting ∧ y.begun = true ∧ y.attempt = 1 ∧ { y with begun := false }.begun = false) := by
  refine ⟨rfl, rfl, rfl, rfl, rfl, rfl, rfl, by decide, by decide, ⟨_, rfl, rfl⟩, by decide, by decide, by decide, rfl, by decide,
    by decide⟩

theorem witness_AVerifiedDebitStartsTheCycle :
    let p : Payment := ⟨52006, 0, .selected, 240, 2400, warmPlan⟩
    let s : State := { dryer { machine .paying with payment := some p } with stationA := debiting .verifying .pay 1 }
    s.stationA.state = .verifying ∧ s.stationA.card = some 52006 ∧ s.stationA.target = some 1 ∧
    s.stationA.writing = some .b ∧ s.stationA.request = some .pay ∧ (s.machine 1).state = .paying ∧
    (s.machine 1).payment = some p ∧ (s.machine 1).lock = .none ∧ (s.machine 1).lockPending = false ∧
    s.halted = false ∧ (s.machine 1).door = some .closed := by decide

theorem witness_AVerifiedDebitStartsTheCycle_closed :
    let p : Payment := ⟨52006, 0, .held, 240, 2400, warmPlan⟩
    let m : MachineRecord := { machine .paying with payment := some p, lock := .locked, hold := some ⟨52006, 300⟩ }
    let s : State := { dryer m with stationA := debiting .verifying .pay 1 }
    s.stationA.state = .verifying ∧ s.stationA.card = some 52006 ∧ s.stationA.writing = some .b ∧
    s.stationA.target = some 1 ∧ s.stationA.request = some .pay ∧ (s.machine 1).payment = some p ∧ p.card = 52006 ∧
    (s.machine 1).state = .paying ∧ (s.machine 1).lock ≠ .none ∧ { m with state := .absent }.state ≠ .paying ∧
    { s with halted := true }.halted = true ∧ { m with lock := .none }.lock = .none ∧ s.classOf 1 = .dryer ∧
    0 < p.paidSeconds ∧ (p.plan[0]?).map (·.kind) = some .dry ∧ 0 < p.charge ∧ 50000 < { p with charge := 50001 }.charge ∧
    (∀ e ∈ s.refunds, e.card ≠ 52006) ∧ s.refunds.length < 32 ∧
    s.stationA.expectedPair.value < s.params.ceiling ∧ p.origin = .held ∧ s.now < 300 ∧
    0 < (hot.plan.map (·.weight)).sum := by decide

theorem witness_AVerifiedDebitStartsTheCycle_topUp :
    let u : TopUp := ⟨52006, 240, 2400⟩
    let c : Cycle := { drying with topUp := some u }
    let e : RefundEntry := ⟨0, 52006, 49761, .suspect, false, some (⟨7, 1000⟩, ⟨8, 1200⟩), 0⟩
    let s : State := { runningDryer c with stationA := debiting .verifying .addTime 1 }
    s.stationA.request = some .addTime ∧ 0 < s.stationA.amount ∧ (s.machine 1).state = .running ∧ s.classOf 1 = .dryer ∧
    (s.machine 1).cycle = some c ∧ c.kind = some .dry ∧ c.coolPosted = false ∧ c.topUp = some u ∧ u.card = 52006 ∧
    (∀ e ∈ s.refunds, e.card ≠ 52006) ∧ { c with coolPosted := true }.coolPosted = true ∧
    { s with refunds := [e] }.refunds = [] ++ e :: [] ∧ 50000 < e.amount + s.stationA.amount := by decide

theorem witness_AVerifiedDebitStartsTheCycle_credit :
    let x : Station := { debiting .verifying .credit 1 with target := none }
    let e : RefundEntry := ⟨0, 52006, 240, .ready, true, some (⟨41, 1500⟩, ⟨42, 1740⟩), 0⟩
    let late := slotBytes ⟨43, 1260⟩ 0 0
    x.state = .verifying ∧ x.card = some 52006 ∧ x.writing = some .b ∧ x.target = none ∧ x.request = some .credit ∧
    { room with refunds := [e] }.refunds = [] ++ e :: [] ∧ e.card = 52006 ∧ x.amount ≤ e.amount ∧
    e.amount - x.amount = 0 ∧ 0 < { e with amount := 241 }.amount - x.amount ∧ x.expectedPair.value < room.params.ceiling ∧
    room.params.ceiling ≤ { x with expectedPair := ⟨42, 20000⟩ }.expectedPair.value ∧
    { x with attempt := 2 }.attempt ≠ 1 ∧ slotValid [] = false ∧ [] ≠ slotBytes x.expectedPair 0 x.amount ∧
    late ≠ slotBytes x.expectedPair 0 x.amount ∧ slotValid late = true ∧ laterThan (at2 late 2) x.oldPair.sequence = true ∧
    laterThan (at2 (slotBytes ⟨41 + 32768, 1260⟩ 0 0) 2) x.oldPair.sequence = false := by decide

theorem witness_DoubtDeadlineEndsTheDebitUnresolved :
    let d : Doubt := ⟨⟨.start, 60333, 0, 280, .a, ⟨7, 900⟩, ⟨8, 620⟩⟩, 120⟩
    let s : State := { room with doubts := [d], now := 120 }
    s.doubts = [] ++ d :: [] ∧ d.deadline ≤ s.now ∧ d.debit.kind = .start := by decide

/-! ## Witnesses: refunds and claim queues -/

theorem witness_RefundsNeverExceedTheCharge : 0 < (hot.plan.map (·.weight)).sum ∧ 3600 ≤ 3600 ∧ 50 ≤ 100 ∧
    (washing.plan = hot.plan.take 2 ++ ⟨.wash, 1200, 4, 0, 30, true⟩ :: hot.plan.drop 3 ∧
      washing.index = (hot.plan.take 2).length) ∧
    (1 ≤ warm.stepMinutes ∧ warm.stepPrice ≤ 500 ∧ warm.maxMinutes ≤ 180) ∧ dryerStart warm 4 0 = some ⟨240, 2400, 40⟩ ∧
    dryerTopUp warm 2100 2400 4 25 = some ⟨90, 1200, 20⟩ := by decide

theorem witness_RefundRequestsKeepTheAccounts :
    let full : RefundEntry := ⟨0, 81220, 300, .ready, false, none, 0⟩
    let suspect : RefundEntry := { full with state := .suspect, pairs := some (⟨7, 1000⟩, ⟨8, 1300⟩) }
    room.listens .operator ∧ 4294967294 < 4294967295 ∧ (∀ i, (room.station i).card ≠ some 4294967294) ∧
    (∀ e ∈ room.refunds, e.card ≠ 4294967294) ∧ room.refunds.length < 32 ∧
    { room with refunds := [full] }.refunds = [] ++ full :: [] ∧ full.card = 81220 ∧ (full.state = .ready ∧
      full.inProgress = false ∧ { full with inProgress := true }.inProgress = true) ∧ full.state ≠ .suspect ∧
    { full with state := .inDoubt }.state = .inDoubt ∧ suspect.state = .suspect ∧
    suspect.pairs = some (⟨7, 1000⟩, ⟨8, 1300⟩) ∧ 1300 - 1000 ≤ suspect.amount ∧
    min 65535 50000 + full.amount > 50000 ∧ 49700 + full.amount ≤ 50000 ∧
    32 ≤ { room with refunds := List.replicate 32 full }.refunds.length := by
  refine ⟨room_listens _, by decide, ?_, by decide⟩
  intro i
  cases i <;> decide

theorem witness_RefundRequestsKeepTheAccounts_standing :
    let s := atA (carded .cardReady 4294967294 19999)
    (s.station .a).state = .cardReady ∧ (s.station .a).card = some 4294967294 ∧ (s.station .a).slot = some .a ∧
    (∀ j, j ≠ .a → (s.station j).card ≠ some 4294967294) ∧ (s.station .a).pair.value < s.params.ceiling ∧
    (∀ e ∈ s.refunds, e.card ≠ 4294967294) := by
  refine ⟨rfl, rfl, rfl, ?_, by decide, by decide⟩
  intro j
  cases j <;> decide

theorem witness_HoldsExpireAndClaimsAreCancelled :
    let e : ClaimEntry := ⟨11400, 0, some ⟨0, 300⟩, false⟩
    let w : ClaimEntry := ⟨12515, 30, none, false⟩
    let s : State := { washer (heldFor 11400) with
      now := 300, washers := { ClaimQueue.initial with entries := [e, w] } }
    (s.queue .washer).entries = [] ++ e :: [w] ∧ s.classOf 0 = .washer ∧ e.hold = some ⟨0, 300⟩ ∧ 300 ≤ s.now ∧
    e.paying = false ∧ (s.machine 0).state = .held ∧ w.hold = none ∧
    (∀ x ∈ ([] : List ClaimEntry), x.hold.isSome = true) ∧
    s.listens .operator ∧ (0 < e.card ∧ e.card < 4294967295) ∧ { e with paying := true }.paying = true := by
  refine ⟨rfl, by decide, rfl, by decide, rfl, by decide, rfl, by decide, ⟨rfl, by decide⟩, by decide, rfl⟩

/-! ## Witnesses: faults, locks and service -/

theorem witness_ClearFaultsRemovesTheRecords : (room.port .operator).replies.length < 4 ∧ room.mode = .operating ∧
    ((24 : Byte).toNat ≤ 24 ∧ (255 : Byte) = 255) ∧ (24 < (25 : Byte).toNat ∧ (25 : Byte) ≠ 255) ∧
    { room with mode := .configFault }.mode = .configFault := by decide

theorem witness_LocksStrikesAndPermits :
    let claimed : State := { washer (heldFor 11400) with
      washers := { ClaimQueue.initial with entries := [⟨11400, 3, some ⟨0, 300⟩, false⟩] } }
    let e : ClaimEntry := ⟨12515, 30, none, false⟩
    let waiting : State := { washer { machine .outOfService with lock := .autoLocked } with
      washers := { ClaimQueue.initial with entries := [⟨11400, 3, some ⟨23, 300⟩, false⟩, e] } }
    (room.listens .operator ∧ room.configured 0 = true ∧ room.configured 23 = true) ∧
    (∀ st, ((washer (machine st)).machine 0).state = st ∧ (machine st).lock = .none ∧
      { machine st with lock := .locked, lockPending := true }.lock = .locked ∧
      { machine st with lock := .locked, lockPending := true }.lockPending = true) ∧
    ((machine .held).state = .held ∧ (machine .held).hold = none) ∧
    ((claimed.machine 0).state = .held ∧ (claimed.machine 0).hold.isSome = true ∧ claimed.configured 0 = true ∧
      (claimed.queue (claimed.classOf 0)).entries = [] ++ ⟨11400, 3, some ⟨0, 300⟩, false⟩ :: []) ∧
    ({ machine .outOfService with lock := .autoLocked }.lock ≠ .none ∧ { room with halted := true }.halted = true ∧
      (∀ e ∈ (claimed.queue (claimed.classOf 0)).entries, e.hold.isSome = true)) ∧
    ((waiting.machine 0).lock ≠ .none ∧ (waiting.machine 0).state = .outOfService ∧ waiting.halted = false ∧
      (waiting.queue (waiting.classOf 0)).entries = [⟨11400, 3, some ⟨23, 300⟩, false⟩] ++ e :: [] ∧ e.hold = none) ∧
    0 < { machine .idle with strikes := 1 }.strikes ∧ (machine .idle).strikes = 0 := by
  refine ⟨⟨room_listens _, by decide⟩, fun st => ?_, ?_, ?_, ?_, ?_, ?_⟩
  · cases st <;> decide
  all_goals decide

/-- A session on washer 1. -/
def session (ph : Option ServicePhase) : Session := ⟨0, 0, false, ph, none, 0⟩

theorem witness_SessionsOpenAndEnd :
    let permitted : MachineRecord := { machine .outOfService with permit := true, lock := .locked }
    let s : State := { washer { permitted with state := .service } with session := some (session none) }
    room.listens .service ∧ room.configured 0 = true ∧ (machine .idle).permit = false ∧ permitted.permit = true ∧
    { room with halted := true }.halted = true ∧ room.halted = false ∧ s.session.isSome = true ∧ room.session = none ∧
    permitted.payment = none ∧ permitted.state = .outOfService ∧ s.session = some (session none) ∧
    (session none).machine = 0 ∧ (session none).closing = false ∧ (session none).phase = none ∧
    (s.machine 0).testRun = none ∧ (s.machine 0).state = .service ∧ (s.machine 0).lock ≠ .none :=
  ⟨room_listens _, by decide⟩

theorem witness_ServiceWorkBegins :
    let s : State := { washer (machine .service) with session := some (session none) }
    let t := washer (machine .idle)
    let ph : ServicePhase := ⟨.drain, 1800, 0, none, .active, some 1920, none⟩
    let begins : ServicePhase := { ph with sub := .starting, deadline := none }
    let serving (ph : ServicePhase) (f : Option InFlight) : State :=
      { heard (machine .service) rest f with session := some (session (some ph)) }
    let run (n : Nat) (sub : SubtestState) : TestRun := ⟨.operator, n, sub, some 120, none⟩
    let tested (n : Nat) (sub : SubtestState) (f : Option InFlight) : State :=
      heard { machine .testing with testRun := some (run n sub) } rest f
    (s.listens .service ∧ s.session = some (session none) ∧ (session none).closing = false ∧
      (session none).phase = none ∧ (s.machine 0).testRun = none ∧ (s.machine 0).bus.presence = .present ∧
      (s.machine 0).bus.inFlight = none) ∧
    (t.listens .operator ∧ t.configured 0 = true ∧ t.halted = false ∧ (t.machine 0).state = .idle ∧
      (t.machine 0).payment = none ∧ t.classOf 0 = .washer ∧ (t.machine 0).door ≠ some .opened ∧
      { machine .idle with door := some .opened }.door = some .opened ∧ (t.machine 0).bus.presence = .present ∧
      (t.machine 0).bus.inFlight = none) ∧
    (Hears (serving begins (some ⟨.startPhase 255 .drain 1800, true, .faultService⟩)) 0 true
        { rest with activity := .running, arg := 255 } ∧
      (session (some begins)).phase = some begins ∧ begins.sub = .starting ∧ begins.windDown = none) ∧
    (Hears (serving ph none) 0 true { rest with activity := .complete, arg := 255 } ∧ ph.sub = .active ∧
      ((serving ph none).machine 0).testRun = none ∧ (serving ph none).electric.hasEntry 0 = false ∧
      (serving ph none).water.hasEntry 0 = false ∧ ((serving ph none).machine 0).bus.report = some rest ∧
      ((serving ph none).machine 0).bus.inFlight = none) ∧
    (∀ n ∈ [2, 10], Hears (serving ph none) 0 true { rest with activity := .faultHold, fault := n } ∧ rest.fault ≠ n) ∧
    (∀ n ∈ [1, 6, 7], Hears (tested n .starting (some ⟨.test n, true, .faultService⟩)) 0 true
        { rest with activity := .testing, arg := n } ∧
      ((tested n .starting none).machine 0).testRun = some (run n .starting) ∧
      Hears (tested n .running none) 0 true { rest with activity := .testDone, arg := n } ∧
      Hears (tested n .running none) 0 true { rest with activity := .testDone, arg := n, fault := 10 } ∧
      (tested n .running none).classOf 0 = .washer ∧ (tested n .running none).session = none) := by
  refine ⟨⟨⟨rfl, by decide⟩, ?_⟩, ⟨⟨rfl, by decide⟩, ?_⟩, ?_, ?_, ?_, ?_⟩ <;> decide

theorem witness_ServiceDeadlinesWindTheWorkDown :
    let ph : ServicePhase := ⟨.heat, 300, 60, some .electric, .active, some 420, none⟩
    let w : PhaseWindDown := ⟨1020, false, .timeout⟩
    let run : TestRun := ⟨.operator, 5, .running, some 420, none⟩
    let v : TestWindDown := ⟨1020, true, .fail, 0x10⟩
    let s : State := { washer (machine .service) with session := some (session (some ph)), now := 420 }
    let t : State := { washer { machine .testing with testRun := some run } with now := 420 }
    (s.session = some (session (some ph)) ∧ (session (some ph)).phase = some ph ∧ ph.sub = .active ∧
      ph.windDown = none ∧ ph.deadline = some 420 ∧ 420 ≤ s.now) ∧
    ((t.machine 0).testRun = some run ∧ run.sub ≠ .waiting ∧ run.windDown = none ∧ run.reportDeadline = some 420 ∧
      420 ≤ t.now) ∧
    ((s.machine 0).testRun = none ∧ (session (some { ph with windDown := some w })).machine = 0 ∧
      (session (some { ph with windDown := some w })).closing = false ∧
      { ph with windDown := some w }.windDown = some w ∧ w.deadline ≤ { s with now := 1020 }.now) ∧
    { run with windDown := some v }.windDown = some v ∧ v.deadline ≤ { t with now := 1020 }.now := by decide

/-! ## Witnesses: configuration, the store and power-on -/

theorem witness_ConfigurationRequestsWriteTheTables : room.listens .operator ∧ room.store = none ∧
    (tables.params.clamp = tables.params ∧ tables.params.issuer < 65536) ∧ (hot.clamp = hot ∧ profileRule hot = true) ∧
    warm.clamp = warm ∧ room.tables.wash[(0 : Fin Config.programs)] = some hot ∧
    room.tables.dry[(0 : Fin Config.programs)] = some warm ∧ room.tables.wash[(1 : Fin Config.programs)] = none ∧
    (5000 ≤ 5000 ∧ 5000 < 5001 ∧ 65535 < 65536) ∧ (1 ≤ 30 ∧ 30 ≤ 30 ∧ 500 ≤ 500 ∧ 10 ≤ 180 ∧ 180 ≤ 180) ∧ rated.clamp = rated ∧
    room.tables.roster[(2 : Addr)] = none ∧ room.tables.roster[(0 : Addr)] = some ⟨.washer, rated⟩ ∧
    (room.machine 0).state = .absent ∧ (room.machine 0).payment = none ∧ (room.machine 0).testRun = none ∧
    room.session = none ∧ (⟨.washer, rated⟩ : RosterEntry) ≠ ⟨.dryer, rated⟩ ∧
    (machine .idle).state ≠ .absent ∧ (machine .idle).state ≠ .outOfService ∧ (2 : Byte).toNat ≤ 2 :=
  ⟨room_listens _, by decide⟩

theorem witness_StoresAndFailedAutoloads :
    let job : StoreJob := ⟨.readingBack, (imageOf room).take 32⟩
    let first : StoreJob := { job with step := .writing 0 }
    (room.mode ≠ .loading ∧ (room.port .operator).replies.length < 4 ∧ room.store = none) ∧
    { room with store := some job }.store = some job ∧ job.step = .readingBack ∧
    (∀ n ≤ 32, n ≤ (⟨List.replicate 35 true, [false, true]⟩ : LinkAnswers).bytes.length - 3) ∧
    ((∀ b ∈ (⟨List.replicate 35 true, [false, true]⟩ : LinkAnswers).bytes, b = true) ∧
      true ∈ (⟨List.replicate 35 true, [false, true]⟩ : LinkAnswers).polls ∧ true ∉ (⟨[], [false]⟩ : LinkAnswers).polls) ∧
    (4 ≤ (⟨List.replicate 4 true, []⟩ : ReadAnswers).bytes.length ∧ (∀ b ∈ List.replicate 4 true, b = true) ∧
      ¬ 4 ≤ (⟨[false], []⟩ : ReadAnswers).bytes.length) ∧
    (first.step = .writing 0 ∧ 32 * (0 + 1) < (imageOf { room with store := some first }).length ∧
      first.image = (imageOf { room with store := some first }).take (32 * (0 + 1))) ∧
    (imageOf { room with store := some { job with step := .writing 99 } }).length ≤ 32 * (99 + 1) ∧
    { job with step := .marking }.step = .marking ∧ [] ≠ [0, 0] ++ job.image.drop 2 ∧ State.reset.mode = .loading := by
  have h : ∀ j, imageOf { room with store := some j } = imageOf room := fun _ => rfl
  refine ⟨by decide, rfl, rfl, by decide, by decide, by decide, ⟨rfl, ?_, ?_⟩, ?_, rfl, by simp, rfl⟩
  · rw [h]; decide
  · rw [h]
  · rw [h]; decide

theorem witness_TheImageLoadsBackWhole : room.tables.inRange ∧ State.reset.mode = .loading := by
  have hr : ∀ a : Addr, (room.tables.roster[a]).all (fun e => decide (e.ratings.clamp = e.ratings)) = true := by decide
  have hw : ∀ n : Fin Config.programs, (room.tables.wash[n]).all (fun p => decide (p.clamp = p ∧ profileRule p = true)) = true := by
    decide
  have hd : ∀ n : Fin Config.programs, (room.tables.dry[n]).all (fun p => decide (p.clamp = p)) = true := by decide
  refine ⟨⟨by decide, by decide, fun a e h => ?_, fun n p h => ?_, fun n p h => ?_⟩, rfl⟩
  · simpa [h] using hr a
  · simpa [h] using hw n
  · simpa [h] using hd n

theorem witness_PowerOnStartsThePart :
    let d : DebitCopy := ⟨.start, 60333, 0, 280, .a, ⟨7, 900⟩, ⟨8, 620⟩⟩
    let debits (s : State) : List DebitCopy := s.doubts.map (·.debit) ++ s.debitA.toList ++ s.debitB.toList
    let crediting : RefundEntry := ⟨0, 81220, 300, .ready, true, some (⟨7, 1000⟩, ⟨8, 1300⟩), 0⟩
    let s := runningWasher washing
    { room with retentionValid := false }.retentionValid = false ∧ busy.retentionValid = true ∧ room.retentionValid = true ∧
    debits room = [] ∧ (∀ a, (room.machine a).cycle = none) ∧ debits { room with debitB := some d } = [d] ∧
    debits { room with doubts := [⟨d, 120⟩] } = [d] ∧
    (∃ e ∈ { room with refunds := [crediting] }.refunds, e.inProgress = true ∧ e.state ≠ .inDoubt) ∧
    ((runningWasher { washing with refund := some 182 }).machine 0).cycle = some { washing with refund := some 182 } ∧
    { washing with refund := some 182 }.refund.isSome = true ∧
    (s.retentionValid = true ∧ debits s = [] ∧ (∀ b, b ≠ 0 → (s.machine b).cycle = none) ∧ (s.machine 0).cycle = some washing ∧
      washing.refund = none ∧ 0 < refundOf (s.classOf 0) washing .room ∧ refundOf (s.classOf 0) washing .room ≤ 50000 ∧
      (∀ e ∈ s.refunds, e.card ≠ washing.payer) ∧ s.refunds.length < 32) := by
  refine ⟨rfl, rfl, rfl, rfl, by decide, rfl, rfl, ⟨_, List.mem_cons_self, rfl, by decide⟩, by decide, by decide, by decide⟩

end Sys2Proof.Tests
end

/-! PROOF. The load budgets: what CLEAR_POOL_STATS does to the statistics of the two pools (R76). -/

namespace Sys2Proof.Machine

/-- Pools and receivers are apart, so the frame's end and the clearing may be taken in either order. -/
theorem clearStats_hunt (k : PoolId) (p : Port) (s : State) : clearStats k (hunt p s) = hunt p (clearStats k s) := by
  cases k <;> cases p <;> rfl

/-- Clearing one pool and then the other writes the statistics of both and no other field. -/
theorem clearStats_both (s : State) : clearStats .water (clearStats .electric s) = { s with
    electric := { s.electric with stats := .zero }, water := { s.water with stats := .zero } } := rfl

/-- The decision of CLEAR_POOL_STATS on a state whose frame has just ended, with that end moved behind the clearing. -/
theorem decideClearStats_hunt (p : Port) (s : State) :
    decideClearStats (hunt p s) = done [] (hunt p (clearStats .water (clearStats .electric s))) := by
  rw [decideClearStats, clearStats_hunt, clearStats_hunt]

/-- Settles O39: the Building port holds the right (8.3), so a port that listens brings the request to its owner, whose
clearing leaves the ports to the reply alone. -/
theorem clearPoolStatsZeroesTheStatistics : Obligations.ClearPoolStatsZeroesTheStatistics := by
  intro s hs
  rw [exec_request (r := .clearPoolStats) (payload := []) (p := .building) rfl rfl, takeRequest_admitted hs rfl rfl]
  simp only [ownerDecision, decideClearStats_hunt, done, pushReply_hunt, clearStats_both]
  rfl

end Sys2Proof.Machine

/-! PROOF. The pay stations: what a BALANCE request shows at each state of its record (R98). -/

namespace Sys2Proof.Machine

/-- Of two records written at one station the second stands. -/
@[simp] theorem setStation_setStation_self (i : StationId) (x y : Station) (s : State) :
    (s.setStation i x).setStation i y = s.setStation i y := by
  cases i <;> rfl

@[simp] theorem clearPanel_station (i : StationId) (s : State) :
    (clearPanel i s).station i = { s.station i with gathered := [] } :=
  station_setStation_self s i _

@[simp] theorem clearPanel_mode (i : StationId) (s : State) : (clearPanel i s).mode = s.mode :=
  setStation_mode s i _

/-- The amount held for a card is read in the refund table, which the end of a panel message leaves alone. -/
@[simp] theorem heldReady_clearPanel (card : Nat) (i : StationId) (s : State) :
    heldReady card (clearPanel i s) = heldReady card s := by
  simp only [heldReady, State.refund, clearPanel, modifyStation, setStation_refunds]

/-- The end of a panel message and the answer on the display line write one record. -/
theorem display_clearPanel (i : StationId) (m : Message) (s : State) : display i m (clearPanel i s) =
    s.setStation i { s.station i with gathered := [], display := (s.station i).display ++ [m] } := by
  rw [display, modifyStation, clearPanel_station, clearPanel, modifyStation, setStation_setStation_self]

/-- R84: in the OPERATING mode a request is decided as it stands. -/
theorem inService_operating {s : State} (hs : s.mode = .operating) (i : StationId) (small : Nat) (decision : State → State) :
    inService i small decision s = decision s := by
  simp only [inService, hs]

/-- R92: a record without an accepted card shows NO_CARD. -/
theorem notReady_of_noCard {x : Station} (h : x.state = .empty ∨ x.state = .reading) : notReady x = msgNoCard := by
  rcases h with h | h <;> simp [notReady, busyStation, h]

/-- R92: a record with a write or a verification in hand shows BUSY. -/
theorem notReady_of_busy {x : Station} (h : x.state = .crediting ∨ x.state = .debiting ∨ x.state = .verifying) :
    notReady x = msgBusy := by
  rcases h with h | h | h <;> simp [notReady, busyStation, h]

/-- The message that answers a BALANCE request (R98). -/
def balanceAnswer (i : StationId) (s : State) : Message :=
  let x := s.station i
  if x.state = .cardReady then
    { plainMessage msgBalance with first := x.pair.value, second := heldReady (x.card.getD 0) s }
  else plainMessage (notReady x)

theorem decideBalance_eq_display (i : StationId) (s : State) : decideBalance i s = display i (balanceAnswer i s) s := by
  by_cases hx : (s.station i).state = .cardReady
  · simp only [decideBalance, balanceAnswer, if_pos hx]
  · simp only [decideBalance, balanceAnswer, if_neg hx]

/-- The bytes gathered have no part in the answer. -/
theorem balanceAnswer_clearPanel (i : StationId) (s : State) : balanceAnswer i (clearPanel i s) = balanceAnswer i s := by
  simp only [balanceAnswer, clearPanel_station, heldReady_clearPanel]
  rfl

/-- R98: a BALANCE request ends the message gathered and shows its answer, and that is its whole effect. -/
theorem exec_balance_operating {s : State} (hs : s.mode = .operating) (i : StationId) : exec (.balance i) s =
    .next (s.setStation i { s.station i with
      gathered := [], display := (s.station i).display ++ [balanceAnswer i s] }) := by
  have htaken : exec (.balance i) s = .next (takeBalance i (clearPanel i s)) := rfl
  rw [htaken, takeBalance, inService_operating ((clearPanel_mode i s).trans hs), decideBalance_eq_display,
    balanceAnswer_clearPanel, display_clearPanel]

theorem balanceAnswer_of_cardReady {i : StationId} {s : State} {card : Nat} (hx : (s.station i).state = .cardReady)
    (hc : (s.station i).card = some card) : balanceAnswer i s =
      { plainMessage msgBalance with first := (s.station i).pair.value, second := heldReady card s } := by
  simp only [balanceAnswer, hx, hc, if_true, Option.getD_some]

theorem balanceAnswer_of_not_cardReady {i : StationId} {s : State} (hx : (s.station i).state ≠ .cardReady) :
    balanceAnswer i s = plainMessage (notReady (s.station i)) :=
  if_neg hx

/-- Settles O40: the request's whole effect is to show its answer, and the answer is read off the state of the record. -/
theorem balanceShowsTheCard : Obligations.BalanceShowsTheCard := by
  intro i s hs
  rw [exec_balance_operating hs]
  refine ⟨fun card hx hc => ?ready, fun hx => ?noCard, fun hx => ?busy⟩
  case ready =>
    rw [balanceAnswer_of_cardReady hx hc]
    rfl
  case noCard =>
    have hne : (s.station i).state ≠ .cardReady := by rcases hx with h | h <;> simp [h]
    rw [balanceAnswer_of_not_cardReady hne, notReady_of_noCard hx]
    rfl
  case busy =>
    have hne : (s.station i).state ≠ .cardReady := by rcases hx with h | h | h <;> simp [h]
    rw [balanceAnswer_of_not_cardReady hne, notReady_of_busy hx]
    rfl

end Sys2Proof.Machine

/-! PROOF. Charges, refunds and audit totals: what READ_AUDIT answers (R124). -/

namespace Sys2Proof.Machine

/-- R160: outside the LOADING mode a request that is served in the CONFIG_FAULT mode passes every test of the Control Port
Unit, given its right and its length. -/
theorem admission_served {r : Req} {p : Port} {payload : List Byte} {s : State} (hm : s.mode ≠ .loading)
    (hright : reqRight p r = true) (hlength : reqLength payload r = true) (hserved : reqServed r = true) :
    admission r p payload s = none := by
  simp [admission, hm, hright, hlength, hserved]

/-- A request served in the CONFIG_FAULT mode that finds room for its reply, and whose owner answers it OK with some bytes
and leaves the state alone, has that answer for its whole effect. -/
theorem takeRequest_served_done {r : Req} {p : Port} {payload bytes : List Byte} {s : State} (hm : s.mode ≠ .loading)
    (hroom : (s.port p).replies.length < 4) (hright : reqRight p r = true) (hlength : reqLength payload r = true)
    (hserved : reqServed r = true) (howner : ownerDecision r p payload (hunt p s) = done bytes (hunt p s)) :
    takeRequest r p payload s = s.answering p (replyTo (reqCode r) .ok bytes) 0 := by
  have hmode : (hunt p s).mode ≠ .loading := by rwa [hunt, setPort_mode]
  rw [takeRequest_decided hroom, decideRequest, admission_served hmode hright hlength hserved]
  simp only [howner, done, pushReply_hunt]
  rfl

/-- The model's sum over the refund table is the sum of the entries' amounts. -/
theorem refundSum_eq_sum (es : List RefundEntry) : refundSum es = (es.map (·.amount)).sum := by
  induction es with
  | nil => rfl
  | cons e es ih => rw [refundSum, ih, List.map_cons, List.sum_cons]

/-- R124: the totals and the refund table are read past the end of the frame, which leaves them as they are. -/
theorem decideReadAudit_hunt (p : Port) (s : State) : decideReadAudit (hunt p s) =
    done (auditBytes s.audit ++ be1 s.refunds.length ++ be4 (s.refunds.map (·.amount)).sum) (hunt p s) := by
  simp only [decideReadAudit, refundSum_eq_sum, hunt, setPort_audit, setPort_refunds]

/-- Settles O16: the Operator port holds the right and the CONFIG_FAULT mode serves the request (8.3), so in both modes its
owner decides it, and the owner only reads. -/
theorem readAuditGivesTheTotals : Obligations.ReadAuditGivesTheTotals := by
  intro s hm hroom
  rw [exec_request (r := .readAudit) (payload := []) (p := .operator) rfl rfl,
    takeRequest_served_done (r := .readAudit) hm hroom rfl rfl rfl (decideReadAudit_hunt .operator s)]
  rfl

end Sys2Proof.Machine

/-! PROOF. Control ports: the notice line, SET_NOTICE_MASK, READ_EVENTS and ACK_EVENTS (R163, R164). -/

namespace Sys2Proof.Machine

/-! ## Flag sets and their bytes -/

/-- R164: the line is driven while a flag is both set and named in the mask. -/
theorem lineDriven_iff (x : PortState) :
    lineDriven x = true ↔ ∃ n < 7, x.flags.getLsbD n = true ∧ x.mask.getLsbD n = true := by
  have hzero : x.flags &&& x.mask = 0 ↔ ∀ n < 7, (x.flags &&& x.mask).getLsbD n = false := by
    refine ⟨fun h n _ => by simp [h], fun h => BitVec.eq_of_getLsbD_eq fun n hn => ?_⟩
    rw [h n hn, BitVec.ofNat_eq_ofNat, BitVec.getLsbD_zero]
  rw [lineDriven, bne_iff_ne, ne_eq, hzero]
  simp only [BitVec.getLsbD_and, not_forall, Bool.not_eq_false, Bool.and_eq_true, exists_prop]

/-- A byte with bit 7 at 0 is the byte of the set that it names. -/
theorem byteOfFlags_flagsOfByte {b : Byte} (h : b.msb = false) : byteOfFlags (flagsOfByte b) = b := by
  have hb : b.toNat < 2 ^ 7 := by simpa [BitVec.msb_eq_decide] using h
  apply BitVec.eq_of_toNat_eq
  simp only [byteOfFlags, flagsOfByte, BitVec.truncate_eq_setWidth, BitVec.toNat_setWidth]
  omega

/-! ## The answer on a port whose own record is rewritten -/

@[simp] theorem setPort_setPort_self (s : State) (p : Port) (x y : PortState) :
    (s.setPort p x).setPort p y = s.setPort p y := by cases p <;> rfl

@[simp] theorem port_hunt_self (p : Port) (s : State) :
    (hunt p s).port p = { s.port p with receiver := .hunting } := port_setPort_self s p _

/-- After a decision that rewrites the record of its own port and nothing else, the reply joins the rewritten record. -/
theorem pushReply_setPort_hunt (p : Port) (r : PortReply) (x : PortState) (s : State) :
    pushReply p r ((hunt p s).setPort p x) = s.setPort p { x with replies := x.replies ++ [r] } := by
  simp only [pushReply, hunt, setPort_setPort_self, port_setPort_self]

/-- A request served in the CONFIG_FAULT mode that finds room for its reply, with its right and its length, is answered with
its owner's decision in every mode but LOADING. -/
theorem takeRequest_served {r : Req} {p : Port} {payload : List Byte} {s : State} (hm : s.mode ≠ .loading)
    (hroom : (s.port p).replies.length < 4) (hright : reqRight p r = true) (hlength : reqLength payload r = true)
    (hserved : reqServed r = true) :
    takeRequest r p payload s = pushReply p ⟨byte (reqCode r), (ownerDecision r p payload (hunt p s)).status,
      (ownerDecision r p payload (hunt p s)).payload⟩ (ownerDecision r p payload (hunt p s)).state := by
  have hmode : (hunt p s).mode ≠ .loading := by rwa [hunt, setPort_mode]
  rw [takeRequest_decided hroom, decideRequest, admission_served hmode hright hlength hserved]

/-- Such a request that its owner refuses has the refusal for its whole effect. -/
theorem takeRequest_served_refuse {r : Req} {p : Port} {payload : List Byte} {s : State} {status : Status}
    (hm : s.mode ≠ .loading) (hroom : (s.port p).replies.length < 4) (hright : reqRight p r = true)
    (hlength : reqLength payload r = true) (hserved : reqServed r = true)
    (howner : ownerDecision r p payload (hunt p s) = refuse status (hunt p s)) :
    takeRequest r p payload s = s.answering p (replyTo (reqCode r) status []) 0 := by
  rw [takeRequest_served hm hroom hright hlength hserved, howner]
  exact pushReply_hunt p _ s

/-- Such a request whose owner rewrites the record of the port and answers OK has these two for its whole effect. -/
theorem takeRequest_served_setPort {r : Req} {p : Port} {payload bytes : List Byte} {s : State} {x : PortState}
    (hm : s.mode ≠ .loading) (hroom : (s.port p).replies.length < 4) (hright : reqRight p r = true)
    (hlength : reqLength payload r = true) (hserved : reqServed r = true)
    (howner : ownerDecision r p payload (hunt p s) = done bytes ((hunt p s).setPort p x)) :
    takeRequest r p payload s =
      s.setPort p { x with replies := x.replies ++ [replyTo (reqCode r) .ok bytes] } := by
  rw [takeRequest_served hm hroom hright hlength hserved, howner]
  exact pushReply_setPort_hunt p _ x s

/-! ## What the three requests decide -/

/-- R163: the flags and the mask are read past the end of the frame, which leaves them as they are. -/
theorem decideReadEvents_hunt (p : Port) (s : State) : decideReadEvents p (hunt p s) =
    done [byteOfFlags (s.port p).flags, byteOfFlags (s.port p).mask] (hunt p s) := by
  rw [decideReadEvents, port_hunt_self]

theorem decideAck_of_msb {b : Byte} (h : b.msb = true) (p : Port) (s : State) :
    decideAck p [b] s = refuse .badArg s := if_pos h

theorem decideMask_of_msb {b : Byte} (h : b.msb = true) (p : Port) (s : State) :
    decideMask p [b] s = refuse .badArg s := if_pos h

/-- R163: the named flags are cleared, and those left are answered. -/
theorem decideAck_hunt {b : Byte} (h : b.msb = false) (p : Port) (s : State) : decideAck p [b] (hunt p s) =
    done [byteOfFlags ((s.port p).flags &&& ~~~(flagsOfByte b))] ((hunt p s).setPort p { s.port p with
      receiver := .hunting, flags := (s.port p).flags &&& ~~~(flagsOfByte b) }) := by
  simp [decideAck, h]

/-- R164: the set becomes the mask and is answered as it came. -/
theorem decideMask_hunt {b : Byte} (h : b.msb = false) (p : Port) (s : State) : decideMask p [b] (hunt p s) =
    done [b] ((hunt p s).setPort p { s.port p with receiver := .hunting, mask := flagsOfByte b }) := by
  simp [decideMask, h, byteOfFlags_flagsOfByte h]

/-- Settles O17: every port holds the rights and the CONFIG_FAULT mode serves the requests (8.3), so in both modes the Control
Port Unit decides them itself, on the record of that port alone. -/
theorem eventsAreReadAcknowledgedAndMasked : Obligations.EventsAreReadAcknowledgedAndMasked := by
  intro p b s hm hroom x hunted
  refine ⟨lineDriven_iff x, ?read, fun hb => ⟨?ackRefused, ?maskRefused⟩, fun hb => ⟨?ack, ?mask⟩⟩
  case read =>
    rw [exec_request rfl rfl,
      takeRequest_served_done (r := .readEvents) hm hroom rfl rfl rfl (decideReadEvents_hunt p s)]
    rfl
  case ackRefused =>
    rw [exec_request rfl rfl,
      takeRequest_served_refuse (r := .ackEvents) hm hroom rfl rfl rfl (decideAck_of_msb hb p _)]
    rfl
  case maskRefused =>
    rw [exec_request rfl rfl,
      takeRequest_served_refuse (r := .setNoticeMask) hm hroom rfl rfl rfl (decideMask_of_msb hb p _)]
    rfl
  case ack =>
    rw [exec_request rfl rfl,
      takeRequest_served_setPort (r := .ackEvents) hm hroom rfl rfl rfl (decideAck_hunt hb p s)]
    rfl
  case mask =>
    rw [exec_request rfl rfl,
      takeRequest_served_setPort (r := .setNoticeMask) hm hroom rfl rfl rfl (decideMask_hunt hb p s)]
    rfl

end Sys2Proof.Machine

/-! PROOF. Steps, reset, and what each command can touch: the queue of commands (log entry 8), the values of a power-on
(R177), the frame of every command, and the ports it leaves alone. -/

namespace Sys2Proof.Machine

/-! ## Steps -/

/-- Settles O1: both clauses are the two branches of `step`. -/
theorem stepTakesTheFrontCommand : Obligations.StepTakesTheFrontCommand :=
  ⟨fun c rest s h => by simp only [step, h], fun s h => by simp only [step, h]⟩

/-- What a law of the state needs to be kept by every step: the queue of commands has no part in it, and every command
keeps it. -/
theorem step_keeps {J : State → Prop} (hpending : ∀ s q, J s → J { s with pending := q })
    (hexec : ∀ c s t, J s → exec c s = .next t → J t) {s t : State} (hs : J s) (h : step s = .next t) : J t := by
  unfold step at h
  split at h
  · cases h
    exact hs
  · exact hexec _ _ _ (hpending s _ hs) h

/-! ## Reset -/

@[simp] theorem reset_machine (a : Addr) : State.reset.machine a = .initial := by
  simp [State.machine, State.reset]

/-- Settles O2: each field of `State.reset` is written out in its definition. -/
theorem resetLeavesThePowerOnValues : Obligations.ResetLeavesThePowerOnValues := by
  refine ⟨rfl, rfl, rfl, rfl, rfl, rfl, rfl, fun p => by cases p <;> rfl, fun p => by cases p <;> rfl, fun a => ?machine,
    fun i => by cases i <;> exact ⟨rfl, rfl⟩, fun k => by cases k <;> exact ⟨rfl, rfl, rfl, rfl⟩, rfl, rfl, rfl, rfl, rfl,
    fun c => by cases c <;> rfl⟩
  rw [reset_machine]
  exact ⟨rfl, rfl, rfl, rfl, rfl, rfl, rfl, rfl⟩

/-- Settles O3: right after power-on every table is empty, no machine is configured or present, and no station holds a
card, so each law holds of nothing. -/
theorem resetIsLawful : Obligations.ResetIsLawful := by
  have hcards : ∀ card, holdsCard card State.reset.stationA = false ∧ holdsCard card State.reset.stationB = false :=
    fun _ => ⟨rfl, rfl⟩
  refine ⟨rfl, rfl, rfl, rfl, rfl, rfl, ⟨by decide, rfl, fun card => ?cards⟩, fun a => ?bus, ⟨rfl, rfl, List.nodup_nil⟩,
    fun a => ?room, fun c e he => ?entries, fun a => ?holds⟩
  case cards => simp [hcards card]
  case bus => rw [reset_machine]; rfl
  case room =>
    rw [reset_machine]
    exact ⟨fun _ => rfl, fun _ => rfl, by simp [MachineRecord.initial]⟩
  case entries => cases c <;> exact absurd he List.not_mem_nil
  case holds =>
    rw [reset_machine]
    exact ⟨by simp [MachineRecord.initial], by simp [MachineRecord.initial]⟩

/-! ## What each command can touch -/

theorem touched_takeFrameError (p : Port) (s : State) : Touches [.ports] s (takeFrameError p s) := by
  unfold takeFrameError
  dsimp only
  split <;> simp

theorem requestFrame_subset_anyRequest (r : Req) : requestFrame r ⊆ anyRequest := by
  cases r <;> decide

theorem touched_takeFrame (p : Port) (code : Byte) (payload : List Byte) (s : State) :
    Touches anyRequest s (takeFrame p code payload s) := by
  unfold takeFrame
  split
  · exact (touched_takeRequest _ _ _ _).mono (requestFrame_subset_anyRequest _)
  · dsimp only
    split <;> simp [anyRequest]

theorem touched_completeFrame (p : Port) (length : Nat) (got : List Byte) (s : State) :
    Touches anyRequest s (completeFrame p length got s) := by
  unfold completeFrame
  split
  · simp [discardFrame, anyRequest]
  · split
    · exact touched_takeFrame _ _ _ _
    · exact (touched_takeFrameError _ _).mono (by decide)

theorem touched_portByte (p : Port) (b : Byte) (s : State) : Touches anyRequest s (portByte p b s) := by
  have herror := (touched_takeFrameError p s).mono (qs := anyRequest) (by decide)
  unfold portByte
  dsimp only
  split
  case h_1 => split <;> simp [anyRequest]
  case h_2 =>
    split
    · simp [anyRequest]
    · exact herror
  case h_3 =>
    split
    · simp [anyRequest]
    · exact touched_completeFrame _ _ _ _

theorem touched_beginSlot (s : State) : Touches [.bus] s (beginSlot s) := by
  unfold beginSlot
  split <;> intro p hp <;> cases p <;> simp_all [Same, samePort]

theorem touched_tick (s : State) : Touches [.clock, .machines, .pools, .bus] s (tick s) := by
  unfold tick beginRound
  dsimp only
  split <;> intro p hp <;> cases p <;> simp_all [Same, samePort]

theorem touched_applyImage (rs : List ImageRecord) (s : State) :
    Touches [.loader, .machines, .pools, .bus, .stations] s (applyImage rs s) := by
  unfold applyImage
  dsimp only
  refine (touches_beginReading (by decide) .b).mpr ((touches_beginReading (by decide) .a).mpr ?_)
  intro p hp
  cases p <;> simp_all [Same, samePort]

theorem touched_endAutoload (image : Option (List Byte)) (s : State) :
    Touches [.loader, .machines, .pools, .bus, .stations, .flags] s (endAutoload image s) := by
  have hfault : ∀ reason, Touches [.loader, .machines, .pools, .bus, .stations, .flags] s (enterConfigFault reason s) := by
    intro reason p hp
    cases p <;> simp_all [Same, samePort, enterConfigFault]
  have himage : ∀ rs, Touches [.loader, .machines, .pools, .bus, .stations, .flags] s (applyImage rs s) :=
    fun rs => (touched_applyImage rs s).mono (by decide)
  unfold endAutoload
  split
  · exact Touches.refl _ _
  · rw [touches_raise (by decide)]
    split
    · exact hfault _
    · split
      · exact hfault _
      · exact himage _

theorem touched_storeAccess (access : StoreAccess) (s : State) : Touches [.loader, .flags] s (storeAccess access s) := by
  have hend : ∀ result, Touches [.loader, .flags] s (endStore result s) := by
    intro result
    rw [endStore, touches_raise (by decide)]
    intro p hp
    cases p <;> simp_all [Same, samePort]
  have hdone : Touches [.loader, .flags] s (storeDone s) := by
    unfold storeDone
    dsimp only
    split
    · intro p hp
      refine (hend .ok p hp).trans ?_
      cases p <;> simp_all [Same, samePort]
    · exact hend _
  unfold storeAccess pageWritten imageReadBack
  repeat' split
  all_goals simp [hend, hdone]

/-- Settles O11: a request touches what its frame names (`touched_takeRequest`), and every other command is one shared
operation, whose `touched_` lemma names the parts. -/
theorem eachCommandKeepsItsFrame : Obligations.EachCommandKeepsItsFrame := by
  intro c s t h
  cases hr : requestOf c with
  | some rp =>
    obtain ⟨p, hp⟩ : ∃ p, portOf c = some p := by
      cases c <;> simp [requestOf] at hr <;> exact ⟨_, rfl⟩
    have hframe : frameOf c = requestFrame rp.1 := by cases c <;> simp [requestOf] at hr <;> subst hr <;> rfl
    rw [exec_request (r := rp.1) (payload := rp.2) hr hp] at h
    cases h
    rw [hframe]
    exact touched_takeRequest _ _ _ _
  | none =>
    cases c <;> simp only [requestOf, reduceCtorEq] at hr
    case powerOn => cases h; exact fun p hp => absurd (by cases p <;> simp [frameOf]) hp
    case autoloadEnd => cases h; exact touched_endAutoload _ _
    case roomSecondTick => cases h; exact touched_tick _
    case pollSlot => cases h; exact touched_beginSlot _
    case replyValid => cases h; exact (touched_takeReply _ _).mono (by simp [frameOf, workParts])
    case replyWindowMissed => cases h; exact (touched_windowMissed _).mono (by simp [frameOf, workParts])
    case discoveryReply => cases h; exact (touched_takeReply _ _).mono (by simp [frameOf, workParts])
    case joiningReply => cases h; exact (touched_takeReply _ _).mono (by simp [frameOf, workParts])
    case orphanDeadline => cases h; exact touched_atAddress (fun a t => (touched_orphanTimeout _ a t).mono (by simp [frameOf])) _ _
    case phaseLimitReached => cases h; exact touched_atAddress (fun a t => (touched_limitTimeout a t).mono (by simp [frameOf])) _ _
    case stopDeadline => cases h; exact touched_atAddress (fun a t => (touched_stopTimeout a t).mono (by simp [frameOf, workParts])) _ _
    case remainingPaidSecondsZero => cases h; exact touched_atAddress touched_postCool _ _
    case pauseDeadline => cases h; exact touched_atAddress (fun a t => (touched_pauseTimeout a t).mono (by simp [frameOf])) _ _
    case suspendDeadline => cases h; exact touched_atAddress (fun a t => touched_of (by simp [frameOf])) _ _
    case grantWaitExpiry => cases h; exact touched_atAddress (fun a t => touched_of (by simp [frameOf])) _ _
    case pay => cases h; exact touched_of (by simp [frameOf])
    case addTime => cases h; exact touched_of (by simp [frameOf])
    case queue => cases h; exact touched_of (by simp [frameOf])
    case balance => cases h; exact touched_of (by simp [frameOf])
    case requestError => cases h; exact touched_of (by simp [frameOf])
    case requestGapTimeout => cases h; exact touched_of (by simp [frameOf])
    case cardInserted => cases h; exact touched_insertCard _ _
    case cardRemoved => cases h; exact (touched_removeCard _ _).mono (by simp [frameOf])
    case insertionReadFail => cases h; exact touched_readFails _ _
    case insertionReadDone => cases h; exact (touched_readEnds _ _ _).mono (by simp [frameOf, debitParts])
    case writeBegun => cases h; exact touched_writeBegins _ _
    case cardWriteDone => cases h; exact (touched_writeEnds _ _ _).mono (by simp [frameOf])
    case verifyReadDone => cases h; exact (touched_verifyEnds _ _ _).mono (by simp [frameOf, debitParts])
    case doubtDeadline => cases h; exact (touched_doubtTimeout _ _).mono (by simp [frameOf])
    case holdDeadline => cases h; exact touched_atAddress (fun a t => (touched_holdTimeout a t).mono (by simp [frameOf])) _ _
    case servicePhaseDeadline => cases h; exact (touched_servicePhaseTimeout _).mono (by simp [frameOf])
    case windDownDeadline => cases h; exact touched_atAddress (fun a t => (touched_windDownTimeout a t).mono (by simp [frameOf])) _ _
    case subtestReportDeadline => cases h; exact touched_atAddress (fun a t => (touched_reportTimeout a t).mono (by simp [frameOf])) _ _
    case frameError => cases h; exact touched_takeFrameError _ _
    case portBreak => cases h; exact touched_of (by simp [frameOf])
    case frameDiscardedQueueFull => cases h; exact touched_of (by simp [frameOf, discardFrame])
    case unknownCode => cases h; exact touched_takeFrame _ _ _ _
    case replySent => cases h; exact touched_of (by simp [frameOf])
    case storeAccessDone => cases h; exact touched_storeAccess _ _
    case receiveLineByte => cases h; exact touched_portByte _ _ _
    case requestLineByte => cases h; exact (touched_panelByte _ _ _).mono (by simp [frameOf])

end Sys2Proof.Machine

/-! PROOF. Control ports: what a decision leaves of the ports, the tests of a request, and the receiver (R157 to R161). -/

namespace Sys2Proof.Machine

/-! ## What a decision leaves of the ports -/

theorem samePort.rfl' (x : PortState) : samePort x x := ⟨rfl, rfl, rfl⟩

theorem samePort.trans' {x y z : PortState} (h : samePort x y) (k : samePort y z) : samePort x z :=
  ⟨h.1.trans k.1, h.2.1.trans k.2.1, h.2.2.trans k.2.2⟩

/-- What does not touch the ports leaves each of them but for its flags. -/
theorem Touches.port {ps : List Part} {s t : State} (h : Touches ps s t) (hp : Part.ports ∉ ps) (q : Port) :
    samePort (t.port q) (s.port q) := by
  obtain ⟨hb, ho, hs⟩ := h .ports hp
  cases q
  · exact hb
  · exact ho
  · exact hs

/-- All requests but two are none of the Control Port Unit's own business: their owners touch no port. -/
theorem touched_ownerDecision_noPorts {r : Req} (hack : r ≠ .ackEvents) (hmask : r ≠ .setNoticeMask) (p : Port)
    (payload : List Byte) (s : State) : Touches (.flags :: requestParts r) s (ownerDecision r p payload s).state := by
  cases r
  case ackEvents => exact absurd rfl hack
  case setNoticeMask => exact absurd rfl hmask
  case readMachine => exact (touched_decideReadMachine _ _).mono (by simp)
  case readRoom => exact (touched_decideReadRoom _).mono (by simp)
  case readEvents => exact (touched_decideReadEvents _ _).mono (by simp)
  case setFeederLimit => exact (touched_decideLimit _ _ _).mono (by simp [requestParts])
  case setWaterLimit => exact (touched_decideLimit _ _ _).mono (by simp [requestParts])
  case setBand => exact (touched_decideBand _ _).mono (by simp [requestParts])
  case haltRoom => exact (touched_decideHalt _).mono (by simp [requestParts])
  case resumeRoom => exact (touched_decideResume _).mono (by simp [requestParts])
  case readPool => exact (touched_decideReadPool _ _).mono (by simp)
  case clearPoolStats => exact (touched_decideClearStats _).mono (by simp [requestParts])
  case setRoomParam => exact (touched_decideRoomParam _ _).mono (by simp [requestParts])
  case setWashProfile => exact (touched_decideWashProfile _ _).mono (by simp [requestParts])
  case setDryProfile => exact (touched_decideDryProfile _ _).mono (by simp [requestParts])
  case setPrice => exact (touched_decidePrice _ _).mono (by simp [requestParts])
  case setMachine => exact (touched_decideMachine _ _).mono (by simp [requestParts])
  case setReserve => exact (touched_decideReserve _ _).mono (by simp [requestParts])
  case storeConfig => exact (touched_decideStore _).mono (by simp [requestParts])
  case lock => exact (touched_decideLock _ _).mono (by simp [requestParts])
  case unlock => exact (touched_decideUnlock _ _).mono (by simp [requestParts])
  case clearStrikes => exact (touched_decideClearStrikes _ _).mono (by simp [requestParts])
  case grantPermit => exact (touched_decidePermit _ _).mono (by simp [requestParts])
  case stopMachine => exact (touched_decideStop _ _).mono (by simp [requestParts])
  case selfTest => exact (touched_decideTest _ _ _).mono (by simp [requestParts])
  case readFaults => exact (touched_decideReadFaults _ _).mono (by simp)
  case clearFaults => exact (touched_decideClearFaults _ _).mono (by simp [requestParts])
  case readAudit => exact (touched_decideReadAudit _).mono (by simp)
  case clearAudit => exact (touched_decideClearAudit _).mono (by simp [requestParts])
  case readRefunds => exact (touched_decideReadRefunds _ _).mono (by simp)
  case addRefund => exact (touched_decideAddRefund _ _).mono (by simp [requestParts])
  case cancelRefund => exact (touched_decideCancelRefund _ _).mono (by simp [requestParts])
  case confirmRefund => exact (touched_decideConfirmRefund _ _).mono (by simp [requestParts])
  case readDoubts => exact (touched_decideReadDoubts _).mono (by simp)
  case readQueue => exact (touched_decideReadQueue _ _).mono (by simp)
  case cancelClaim => exact (touched_decideCancelClaim _ _).mono (by simp [requestParts])
  case enterService => exact (touched_decideEnter _ _).mono (by simp [requestParts])
  case exitService => exact (touched_decideExit _).mono (by simp [requestParts])
  case servicePhase => exact (touched_decidePhase _ _).mono (by simp [requestParts])

/-- Whatever the owner decides, it leaves the other ports but for their flags, and of its own port the receiver and the
replies. -/
theorem ownerDecision_port (r : Req) (p q : Port) (payload : List Byte) (s : State) :
    ((ownerDecision r p payload s).state.port q).receiver = (s.port q).receiver ∧
    ((ownerDecision r p payload s).state.port q).replies = (s.port q).replies ∧
    (q ≠ p → samePort ((ownerDecision r p payload s).state.port q) (s.port q)) := by
  have hset : ∀ x : PortState, x.receiver = (s.port p).receiver → x.replies = (s.port p).replies →
      ((s.setPort p x).port q).receiver = (s.port q).receiver ∧ ((s.setPort p x).port q).replies = (s.port q).replies ∧
      (q ≠ p → samePort ((s.setPort p x).port q) (s.port q)) := by
    intro x hrec hrep
    rw [port_setPort]
    split
    case isTrue h => subst h; exact ⟨hrec, hrep, fun hne => absurd rfl hne⟩
    case isFalse => exact ⟨rfl, rfl, fun _ => samePort.rfl' _⟩
  have hsame : ∀ t : State, samePort (t.port q) (s.port q) → (t.port q).receiver = (s.port q).receiver ∧
      (t.port q).replies = (s.port q).replies ∧ (q ≠ p → samePort (t.port q) (s.port q)) :=
    fun t h => ⟨h.1, h.2.1, fun _ => h⟩
  by_cases hack : r = .ackEvents
  · subst hack
    simp only [ownerDecision, decideAck]
    split
    · exact hsame s (samePort.rfl' _)
    · exact hset _ rfl rfl
  by_cases hmask : r = .setNoticeMask
  · subst hmask
    simp only [ownerDecision, decideMask]
    split
    · exact hsame s (samePort.rfl' _)
    · exact hset _ rfl rfl
  exact hsame _ ((touched_ownerDecision_noPorts hack hmask p payload s).port (by cases r <;> simp [requestParts]) q)

theorem decideRequest_port (r : Req) (p q : Port) (payload : List Byte) (s : State) :
    ((decideRequest r p payload s).state.port q).receiver = (s.port q).receiver ∧
    ((decideRequest r p payload s).state.port q).replies = (s.port q).replies ∧
    (q ≠ p → samePort ((decideRequest r p payload s).state.port q) (s.port q)) := by
  unfold decideRequest
  split
  · exact ⟨rfl, rfl, fun _ => samePort.rfl' _⟩
  · exact ownerDecision_port r p q payload s

/-! ## What comes through one port -/

/-- What comes through a port leaves the others but for their flags, and never leaves more than 4 replies at its own. -/
structure ThroughPort (p : Port) (s t : State) : Prop where
  others : ∀ q, q ≠ p → samePort (t.port q) (s.port q)
  bounded : (s.port p).replies.length ≤ 4 → (t.port p).replies.length ≤ 4

theorem ThroughPort.refl (p : Port) (s : State) : ThroughPort p s s := ⟨fun _ _ => samePort.rfl' _, id⟩

/-- The record of the port may be rewritten, as long as it holds no more replies. -/
theorem throughPort_setPort {p : Port} {s : State} {x : PortState} (h : x.replies.length ≤ (s.port p).replies.length) :
    ThroughPort p s (s.setPort p x) where
  others q hq := by rw [port_setPort_other _ _ hq]; exact samePort.rfl' _
  bounded hs := by rw [port_setPort_self]; omega

theorem throughPort_hunt (p : Port) (s : State) : ThroughPort p s (hunt p s) := throughPort_setPort le_rfl

/-- A reply joins the queue of a port that is not full, after a decision that left the replies there alone. -/
theorem throughPort_pushReply {p : Port} {s t : State} (hfull : queueFull p s = false)
    (hothers : ∀ q, q ≠ p → samePort (t.port q) (s.port q)) (hreplies : (t.port p).replies = (s.port p).replies)
    (x : PortReply) : ThroughPort p s (pushReply p x t) where
  others q hq := by rw [pushReply, port_setPort_other _ _ hq]; exact hothers q hq
  bounded _ := by
    have : (s.port p).replies.length < 4 := by simpa [queueFull, Config.waitingReplies] using hfull
    simp only [pushReply, port_setPort_self, List.length_append, hreplies, List.length_singleton]
    omega

theorem ThroughPort.trans {p : Port} {s t u : State} (h : ThroughPort p s t) (k : ThroughPort p t u) : ThroughPort p s u :=
  ⟨fun q hq => (k.others q hq).trans' (h.others q hq), fun hs => k.bounded (h.bounded hs)⟩

theorem throughPort_takeRequest (r : Req) (p : Port) (payload : List Byte) (s : State) :
    ThroughPort p s (takeRequest r p payload s) := by
  refine (throughPort_hunt p s).trans ?_
  unfold takeRequest
  dsimp only
  split
  · exact ThroughPort.refl _ _
  case isFalse hfull =>
    exact throughPort_pushReply (by simpa using hfull) (fun q => (decideRequest_port r p q payload _).2.2)
      (decideRequest_port r p p payload _).2.1 _

theorem throughPort_takeFrame (p : Port) (code : Byte) (payload : List Byte) (s : State) :
    ThroughPort p s (takeFrame p code payload s) := by
  unfold takeFrame
  split
  · exact throughPort_takeRequest _ _ _ _
  · refine (throughPort_hunt p s).trans ?_
    dsimp only
    split
    · exact ThroughPort.refl _ _
    case isFalse hfull => exact throughPort_pushReply (by simpa using hfull) (fun _ _ => samePort.rfl' _) rfl _

theorem throughPort_takeFrameError (p : Port) (s : State) : ThroughPort p s (takeFrameError p s) := by
  refine (throughPort_hunt p s).trans ?_
  unfold takeFrameError
  dsimp only
  split
  · exact ThroughPort.refl _ _
  case isFalse hfull => exact throughPort_pushReply (by simpa using hfull) (fun _ _ => samePort.rfl' _) rfl _

theorem throughPort_portByte (p : Port) (b : Byte) (s : State) : ThroughPort p s (portByte p b s) := by
  unfold portByte completeFrame
  dsimp only
  split
  case h_1 =>
    split
    · exact throughPort_setPort le_rfl
    · exact ThroughPort.refl _ _
  case h_2 =>
    split
    · exact throughPort_setPort le_rfl
    · exact throughPort_takeFrameError _ _
  case h_3 =>
    split
    · exact throughPort_setPort le_rfl
    · split
      · exact throughPort_hunt _ _
      · split
        · exact throughPort_takeFrame _ _ _ _
        · exact throughPort_takeFrameError _ _

/-- Every command of a control port is one of the operations above, on that port. -/
theorem throughPort_exec {c : Instr} {p : Port} {s t : State} (hp : portOf c = some p) (h : exec c s = .next t) :
    ThroughPort p s t := by
  cases hr : requestOf c with
  | some rp =>
    rw [exec_request (r := rp.1) (payload := rp.2) hr hp] at h
    cases h
    exact throughPort_takeRequest _ _ _ _
  | none =>
    cases c <;> simp only [requestOf, reduceCtorEq] at hr <;> simp only [portOf, reduceCtorEq, Option.some.injEq] at hp <;>
      subst hp
    case frameError => cases h; exact throughPort_takeFrameError _ _
    case portBreak => cases h; exact throughPort_hunt _ _
    case frameDiscardedQueueFull => cases h; exact throughPort_hunt _ _
    case unknownCode => cases h; exact throughPort_takeFrame _ _ _ _
    case replySent => cases h; exact throughPort_setPort (by simp)
    case receiveLineByte => cases h; exact throughPort_portByte _ _ _

/-- Settles O12. -/
theorem otherPortsKeepTheirQueues : Obligations.OtherPortsKeepTheirQueues :=
  fun _ _ _ _ _ hp hq h => (throughPort_exec hp h).others _ hq

/-- The law of the reply queues, port by port. -/
theorem repliesLawful_iff (s : State) : s.repliesLawful = true ↔ ∀ p, (s.port p).replies.length ≤ 4 := by
  simp only [State.repliesLawful, Config.waitingReplies, Bool.and_eq_true, decide_eq_true_eq]
  exact ⟨fun ⟨⟨hb, ho⟩, hs⟩ p => by cases p; exacts [hb, ho, hs], fun h => ⟨⟨h .building, h .operator⟩, h .service⟩⟩

/-! ## Power-on -/

/-- What the closure of retained state can touch (R52, R103). -/
theorem touched_closeRetainedState (old s : State) :
    Touches [.machines, .flags, .claims, .faults, .money, .stations] s (closeRetainedState old s) := by
  have hcycle : ∀ u a, Touches [.machines, .flags, .claims, .faults, .money, .stations] u (closeRetained old u a) := by
    intro u a
    unfold closeRetained
    split
    · exact Touches.refl _ _
    · split
      · exact Touches.refl _ _
      · exact touched_placeRefund _ _ _ _
  have hdebit : ∀ u d, Touches [.machines, .flags, .claims, .faults, .money, .stations] u (closeDebit u d) :=
    fun u d => touched_of (by simp [closeDebit])
  exact (Touches.foldl hcycle _ s).trans (Touches.foldl hdebit _ _)

/-- Power-on leaves a state right after it, but for the retained values and their closure. -/
theorem touched_powerOn (held : Bool) (s : State) :
    Touches [.base, .room, .counter, .pools, .machines, .flags, .claims, .faults, .money, .stations] (freshStart s)
      (powerOn held s) := by
  unfold powerOn
  split
  · refine Touches.trans ?_ ((touched_closeRetainedState s _).mono (by decide))
    refine (touches_raiseIf (by decide) _ _).mpr fun p hp => ?_
    cases p <;> simp_all [Same, samePort]
  · exact Touches.refl _ _

theorem powerOn_replies (held : Bool) (s : State) (q : Port) : ((powerOn held s).port q).replies = [] := by
  rw [((touched_powerOn held s).port (by decide) q).2.1]
  cases q <;> rfl

/-! ## The reply queues -/

/-- Settles O7: a command of a port adds a reply only to its own queue and only where there is room, power-on empties the
queues, and no other command touches one. -/
theorem everyStepKeepsReplyQueuesLawful : Obligations.EveryStepKeepsReplyQueuesLawful := by
  refine fun s t => step_keeps (J := fun s => s.repliesLawful = true) (fun _ _ h => h) fun c s t hs h => ?_
  rw [repliesLawful_iff] at hs ⊢
  intro q
  cases hp : portOf c with
  | some p =>
    by_cases hq : q = p
    · subst hq
      exact (throughPort_exec hp h).bounded (hs q)
    · rw [((throughPort_exec hp h).others q hq).2.1]
      exact hs q
  | none =>
    by_cases hports : Part.ports ∈ frameOf c
    · cases c <;> simp only [portOf, reduceCtorEq] at hp <;> simp [frameOf, workParts, debitParts] at hports
      cases h
      rw [powerOn_replies]
      simp
    · rw [((eachCommandKeepsItsFrame c s t h).port hports q).2.1]
      exact hs q

/-! ## Requests in order -/

/-- Settles O13: a full queue discards the request, and `admission` makes the tests of R160 in their order. -/
theorem requestsAreAdmittedInOrder : Obligations.RequestsAreAdmittedInOrder := by
  intro c r payload p s hr hp refused
  rw [exec_request hr hp]
  refine ⟨fun hfull => by rw [takeRequest_full hfull, hunt], fun hroom => ?_⟩
  have hrefused : ∀ {st : Status}, admission r p payload (hunt p s) = some st →
      .next (takeRequest r p payload s) = refused st := by
    intro st h
    rw [takeRequest_decided hroom]
    simp only [decideRequest, h, refuse, pushReply_hunt]
    rfl
  have hmode : (hunt p s).mode = s.mode := by cases p <;> rfl
  refine ⟨fun hright => hrefused ?_, fun hright => ⟨fun hlength => hrefused ?_, fun hlength => ⟨fun hm hne => hrefused ?_,
    fun hm hserved => hrefused ?_⟩⟩⟩
  · simp [admission, hright]
  · simp [admission, hright, hlength]
  · simp [admission, hright, hlength, hmode, hm, hne]
  · simp [admission, hright, hlength, hmode, hm, hserved]

/-! ## The receiver -/

theorem takeFrameError_of_room {p : Port} {s : State} (h : (s.port p).replies.length < 4) :
    takeFrameError p s = s.answering p (replyTo 0 .frameError []) 0 := by
  have hfull : queueFull p (hunt p s) = false := by
    simpa [queueFull, Config.waitingReplies] using h
  simp only [takeFrameError, hfull, Bool.false_eq_true, if_false, pushReply_hunt]
  rfl

theorem takeFrameError_of_full {p : Port} {s : State} (h : 4 ≤ (s.port p).replies.length) :
    takeFrameError p s = hunt p s := by
  have hfull : queueFull p (hunt p s) = true := by simpa [queueFull, Config.waitingReplies] using h
  simp only [takeFrameError, hfull, if_true]

theorem takeFrame_of_unknown {p : Port} {code : Byte} {s : State} (hcode : reqOf code.toNat = none)
    (h : (s.port p).replies.length < 4) (payload : List Byte) :
    takeFrame p code payload s = s.answering p { code := code, status := .unknownCode, payload := [] } 0 := by
  have hfull : queueFull p (hunt p s) = false := by
    simpa [queueFull, Config.waitingReplies] using h
  simp only [takeFrame, hcode, hfull, Bool.false_eq_true, if_false, pushReply_hunt]

theorem portByte_hunting {p : Port} {s : State} (h : (s.port p).receiver = .hunting) (b : Byte) :
    portByte p b s = if b = 0xA5 then s.setPort p { s.port p with receiver := .counting } else s := by
  simp only [portByte, h]

theorem portByte_counting {p : Port} {s : State} (h : (s.port p).receiver = .counting) (b : Byte) :
    portByte p b s = if 2 ≤ b.toNat ∧ b.toNat ≤ 250 then s.setPort p { s.port p with receiver := .gathering b.toNat [] }
      else takeFrameError p s := by
  simp only [portByte, h]

theorem portByte_gathering {p : Port} {s : State} {n : Nat} {got : List Byte}
    (h : (s.port p).receiver = .gathering n got) (b : Byte) :
    portByte p b s = if got.length + 1 < n then s.setPort p { s.port p with receiver := .gathering n (got ++ [b]) }
      else completeFrame p n (got ++ [b]) s := by
  simp only [portByte, h]

theorem exec_receiveLineByte (p : Port) (b : Byte) (s : State) : exec (.receiveLineByte p b) s = .next (portByte p b s) := rfl

/-- Settles O18: each clause is a branch of the receiver (R157) or of the answer to a frame (R158 to R160). -/
theorem portsTakeBytesAndFrames : Obligations.PortsTakeBytesAndFrames := by
  intro p b s
  refine ⟨rfl, rfl, ?sent, fun hroom => ⟨?error, fun code payload hcode => ?unknown⟩, fun hfull => ?lost, fun h hb => ?idle,
    fun h hb => ?sync, fun h hlo hhi => ?length, fun h hb => ?badLength, fun n got h hn => ?gathered⟩
  case sent =>
    have : exec (.replySent p) s = .next (replySent p s) := rfl
    rw [this, replySent, List.drop_one]
  case error => exact congrArg _ (takeFrameError_of_room hroom)
  case unknown => exact congrArg _ (takeFrame_of_unknown hcode hroom payload)
  case lost => exact congrArg _ (takeFrameError_of_full hfull)
  case idle => rw [exec_receiveLineByte, portByte_hunting h, if_neg hb]
  case sync => rw [exec_receiveLineByte, portByte_hunting h, if_pos hb]
  case length => rw [exec_receiveLineByte, portByte_counting h, if_pos ⟨hlo, hhi⟩]
  case badLength =>
    have hbad : ¬ (2 ≤ b.toNat ∧ b.toNat ≤ 250) := by omega
    rw [exec_receiveLineByte, portByte_counting h, if_neg hbad]
    rfl
  case gathered => rw [exec_receiveLineByte, portByte_gathering h, if_pos hn]

/-! ## The bytes of a frame -/

theorem afterAll_append (cs ds : List Instr) (s : State) :
    afterAll (cs ++ ds) s = (afterAll cs s).bind (afterAll ds) := by
  induction cs generalizing s with
  | nil => rfl
  | cons c cs ih =>
    simp only [List.cons_append, afterAll]
    cases after c s <;> simp [ih]

theorem after_receiveLineByte (p : Port) (b : Byte) (s : State) : after (.receiveLineByte p b) s = some (portByte p b s) := rfl

/-- The receiver of a port is at some point of a frame, and nothing else has changed. -/
def receiving (p : Port) (x : Receiver) (s : State) : State := s.setPort p { s.port p with receiver := x }

@[simp] theorem receiving_port (p : Port) (x : Receiver) (s : State) :
    (receiving p x s).port p = { s.port p with receiver := x } := port_setPort_self _ _ _

@[simp] theorem receiving_receiving (p : Port) (x y : Receiver) (s : State) :
    receiving p y (receiving p x s) = receiving p y s := by
  simp [receiving]

/-- A GATHERING receiver takes the bytes that do not end its frame. -/
theorem gathers (p : Port) (n : Nat) (s : State) (bs got : List Byte) (h : got.length + bs.length < n) :
    afterAll (bs.map (.receiveLineByte p)) (receiving p (.gathering n got) s) =
      some (receiving p (.gathering n (got ++ bs)) s) := by
  induction bs generalizing got with
  | nil => simp [afterAll]
  | cons b bs ih =>
    rw [List.length_cons] at h
    have hstep : portByte p b (receiving p (.gathering n got) s) = receiving p (.gathering n (got ++ [b])) s := by
      rw [portByte_gathering (n := n) (got := got) (by simp), if_pos (by omega)]
      exact receiving_receiving p _ _ s
    rw [List.map_cons, afterAll, after_receiveLineByte, Option.bind_some, hstep, ih _ (by simp; omega)]
    simp

theorem byteSum_append (xs ys : List Byte) : byteSum (xs ++ ys) = byteSum xs + byteSum ys := by
  induction xs with
  | nil => simp [byteSum]
  | cons x xs ih => rw [List.cons_append, byteSum, byteSum, ih, Nat.add_assoc]

theorem toNat_byte (n : Nat) : (byte n).toNat = n % 256 := by simp [byte]

theorem reqOf_reqCode (r : Req) : reqOf (byte (reqCode r)).toNat = some r := by
  cases r <;> rfl

/-- Where a receiver stands does not matter to a request that its frame has completed. -/
theorem takeRequest_receiving (r : Req) (p : Port) (payload : List Byte) (x : Receiver) (s : State) :
    takeRequest r p payload (receiving p x s) = takeRequest r p payload s := by
  have : hunt p (receiving p x s) = hunt p s := by cases p <;> rfl
  unfold takeRequest
  rw [this]

theorem discardFrame_eq_takeRequest {p : Port} {s : State} (h : queueFull p s = true) (r : Req) (payload : List Byte) :
    discardFrame p s = takeRequest r p payload s :=
  (takeRequest_full (by simpa [queueFull, Config.waitingReplies] using h)).symm

/-- A frame whose bytes sum to 0 comes to the request of its CODE (R158, R159). -/
theorem completeFrame_request (r : Req) (p : Port) (payload : List Byte) (check : Byte) (s : State)
    (hsum : (payload.length + 2 + byteSum (byte (reqCode r) :: payload ++ [check])) % 256 = 0) :
    completeFrame p (payload.length + 2) (byte (reqCode r) :: payload ++ [check]) s = takeRequest r p payload s := by
  unfold completeFrame
  split
  case isTrue h => exact discardFrame_eq_takeRequest h r payload
  case isFalse => simp [takeFrame, reqOf_reqCode, slice]

/-- Settles O19: the SYNC and the LENGTH bring the receiver to GATHERING, which takes the CODE and the payload, and the CHECK
completes the frame of the request. -/
theorem frameBytesSpellTheRequest : Obligations.FrameBytesSpellTheRequest := by
  intro c r payload p s hr hp hlen hrec
  have hafter : after c s = some (takeRequest r p payload s) := by
    simp only [after, exec_request hr hp]
  have hsync : portByte p 0xA5 s = receiving p .counting s := by rw [portByte_hunting hrec, if_pos rfl]; rfl
  have htoNat : (byte (payload.length + 2)).toNat = payload.length + 2 := by rw [toNat_byte]; omega
  have hlength : portByte p (byte (payload.length + 2)) (receiving p .counting s) =
      receiving p (.gathering (payload.length + 2) []) s := by
    rw [portByte_counting (by simp), htoNat, if_pos (by omega)]
    exact receiving_receiving p _ _ s
  have hbytes : frameBytes (byte (reqCode r)) payload = [0xA5, byte (payload.length + 2)] ++
      (byte (reqCode r) :: payload) ++
        [byte (256 - byteSum (byte (payload.length + 2) :: byte (reqCode r) :: payload) % 256)] := by
    simp [frameBytes, be1]
  have hsum : (payload.length + 2 + byteSum (byte (reqCode r) :: payload ++
      [byte (256 - byteSum (byte (payload.length + 2) :: byte (reqCode r) :: payload) % 256)])) % 256 = 0 := by
    have hbody : byteSum (byte (payload.length + 2) :: byte (reqCode r) :: payload) =
        payload.length + 2 + byteSum (byte (reqCode r) :: payload) := by rw [byteSum, htoNat]
    have hcheck : ∀ n, byteSum [byte n] = n % 256 := fun n => by rw [byteSum, byteSum, toNat_byte, Nat.add_zero]
    rw [byteSum_append, hbody, hcheck]
    omega
  have hstart : afterAll (([0xA5, byte (payload.length + 2)] : List Byte).map (.receiveLineByte p)) s =
      some (receiving p (.gathering (payload.length + 2) []) s) := by
    simp only [List.map_cons, List.map_nil, afterAll, after_receiveLineByte, Option.bind_some, hsync, hlength]
  have hlast := portByte_gathering (p := p) (n := payload.length + 2) (got := byte (reqCode r) :: payload)
    (s := receiving p (.gathering (payload.length + 2) (byte (reqCode r) :: payload)) s) (by simp)
    (byte (256 - byteSum (byte (payload.length + 2) :: byte (reqCode r) :: payload) % 256))
  rw [if_neg (by simp), completeFrame_request r p payload _ _ hsum, takeRequest_receiving] at hlast
  rw [hafter, hbytes, List.map_append, afterAll_append, List.map_append, afterAll_append, hstart, Option.bind_some,
    gathers p _ s _ [] (by simp), Option.bind_some]
  simp only [List.map_cons, List.map_nil, afterAll, after_receiveLineByte, List.nil_append, hlast, Option.bind_some]

end Sys2Proof.Machine

/-! PROOF. The laws of the device that each operation keeps by itself: pools, refund accounts and table, claim queues, fault
table, cards in use and bus fields. `KeepsLaws s t` says that each of them holds of `t` if it holds of `s`; it composes, so
each shared operation has one lemma, and a command is a chain of them. -/

namespace Sys2Proof.Machine

/-! ## The laws as one relation -/

/-- The refund accounts with an amount issued that has still to be accounted for; a total at its maximum excuses them (R122,
R123). -/
def accountsOwe (n : Nat) (es : List RefundEntry) (x : Audit) : Prop :=
  x.issued < Config.largestTotal → x.credited < Config.largestTotal → x.unplaced < Config.largestTotal →
    x.cancelled < Config.largestTotal → x.issued = x.credited + x.unplaced + x.cancelled + refundSum es + n

/-- The law of the refund accounts in the form that each operation keeps. -/
def State.accountsHold (s : State) : Prop := accountsOwe 0 s.refunds s.audit

/-- R58 to R60 without the scan: one reserve grant of a class, the wait list in its two runs, no pass count above 3. -/
def Pool.orderly (p : Pool) : Prop :=
  (∀ c, (p.grants.filter (isReserveOf c)).length ≤ 1) ∧ resumesFirst p.waits = true ∧ ∀ e ∈ p.waits, e.passes ≤ 3

/-- Both pools are so, and no machine has two grants, two entries, or a grant and an entry (R61). -/
def State.poolsOrderly (s : State) : Prop :=
  s.electric.orderly ∧ s.water.orderly ∧ (s.electric.machines ++ s.water.machines).Nodup

/-- R60: a pool that may scan has left nothing waiting that a scan would grant. -/
def Pool.settled (p : Pool) : Prop := p.mayScan = true → (scanFrom 0 p [] p.waits).granted = []

/-- The laws of the device, each for itself; beside the law of the cards in use stand what it is made of, and the card of a
station, which most operations keep as well. -/
inductive Law where
  | figures (k : PoolId)
  | settled (k : PoolId)
  | orderly
  | accounts
  | refunds
  | queues
  | faults
  | cards
  | free (i : StationId) (card : Nat)
  | undoubted (card : Nat)
  | accepted (i : StationId)
  | cardAt (i : StationId) (card : Nat)
  | bus
  | away (a : Addr)

/-- A record whose card has been accepted: it is ready or busy (4.4). -/
def Station.accepted (x : Station) : Bool := busyStation x || decide (x.state = .cardReady)

/-- A law holds of a state. -/
def Law.holds : Law → State → Prop
  | .figures k, s => (s.pool k).lawful = true
  | .settled k, s => (s.pool k).settled
  | .orderly, s => s.poolsOrderly
  | .accounts, s => s.accountsHold
  | .refunds, s => s.refundsLawful = true
  | .queues, s => s.queuesLawful = true
  | .faults, s => s.faultsLawful = true
  | .cards, s => s.cardsLawful
  | .free i card, s => holdsCard card (s.station i) = false
  | .undoubted card, s => s.doubts.all (fun d => d.debit.card != card) = true
  | .accepted i, s => (s.station i).accepted = true
  | .cardAt i card, s => (s.station i).card = some card
  | .bus, s => s.busLawful
  | .away a, s => (s.machine a).bus.presence = .absent

/-- What only helps to keep the others, and passes: a card comes into use, or leaves its station, and a machine joins. -/
def Law.passing : Law → Prop
  | .free _ _ | .undoubted _ | .accepted _ | .cardAt _ _ | .away _ => True
  | .figures _ | .settled _ | .orderly | .accounts | .refunds | .queues | .faults | .cards | .bus => False

/-- No law waived. -/
def noLaw : Law → Prop := fun _ => False

/-- Every law that holds of the one state holds of the other, but for those waived: a composite may break a law and mend it
at its end. -/
def KeepsLaws (w : Law → Prop) (s t : State) : Prop := ∀ l, ¬ w l → l.holds s → l.holds t

@[simp] theorem KeepsLaws.refl (w : Law → Prop) (s : State) : KeepsLaws w s s := fun _ _ h => h

theorem KeepsLaws.trans {w : Law → Prop} {s t u : State} (h : KeepsLaws w s t) (k : KeepsLaws w t u) : KeepsLaws w s u :=
  fun l hl x => k l hl (h l hl x)

theorem KeepsLaws.foldl {w : Law → Prop} {α : Type} {f : State → α → State} (h : ∀ s x, KeepsLaws w s (f s x))
    (xs : List α) : ∀ s, KeepsLaws w s (xs.foldl f s) := by
  induction xs with
  | nil => exact KeepsLaws.refl w
  | cons x xs ih => exact fun s => (h s x).trans (ih (f s x))

/-- The laws of the cards, of those that are not waived. -/
def KeepsCards (w : Law → Prop) (s t : State) : Prop :=
  (¬ w .cards → s.cardsLawful → t.cardsLawful) ∧
    (∀ i card, ¬ w (.free i card) → holdsCard card (s.station i) = false → holdsCard card (t.station i) = false) ∧
    (∀ card, ¬ w (.undoubted card) → s.doubts.all (fun d => d.debit.card != card) = true →
      t.doubts.all (fun d => d.debit.card != card) = true) ∧
    (∀ i, ¬ w (.accepted i) → (s.station i).accepted = true → (t.station i).accepted = true) ∧
    ∀ i card, ¬ w (.cardAt i card) → (s.station i).card = some card → (t.station i).card = some card

/-- The laws of the pools, of those that are not waived. -/
def KeepsPools (w : Law → Prop) (s t : State) : Prop :=
  (∀ k, ¬ w (.figures k) → (s.pool k).lawful = true → (t.pool k).lawful = true) ∧
    (∀ k, ¬ w (.settled k) → (s.pool k).settled → (t.pool k).settled) ∧ (¬ w .orderly → s.poolsOrderly → t.poolsOrderly)

/-- The laws of the bus, of those that are not waived. -/
def KeepsBus (w : Law → Prop) (s t : State) : Prop :=
  (s.busLawful → t.busLawful) ∧ ∀ a, ¬ w (.away a) → (s.machine a).bus.presence = .absent → (t.machine a).bus.presence = .absent

/-- What keeping the laws asks of a part of the state. -/
@[simp] def KeptPart (w : Law → Prop) (s t : State) : Part → Prop
  | .pools => KeepsPools w s t
  | .money => (¬ w .accounts → s.accountsHold → t.accountsHold) ∧ (s.refundsLawful = true → t.refundsLawful = true)
  | .claims => s.queuesLawful = true → t.queuesLawful = true
  | .faults => s.faultsLawful = true → t.faultsLawful = true
  | .stations | .doubts => KeepsCards w s t
  | .machines => KeepsBus w s t
  | .flags | .ports | .session | .counter | .loader | .bus | .room | .clock | .base => True

/-- Each law reads one or two parts of the state, so what leaves those alone keeps it, and only the parts touched are left to
show. -/
theorem keeps_of_touches {w : Law → Prop} {ps : List Part} {s t : State} (h : Touches ps s t)
    (hparts : ∀ p ∈ ps, KeptPart w s t p) : KeepsLaws w s t := by
  have hsame : Part.pools ∉ ps → KeepsPools w s t := by
    intro hp
    obtain ⟨he, hw⟩ := h _ hp
    have hpool : ∀ k, t.pool k = s.pool k := fun k => by cases k <;> simp [State.pool, he, hw]
    exact ⟨fun k _ => by simp [hpool], fun k _ => by simp [hpool], fun _ => by simp [State.poolsOrderly, he, hw]⟩
  have hkeeps : KeepsPools w s t := (Decidable.em (Part.pools ∈ ps)).elim (hparts _) hsame
  have hcard : KeepsCards w s t := by
    by_cases hp : Part.stations ∈ ps ∨ Part.doubts ∈ ps
    · exact hp.elim (hparts _) (hparts _)
    · rw [not_or] at hp
      obtain ⟨ha, hb⟩ := h _ hp.1
      obtain ⟨hd, -⟩ := h _ hp.2
      have hstation : ∀ i, t.station i = s.station i := fun i => by cases i <;> simp [State.station, ha, hb]
      simp [KeepsCards, State.cardsLawful, ha, hb, hd, hstation]
  have hroom : KeepsBus w s t := by
    by_cases hp : Part.machines ∈ ps
    · exact hparts _ hp
    · have hm := fun a => h.machine hp a
      simp [KeepsBus, State.busLawful, hm]
  intro l hl
  cases l with
  | figures k => exact hkeeps.1 k hl
  | settled k => exact hkeeps.2.1 k hl
  | orderly => exact hkeeps.2.2 hl
  | accounts =>
    by_cases hp : Part.money ∈ ps
    · exact (hparts _ hp).1 hl
    · obtain ⟨hr, ha⟩ := h _ hp
      simp [Law.holds, State.accountsHold, hr, ha]
  | refunds =>
    by_cases hp : Part.money ∈ ps
    · exact (hparts _ hp).2
    · obtain ⟨hr, ha⟩ := h _ hp
      simp [Law.holds, State.refundsLawful, hr]
  | queues =>
    by_cases hp : Part.claims ∈ ps
    · exact hparts _ hp
    · obtain ⟨hq, hd⟩ := h _ hp
      simp [Law.holds, State.queuesLawful, hq, hd]
  | faults =>
    by_cases hp : Part.faults ∈ ps
    · exact hparts _ hp
    · have hf : t.faults = s.faults := h _ hp
      simp [Law.holds, State.faultsLawful, hf]
  | cards => exact hcard.1 hl
  | free i card => exact hcard.2.1 i card hl
  | undoubted card => exact hcard.2.2.1 card hl
  | accepted i => exact hcard.2.2.2.1 i hl
  | cardAt i card => exact hcard.2.2.2.2 i card hl
  | bus => exact hroom.1
  | away a => exact hroom.2 a hl

variable {w : Law → Prop} {s t : State}

theorem KeepsLaws.ite {c : Prop} [Decidable c] {x y : State} (hx : KeepsLaws w s x) (hy : KeepsLaws w s y) :
    KeepsLaws w s (if c then x else y) := by
  split
  · exact hx
  · exact hy

/-! ## What no law reads -/

theorem KeepsLaws.thenRaise (h : KeepsLaws w s t) {e : Event} : KeepsLaws w s (raise e t) :=
  h.trans (keeps_of_touches (touched_of (touches_raise (ps := [.flags]) (by simp) e)) (by simp))

theorem KeepsLaws.thenRaiseIf (h : KeepsLaws w s t) {b : Bool} {e : Event} : KeepsLaws w s (raiseIf b e t) :=
  h.trans (keeps_of_touches (touched_raiseIf b e t) (by simp))

theorem KeepsLaws.thenSession (h : KeepsLaws w s t) {x : Option Session} : KeepsLaws w s { t with session := x } :=
  h.trans (keeps_of_touches (touched_of (touches_session (ps := [.session]) (by simp) x)) (by simp))

theorem KeepsLaws.thenSlot (h : KeepsLaws w s t) {x : Option Addr} : KeepsLaws w s { t with slot := x } :=
  h.trans (keeps_of_touches (touched_of (touches_slot (ps := [.bus]) (by simp) x)) (by simp))

theorem KeepsLaws.thenTakeCycleNumber (h : KeepsLaws w s t) : KeepsLaws w s (takeCycleNumber t) :=
  h.trans (keeps_of_touches (touched_takeCycleNumber t) (by simp))

theorem KeepsLaws.thenModifyPhase (h : KeepsLaws w s t) {f : ServicePhase → ServicePhase} : KeepsLaws w s (modifyPhase f t) :=
  h.trans (keeps_of_touches (touched_modifyPhase f t) (by simp))

theorem KeepsLaws.thenCloseSession (h : KeepsLaws w s t) : KeepsLaws w s (closeSession t) :=
  h.trans (keeps_of_touches (touched_closeSession t) (by simp))

theorem KeepsLaws.thenSetDebitCopy (h : KeepsLaws w s t) {i : StationId} {d : Option DebitCopy} :
    KeepsLaws w s (t.setDebitCopy i d) := by
  refine h.trans (keeps_of_touches (touched_of (touches_setDebitCopy (ps := [.doubts]) (by simp) i d))
    (List.forall_mem_cons.mpr ⟨?_, by simp⟩))
  have hstation : ∀ j, (t.setDebitCopy i d).station j = t.station j := fun j => by cases i <;> cases j <;> rfl
  have hdoubts : (t.setDebitCopy i d).doubts = t.doubts := by cases i <;> rfl
  have hcards : (t.setDebitCopy i d).cardsLawful = t.cardsLawful := by cases i <;> rfl
  simp only [KeptPart, KeepsCards, hstation, hdoubts, hcards, imp_self, implies_true, and_self]

/-! ## Machine records -/

/-- A record is replaced by one whose bus fields are lawful, and at which nothing is present, if so before. -/
theorem KeepsLaws.thenModifyMachine_of_bus (h : KeepsLaws w s t) {a : Addr} {f : MachineRecord → MachineRecord}
    (hf : (t.machine a).bus.lawful = true → (f (t.machine a)).bus.lawful = true)
    (haway : ¬ w (.away a) → (t.machine a).bus.presence = .absent → (f (t.machine a)).bus.presence = .absent) :
    KeepsLaws w s (modifyMachine a f t) := by
  refine h.trans (keeps_of_touches (touched_modifyMachine a f t)
    (List.forall_mem_cons.mpr ⟨⟨fun hb b => ?_, fun b hw => ?_⟩, by simp⟩))
  · rw [machine_modifyMachine]
    split
    · exact hf (hb a)
    · exact hb b
  · rw [machine_modifyMachine]
    split
    case isTrue he => subst he; exact haway hw
    case isFalse => exact id

/-- A record changed but for its bus fields. -/
theorem KeepsLaws.thenModifyMachine (h : KeepsLaws w s t) {a : Addr} {f : MachineRecord → MachineRecord}
    (hf : ∀ m, (f m).bus = m.bus) : KeepsLaws w s (modifyMachine a f t) :=
  h.thenModifyMachine_of_bus (by rw [hf]; exact id) (by rw [hf]; exact fun _ => id)

theorem KeepsLaws.thenModifyBus (h : KeepsLaws w s t) {a : Addr} {f : BusFields → BusFields}
    (hf : (t.machine a).bus.lawful = true → (f (t.machine a).bus).lawful = true)
    (haway : ¬ w (.away a) → (t.machine a).bus.presence = .absent → (f (t.machine a).bus).presence = .absent) :
    KeepsLaws w s (modifyBus a f t) := h.thenModifyMachine_of_bus hf haway

theorem KeepsLaws.thenModifyCycle (h : KeepsLaws w s t) {a : Addr} {f : Cycle → Cycle} : KeepsLaws w s (modifyCycle a f t) :=
  h.thenModifyMachine (by simp)

theorem KeepsLaws.thenMoveTo (h : KeepsLaws w s t) {a : Addr} {st : MachineState} : KeepsLaws w s (moveTo a st t) :=
  (h.thenModifyMachine (by simp)).thenRaise

theorem KeepsLaws.thenModifyRun (h : KeepsLaws w s t) {a : Addr} {f : TestRun → TestRun} : KeepsLaws w s (modifyRun a f t) :=
  (h.thenModifyMachine (by simp)).thenRaise

/-- The law of the bus fields, clause by clause. -/
theorem busFields_lawful_iff (b : BusFields) : b.lawful = true ↔
    (b.presence = .absent → b.missed = 0 ∧ b.inFlight = none ∧ b.queued = none ∧ b.orphanDeadline = none) ∧
    (b.queued.isSome = true → b.presence = .present ∧ b.inFlight.isSome = true) ∧
    (b.presence ≠ .absent → b.report.isSome = true) ∧ b.missed < 3 ∧ ∀ f, b.inFlight = some f → f.tag ≠ b.lastTag := by
  cases hf : b.inFlight <;> cases hq : b.queued <;> cases hp : b.presence <;>
    simp [BusFields.lawful, hf, hq, hp, and_assoc]

/-- R7 and R8: a command posted goes out with the other tag, or is queued behind the one in flight. -/
theorem postBus_lawful {b : BusFields} (h : b.lawful = true) (cmd : BusCommand) (poster : Poster) :
    (postBus cmd poster b).lawful = true := by
  rw [busFields_lawful_iff] at h
  obtain ⟨habsent, hqueued, hreport, hmissed, htag⟩ := h
  unfold postBus
  split
  case isTrue hp =>
    split <;> rw [busFields_lawful_iff] <;> simp_all
  case isFalse => rw [busFields_lawful_iff]; exact ⟨habsent, hqueued, hreport, hmissed, htag⟩

theorem KeepsLaws.thenPost (h : KeepsLaws w s t) {a : Addr} {cmd : BusCommand} {poster : Poster} :
    KeepsLaws w s (post a cmd poster t) :=
  h.thenModifyBus (fun hb => postBus_lawful hb cmd poster) (fun _ hp => by simp [postBus, hp])

/-! ## Claim queues -/

theorem distinctCards_iff (es : List ClaimEntry) : distinctCards es = true ↔ (es.map (·.card)).Nodup := by
  induction es with
  | nil => simp [distinctCards]
  | cons e es ih =>
    simp only [distinctCards, Bool.and_eq_true, ih, List.map_cons, List.nodup_cons, List.mem_map, not_exists, not_and,
      List.all_eq_true, bne_iff_ne, ne_eq]

theorem claimQueue_lawful_iff (q : ClaimQueue) :
    q.lawful = true ↔ q.entries.length ≤ 8 ∧ (q.entries.map (·.card)).Nodup := by
  simp [ClaimQueue.lawful, distinctCards_iff, Config.queueEntries]

theorem queuesLawful_iff (s : State) : s.queuesLawful = true ↔ ∀ c, (s.queue c).lawful = true := by
  rw [State.queuesLawful, Bool.and_eq_true]
  exact ⟨fun h c => by cases c; exacts [h.1, h.2], fun h => ⟨h .washer, h .dryer⟩⟩

theorem changeQueue_queue (b c : MachineClass) (f : ClaimQueue → ClaimQueue) (s : State) :
    (changeQueue c f s).queue b = if b = c then f (s.queue c) else s.queue b := by
  rw [changeQueue, raise_queue]
  split
  case isTrue h => subst h; simp
  case isFalse h => exact queue_setQueue_other s _ h

theorem KeepsLaws.thenChangeQueue (h : KeepsLaws w s t) {c : MachineClass} {f : ClaimQueue → ClaimQueue}
    (hf : (t.queue c).lawful = true → (f (t.queue c)).lawful = true) : KeepsLaws w s (changeQueue c f t) := by
  refine h.trans (keeps_of_touches (touched_changeQueue c f t) (List.forall_mem_cons.mpr ⟨fun hq => ?_, by simp⟩))
  rw [queuesLawful_iff] at hq ⊢
  intro b
  rw [changeQueue_queue]
  split
  · exact hf (hq c)
  · exact hq b

/-- A queue loses entries, or its entries change but for their cards. -/
theorem ClaimQueue.lawful_of_sublist {q r : ClaimQueue} (h : (r.entries.map (·.card)).Sublist (q.entries.map (·.card)))
    (hq : q.lawful = true) : r.lawful = true := by
  rw [claimQueue_lawful_iff] at hq ⊢
  have hlen := h.length_le
  simp only [List.length_map] at hlen
  exact ⟨by omega, hq.2.sublist h⟩

theorem modifyFirst_map {α β : Type} (g : α → β) (p : α → Bool) (f : α → α) (hf : ∀ x, g (f x) = g x) (xs : List α) :
    (modifyFirst p f xs).map g = xs.map g := by
  induction xs with
  | nil => rfl
  | cons x xs ih =>
    unfold modifyFirst
    split <;> simp [hf, ih]

/-- An entry of a queue changes but for its card. -/
theorem KeepsLaws.thenChangeEntry (h : KeepsLaws w s t) {c : MachineClass} {f : ClaimQueue → ClaimQueue}
    {p : ClaimEntry → Bool} {g : ClaimEntry → ClaimEntry}
    (hf : ∀ q, (f q).entries = modifyFirst p g q.entries)
    (hg : ∀ e, (g e).card = e.card) : KeepsLaws w s (changeQueue c f t) :=
  h.thenChangeQueue (ClaimQueue.lawful_of_sublist (by rw [hf, modifyFirst_map _ p g hg]))

/-- An entry leaves a queue. -/
theorem KeepsLaws.thenEraseEntry (h : KeepsLaws w s t) {c : MachineClass} {f : ClaimQueue → ClaimQueue} {p : ClaimEntry → Bool}
    (hf : ∀ q, (f q).entries = q.entries.eraseP p) : KeepsLaws w s (changeQueue c f t) :=
  h.thenChangeQueue (ClaimQueue.lawful_of_sublist (by rw [hf]; exact List.Sublist.map _ List.eraseP_sublist))

theorem KeepsLaws.thenPlaceHold (h : KeepsLaws w s t) {a : Addr} : KeepsLaws w s (placeHold a t).1 := by
  unfold placeHold
  dsimp only
  split
  · exact h
  · exact ((h.thenChangeEntry (by exact fun _ => rfl) (by exact fun _ => rfl)).thenModifyMachine (by simp)).thenRaise

theorem KeepsLaws.thenOffer (h : KeepsLaws w s t) {a : Addr} : KeepsLaws w s (offer a t) := by
  have hp := h.thenPlaceHold (a := a)
  unfold offer
  split <;> (rename_i he; rw [he] at hp)
  · exact hp.thenMoveTo
  · exact hp.thenMoveTo

theorem KeepsLaws.thenReoffer (h : KeepsLaws w s t) {a : Addr} : KeepsLaws w s (reoffer a t) := by
  have hp := h.thenPlaceHold (a := a)
  unfold reoffer
  split <;> (rename_i he; rw [he] at hp)
  · exact hp
  · exact .ite (hp.thenModifyMachine (by simp)).thenRaise.thenMoveTo (hp.thenModifyMachine (by simp)).thenRaise

theorem KeepsLaws.thenHandBack (h : KeepsLaws w s t) {a : Addr} : KeepsLaws w s (handBack a t) :=
  .ite ((h.thenChangeEntry (by exact fun _ => rfl) (by exact fun _ => rfl)).thenModifyMachine (by simp)).thenRaise h

theorem KeepsLaws.thenExpireHold (h : KeepsLaws w s t) {a : Addr} : KeepsLaws w s (expireHold a t) :=
  (h.thenEraseEntry (by exact fun _ => rfl)).thenReoffer

theorem KeepsLaws.thenHolderPays (h : KeepsLaws w s t) {a : Addr} : KeepsLaws w s (holderPays a t) :=
  h.thenChangeEntry (by exact fun _ => rfl) (by exact fun _ => rfl)

theorem KeepsLaws.thenHolderStopsPaying (h : KeepsLaws w s t) {a : Addr} : KeepsLaws w s (holderStopsPaying a t) :=
  have hp := h.thenChangeEntry (by exact fun _ => rfl) (by exact fun _ => rfl)
  .ite hp.thenExpireHold hp

theorem KeepsLaws.thenClaimServed (h : KeepsLaws w s t) {a : Addr} {card : Nat} : KeepsLaws w s (claimServed a card t) := by
  unfold claimServed
  dsimp only
  split
  · exact ((h.thenEraseEntry (by exact fun _ => rfl)).thenModifyMachine (by simp)).thenRaise
  · split
    · exact h
    · split
      · exact h.thenEraseEntry (by exact fun _ => rfl)
      · exact (h.thenEraseEntry (by exact fun _ => rfl)).thenReoffer

/-! ## Locks and faults -/

theorem KeepsLaws.thenSetLock (h : KeepsLaws w s t) {a : Addr} {kind : Lock} : KeepsLaws w s (setLock a kind t) :=
  .ite h (h.thenModifyMachine (by simp)).thenRaise

theorem KeepsLaws.thenSetPending (h : KeepsLaws w s t) {a : Addr} : KeepsLaws w s (setPending a t) :=
  .ite h (h.thenModifyMachine (by simp)).thenRaise

theorem KeepsLaws.thenApplyLock (h : KeepsLaws w s t) {a : Addr} {kind : Lock} : KeepsLaws w s (applyLock a kind t) := by
  have hl := h.thenSetLock (a := a) (kind := kind)
  unfold applyLock
  dsimp only
  split
  · exact hl.thenMoveTo
  · exact hl.thenMoveTo
  · exact hl.thenHandBack.thenMoveTo
  · exact hl.thenSetPending
  · exact hl.thenSetPending
  · exact hl.thenSetPending
  · exact hl.thenSetPending
  · exact hl.thenSetPending
  · exact hl
  · exact hl
  · exact hl

theorem KeepsLaws.thenStrike (h : KeepsLaws w s t) {a : Addr} {x : Handing} : KeepsLaws w s (strike a x t) :=
  .ite (h.thenModifyMachine (by simp))
    (.ite (.ite (h.thenModifyMachine (by simp)).thenRaise.thenApplyLock (h.thenModifyMachine (by simp)).thenRaise) h)

theorem KeepsLaws.thenForcedLock (h : KeepsLaws w s t) {a : Addr} {x : Handing} : KeepsLaws w s (forcedLock a x t) :=
  .ite h.thenApplyLock h

theorem distinctFaults_iff (rs : List FaultRecord) :
    distinctFaults rs = true ↔ (rs.map (fun r => (r.machine, r.code))).Nodup := by
  induction rs with
  | nil => simp [distinctFaults]
  | cons r rs ih =>
    simp only [distinctFaults, Bool.and_eq_true, ih, List.map_cons, List.nodup_cons, List.mem_map, not_exists, not_and,
      List.all_eq_true, Bool.or_eq_true, bne_iff_ne, ne_eq, Prod.mk.injEq]
    refine and_congr_left fun _ => forall₂_congr fun x _ => ?_
    tauto

theorem faultsLawful_iff (s : State) :
    s.faultsLawful = true ↔ s.faults.length ≤ 48 ∧ (s.faults.map (fun r => (r.machine, r.code))).Nodup := by
  simp [State.faultsLawful, distinctFaults_iff, Config.faultRecords]

/-- R138: the pair of a handing stands once in the table after it, whether its record was there or not. -/
theorem recordFault_nodup {x : Handing} {rs : List FaultRecord} (now : Nat)
    (h : (rs.map (fun r => (r.machine, r.code))).Nodup) :
    ((recordFault now x rs).map (fun r => (r.machine, r.code))).Nodup := by
  have hpair : ∀ r, recordOf x r = true ↔ (r.machine, r.code) = (x.machine, x.code) := by simp [recordOf]
  unfold recordFault
  split
  case h_1 r hr =>
    obtain ⟨hx, before, behind, rfl, hbefore⟩ := List.find?_eq_some_iff_append.mp hr
    have herase : (before ++ r :: behind).eraseP (recordOf x) = before ++ behind := by
      rw [List.eraseP_append_right _ (by simpa using hbefore)]
      simp [hx]
    rw [herase]
    have hperm : ((before ++ behind ++ [r]).map (fun r => (r.machine, r.code))).Nodup :=
      (List.Perm.nodup_iff (List.Perm.map _ (by
        rw [List.append_assoc]
        exact List.Perm.append_left _ (List.perm_append_singleton _ _)))).mpr h
    simpa using hperm
  case h_2 hr =>
    have hnew : (x.machine, x.code) ∉ rs.map (fun r => (r.machine, r.code)) := by
      simp only [List.mem_map, not_exists, not_and]
      exact fun r hmem heq => List.find?_eq_none.mp hr r hmem ((hpair r).mpr heq)
    have hsub : (if rs.length < Config.faultRecords then rs else rs.drop 1).Sublist rs := by
      split
      · exact List.Sublist.refl _
      · exact List.drop_sublist _ _
    rw [List.map_append, List.nodup_append]
    refine ⟨h.sublist (hsub.map _), by simp, ?_⟩
    rintro y hy z hz rfl
    rw [List.map_singleton, List.mem_singleton] at hz
    subst hz
    exact hnew ((hsub.map _).subset hy)

theorem recordFault_length {x : Handing} {rs : List FaultRecord} (now : Nat) (h : rs.length ≤ 48) :
    (recordFault now x rs).length ≤ 48 := by
  unfold recordFault
  split
  case h_1 r hr =>
    have := List.length_eraseP_of_mem (List.mem_of_find?_eq_some hr) (List.find?_some hr)
    have hpos := List.length_pos_of_mem (List.mem_of_find?_eq_some hr)
    simp only [List.length_append, List.length_singleton]
    omega
  case h_2 =>
    simp only [List.length_append, List.length_singleton, Config.faultRecords]
    split
    · omega
    · rw [List.length_drop]; omega

theorem KeepsLaws.thenHandFault (h : KeepsLaws w s t) {x : Handing} : KeepsLaws w s (handFault x t) := by
  have hrecord : KeepsLaws w s (raise .fault { t with faults := recordFault t.now x t.faults }) := by
    refine (h.trans (keeps_of_touches (touched_of (touches_faults (ps := [.faults]) (by simp) _))
      (List.forall_mem_cons.mpr ⟨fun hf => ?_, by simp⟩))).thenRaise
    rw [faultsLawful_iff] at hf ⊢
    exact ⟨recordFault_length _ hf.1, recordFault_nodup _ hf.2⟩
  unfold handFault
  dsimp only
  split
  · exact hrecord
  · exact hrecord.thenStrike.thenForcedLock

end Sys2Proof.Machine

/-! PROOF. What a scan of a pool keeps (R57 to R60): one induction over the scan carries every law of the grants and of the
wait list, and what it leaves waiting a second scan would not grant. Then the operations of the pools, each of which ends in
such a scan. -/

namespace Sys2Proof.Machine

/-! ## The grant rule -/

theorem grantSum_append (p : Grant → Bool) (gs hs : List Grant) : grantSum p (gs ++ hs) = grantSum p gs + grantSum p hs := by
  induction gs with
  | nil => simp [grantSum]
  | cons g gs ih => simp [grantSum, ih, Nat.add_assoc]

/-- The pool with one grant more. -/
def Pool.granting (p : Pool) (g : Grant) : Pool := { p with grants := p.grants ++ [g] }

theorem sharedGranted_granting (p : Pool) (g : Grant) :
    (p.granting g).sharedGranted = p.sharedGranted + if isShared g then g.amount else 0 := by
  simp [Pool.sharedGranted, Pool.granting, grantSum_append, grantSum]

theorem effReserve_granting (p : Pool) (g : Grant) (c : MachineClass) : (p.granting g).effReserve c = p.effReserve c := by
  cases c <;> rfl

theorem fits_eq_none {p : Pool} {demand : Nat} {c : MachineClass} : p.fits demand c = none ↔
    p.sharedPortion < p.sharedGranted + demand ∧ ((p.reserveGrant c).isSome = true ∨ p.effReserve c < demand) := by
  unfold Pool.fits
  split
  case isTrue h => simp; omega
  case isFalse h =>
    split
    case isTrue h' => simp only [reduceCtorEq, false_iff]; cases hr : p.reserveGrant c <;> simp_all
    case isFalse h' => cases hr : p.reserveGrant c <;> simp_all

/-- What fits a pool fits it with one grant less: more grants never make room (R57). -/
theorem fits_granting {p : Pool} {demand : Nat} {c : MachineClass} (g : Grant) (h : p.fits demand c = none) :
    (p.granting g).fits demand c = none := by
  rw [fits_eq_none] at h ⊢
  refine ⟨?_, h.2.imp (fun hr => ?_) (fun he => ?_)⟩
  · have hp : (p.granting g).sharedPortion = p.sharedPortion := rfl
    rw [hp, sharedGranted_granting]
    have := h.1
    omega
  · rw [Pool.reserveGrant, Pool.granting, List.find?_append]
    rw [Pool.reserveGrant] at hr
    simp [hr]
  · rwa [effReserve_granting]

theorem reserveWithin_iff (p : Pool) (c : MachineClass) : reserveWithin p c = true ↔
    ∀ g ∈ p.grants, isReserveOf c g = true → g.amount ≤ p.effReserve c := by
  simp only [reserveWithin, List.all_eq_true, Bool.or_eq_true, Bool.not_eq_true', decide_eq_true_eq]
  exact forall₂_congr fun g _ => by cases isReserveOf c g <;> simp

theorem reserveWithin_granting {p : Pool} {c : MachineClass} {g : Grant} (h : reserveWithin p c = true)
    (hg : isReserveOf c g = true → g.amount ≤ p.effReserve c) : reserveWithin (p.granting g) c = true := by
  rw [reserveWithin_iff] at h ⊢
  intro x hx
  rw [effReserve_granting]
  rcases List.mem_append.mp hx with hx | hx
  · exact h x hx
  · rw [List.mem_singleton.mp hx]; exact hg

/-- R57: a grant made by the rule keeps the pool within its figures. -/
theorem withinFigures_granting {p : Pool} {now : Nat} {e : WaitEntry} {q : Portion} (hq : p.fits e.demand e.cls = some q)
    (h : p.withinFigures = true) : (p.granting (grantOf now e q)).withinFigures = true := by
  simp only [Pool.withinFigures, Bool.and_eq_true, decide_eq_true_eq] at h ⊢
  obtain ⟨⟨hshared, hwasher⟩, hdryer⟩ := h
  have hportion : (p.granting (grantOf now e q)).sharedPortion = p.sharedPortion := rfl
  rw [hportion, sharedGranted_granting]
  unfold Pool.fits at hq
  split at hq
  case isTrue hfit =>
    cases hq
    refine ⟨⟨by simpa [isShared, grantOf] using hfit, reserveWithin_granting hwasher ?_⟩, reserveWithin_granting hdryer ?_⟩
    · simp [isReserveOf, grantOf, reservePortion]
    · simp [isReserveOf, grantOf, reservePortion]
  case isFalse =>
    split at hq
    case isFalse => cases hq
    case isTrue hfit =>
      cases hq
      have hown : ∀ c, isReserveOf c (grantOf now e (reservePortion e.cls)) = true → e.demand ≤ p.effReserve c := by
        intro c hc
        have : c = e.cls := by cases c <;> cases hcls : e.cls <;> simp_all [isReserveOf, grantOf, reservePortion]
        exact this ▸ hfit.2
      refine ⟨⟨?_, reserveWithin_granting hwasher (hown .washer)⟩, reserveWithin_granting hdryer (hown .dryer)⟩
      have hnot : isShared (grantOf now e (reservePortion e.cls)) = false := by
        cases hcls : e.cls <;> simp [isShared, grantOf, reservePortion]
      simpa [hnot] using hshared

/-- R57: a grant made by the rule leaves each reserve with one grant at most. -/
theorem reserves_granting {p : Pool} {now : Nat} {e : WaitEntry} {q : Portion} (hq : p.fits e.demand e.cls = some q)
    (h : ∀ c, (p.grants.filter (isReserveOf c)).length ≤ 1) (c : MachineClass) :
    ((p.granting (grantOf now e q)).grants.filter (isReserveOf c)).length ≤ 1 := by
  have hc := h c
  rw [Pool.granting, List.filter_append, List.length_append]
  by_cases hown : isReserveOf c (grantOf now e q) = true
  · have hfree : p.reserveGrant c = none := by
      unfold Pool.fits at hq
      split at hq
      case isTrue => cases hq; simp [isReserveOf, grantOf] at hown; cases c <;> simp [reservePortion] at hown
      case isFalse =>
        split at hq
        case isFalse => cases hq
        case isTrue hfit =>
          cases hq
          have : c = e.cls := by cases c <;> cases hcls : e.cls <;> simp_all [isReserveOf, grantOf, reservePortion]
          subst this
          simpa using hfit.1
    have hnil : p.grants.filter (isReserveOf c) = [] := by
      rw [List.filter_eq_nil_iff]
      exact List.find?_eq_none.mp hfree
    simp [hnil, hown]
  · simpa [hown] using hc

/-! ## The wait list -/

/-- What the order of a wait list reads of an entry (R58). -/
def WaitEntry.key (e : WaitEntry) : Purpose × Nat := (e.purpose, e.number.getD 0)

/-- One entry may stand ahead of another (R58). -/
def mayPrecede (e x : Purpose × Nat) : Prop := x.1 ≠ .resume ∨ e.1 = .resume ∧ e.2 ≤ x.2

theorem resumesFirst_iff (es : List WaitEntry) : resumesFirst es = true ↔ (es.map (·.key)).Pairwise mayPrecede := by
  induction es with
  | nil => simp [resumesFirst]
  | cons e es ih =>
    simp [resumesFirst, ih, mayPrecede, WaitEntry.key, List.pairwise_cons]

/-- What a scan would leave waiting: each entry fits no portion, up to one at its third pass. -/
def Pool.blocks (p : Pool) : List WaitEntry → Prop
  | [] => True
  | e :: es => p.fits e.demand e.cls = none ∧ (3 ≤ e.passes ∨ p.blocks es)

/-- Two pools in which the same demands fit block the same entries. -/
theorem blocks_congr {p q : Pool} (h : ∀ d c, p.fits d c = q.fits d c) (es : List WaitEntry) : p.blocks es ↔ q.blocks es := by
  induction es with
  | nil => exact Iff.rfl
  | cons e es ih => exact and_congr (by rw [h]) (or_congr Iff.rfl ih)

theorem blocks_waits {p : Pool} {ws es : List WaitEntry} : ({ p with waits := ws } : Pool).blocks es ↔ p.blocks es :=
  blocks_congr (p := { p with waits := ws }) (q := p) (fun _ _ => rfl) es

theorem scanFrom_granted_eq_nil {now : Nat} {p : Pool} {kept l : List WaitEntry} :
    (scanFrom now p kept l).granted = [] ↔ p.blocks l := by
  induction l generalizing kept with
  | nil => simp [scanFrom, Pool.blocks]
  | cons e rest ih =>
    unfold scanFrom Pool.blocks
    split
    case h_1 q hq =>
      dsimp only
      split <;> simp [hq]
    case h_2 hq =>
      split
      case isTrue h3 => simp [hq, h3]
      case isFalse h3 => simp [hq, h3, ih]

theorem blocks_append {p : Pool} {kept rest : List WaitEntry} (hkept : ∀ k ∈ kept, p.fits k.demand k.cls = none)
    (hrest : (∃ k ∈ kept, 3 ≤ k.passes) ∨ p.blocks rest) : p.blocks (kept ++ rest) := by
  induction kept with
  | nil => exact hrest.resolve_left (by simp)
  | cons k ks ih =>
    refine ⟨hkept k (by simp), ?_⟩
    by_cases h3 : 3 ≤ k.passes
    · exact .inl h3
    · refine .inr (ih (fun x hx => hkept x (by simp [hx])) (hrest.imp_left ?_))
      rintro ⟨x, hx, hp⟩
      rcases List.mem_cons.mp hx with rfl | hx
      · exact absurd hp h3
      · exact ⟨x, hx, hp⟩

/-! ## A scan -/

/-- What stands during a scan of the pool `o`: the pool as it is by now, the entries kept and those still ahead. -/
structure Scanning (o p : Pool) (kept rest : List WaitEntry) : Prop where
  frame : { p with grants := o.grants } = o
  unfit : ∀ k ∈ kept, p.fits k.demand k.cls = none
  passes : (∀ e ∈ o.waits, e.passes ≤ 3) → ∀ e ∈ kept ++ rest, e.passes ≤ 3
  order : ((kept ++ rest).map (·.key)).Sublist (o.waits.map (·.key))
  figures : o.withinFigures = true → p.withinFigures = true
  reserves : (∀ c, (o.grants.filter (isReserveOf c)).length ≤ 1) → ∀ c, (p.grants.filter (isReserveOf c)).length ≤ 1
  machines : (p.grants.map (·.machine) ++ (kept ++ rest).map (·.machine)).Perm o.machines

/-- The entries kept have been passed once more (R59). -/
def passed (kept : List WaitEntry) : List WaitEntry := kept.map (fun k => { k with passes := k.passes + 1 })

variable {o p : Pool} {kept rest : List WaitEntry} {e : WaitEntry} {now : Nat}

theorem Scanning.start (o : Pool) : Scanning o o [] o.waits :=
  ⟨rfl, by simp, fun h => by simpa using h, by simp, id, id, by simp [Pool.machines]⟩

theorem Scanning.skip (h : Scanning o p kept (e :: rest)) (he : p.fits e.demand e.cls = none) :
    Scanning o p (kept ++ [e]) rest := by
  refine ⟨h.frame, ?_, fun ho => ?_, ?_, h.figures, h.reserves, ?_⟩
  · intro k hk
    rcases List.mem_append.mp hk with hk | hk
    · exact h.unfit k hk
    · rw [List.mem_singleton.mp hk]; exact he
  · simpa using h.passes ho
  · simpa using h.order
  · simpa using h.machines

theorem Scanning.grant (h : Scanning o p kept (e :: rest)) (h3 : ∀ k ∈ kept, k.passes < 3) {q : Portion}
    (hq : p.fits e.demand e.cls = some q) : Scanning o (p.granting (grantOf now e q)) (passed kept) rest := by
  refine ⟨h.frame, ?_, fun ho => ?_, ?_, fun ho => withinFigures_granting hq (h.figures ho),
    fun ho => reserves_granting hq (h.reserves ho), ?_⟩
  · intro k hk
    obtain ⟨x, hx, rfl⟩ := List.mem_map.mp hk
    exact fits_granting _ (h.unfit x hx)
  · intro x hx
    rcases List.mem_append.mp hx with hx | hx
    · obtain ⟨y, hy, rfl⟩ := List.mem_map.mp hx
      exact h3 y hy
    · exact h.passes ho x (by simp [hx])
  · have hkey : (passed kept).map (·.key) = kept.map (·.key) := by simp [passed, WaitEntry.key]
    rw [List.map_append, hkey, ← List.map_append]
    exact (List.Sublist.map _ (List.Sublist.append_left (List.sublist_cons_self e rest) kept)).trans h.order
  · have hmachine : (passed kept).map (·.machine) = kept.map (·.machine) := by simp [passed]
    refine List.Perm.trans ?_ h.machines
    simp only [Pool.granting, List.map_append, hmachine, List.map_cons, List.map_nil, grantOf, List.append_assoc]
    exact List.Perm.append_left _ (by simpa using (List.perm_middle (a := e.machine)).symm)

/-- A scan keeps every law of the grants and of the wait list, and ends where a second scan would grant nothing. -/
theorem scanFrom_scanning {l : List WaitEntry} (h : Scanning o p kept l) (h3 : ∀ k ∈ kept, k.passes < 3) :
    ∃ ks rs, (scanFrom now p kept l).waits = ks ++ rs ∧ Scanning o (scanFrom now p kept l).pool ks rs ∧
      (scanFrom now p kept l).pool.blocks (ks ++ rs) := by
  induction l generalizing p kept with
  | nil => exact ⟨kept, [], by simp [scanFrom], h, blocks_append h.unfit (.inr trivial)⟩
  | cons e rest ih =>
    unfold scanFrom
    split
    case h_1 q hq =>
      have hnext := h.grant (now := now) h3 hq
      dsimp only
      split
      case isTrue hstop =>
        refine ⟨passed kept, rest, rfl, hnext, blocks_append hnext.unfit (.inl ?_)⟩
        simpa [passed] using hstop
      case isFalse hgo =>
        refine ih hnext (fun k hk => ?_)
        by_contra hk3
        exact hgo (List.any_eq_true.mpr ⟨k, hk, decide_eq_true (by omega)⟩)
    case h_2 hq =>
      split
      case isTrue h3' => exact ⟨kept, e :: rest, rfl, h, blocks_append h.unfit (.inr ⟨hq, .inl h3'⟩)⟩
      case isFalse h3' =>
        refine ih (h.skip hq) ?_
        intro k hk
        rcases List.mem_append.mp hk with hk | hk
        · exact h3 k hk
        · rw [List.mem_singleton.mp hk]; omega

/-- A pool after its scan. -/
def Pool.scanned (now : Nat) (p : Pool) : Pool :=
  if p.mayScan then { (scanFrom now p [] p.waits).pool with waits := (scanFrom now p [] p.waits).waits } else p

/-- What a scan makes of a pool. -/
structure Scanned (o p : Pool) : Prop where
  settled : p.settled
  figures : o.lawful = true → p.lawful = true
  orderly : o.orderly → p.orderly
  machines : p.machines.Perm o.machines

theorem scanned_scanned (now : Nat) (o : Pool) : Scanned o (o.scanned now) := by
  unfold Pool.scanned
  split
  case isFalse hno => exact ⟨fun h => absurd h hno, id, id, List.Perm.refl _⟩
  case isTrue =>
    obtain ⟨ks, rs, hwaits, hscan, hblocks⟩ := scanFrom_scanning (now := now) (Scanning.start o) (by simp)
    have hover : (scanFrom now o [] o.waits).pool.overLimit = o.overLimit := by conv_rhs => rw [← hscan.frame]
    rw [hwaits]
    refine ⟨fun _ => scanFrom_granted_eq_nil.mpr ?_, ?_, ?_, hscan.machines⟩
    · exact blocks_waits.mpr hblocks
    · simp only [Pool.lawful, hover, Bool.or_eq_true]
      exact Or.imp_right hscan.figures
    · rintro ⟨hreserves, horder, hpasses⟩
      refine ⟨hscan.reserves hreserves, ?_, hscan.passes hpasses⟩
      rw [resumesFirst_iff] at horder ⊢
      exact horder.sublist hscan.order

theorem scanPool_pool (k : PoolId) (s : State) : (scanPool k s).pool k = (s.pool k).scanned s.now := by
  unfold scanPool Pool.scanned
  dsimp only
  split
  · rw [grants_pool, pool_setPool_self]
  · rfl

/-! ## Pools changed -/

theorem settled_iff (p : Pool) : p.settled ↔ (p.mayScan = true → p.blocks p.waits) :=
  imp_congr_right fun _ => scanFrom_granted_eq_nil

/-- A law waived besides. -/
def waiving (w : Law → Prop) (l : Law) : Law → Prop := fun m => w m ∨ m = l

variable {w : Law → Prop} {s t : State} {k : PoolId}

theorem KeepsLaws.waive {l : Law} (h : KeepsLaws w s t) : KeepsLaws (waiving w l) s t :=
  fun m hm => h m (fun hw => hm (.inl hw))

/-- The law waived besides holds in the end. -/
theorem KeepsLaws.mend {l : Law} (h : KeepsLaws (waiving w l) s t) (hl : l.holds s → l.holds t) : KeepsLaws w s t := by
  intro m hm
  by_cases he : m = l
  · exact he ▸ hl
  · exact h m (fun hw => hw.elim hm he)

/-- The pool beside a pool. -/
def PoolId.other : PoolId → PoolId
  | .electric => .water
  | .water => .electric

theorem PoolId.other_ne (k : PoolId) : k.other ≠ k := by cases k <;> simp [PoolId.other]

theorem poolsOrderly_iff (k : PoolId) (s : State) : s.poolsOrderly ↔
    (s.pool k).orderly ∧ (s.pool k.other).orderly ∧ ((s.pool k).machines ++ (s.pool k.other).machines).Nodup := by
  cases k with
  | electric => exact Iff.rfl
  | water =>
    rw [State.poolsOrderly, List.nodup_append_comm, and_left_comm]
    exact Iff.rfl

/-- One pool is replaced: each law of it holds after if it did before, and the machines with a grant or an entry stay apart
from those of the other pool. -/
theorem KeepsLaws.thenSetPool (h : KeepsLaws w s t) {p : Pool}
    (hfigures : ¬ w (.figures k) → (t.pool k).lawful = true → p.lawful = true)
    (hsettled : ¬ w (.settled k) → (t.pool k).settled → p.settled)
    (horderly : ¬ w .orderly → (t.pool k).orderly → p.orderly)
    (hmachines : ((t.pool k).machines ++ (t.pool k.other).machines).Nodup → (p.machines ++ (t.pool k.other).machines).Nodup) :
    KeepsLaws w s (t.setPool k p) := by
  refine h.trans (keeps_of_touches (touched_of (touches_setPool (ps := [.pools]) (by simp) k p))
    (List.forall_mem_cons.mpr ⟨?_, by simp⟩))
  refine ⟨fun j hj => ?_, fun j hj => ?_, fun ho => ?_⟩
  · by_cases hk : j = k
    · subst hk; rw [pool_setPool_self]; exact hfigures hj
    · rw [pool_setPool_other _ _ hk]; exact id
  · by_cases hk : j = k
    · subst hk; rw [pool_setPool_self]; exact hsettled hj
    · rw [pool_setPool_other _ _ hk]; exact id
  · rw [poolsOrderly_iff k, poolsOrderly_iff k, pool_setPool_self, pool_setPool_other _ _ k.other_ne]
    exact fun ⟨hown, hother, hn⟩ => ⟨horderly ho hown, hother, hmachines hn⟩

/-- The machines with a grant or an entry are some of those before. -/
theorem nodup_append_of_subperm {α : Type} {xs ys zs : List α} (h : xs.Subperm ys) (hn : (ys ++ zs).Nodup) :
    (xs ++ zs).Nodup := by
  obtain ⟨l, hperm, hsub⟩ := h
  exact (hperm.append_right zs).nodup_iff.mp (hn.sublist (hsub.append_right zs))

theorem KeepsLaws.thenStartPhase (h : KeepsLaws w s t) {a : Addr} : KeepsLaws w s (startPhase a t) := by
  unfold startPhase
  split
  · exact h
  · split
    · exact h
    · exact h.thenModifyCycle.thenPost

theorem KeepsLaws.thenResumePhase (h : KeepsLaws w s t) {a : Addr} : KeepsLaws w s (resumePhase a t) :=
  h.thenModifyCycle.thenPost

theorem KeepsLaws.thenStartServicePhase (h : KeepsLaws w s t) : KeepsLaws w s (startServicePhase t) := by
  unfold startServicePhase
  split
  · exact h
  · split
    · exact h
    · exact h.thenSession.thenPost.thenRaise

theorem KeepsLaws.thenStartSubtest (h : KeepsLaws w s t) {a : Addr} : KeepsLaws w s (startSubtest a t) := by
  unfold startSubtest
  split
  · exact h
  · exact h.thenModifyRun.thenPost

theorem KeepsLaws.thenDeliverGrant (h : KeepsLaws w s t) {e : WaitEntry} : KeepsLaws w s (deliverGrant t e) := by
  unfold deliverGrant
  split
  · exact h.thenStartPhase
  · exact h.thenResumePhase
  · exact h.thenStartServicePhase
  · exact h.thenStartSubtest

theorem scanPool_eq (k : PoolId) (s : State) : scanPool k s =
    if (s.pool k).mayScan then
      (scanFrom s.now (s.pool k) [] (s.pool k).waits).granted.foldl deliverGrant (s.setPool k ((s.pool k).scanned s.now))
    else s := by
  unfold scanPool Pool.scanned
  dsimp only
  split <;> simp_all

theorem KeepsLaws.thenScanPool (h : KeepsLaws w s t) : KeepsLaws w s (scanPool k t) := by
  have hscan := scanned_scanned t.now (t.pool k)
  have hpool : KeepsLaws w s (t.setPool k ((t.pool k).scanned t.now)) :=
    h.thenSetPool (fun _ => hscan.figures) (fun _ _ => hscan.settled) (fun _ => hscan.orderly)
      (nodup_append_of_subperm hscan.machines.subperm)
  rw [scanPool_eq]
  exact .ite (hpool.trans (KeepsLaws.foldl (fun u e => (KeepsLaws.refl w u).thenDeliverGrant) _ _)) h

/-- A scan at the end mends what was left unscanned. -/
theorem KeepsLaws.thenScanMends (h : KeepsLaws (waiving w (.settled k)) s t) : KeepsLaws w s (scanPool k t) :=
  h.thenScanPool.mend fun _ => by
    show ((scanPool k t).pool k).settled
    rw [scanPool_pool]
    exact (scanned_scanned _ _).settled

/-! ## Figures that do not read what has changed -/

/-- Two pools alike in what the laws read, the flags of OVER_LIMIT and halt apart. -/
structure SameFigures (p q : Pool) : Prop where
  limit : q.limit = p.limit
  washer : q.reqWasher = p.reqWasher
  dryer : q.reqDryer = p.reqDryer
  grants : q.grants.map (fun g => (g.amount, g.portion)) = p.grants.map (fun g => (g.amount, g.portion))

theorem grantSum_map (f : Nat × Portion → Bool) (gs : List Grant) :
    grantSum (fun g => f (g.amount, g.portion)) gs = (((gs.map (fun g => (g.amount, g.portion))).filter f).map (·.1)).sum := by
  induction gs with
  | nil => rfl
  | cons g gs ih =>
    by_cases hg : f (g.amount, g.portion) = true <;> simp [grantSum, ih, hg]

theorem filter_isReserveOf_length (c : MachineClass) (gs : List Grant) : (gs.filter (isReserveOf c)).length =
    ((gs.map (fun g => (g.amount, g.portion))).filter (fun x => x.2 = reservePortion c)).length := by
  rw [List.filter_map, List.length_map]
  rfl

theorem SameFigures.effReserve {p q : Pool} (h : SameFigures p q) (c : MachineClass) : q.effReserve c = p.effReserve c := by
  cases c <;> simp [Pool.effReserve, Pool.effWasher, Pool.effDryer, h.limit, h.washer, h.dryer]

theorem SameFigures.sharedPortion {p q : Pool} (h : SameFigures p q) : q.sharedPortion = p.sharedPortion := by
  simp [Pool.sharedPortion, Pool.effWasher, Pool.effDryer, h.limit, h.washer, h.dryer]

theorem SameFigures.sharedGranted {p q : Pool} (h : SameFigures p q) : q.sharedGranted = p.sharedGranted := by
  have hsum := grantSum_map (fun x => x.2 = .shared)
  exact (hsum q.grants).trans ((by rw [h.grants]) : _ = _) |>.trans (hsum p.grants).symm

theorem reserveGrant_isSome (p : Pool) (c : MachineClass) : (p.reserveGrant c).isSome = true ↔
    (p.grants.filter (isReserveOf c)).length ≠ 0 := by
  rw [Pool.reserveGrant, List.find?_isSome, Ne, List.length_eq_zero_iff, List.filter_eq_nil_iff]
  push Not
  rfl

theorem SameFigures.fits {p q : Pool} (h : SameFigures p q) (d : Nat) (c : MachineClass) : q.fits d c = p.fits d c := by
  have hreserve : (q.reserveGrant c).isNone = (p.reserveGrant c).isNone := by
    have := (reserveGrant_isSome q c).trans (iff_of_eq (congrArg (· ≠ 0) (by
      rw [filter_isReserveOf_length, h.grants, ← filter_isReserveOf_length]))) |>.trans (reserveGrant_isSome p c).symm
    cases hq : q.reserveGrant c <;> cases hp : p.reserveGrant c <;> simp_all
  simp only [Pool.fits, h.sharedGranted, h.sharedPortion, hreserve, h.effReserve]

theorem reserveWithin_iff_map (p : Pool) (c : MachineClass) : reserveWithin p c = true ↔
    ∀ x ∈ p.grants.map (fun g => (g.amount, g.portion)), x.2 = reservePortion c → x.1 ≤ p.effReserve c := by
  rw [reserveWithin_iff, List.forall_mem_map]
  simp [isReserveOf]

theorem SameFigures.withinFigures {p q : Pool} (h : SameFigures p q) : q.withinFigures = p.withinFigures := by
  have hreserve : ∀ c, reserveWithin q c = reserveWithin p c := fun c => by
    rw [Bool.eq_iff_iff, reserveWithin_iff_map, reserveWithin_iff_map, h.grants, h.effReserve]
  simp only [Pool.withinFigures, h.sharedGranted, h.sharedPortion, hreserve]

/-- A pool replaced by one of the same figures with the same wait list and the same machines. -/
theorem KeepsLaws.thenSamePool (h : KeepsLaws w s t) {p : Pool} (hp : SameFigures (t.pool k) p)
    (hrest : p.waits = (t.pool k).waits ∧ p.overLimit = (t.pool k).overLimit ∧ p.halted = (t.pool k).halted)
    (hgrants : p.grants.map (·.machine) = (t.pool k).grants.map (·.machine)) : KeepsLaws w s (t.setPool k p) := by
  obtain ⟨hwaits, hover, hhalted⟩ := hrest
  refine h.thenSetPool (fun _ => ?_) (fun _ => ?_) (fun _ => ?_) ?_
  · simp only [Pool.lawful, hp.withinFigures, hover]; exact id
  · rw [settled_iff, settled_iff, hwaits, Pool.mayScan, Pool.mayScan, hover, hhalted, blocks_congr hp.fits]; exact id
  · simp only [Pool.orderly, hwaits, filter_isReserveOf_length, hp.grants]; exact id
  · simp only [Pool.machines, hgrants, hwaits]; exact id

theorem KeepsLaws.thenModifyStats (h : KeepsLaws w s t) {f : PoolStats → PoolStats} : KeepsLaws w s (modifyStats k f t) :=
  h.thenSamePool ⟨rfl, rfl, rfl, rfl⟩ ⟨rfl, rfl, rfl⟩ rfl

theorem KeepsLaws.thenClearStats (h : KeepsLaws w s t) : KeepsLaws w s (clearStats k t) := h.thenSamePool ⟨rfl, rfl, rfl, rfl⟩ ⟨rfl, rfl, rfl⟩ rfl

theorem KeepsLaws.thenCountWait (h : KeepsLaws w s t) {a : Addr} : KeepsLaws w s (countWait k a t) :=
  .ite h.thenModifyStats h

/-- Grants changed in what the laws do not read. -/
theorem map_grants {α : Type} (v : Grant → α) {f : Grant → Grant} (hf : ∀ g, v (f g) = v g) (gs : List Grant) :
    (gs.map f).map v = gs.map v := by
  rw [List.map_map]
  exact List.map_congr_left fun g _ => hf g

theorem KeepsLaws.thenMarkFrom (h : KeepsLaws w s t) {a : Addr} : KeepsLaws w s (markFrom k a t) :=
  .ite (h.thenSamePool ⟨rfl, rfl, rfl, map_grants _ (fun g => by split <;> rfl) _⟩ ⟨rfl, rfl, rfl⟩
    (map_grants _ (fun g => by split <;> rfl) _)) h

theorem KeepsLaws.thenMarkGrant (h : KeepsLaws w s t) {a : Addr} : KeepsLaws w s (markGrant a t) := h.thenMarkFrom.thenMarkFrom

theorem KeepsLaws.thenClearSuspendDeadline (h : KeepsLaws w s t) {a : Addr} : KeepsLaws w s (clearSuspendDeadline k a t) :=
  h.thenSamePool ⟨rfl, rfl, rfl, map_grants _ (fun g => by split <;> rfl) _⟩ ⟨rfl, rfl, rfl⟩
    (map_grants _ (fun g => by split <;> rfl) _)

/-! ## Requests, releases, withdrawals -/

theorem KeepsLaws.thenLeaveOverLimit (h : KeepsLaws (waiving w (.settled k)) s t) :
    KeepsLaws (waiving w (.settled k)) s (leaveOverLimit k t) := by
  unfold leaveOverLimit
  dsimp only
  split
  case isTrue hin =>
    refine (h.thenSetPool (fun _ _ => ?_) (fun hw => absurd (.inr rfl) hw) (by exact fun _ => id) (by exact id)).thenRaise
    rw [Bool.and_eq_true] at hin
    simp only [Pool.lawful, Bool.false_or]
    exact hin.2
  case isFalse => exact h

theorem grantSum_filter_le (f : Grant → Bool) (p : Grant → Bool) (gs : List Grant) :
    grantSum f (gs.filter p) ≤ grantSum f gs := by
  induction gs with
  | nil => exact le_refl _
  | cons g gs ih =>
    rw [List.filter_cons]
    split <;> simp only [grantSum] <;> omega

/-- R63: with a grant less a pool within its figures stays so. -/
theorem lawful_withoutMachine {p : Pool} (a : Addr) (ws : List WaitEntry) (h : p.lawful = true) :
    ({ p with grants := withoutMachine a p.grants, waits := ws } : Pool).lawful = true := by
  simp only [Pool.lawful, Bool.or_eq_true] at h ⊢
  refine h.imp_right fun hin => ?_
  simp only [Pool.withinFigures, Bool.and_eq_true, decide_eq_true_eq, reserveWithin_iff] at hin ⊢
  obtain ⟨⟨hshared, hwasher⟩, hdryer⟩ := hin
  have hsub := List.filter_subset_self (p := fun g : Grant => !decide (g.machine = a)) p.grants
  exact ⟨⟨(grantSum_filter_le _ _ _).trans hshared, fun g hg => hwasher g (hsub hg)⟩, fun g hg => hdryer g (hsub hg)⟩

theorem reserves_withoutMachine {p : Pool} (a : Addr) (h : ∀ c, (p.grants.filter (isReserveOf c)).length ≤ 1)
    (c : MachineClass) : ((withoutMachine a p.grants).filter (isReserveOf c)).length ≤ 1 :=
  ((List.filter_sublist.filter _).length_le).trans (h c)

theorem KeepsLaws.thenReleaseFrom (h : KeepsLaws w s t) {a : Addr} : KeepsLaws w s (releaseFrom k a t) := by
  refine .ite (KeepsLaws.thenLeaveOverLimit ?_).thenScanMends h
  refine h.waive.thenSetPool (fun _ => lawful_withoutMachine a _) (fun hw => absurd (.inr rfl) hw)
    (fun _ ho => ⟨reserves_withoutMachine a ho.1, ho.2⟩) (nodup_append_of_subperm ?_)
  exact ((List.filter_sublist.map _).append_right _).subperm

theorem KeepsLaws.thenReleaseGrant (h : KeepsLaws w s t) {a : Addr} : KeepsLaws w s (releaseGrant a t) :=
  h.thenReleaseFrom.thenReleaseFrom

/-- Entries that leave a wait list. -/
theorem orderly_filter {p : Pool} (q : WaitEntry → Bool) (h : p.orderly) :
    ({ p with waits := p.waits.filter q } : Pool).orderly := by
  obtain ⟨hreserves, horder, hpasses⟩ := h
  rw [resumesFirst_iff] at horder
  exact ⟨hreserves, (resumesFirst_iff _).mpr (horder.sublist (List.filter_sublist.map _)),
    fun e he => hpasses e (List.mem_of_mem_filter he)⟩

/-- Entries leave a wait list, which is to be scanned yet. -/
theorem KeepsLaws.thenFilterWaits (h : KeepsLaws (waiving w (.settled k)) s t) {q : WaitEntry → Bool} {x : PoolStats} :
    KeepsLaws (waiving w (.settled k)) s
      (t.setPool k { t.pool k with waits := (t.pool k).waits.filter q, stats := x }) := by
  refine h.thenSetPool (fun _ => id) (fun hw => absurd (.inr rfl) hw) (fun _ ho => orderly_filter q ho)
    (nodup_append_of_subperm ?_)
  exact ((List.filter_sublist.map _).append_left _).subperm

theorem KeepsLaws.thenWithdrawFrom (h : KeepsLaws w s t) {a : Addr} : KeepsLaws w s (withdrawFrom k a t) :=
  .ite h.waive.thenFilterWaits.thenScanMends h

theorem KeepsLaws.thenWithdrawEntry (h : KeepsLaws w s t) {a : Addr} : KeepsLaws w s (withdrawEntry a t) :=
  h.thenWithdrawFrom.thenWithdrawFrom

/-- A machine asks once (R61): its entry, which is no resume, joins the tail of a wait list. -/
theorem KeepsLaws.thenRequestGrant (h : KeepsLaws w s t) {a : Addr} {purpose : Purpose} {demand : Nat} {suspendable : Bool}
    (hp : purpose ≠ .resume) : KeepsLaws w s (requestGrant k a purpose demand suspendable t) := by
  unfold requestGrant
  split
  case isTrue => exact h
  case isFalse hfree =>
    refine (KeepsLaws.thenScanMends ?_).thenCountWait
    have hnew : ∀ j, a ∉ (t.pool j).machines := by
      intro j
      simp only [Pool.holdsGrant, Pool.hasEntry, Bool.or_eq_true, List.any_eq_true, decide_eq_true_eq, not_or, not_exists,
        not_and, beq_iff_eq] at hfree
      obtain ⟨⟨⟨⟨heg, hee⟩, hwg⟩, hwe⟩, -⟩ := hfree
      cases j <;> simp_all [Pool.machines, State.pool]
    refine h.waive.thenSetPool (fun _ => id) (fun hw => absurd (.inr rfl) hw) (fun _ ho => ?_) (fun hn => ?_)
    · obtain ⟨hreserves, horder, hpasses⟩ := ho
      rw [resumesFirst_iff] at horder
      refine ⟨hreserves, (resumesFirst_iff _).mpr ?_, ?_⟩
      · rw [List.map_append, List.pairwise_append]
        exact ⟨horder, by simp, by simp [mayPrecede, WaitEntry.key, hp]⟩
      · simpa [or_imp, forall_and] using hpasses
    · have hcons : (a :: ((t.pool k).machines ++ (t.pool k.other).machines)).Nodup :=
        List.nodup_cons.mpr ⟨by simp [hnew k, hnew k.other], hn⟩
      refine (List.Perm.nodup_iff ?_).mpr hcons
      simp only [Pool.machines, List.map_append, List.map_cons, List.map_nil, List.append_assoc, List.singleton_append]
      rw [← List.append_assoc, ← List.append_assoc]
      exact List.perm_middle

/-- R58: a resume entry stands in the resume run at its suspension number. -/
theorem insertResume_order {e : WaitEntry} (he : e.purpose = .resume) {ws : List WaitEntry}
    (h : (ws.map (·.key)).Pairwise mayPrecede) : ((insertResume e ws).map (·.key)).Pairwise mayPrecede := by
  induction ws with
  | nil => simp [insertResume]
  | cons x xs ih =>
    rw [List.map_cons, List.pairwise_cons] at h
    unfold insertResume
    split
    case isTrue hx =>
      rw [List.map_cons, List.pairwise_cons]
      refine ⟨fun y hy => ?_, ih h.2⟩
      have hmem : ∀ ys : List WaitEntry, y ∈ (insertResume e ys).map (·.key) → y = e.key ∨ y ∈ ys.map (·.key) := by
        intro ys
        induction ys with
        | nil => simp [insertResume]
        | cons z zs ihz =>
          unfold insertResume
          split
          · simp only [List.map_cons, List.mem_cons]
            rintro (hz | hz)
            · exact .inr (.inl hz)
            · exact (ihz hz).imp_right .inr
          · simp
      rcases hmem xs hy with rfl | hy
      · exact .inr hx
      · exact h.1 y hy
    case isFalse hx =>
      rw [List.map_cons, List.map_cons, List.pairwise_cons, List.pairwise_cons]
      refine ⟨fun y hy => ?_, h⟩
      have hx' : x.purpose = .resume → e.number.getD 0 < x.number.getD 0 := fun hr => by
        by_contra hlt
        exact hx ⟨hr, by omega⟩
      rcases List.mem_cons.mp hy with rfl | hy
      · by_cases hr : x.purpose = .resume
        · exact .inr ⟨he, (hx' hr).le⟩
        · exact .inl hr
      · rcases h.1 y hy with hn | ⟨hr, hle⟩
        · exact .inl hn
        · exact .inr ⟨he, (hx' hr).le.trans hle⟩

theorem insertResume_perm (e : WaitEntry) (ws : List WaitEntry) : (insertResume e ws).Perm (e :: ws) := by
  induction ws with
  | nil => exact List.Perm.refl _
  | cons x xs ih =>
    unfold insertResume
    split
    · exact (ih.cons x).trans (List.Perm.swap e x xs)
    · exact List.Perm.refl _

theorem KeepsLaws.thenResumeFrom (h : KeepsLaws w s t) {a : Addr} : KeepsLaws w s (resumeFrom k a t) := by
  unfold resumeFrom
  dsimp only
  split
  case h_1 => exact h
  case h_2 g hg =>
    refine (KeepsLaws.thenScanMends (KeepsLaws.thenLeaveOverLimit ?_)).thenCountWait
    refine h.waive.thenSetPool (fun _ => lawful_withoutMachine a _) (fun hw => absurd (.inr rfl) hw) (fun _ ho => ?_)
      (nodup_append_of_subperm ?_)
    · obtain ⟨hreserves, horder, hpasses⟩ := ho
      rw [resumesFirst_iff] at horder
      refine ⟨reserves_withoutMachine a hreserves, (resumesFirst_iff _).mpr (insertResume_order rfl horder), ?_⟩
      intro e he
      rcases List.mem_cons.mp ((insertResume_perm _ _).subset he) with rfl | he
      · exact Nat.zero_le 3
      · exact hpasses e he
    · have hown := List.find?_some hg
      have hmem : a ∈ ((t.pool k).grants.filter (fun x => decide (x.machine = a))).map (·.machine) :=
        List.mem_map.mpr ⟨g, List.mem_filter.mpr ⟨List.mem_of_find?_eq_some hg, hown⟩, of_decide_eq_true hown⟩
      have hgrants : (a :: (withoutMachine a (t.pool k).grants).map (·.machine)).Subperm
          ((t.pool k).grants.map (·.machine)) := by
        have hsplit := (List.filter_append_perm (fun x : Grant => decide (x.machine = a)) (t.pool k).grants).map (·.machine)
        rw [List.map_append] at hsplit
        exact (((List.singleton_sublist.mpr hmem).append_right _).subperm).trans hsplit.subperm
      refine List.Subperm.trans (List.Perm.subperm ?_) ((List.subperm_append_right _).mpr hgrants)
      exact (List.Perm.append_left _ ((insertResume_perm _ _).map _)).trans List.perm_middle

theorem KeepsLaws.thenAskResume (h : KeepsLaws w s t) {a : Addr} : KeepsLaws w s (askResume a t) :=
  .ite h.thenResumeFrom h.thenResumeFrom

theorem KeepsLaws.thenTellPool (h : KeepsLaws w s t) {halted : Bool} : KeepsLaws w s (tellPool k halted t) :=
  (h.waive.thenSetPool (by exact fun _ => id) (fun hw => absurd (.inr rfl) hw) (by exact fun _ => id)
    (by exact id)).thenScanMends

end Sys2Proof.Machine

/-! PROOF. The laws of the cards in use and of the refund accounts, kept by the operations of the stations, of the doubts and
of the charges (4.4 to 4.11, chapter 5). -/

namespace Sys2Proof.Machine

variable {w : Law → Prop} {s t : State} {i : StationId}

/-! ## Station records -/

theorem holdsCard_eq (card : Nat) (x : Station) : holdsCard card x = (x.accepted && decide (x.card = some card)) := rfl

theorem distinctDoubts_iff (ds : List Doubt) : distinctDoubts ds = true ↔ (ds.map (·.debit.card)).Nodup := by
  induction ds with
  | nil => simp [distinctDoubts]
  | cons d ds ih =>
    simp only [distinctDoubts, Bool.and_eq_true, ih, List.map_cons, List.nodup_cons, List.mem_map, not_exists, not_and,
      List.all_eq_true, bne_iff_ne, ne_eq]

/-- Where no card comes into use, and no doubt is made, the cards in use stay so. -/
theorem cardsLawful_of_free {s t : State} (hd : t.doubts.Sublist s.doubts)
    (hfree : ∀ i card, holdsCard card (s.station i) = false → holdsCard card (t.station i) = false) (h : s.cardsLawful) :
    t.cardsLawful := by
  obtain ⟨hlen, hdistinct, hcards⟩ := h
  have hheld : ∀ i card, holdsCard card (t.station i) = true → holdsCard card (s.station i) = true := fun i card ht => by
    by_contra hs
    rw [hfree i card (Bool.eq_false_iff.mpr hs)] at ht
    exact absurd ht (by simp)
  rw [distinctDoubts_iff] at hdistinct
  refine ⟨hd.length_le.trans hlen, (distinctDoubts_iff _).mpr (hdistinct.sublist (hd.map _)), fun card => ⟨?_, ?_⟩⟩
  · exact fun hab => (hcards card).1 ⟨hheld .a card hab.1, hheld .b card hab.2⟩
  · intro hab
    have hnone := (hcards card).2 (hab.imp (hheld .a card) (hheld .b card))
    rw [List.all_eq_true] at hnone ⊢
    exact fun d hd' => hnone d (hd.subset hd')

/-- A card may come into use at a station. -/
def useWaived (w : Law → Prop) (i : StationId) : Prop := w .cards ∧ ∀ card, w (.free i card)

/-- A station record replaced, each law of it waived or kept. -/
theorem KeepsLaws.thenSetStation (h : KeepsLaws w s t) {x : Station}
    (hfree : useWaived w i ∨ ∀ card, holdsCard card (t.station i) = false → holdsCard card x = false)
    (haccepted : ¬ w (.accepted i) → (t.station i).accepted = true → x.accepted = true)
    (hcard : ∀ card, ¬ w (.cardAt i card) → (t.station i).card = some card → x.card = some card) : KeepsLaws w s (t.setStation i x) := by
  have hother : ∀ j, j ≠ i → (t.setStation i x).station j = t.station j := fun j hj => station_setStation_other t x hj
  have hall : (∀ card, holdsCard card (t.station i) = false → holdsCard card x = false) → ∀ j card,
      holdsCard card (t.station j) = false → holdsCard card ((t.setStation i x).station j) = false := by
    intro hfree j card
    by_cases hj : j = i
    · subst hj; rw [station_setStation_self]; exact hfree card
    · rw [hother j hj]; exact id
  have hdoubts : (t.setStation i x).doubts = t.doubts := by simp
  refine h.trans (keeps_of_touches (touched_of (touches_setStation (ps := [.stations]) (by simp) i x))
    (List.forall_mem_cons.mpr ⟨?_, by simp⟩))
  refine ⟨fun hw => ?_, fun j card hw => ?_, fun card _ => by rw [hdoubts]; exact id, fun j hj => ?_, fun j card hj => ?_⟩
  · exact cardsLawful_of_free (by rw [hdoubts]) (hall (hfree.resolve_left fun hwaived => hw hwaived.1))
  · by_cases hj : j = i
    · subst hj; exact hall (hfree.resolve_left fun hwaived => hw (hwaived.2 card)) j card
    · rw [hother j hj]; exact id
  · by_cases he : j = i
    · subst he; rw [station_setStation_self]; exact haccepted hj
    · rw [hother j he]; exact id
  · by_cases he : j = i
    · subst he
      rw [station_setStation_self]
      exact hcard card hj
    · rw [hother j he]; exact id

/-- A station record changed but for its card and for whether that is accepted. -/
theorem KeepsLaws.thenSameCard (h : KeepsLaws w s t) {x : Station} (hcard : x.card = (t.station i).card)
    (haccepted : x.accepted = (t.station i).accepted) : KeepsLaws w s (t.setStation i x) :=
  h.thenSetStation (.inr fun card => by rw [holdsCard_eq, holdsCard_eq, hcard, haccepted]; exact id)
    (fun _ => by rw [haccepted]; exact id) (fun card _ => by rw [hcard]; exact id)

/-- A record that ends ready or busy with the card it had, which was accepted already or comes into use now. -/
theorem KeepsLaws.thenAccepted (h : KeepsLaws w s t) {x : Station} (hi : useWaived w i ∨ (t.station i).accepted = true)
    (hx : x.accepted = true) (hcard : x.card = (t.station i).card) : KeepsLaws w s (t.setStation i x) :=
  h.thenSetStation (hi.imp_right fun hi card => by rw [holdsCard_eq, holdsCard_eq, hcard, hi, hx]; exact id) (fun _ _ => hx)
    (fun card _ => by rw [hcard]; exact id)

theorem KeepsLaws.thenDisplay (h : KeepsLaws w s t) {m : Message} : KeepsLaws w s (display i m t) :=
  h.thenSameCard rfl rfl

theorem KeepsLaws.thenClearPanel (h : KeepsLaws w s t) : KeepsLaws w s (clearPanel i t) :=
  h.thenSameCard rfl rfl

theorem KeepsLaws.thenPanelError (h : KeepsLaws w s t) : KeepsLaws w s (panelError i t) := h.thenDisplay

theorem KeepsLaws.thenBeginReading (h : KeepsLaws w s t) : KeepsLaws w s (beginReading i t) := by
  unfold beginReading
  dsimp only
  split
  case isTrue hc =>
    refine h.thenSameCard (by rfl) ?_
    simp [Station.accepted, busyStation, hc.1]
  case isFalse => exact h

/-- A record becomes EMPTY, and the card of its station leaves use. -/
theorem KeepsLaws.thenEmptied (h : KeepsLaws w s t) {awaiting : Bool} (hw : ∀ l, l.passing → w l) :
    KeepsLaws w s (modifyStation i (emptied awaiting) t) :=
  h.thenSetStation (.inr fun _ _ => rfl) (fun h => absurd (hw (.accepted i) trivial) h)
    (fun card h => absurd (hw (.cardAt i card) trivial) h)

theorem KeepsLaws.thenEndCardWaiving (h : KeepsLaws w s t) {awaiting : Bool} {code : Nat} (hw : ∀ l, l.passing → w l) :
    KeepsLaws w s (endCard i awaiting code t) := (h.thenEmptied hw).thenDisplay

theorem KeepsLaws.thenEndCard (h : KeepsLaws Law.passing s t) {awaiting : Bool} {code : Nat} :
    KeepsLaws Law.passing s (endCard i awaiting code t) := h.thenEndCardWaiving fun _ => id

/-! ## The refund table -/

/-- What the law of the refund table says of a list of entries (5.4, R114). -/
def lawfulRefunds (es : List RefundEntry) : Prop :=
  es.length ≤ 32 ∧ (∀ e ∈ es, e.position < 32) ∧ (es.map (·.card)).Nodup ∧ (es.map (·.position)).Nodup

theorem distinctRefunds_iff (es : List RefundEntry) :
    distinctRefunds es = true ↔ (es.map (·.card)).Nodup ∧ (es.map (·.position)).Nodup := by
  induction es with
  | nil => simp [distinctRefunds]
  | cons e es ih =>
    simp only [distinctRefunds, Bool.and_eq_true, ih, List.map_cons, List.nodup_cons, List.mem_map, not_exists, not_and,
      List.all_eq_true, bne_iff_ne, ne_eq, forall_and]
    tauto

theorem refundsLawful_iff (s : State) : s.refundsLawful = true ↔ lawfulRefunds s.refunds := by
  simp [State.refundsLawful, distinctRefunds_iff, lawfulRefunds, Config.refundEntries, and_assoc]

theorem refundSum_modifyFirst {p : RefundEntry → Bool} {f : RefundEntry → RefundEntry} {es : List RefundEntry} {e : RefundEntry}
    (h : es.find? p = some e) : refundSum (modifyFirst p f es) + e.amount = refundSum es + (f e).amount := by
  induction es with
  | nil => cases h
  | cons x xs ih =>
    unfold modifyFirst
    rw [List.find?_cons] at h
    split at h
    case h_1 hx => cases h; simp only [hx, if_true, refundSum]; omega
    case h_2 hx => have := ih h; simp only [hx, Bool.false_eq_true, if_false, refundSum]; omega

theorem refundSum_eraseP {p : RefundEntry → Bool} {es : List RefundEntry} {e : RefundEntry} (h : es.find? p = some e) :
    refundSum (es.eraseP p) + e.amount = refundSum es := by
  induction es with
  | nil => cases h
  | cons x xs ih =>
    rw [List.find?_cons] at h
    split at h
    case h_1 hx => cases h; simp only [List.eraseP_cons, hx, if_true, cond_true, refundSum]; omega
    case h_2 hx => have := ih h; simp only [List.eraseP_cons, hx, cond_false, refundSum]; omega

theorem refundSum_append (es fs : List RefundEntry) : refundSum (es ++ fs) = refundSum es + refundSum fs := by
  simp [refundSum_eq_sum]

/-- Entries change but for their amounts. -/
theorem refundSum_modifyFirst_same (p : RefundEntry → Bool) {f : RefundEntry → RefundEntry}
    (hf : ∀ e, (f e).amount = e.amount) (es : List RefundEntry) : refundSum (modifyFirst p f es) = refundSum es := by
  rw [refundSum_eq_sum, refundSum_eq_sum, modifyFirst_map _ p f hf]

theorem lawfulRefunds_modifyFirst {p : RefundEntry → Bool} {f : RefundEntry → RefundEntry} {es : List RefundEntry}
    (hc : ∀ e, (f e).card = e.card) (hp : ∀ e, (f e).position = e.position) (h : lawfulRefunds es) :
    lawfulRefunds (modifyFirst p f es) := by
  have hlen := congrArg List.length (modifyFirst_map (·.card) p f hc es)
  simp only [List.length_map] at hlen
  obtain ⟨hle, hlt, hcards, hpositions⟩ := h
  refine ⟨by omega, ?_, by rwa [modifyFirst_map _ p f hc], by rwa [modifyFirst_map _ p f hp]⟩
  have := List.forall_mem_map (f := RefundEntry.position) (l := modifyFirst p f es) (P := (· < 32))
  rw [← this, modifyFirst_map _ p f hp, List.forall_mem_map]
  exact hlt

theorem lawfulRefunds_sublist {es fs : List RefundEntry} (hs : fs.Sublist es) (h : lawfulRefunds es) : lawfulRefunds fs := by
  obtain ⟨hle, hlt, hcards, hpositions⟩ := h
  exact ⟨hs.length_le.trans hle, fun e he => hlt e (hs.subset he), hcards.sublist (hs.map _), hpositions.sublist (hs.map _)⟩

/-- The refund table and the audit totals replaced, each law of them waived or kept. -/
theorem KeepsLaws.thenSetMoney (h : KeepsLaws w s t) {es : List RefundEntry} {x : Audit}
    (hsum : ¬ w .accounts → accountsOwe 0 t.refunds t.audit → accountsOwe 0 es x)
    (hlawful : lawfulRefunds t.refunds → lawfulRefunds es) : KeepsLaws w s { t with refunds := es, audit := x } := by
  refine h.trans (keeps_of_touches (ps := [.money]) (fun p hp => ?_)
    (List.forall_mem_cons.mpr ⟨⟨hsum, ?_⟩, by simp⟩))
  · cases p <;> simp_all [Same, samePort]
  · rw [refundsLawful_iff, refundsLawful_iff]
    exact hlawful

/-- The four totals of an audit record that the balance reads (R123). -/
def Audit.totals (x : Audit) : Nat × Nat × Nat × Nat := (x.issued, x.credited, x.unplaced, x.cancelled)

theorem accountsOwe_congr {n : Nat} {x y : Audit} {es fs : List RefundEntry} (ha : y.totals = x.totals)
    (hr : refundSum fs = refundSum es) (h : accountsOwe n es x) : accountsOwe n fs y := by
  simp only [Audit.totals, Prod.mk.injEq] at ha
  obtain ⟨hi, hc, hu, hx⟩ := ha
  simpa only [accountsOwe, hi, hc, hu, hx, hr] using h

/-- The audit totals change, those of the balance only where its law is waived. -/
theorem KeepsLaws.thenModifyAudit (h : KeepsLaws w s t) {f : Audit → Audit}
    (hf : ¬ w .accounts → ∀ x, (f x).totals = x.totals) : KeepsLaws w s (modifyAudit f t) :=
  h.thenSetMoney (es := t.refunds) (fun hw => accountsOwe_congr (hf hw _) rfl) id

theorem KeepsLaws.thenCountCharged (h : KeepsLaws w s t) {n : Nat} : KeepsLaws w s (countCharged n t) :=
  h.thenModifyAudit fun _ _ => rfl

theorem KeepsLaws.thenCountDebitUnresolved (h : KeepsLaws w s t) : KeepsLaws w s (countDebitUnresolved t) :=
  h.thenModifyAudit fun _ _ => rfl

theorem KeepsLaws.thenCountCreditUnresolved (h : KeepsLaws w s t) : KeepsLaws w s (countCreditUnresolved t) :=
  h.thenModifyAudit fun _ _ => rfl

/-- An entry of the refund table changes but for its card, its position and its amount. -/
theorem KeepsLaws.thenMarkRefund (h : KeepsLaws w s t) {p : RefundEntry → Bool} {f : RefundEntry → RefundEntry}
    (hf : ∀ e, (f e).card = e.card ∧ (f e).position = e.position ∧ (f e).amount = e.amount) :
    KeepsLaws w s { t with refunds := modifyFirst p f t.refunds } :=
  h.thenSetMoney (x := t.audit) (fun _ => accountsOwe_congr rfl (refundSum_modifyFirst_same p (fun e => (hf e).2.2) _))
    (lawfulRefunds_modifyFirst (fun e => (hf e).1) (fun e => (hf e).2.1))

/-- The refund table changes, its sum only where the law of the accounts is waived. -/
theorem KeepsLaws.thenModifyRefunds (h : KeepsLaws w s t) {f : List RefundEntry → List RefundEntry}
    (hf : ¬ w .accounts → refundSum (f t.refunds) = refundSum t.refunds)
    (hlawful : lawfulRefunds t.refunds → lawfulRefunds (f t.refunds)) : KeepsLaws w s (modifyRefunds f t) :=
  (h.thenSetMoney (x := t.audit) (fun hw => accountsOwe_congr rfl (hf hw)) hlawful).thenRaise

theorem KeepsLaws.thenUpdateRefund (h : KeepsLaws w s t) {card : Nat} {f : RefundEntry → RefundEntry}
    (hf : ∀ e, (f e).card = e.card ∧ (f e).position = e.position ∧ (f e).amount = e.amount) : KeepsLaws w s (updateRefund card f t) :=
  (h.thenMarkRefund hf).thenRaise

theorem KeepsLaws.thenCreditFailed (h : KeepsLaws w s t) {card : Nat} : KeepsLaws w s (creditFailed card t) :=
  h.thenMarkRefund (by simp)

theorem KeepsLaws.thenCreditVoid (h : KeepsLaws w s t) {card : Nat} : KeepsLaws w s (creditVoid card t) :=
  h.thenUpdateRefund (by simp)

theorem KeepsLaws.thenCreditTorn (h : KeepsLaws w s t) {card : Nat} : KeepsLaws w s (creditTorn card t) :=
  h.thenUpdateRefund (by simp)

theorem KeepsLaws.thenCreditSuspect (h : KeepsLaws w s t) {card : Nat} : KeepsLaws w s (creditSuspect card t) :=
  (h.thenUpdateRefund (by simp)).thenHandFault.thenCountCreditUnresolved

/-! ## Settling a record -/

theorem KeepsLaws.thenToReady (h : KeepsLaws w s t) (hi : useWaived w i ∨ (t.station i).accepted = true) :
    KeepsLaws w s (toReady i t) := .ite (h.thenAccepted hi (by rfl) (by rfl)).thenDisplay (h.thenAccepted hi (by rfl) (by rfl))

theorem KeepsLaws.thenBeginCredit (h : KeepsLaws w s t) {e : RefundEntry}
    (hi : useWaived w i ∨ (t.station i).accepted = true) : KeepsLaws w s (beginCredit i e t) := by
  unfold beginCredit
  dsimp only
  exact (h.thenAccepted hi (by rfl) (by rfl)).thenMarkRefund (by simp)

theorem KeepsLaws.thenSettleRecord (h : KeepsLaws w s t) (hi : useWaived w i ∨ (t.station i).accepted = true) :
    KeepsLaws w s (settleRecord i t) := by
  unfold settleRecord
  dsimp only
  split
  · exact .ite (h.thenBeginCredit hi) (h.thenToReady hi)
  · exact h.thenToReady hi

theorem accepted_of_cardReady {x : Station} (h : x.state = .cardReady) : x.accepted = true := by
  simp [Station.accepted, h]

theorem accepted_of_busy {x : Station} (h : busyStation x = true) : x.accepted = true := by
  simp [Station.accepted, h]

theorem KeepsLaws.thenSettleIfReady (h : KeepsLaws w s t) {card : Nat} : KeepsLaws w s (settleIfReady i card t) := by
  unfold settleIfReady
  split
  case isTrue hc => exact h.thenSettleRecord (.inr (accepted_of_cardReady hc.1))
  case isFalse => exact h

theorem KeepsLaws.thenTellPlacement (h : KeepsLaws w s t) {card : Nat} : KeepsLaws w s (tellPlacement card t) :=
  h.thenSettleIfReady.thenSettleIfReady

/-! ## Refunds placed and credited -/

theorem addTotal_lt {n k : Nat} (h : addTotal n k < Config.largestTotal) : addTotal n k = n + k ∧ n < Config.largestTotal := by
  unfold addTotal addUpTo at *
  omega

/-- What is owed is counted as unplaced (R115). -/
theorem KeepsLaws.thenUnplaced (h : KeepsLaws (waiving w .accounts) s t) {card n machine : Nat}
    (ho : s.accountsHold → accountsOwe n t.refunds t.audit) : KeepsLaws w s (unplaced card n machine t) := by
  unfold unplaced
  split
  case isTrue hn => subst hn; exact h.mend ho
  case isFalse =>
    refine (h.thenModifyAudit (fun hw => absurd (.inr rfl) hw)).thenHandFault.mend (fun hs => ?_)
    obtain ⟨hrefunds, haudit⟩ := touched_handFault { plainHanding machine faultRefundUnplaced with card := some card }
      (modifyAudit (fun x => { x with unplaced := addTotal x.unplaced n }) t) .money (by simp)
    rw [Law.holds, State.accountsHold, hrefunds, haudit]
    intro hi hc hu hx
    obtain ⟨hsum, hlt⟩ := addTotal_lt hu
    have := ho hs hi hc hlt hx
    simp only [modifyAudit]
    omega

/-- The lowest position that the table does not hold (R114). -/
theorem freePosition_free {es : List RefundEntry} (hlen : es.length < 32) :
    freePosition es < 32 ∧ freePosition es ∉ es.map (·.position) := by
  have hfind : ((List.range 32).find? (fun n => es.all (fun e => e.position != n))).isSome = true := by
    rw [List.find?_isSome]
    by_contra hnone
    have hsub : List.range 32 ⊆ es.map (·.position) := fun n hn => by
      by_contra hfree
      refine hnone ⟨n, hn, List.all_eq_true.mpr fun e he => ?_⟩
      rw [bne_iff_ne]
      exact fun heq => hfree (List.mem_map.mpr ⟨e, he, heq⟩)
    have hle := (List.subperm_of_subset List.nodup_range hsub).length_le
    simp only [List.length_range, List.length_map] at hle
    omega
  obtain ⟨n, hn⟩ := Option.isSome_iff_exists.mp hfind
  have hfree := List.find?_some hn
  have heq : freePosition es = n := by rw [freePosition, Config.refundEntries, hn, Option.getD_some]
  rw [heq]
  refine ⟨List.mem_range.mp (List.mem_of_find?_eq_some hn), fun hmem => ?_⟩
  obtain ⟨e, he, rfl⟩ := List.mem_map.mp hmem
  simpa using List.all_eq_true.mp hfree e he

/-- A new entry stands at the lowest free position (R114, R115). -/
theorem lawfulRefunds_append {es : List RefundEntry} {e : RefundEntry} (hlen : es.length < 32)
    (hcard : es.find? (refundFor e.card) = none) (hposition : e.position = freePosition es) (h : lawfulRefunds es) :
    lawfulRefunds (es ++ [e]) := by
  obtain ⟨hle, hlt, hcards, hpositions⟩ := h
  obtain ⟨hfree, hnew⟩ := freePosition_free hlen
  rw [← hposition] at hfree hnew
  have hnot : e.card ∉ es.map (·.card) := fun hmem => by
    obtain ⟨x, hx, heq⟩ := List.mem_map.mp hmem
    exact absurd (List.find?_eq_none.mp hcard x hx) (by simp [refundFor, heq])
  refine ⟨by simpa using hlen, ?_, ?_, ?_⟩
  · intro x hx
    rcases List.mem_append.mp hx with hx | hx
    · exact hlt x hx
    · rw [List.mem_singleton.mp hx]; exact hfree
  · rw [List.map_append]
    exact List.nodup_append.mpr ⟨hcards, by simp, by simpa using fun x hx heq => hnot (List.mem_map.mpr ⟨x, hx, heq⟩)⟩
  · rw [List.map_append]
    exact List.nodup_append.mpr ⟨hpositions, by simp, by simpa using fun x hx heq => hnew (List.mem_map.mpr ⟨x, hx, heq⟩)⟩

/-- R115: an amount issued is in the card's entry, in a new one, or unplaced. -/
theorem KeepsLaws.thenMergeRefund (h : KeepsLaws w s t) {card amount machine : Nat} :
    KeepsLaws w s (mergeRefund card amount machine
      (modifyAudit (fun x => { x with issued := addTotal x.issued amount }) t)) := by
  refine h.trans ?_
  have hissued : KeepsLaws (waiving w .accounts) t (modifyAudit (fun x => { x with issued := addTotal x.issued amount }) t) :=
    (KeepsLaws.refl _ t).thenModifyAudit (fun hw => absurd (.inr rfl) hw)
  generalize hu : modifyAudit (fun x => { x with issued := addTotal x.issued amount }) t = u at hissued
  have howes : t.accountsHold → accountsOwe amount u.refunds u.audit := by
    subst hu
    intro ho hi hc hu hx
    obtain ⟨hsum, hlt⟩ := addTotal_lt hi
    have := ho hlt hc hu hx
    simp only [modifyAudit]
    omega
  unfold mergeRefund
  split
  case h_1 e he =>
    have hsum := refundSum_modifyFirst (f := fun e => { e with amount := min Config.largestValue (e.amount + amount) }) he
    refine KeepsLaws.thenUnplaced (hissued.thenModifyRefunds (fun hw => absurd (.inr rfl) hw)
      (lawfulRefunds_modifyFirst (by exact fun _ => rfl) (by exact fun _ => rfl))) (fun ho hi hc hu hx => ?_)
    have := howes ho hi hc hu hx
    simp only [updateRefund, modifyRefunds, raise_audit, raise_refunds] at hsum ⊢
    omega
  case h_2 he =>
    split
    case isTrue hlen =>
      refine KeepsLaws.thenUnplaced (hissued.thenModifyRefunds (fun hw => absurd (.inr rfl) hw)
        (by exact lawfulRefunds_append hlen he rfl)) (fun ho hi hc hu hx => ?_)
      have := howes ho hi hc hu hx
      simp only [modifyRefunds, raise_audit, raise_refunds, refundSum_append, refundSum]
      omega
    case isFalse => exact hissued.thenUnplaced howes

theorem KeepsLaws.thenPlaceRefund (h : KeepsLaws w s t) {card amount machine : Nat} :
    KeepsLaws w s (placeRefund card amount machine t) := by
  unfold placeRefund
  split
  · exact h
  · exact h.thenMergeRefund.thenTellPlacement

/-- R116: a credit that has landed is counted and taken off its entry. -/
theorem KeepsLaws.thenCreditLanded (h : KeepsLaws w s t) {card credit : Nat} : KeepsLaws w s (creditLanded card credit t) := by
  unfold creditLanded
  split
  case h_1 => exact h.thenRaise
  case h_2 e he =>
    refine h.trans ?_
    dsimp only
    split
    case isTrue hle =>
      have hsum := refundSum_eraseP (p := refundFor card) he
      refine (KeepsLaws.thenSetMoney (KeepsLaws.refl w t) (x := _) (fun _ ho hi hc hu hx => ?_)
        (lawfulRefunds_sublist List.eraseP_sublist)).thenRaise
      obtain ⟨hcredited, hlt⟩ := addTotal_lt hc
      have := ho hi hlt hu hx
      dsimp only [modifyAudit]
      omega
    case isFalse hlt' =>
      have hsum := refundSum_modifyFirst (p := refundFor card)
        (f := fun e => { e with amount := e.amount - credit, state := .ready, inProgress := false, pairs := none }) he
      refine (KeepsLaws.thenSetMoney (KeepsLaws.refl w t) (x := _) (fun _ ho hi hc hu hx => ?_)
        (lawfulRefunds_modifyFirst (by exact fun _ => rfl) (by exact fun _ => rfl))).thenRaise
      obtain ⟨hcredited, hlt⟩ := addTotal_lt hc
      have := ho hi hlt hu hx
      dsimp only [modifyAudit] at hsum ⊢
      omega

end Sys2Proof.Machine

/-! PROOF. The laws of the device kept by Cycle Control, by the Fault and Service Unit and by the debits and doubts of the
stations (chapters 2, 4 and 7). -/

namespace Sys2Proof.Machine

variable {w : Law → Prop} {s t : State} {a : Addr} {i : StationId}

/-! ## Cycle Control -/

theorem KeepsLaws.thenReleaseToRoom (h : KeepsLaws w s t) : KeepsLaws w s (releaseToRoom a t) :=
  .ite (h.thenModifyMachine (by simp)).thenMoveTo (.ite h.thenMoveTo h.thenOffer)

theorem KeepsLaws.thenApplyUnlock (h : KeepsLaws w s t) : KeepsLaws w s (applyUnlock a t) :=
  .ite (h.thenModifyMachine (by simp)).thenRaise.thenReleaseToRoom (h.thenModifyMachine (by simp)).thenRaise

theorem KeepsLaws.thenEnterFinished (h : KeepsLaws w s t) : KeepsLaws w s (enterFinished a t) := (h.thenModifyMachine (by simp)).thenMoveTo

theorem KeepsLaws.thenAskPhase (h : KeepsLaws w s t) : KeepsLaws w s (askPhase a t) := by
  unfold askPhase
  split
  · exact h
  · split
    · exact h.thenStartPhase
    · exact h.thenRequestGrant (by simp)

theorem KeepsLaws.thenEnterWaiting (h : KeepsLaws w s t) : KeepsLaws w s (enterWaiting a t) := h.thenModifyCycle.thenAskPhase

theorem KeepsLaws.thenStopCycle (h : KeepsLaws w s t) {cause : StopCause} : KeepsLaws w s (stopCycle a cause t) :=
  .ite h.thenModifyCycle.thenMoveTo.thenWithdrawEntry.thenPost h

theorem KeepsLaws.thenSettleRefund (h : KeepsLaws w s t) {cause : StopCause} : KeepsLaws w s (settleRefund a cause t) := by
  unfold settleRefund
  split
  · exact h
  · exact .ite h h.thenModifyCycle.thenPlaceRefund

theorem KeepsLaws.thenConfirmStop (h : KeepsLaws w s t) : KeepsLaws w s (confirmStop a t) :=
  .ite h h.thenReleaseGrant.thenSettleRefund

theorem KeepsLaws.thenTimeoutStop (h : KeepsLaws w s t) : KeepsLaws w s (timeoutStop a t) := h.thenHandFault.thenStopCycle

theorem KeepsLaws.thenCompletePhase (h : KeepsLaws w s t) : KeepsLaws w s (completePhase a t) := by
  unfold completePhase
  split
  · exact h
  · exact .ite h (.ite h.thenReleaseGrant.thenModifyCycle.thenEnterWaiting h.thenReleaseGrant.thenEnterFinished)

theorem KeepsLaws.thenBeginSuspend (h : KeepsLaws w s t) : KeepsLaws w s (beginSuspend a t) :=
  h.thenModifyCycle.thenPost.thenMarkGrant

theorem KeepsLaws.thenConfirmSuspend (h : KeepsLaws w s t) : KeepsLaws w s (confirmSuspend a t) := by
  unfold confirmSuspend
  split
  · exact h
  · exact .ite h.thenModifyCycle.thenReleaseGrant h.thenModifyCycle.thenAskResume

theorem KeepsLaws.thenWasherDoorOpen (h : KeepsLaws w s t) : KeepsLaws w s (washerDoorOpen a t) := by
  unfold washerDoorOpen
  split
  · exact h
  · exact .ite h.thenStopCycle h.thenHandFault.thenStopCycle

theorem KeepsLaws.thenDryerDoorOpen (h : KeepsLaws w s t) : KeepsLaws w s (dryerDoorOpen a t) := by
  unfold dryerDoorOpen
  split
  · exact h
  · refine .ite ?_ (.ite h.thenStopCycle h)
    dsimp only
    split
    · exact h.thenModifyCycle.thenModifyCycle.thenWithdrawEntry
    · exact h.thenModifyCycle.thenModifyCycle.thenWithdrawEntry
    · exact h.thenModifyCycle.thenBeginSuspend
    · exact h.thenModifyCycle.thenBeginSuspend
    · exact h.thenModifyCycle.thenBeginSuspend
    · exact h.thenModifyCycle
    · exact h.thenModifyCycle

theorem KeepsLaws.thenDryerDoorClosed (h : KeepsLaws w s t) : KeepsLaws w s (dryerDoorClosed a t) := by
  unfold dryerDoorClosed
  split
  · exact h
  · split
    · exact h.thenModifyCycle.thenAskPhase
    · exact h.thenModifyCycle
    · exact h
    · exact h
    · exact h
    · exact h
    · exact h

theorem KeepsLaws.thenRunningDoor (h : KeepsLaws w s t) {door : Option Door} : KeepsLaws w s (runningDoor a door t) := by
  unfold runningDoor
  split
  · exact h.thenWasherDoorOpen
  · exact h.thenDryerDoorOpen
  · exact h.thenDryerDoorClosed
  · exact h.thenDryerDoorClosed
  · exact h

theorem KeepsLaws.thenCloseStart (h : KeepsLaws w s t) {p : Payment} : KeepsLaws w s (closeStart a p t) :=
  have hplaced := h.thenTakeCycleNumber.thenPlaceRefund.thenModifyMachine (by simp)
  .ite hplaced.thenHandBack.thenReleaseToRoom hplaced

theorem KeepsLaws.thenOpenStart (h : KeepsLaws w s t) {p : Payment} : KeepsLaws w s (openStart a p t) :=
  (h.thenTakeCycleNumber.thenModifyMachine (by simp)).thenMoveTo.thenClaimServed.thenEnterWaiting.thenRunningDoor

theorem KeepsLaws.thenCommitStart (h : KeepsLaws w s t) : KeepsLaws w s (commitStart a t).1 := by
  unfold commitStart
  dsimp only
  split
  · exact h
  · split
    · exact h.thenCloseStart
    · exact h.thenOpenStart

theorem KeepsLaws.thenBeginStart (h : KeepsLaws w s t) {card : Nat} {x : Purchase} : KeepsLaws w s (beginStart a card x t) := by
  unfold beginStart
  dsimp only
  have hpaying := fun {p : Payment} =>
    (h.thenModifyMachine (a := a) (f := fun m => { m with payment := some p }) (by simp)).thenMoveTo (a := a) (st := .paying)
  exact .ite (KeepsLaws.thenCommitStart (.ite hpaying.thenHolderPays hpaying)) (.ite hpaying.thenHolderPays hpaying)

theorem KeepsLaws.thenAbandonStart (h : KeepsLaws w s t) : KeepsLaws w s (abandonStart a t) :=
  .ite (.ite (h.thenModifyMachine (by simp)).thenHandBack.thenMoveTo
    (.ite (h.thenModifyMachine (by simp)).thenMoveTo.thenHolderStopsPaying (h.thenModifyMachine (by simp)).thenMoveTo)) (h.thenModifyMachine (by simp))

theorem KeepsLaws.thenBeginTopUp (h : KeepsLaws w s t) {x : TopUp} : KeepsLaws w s (beginTopUp a x t) := h.thenModifyCycle

theorem KeepsLaws.thenClearTopUp (h : KeepsLaws w s t) {card : Nat} : KeepsLaws w s (clearTopUp a card t) :=
  .ite h.thenModifyCycle h

theorem KeepsLaws.thenCommitTopUp (h : KeepsLaws w s t) {card amount : Nat} :
    KeepsLaws w s (commitTopUp a card amount t).1 := by
  unfold commitTopUp
  split
  · split
    · exact h.thenModifyCycle
    · exact h.thenClearTopUp.thenPlaceRefund
  · exact h.thenPlaceRefund

/-! ## Sessions and tests -/

theorem KeepsLaws.thenEndSession (h : KeepsLaws w s t) : KeepsLaws w s (endSession t) := by
  unfold endSession
  split
  · exact h
  · exact .ite (h.thenSession.thenModifyMachine (by simp)).thenRaise.thenRaise.thenReleaseToRoom
      (h.thenSession.thenModifyMachine (by simp)).thenRaise.thenRaise

theorem KeepsLaws.thenEndIfClosing (h : KeepsLaws w s t) : KeepsLaws w s (endIfClosing a t) := .ite h.thenEndSession h

theorem KeepsLaws.thenFinishTest (h : KeepsLaws w s t) {outcome : TestOutcome} {code : Nat} :
    KeepsLaws w s (finishTest a outcome code t) := by
  unfold finishTest
  split
  · exact h
  case h_2 r hr =>
    have hover : KeepsLaws w s (raise .test (raise .machine (modifyMachine a (fun m => { m with
        lastTest := some ⟨outcome, r.subtest, code⟩, testRun := none }) t))) := (h.thenModifyMachine (by simp)).thenRaise.thenRaise
    dsimp only
    generalize raise .test (raise .machine (modifyMachine a (fun m => { m with
      lastTest := some ⟨outcome, r.subtest, code⟩, testRun := none }) t)) = u at hover ⊢
    have hfault : KeepsLaws w s (if outcome = .fail then
        handFault { plainHanding (addrNum a) faultTestFail with subtest := some r.subtest } u else u) :=
      .ite hover.thenHandFault hover
    split
    · exact .ite hfault.thenReleaseToRoom hfault
    · exact hfault.thenEndIfClosing

theorem KeepsLaws.thenBeginSubtest (h : KeepsLaws w s t) : KeepsLaws w s (beginSubtest a t) := by
  unfold beginSubtest
  split
  · exact h
  · split
    · exact h.thenStartSubtest
    · exact h.thenRequestGrant (by simp)

theorem KeepsLaws.thenWindDownTest (h : KeepsLaws w s t) {cause : StopCause} {outcome : TestOutcome} {code : Nat}
    {override : Bool} : KeepsLaws w s (windDownTest a cause outcome code override t) := by
  unfold windDownTest
  split
  · exact h
  · split
    · exact .ite h.thenModifyRun h
    · split
      · exact h.thenWithdrawEntry.thenFinishTest
      · exact h.thenModifyRun.thenPost
      · exact h.thenModifyRun.thenPost

theorem KeepsLaws.thenSubtestDone (h : KeepsLaws w s t) {code : Nat} : KeepsLaws w s (subtestDone a code t) := by
  unfold subtestDone
  split
  · exact h
  · exact .ite h.thenReleaseGrant.thenModifyRun.thenFinishTest (.ite h.thenReleaseGrant.thenModifyRun.thenFinishTest
      h.thenReleaseGrant.thenModifyRun.thenModifyRun.thenBeginSubtest)

theorem KeepsLaws.thenSubtestTimeout (h : KeepsLaws w s t) : KeepsLaws w s (subtestTimeout a t) :=
  h.thenHandFault.thenWindDownTest

theorem KeepsLaws.thenFinishPhase (h : KeepsLaws w s t) {outcome : PhaseOutcome} : KeepsLaws w s (finishPhase a outcome t) :=
  h.thenSession.thenRaise.thenEndIfClosing

theorem KeepsLaws.thenWindDownPhase (h : KeepsLaws w s t) {cause : StopCause} {outcome : PhaseOutcome} :
    KeepsLaws w s (windDownPhase a cause outcome t) := by
  unfold windDownPhase
  split
  · exact h
  · split
    · exact h
    · split
      · exact h.thenWithdrawEntry.thenFinishPhase
      · exact h.thenModifyPhase.thenPost
      · exact h.thenModifyPhase.thenPost

theorem KeepsLaws.thenPhaseTimeout (h : KeepsLaws w s t) : KeepsLaws w s (phaseTimeout a t) :=
  h.thenHandFault.thenWindDownPhase

theorem KeepsLaws.thenCloseWork (h : KeepsLaws w s t) {cause : StopCause} : KeepsLaws w s (closeWork a cause t) :=
  .ite h.thenCloseSession.thenWindDownTest (.ite h.thenCloseSession.thenWindDownPhase h.thenEndSession)

theorem KeepsLaws.thenHaltService (h : KeepsLaws w s t) : KeepsLaws w s (haltService a t) :=
  .ite (h.thenModifyMachine (by simp)).thenRaise.thenCloseWork h.thenWindDownTest

theorem KeepsLaws.thenAbsentService (h : KeepsLaws w s t) : KeepsLaws w s (absentService a t) := by
  have hended := h.thenWithdrawEntry (a := a) |>.thenReleaseGrant (a := a) |>.thenFinishTest (a := a) (outcome := .aborted)
    (code := 0)
  unfold absentService
  exact KeepsLaws.thenModifyMachine (.ite hended.thenEndSession hended) (by simp)

theorem KeepsLaws.thenWindTestReport (h : KeepsLaws w s t) {n : Nat} {x : TestWindDown} {r : Report} :
    KeepsLaws w s (windTestReport a n x r t) :=
  .ite h.thenReleaseGrant.thenFinishTest (.ite h.thenModifyRun.thenReleaseGrant h)

theorem KeepsLaws.thenTestActivity (h : KeepsLaws w s t) {x : Shown} : KeepsLaws w s (testActivity a x t) := by
  unfold testActivity
  split
  · exact h
  · dsimp only
    split
    · exact h.thenWindTestReport
    · split
      · exact h
      · exact .ite h.thenSubtestDone (.ite (.ite h.thenModifyRun h.thenSubtestTimeout) h)
      · exact .ite h.thenSubtestDone (.ite (.ite h.thenModifyRun h.thenSubtestTimeout) h)

theorem KeepsLaws.thenWindPhaseReport (h : KeepsLaws w s t) {x : PhaseWindDown} {r : Report} :
    KeepsLaws w s (windPhaseReport a x r t) :=
  .ite h.thenReleaseGrant.thenFinishPhase (.ite h.thenModifyPhase.thenReleaseGrant h)

theorem KeepsLaws.thenPhaseActivity (h : KeepsLaws w s t) {x : Shown} : KeepsLaws w s (phaseActivity a x t) := by
  unfold phaseActivity
  split
  · exact h
  · dsimp only
    split
    · exact h.thenWindPhaseReport
    · split
      · exact h
      · exact .ite (.ite h.thenModifyPhase (.ite h.thenReleaseGrant.thenFinishPhase h.thenPhaseTimeout)) h
      · exact .ite h.thenReleaseGrant.thenFinishPhase h

theorem KeepsLaws.thenServiceActivity (h : KeepsLaws w s t) {x : Shown} : KeepsLaws w s (serviceActivity a x t) :=
  .ite h.thenTestActivity h.thenPhaseActivity

theorem KeepsLaws.thenServiceFault (h : KeepsLaws w s t) {r : Report} : KeepsLaws w s (serviceFault a r t) := by
  unfold serviceFault
  split
  · exact .ite h h.thenWindDownTest
  · split
    · exact h
    · split
      · exact h.thenWindDownPhase
      · exact h.thenWindDownPhase
      · exact h

theorem KeepsLaws.thenServiceReport (h : KeepsLaws w s t) {x : Shown} {activityChanged faultChanged : Bool} :
    KeepsLaws w s (serviceReport a x activityChanged faultChanged t) := by
  unfold serviceReport
  dsimp only
  refine .ite (KeepsLaws.thenServiceFault ?_) ?_ <;>
    exact .ite (KeepsLaws.thenServiceActivity (.ite h.thenHandFault h)) (.ite h.thenHandFault h)

end Sys2Proof.Machine

/-! PROOF. The laws of the device kept by the debits and doubts of the stations (4.5 to 4.11), by the replies of the machines
(chapters 1 and 2) and by the sheds of the pools (3.4, 3.5). -/

namespace Sys2Proof.Machine

variable {w : Law → Prop} {s t : State} {a : Addr} {i : StationId} {k : PoolId}

/-! ## Debits -/

theorem KeepsLaws.thenAbandonDebit (h : KeepsLaws w s t) {kind : DoubtKind} {card : Nat} :
    KeepsLaws w s (abandonDebit kind a card t) := by
  unfold abandonDebit
  split
  · exact h.thenAbandonStart
  · exact h.thenClearTopUp

theorem KeepsLaws.thenDebitUnresolved (h : KeepsLaws w s t) {d : DebitCopy} : KeepsLaws w s (debitUnresolved d t) :=
  h.thenAbandonDebit.thenHandFault.thenCountDebitUnresolved

theorem KeepsLaws.thenCommitDebit (h : KeepsLaws w s t) {d : DebitCopy} : KeepsLaws w s (commitDebit d t).1 := by
  unfold commitDebit
  dsimp only
  split
  · exact h.thenCountCharged.thenCommitStart.thenRaise
  · exact h.thenCountCharged.thenCommitTopUp.thenRaise

/-- A record settles after what keeps the laws, and with them its accepted card. -/
theorem KeepsLaws.thenSettle {u : State} (h : KeepsLaws w s t) (hi : (t.station i).accepted = true)
    (hmid : ∀ v, KeepsLaws v t u) : KeepsLaws w s (settleRecord i u) :=
  (h.trans (hmid w)).thenSettleRecord (.inr (hmid noLaw (.accepted i) id hi))

theorem KeepsLaws.thenLandDebit (h : KeepsLaws w s t) {d : DebitCopy} (hi : (t.station i).accepted = true) :
    KeepsLaws w s (landDebit i d t) :=
  h.thenSettle hi fun v => ((KeepsLaws.refl v t).thenSetDebitCopy.thenSameCard (i := i) (by rfl) (by rfl)).thenCommitDebit.thenDisplay

theorem KeepsLaws.thenLandCredit (h : KeepsLaws w s t) (hi : (t.station i).accepted = true) :
    KeepsLaws w s (landCredit i t) :=
  h.thenSettle hi fun v => ((KeepsLaws.refl v t).thenSameCard (i := i) (by rfl) (by rfl)).thenCreditLanded.thenRaise.thenDisplay

/-! ## Doubts -/

/-- Doubts leave the list. -/
theorem KeepsLaws.thenDropDoubts (h : KeepsLaws w s t) {ds : List Doubt} (hsub : ds.Sublist t.doubts) :
    KeepsLaws w s { t with doubts := ds } := by
  refine h.trans (keeps_of_touches (touched_of (touches_doubts (ps := [.doubts]) (by simp) ds))
    (List.forall_mem_cons.mpr ⟨?_, by simp⟩))
  have hstation : ∀ j, ({ t with doubts := ds } : State).station j = t.station j := fun j => by cases j <;> rfl
  refine ⟨fun _ => cardsLawful_of_free hsub (fun j card => by rw [hstation]; exact id), ?_, fun card _ hall => ?_, ?_, ?_⟩
  · simp only [hstation]; exact fun _ _ _ => id
  · rw [List.all_eq_true] at hall ⊢
    exact fun d hd => hall d (hsub.subset hd)
  · simp only [hstation]; exact fun _ _ => id
  · simp only [hstation]; exact fun _ _ _ => id

/-- The doubt list replaced where its laws are waived. -/
theorem KeepsLaws.thenSetDoubts (h : KeepsLaws w s t) {ds : List Doubt} (hcards : w .cards) (hnew : ∀ card, w (.undoubted card)) :
    KeepsLaws w s { t with doubts := ds } := by
  refine h.trans (keeps_of_touches (touched_of (touches_doubts (ps := [.doubts]) (by simp) ds))
    (List.forall_mem_cons.mpr ⟨?_, by simp⟩))
  have hstation : ∀ j, ({ t with doubts := ds } : State).station j = t.station j := fun j => by cases j <;> rfl
  refine ⟨fun hw => absurd hcards hw, ?_, fun card hw => absurd (hnew card) hw, ?_, ?_⟩
  · simp only [hstation]; exact fun _ _ _ => id
  · simp only [hstation]; exact fun _ _ => id
  · simp only [hstation]; exact fun _ _ _ => id

theorem KeepsLaws.thenEvictDoubt (h : KeepsLaws w s t) : KeepsLaws w s (evictDoubt t) := by
  unfold evictDoubt
  split
  · exact h
  · split
    · exact h
    case h_2 d rest hd =>
      exact (h.thenDropDoubts (by rw [hd]; exact List.sublist_cons_self d rest)).thenDebitUnresolved.thenRaise

theorem KeepsLaws.thenDoubtTimeout (h : KeepsLaws w s t) {card : Nat} : KeepsLaws w s (doubtTimeout card t) := by
  unfold doubtTimeout
  split
  · exact h
  · exact (h.thenDropDoubts List.eraseP_sublist).thenDebitUnresolved.thenRaise

theorem debitUnresolved_doubts (d : DebitCopy) (s : State) : (debitUnresolved d s).doubts = s.doubts :=
  (touched_debitUnresolved d s .doubts (by simp)).1

/-- R99: after the eviction there is room for one doubt more. -/
theorem evictDoubt_room {s : State} (h : s.doubts.length ≤ 4) : (evictDoubt s).doubts.length < 4 := by
  unfold evictDoubt
  split
  case isTrue hlt => exact hlt
  case isFalse =>
    split
    case h_1 hd => simp [hd]
    case h_2 d rest hd =>
      rw [raise_doubts, debitUnresolved_doubts]
      rw [hd, List.length_cons] at h
      exact h

theorem copyOf_card {x : Station} {d : DebitCopy} (h : copyOf x = some d) : x.card = some d.card := by
  unfold copyOf at h
  split at h
  case h_1 card machine slot hcard _ _ => cases h; exact hcard
  case h_2 => cases h

/-- Where a card in use at one station goes over to the doubt list, no card is in use twice. -/
theorem cardsLawful_doubted {u v : State} {d : Doubt} (hu : u.cardsLawful) (hlen : u.doubts.length < 4)
    (hnew : u.doubts.all (fun x => x.debit.card != d.debit.card) = true)
    (hfree : holdsCard d.debit.card (u.station (otherStation i)) = false) (hdoubts : v.doubts = u.doubts ++ [d])
    (hi : ∀ card, holdsCard card (v.station i) = false)
    (hother : v.station (otherStation i) = u.station (otherStation i)) : v.cardsLawful := by
  obtain ⟨-, hdistinct, hcards⟩ := hu
  rw [distinctDoubts_iff] at hdistinct
  rw [List.all_eq_true] at hnew
  have hheld : ∀ card, holdsCard card v.stationA = true ∨ holdsCard card v.stationB = true →
      holdsCard card (u.station (otherStation i)) = true := by
    intro card hab
    cases i with
    | a => exact hab.elim (fun ha => absurd ((hi card).symm.trans ha) (by simp)) (fun hb => hother ▸ hb)
    | b => exact hab.elim (fun ha => hother ▸ ha) (fun hb => absurd ((hi card).symm.trans hb) (by simp))
  refine ⟨by rw [hdoubts, List.length_append]; exact hlen, ?_, fun card => ⟨?_, fun hab => ?_⟩⟩
  · rw [distinctDoubts_iff, hdoubts, List.map_append]
    refine List.nodup_append.mpr ⟨hdistinct, by simp, ?_⟩
    simpa using fun x hx => by simpa using hnew x hx
  · intro hab
    cases i with
    | a => exact absurd ((hi card).symm.trans hab.1) (by simp)
    | b => exact absurd ((hi card).symm.trans hab.2) (by simp)
  · have hu := hheld card hab
    have hne : card ≠ d.debit.card := fun he => absurd (hfree.symm.trans (he ▸ hu)) (by simp)
    have hall := (hcards card).2 (by cases i; exacts [.inr hu, .inl hu])
    rw [hdoubts, List.all_append, hall]
    simpa using hne.symm

theorem station_other_modifyStation (f : Station → Station) (s : State) :
    (modifyStation i f s).station (otherStation i) = s.station (otherStation i) :=
  station_setStation_other s _ (by cases i <;> simp [otherStation])

/-- R99: the card of a debit goes over to the doubt list as its station becomes EMPTY. -/
theorem KeepsLaws.thenDoubtAndEnd (h : KeepsLaws Law.passing s t) {d : DebitCopy} {awaiting : Bool} {code : Nat}
    (hd : copyOf (t.station i) = some d) (hbusy : busyStation (t.station i) = true) :
    KeepsLaws Law.passing s (endCard i awaiting code (makeDoubt i d t)) := by
  refine h.trans ?_
  have hevict : ∀ w, KeepsLaws w t (evictDoubt (t.setDebitCopy i none)) := fun w =>
    (KeepsLaws.refl w t).thenSetDebitCopy.thenEvictDoubt
  refine KeepsLaws.mend (l := .cards) (KeepsLaws.trans (hevict _) ?_) (fun hcards => ?_)
  · exact ((KeepsLaws.refl (waiving Law.passing .cards) _).thenSetDoubts (.inr rfl) (fun _ => .inl trivial)).thenRaise.thenEndCardWaiving (fun _ hl => .inl hl)
  · have hheld : holdsCard d.card (t.station i) = true := by
      rw [holdsCard_eq, accepted_of_busy hbusy, copyOf_card hd]; simp
    have hu := hevict noLaw .cards id hcards
    obtain ⟨hlen, hdistinct, hone⟩ := hcards
    have hundoubted : t.doubts.all (fun x => x.debit.card != d.card) = true :=
      (hone d.card).2 (by cases i; exacts [.inl hheld, .inr hheld])
    have hfree : holdsCard d.card (t.station (otherStation i)) = false := by
      rw [← Bool.not_eq_true]
      intro ho
      cases i
      · exact (hone d.card).1 ⟨hheld, ho⟩
      · exact (hone d.card).1 ⟨ho, hheld⟩
    refine cardsLawful_doubted (i := i) (d := {
      debit := d, deadline := (evictDoubt (t.setDebitCopy i none)).now + (evictDoubt (t.setDebitCopy i none)).params.doubtWindow })
      hu (evictDoubt_room (by simpa using hlen)) (hevict noLaw (.undoubted d.card) id hundoubted)
      (hevict noLaw (.free _ d.card) id hfree) ?_ (fun card => ?_) ?_
    · simp only [endCard, display, modifyStation, setStation_doubts, makeDoubt, raise_doubts]
    · simp only [endCard, display, modifyStation, station_setStation_self, holdsCard, emptied, Station.initial, busyStation]
      rfl
    · simp only [endCard, display, station_other_modifyStation, makeDoubt, raise_station]
      cases i <;> rfl

/-! ## Cards withdrawn, inserted and written -/

theorem KeepsLaws.thenLoseAndEnd (h : KeepsLaws Law.passing s t) {awaiting : Bool} {code : Nat}
    (hbusy : busyStation (t.station i) = true) : KeepsLaws Law.passing s (endCard i awaiting code (loseWrite i t)) := by
  unfold loseWrite
  dsimp only
  split
  · exact h.thenCreditTorn.thenRaise.thenEndCard
  case h_2 hd => exact h.thenDoubtAndEnd hd hbusy
  · exact h.thenEndCard

theorem KeepsLaws.thenDropAndEnd (h : KeepsLaws Law.passing s t) {awaiting : Bool} {code : Nat}
    (hbusy : busyStation (t.station i) = true) : KeepsLaws Law.passing s (endCard i awaiting code (dropWrite i t)) := by
  unfold dropWrite
  dsimp only
  split
  · split
    · exact h.thenCreditFailed.thenEndCard
    · exact h.thenCreditTorn.thenRaise.thenEndCard
  case h_2 hd =>
    split
    · exact h.thenSetDebitCopy.thenAbandonDebit.thenEndCard
    · exact h.thenDoubtAndEnd hd hbusy
  · exact h.thenEndCard

theorem KeepsLaws.thenInsertCard (h : KeepsLaws w s t) : KeepsLaws w s (insertCard i t) := by
  have hswitch : KeepsLaws w s (modifyStation i (fun x => { x with switchClosed := true }) t) :=
    h.thenSameCard rfl rfl
  exact .ite h (.ite hswitch.thenDisplay hswitch.thenBeginReading)

theorem KeepsLaws.thenRemoveCard (h : KeepsLaws Law.passing s t) : KeepsLaws Law.passing s (removeCard i t) := by
  have hswitch : KeepsLaws Law.passing s (modifyStation i (fun x => { x with switchClosed := false }) t) :=
    h.thenSameCard rfl rfl
  unfold removeCard
  dsimp only
  split
  · exact hswitch.thenEmptied fun _ => id
  · exact hswitch.thenEmptied fun _ => id
  · exact hswitch.thenEmptied fun _ => id
  case h_4 hst => exact .ite (hswitch.thenLoseAndEnd (by simp [busyStation, hst])) (hswitch.thenDropAndEnd (by simp [busyStation, hst]))
  case h_5 hst => exact .ite (hswitch.thenLoseAndEnd (by simp [busyStation, hst])) (hswitch.thenDropAndEnd (by simp [busyStation, hst]))
  case h_6 hst => exact hswitch.thenLoseAndEnd (by simp [busyStation, hst])

theorem KeepsLaws.thenResolveDoubt (h : KeepsLaws w s t) {pair : Pair} {d : DebitCopy} :
    KeepsLaws w s (resolveDoubt i pair d t) :=
  .ite h.thenCommitDebit.thenDisplay (.ite h.thenAbandonDebit.thenRaise.thenDisplay h.thenDebitUnresolved.thenRaise.thenDisplay)

theorem KeepsLaws.thenResolveDoubts (h : KeepsLaws w s t) {card : Nat} {pair : Pair} :
    KeepsLaws w s (resolveDoubts i card pair t) := by
  unfold resolveDoubts
  split
  · exact h
  · exact (h.thenDropDoubts List.eraseP_sublist).thenResolveDoubt

theorem KeepsLaws.thenResolveCredit (h : KeepsLaws w s t) {card : Nat} {pair : Pair} :
    KeepsLaws w s (resolveCredit i card pair t) := by
  unfold resolveCredit
  split
  · exact h
  · split
    · exact .ite h.thenCreditLanded.thenDisplay (.ite h.thenCreditVoid h.thenCreditSuspect)
    · exact h

/-- R88: after an insertion no doubt of the card is left. -/
theorem resolveDoubts_undoubted {s : State} (card : Nat) (pair : Pair) (h : distinctDoubts s.doubts = true) :
    (resolveDoubts i card pair s).doubts.all (fun d => d.debit.card != card) = true := by
  unfold resolveDoubts
  split
  case h_1 hnone => simpa using hnone
  case h_2 d hd =>
    refine (KeepsLaws.refl noLaw _).thenResolveDoubt (.undoubted card) id ?_
    obtain ⟨hcard, before, behind, hlist, hbefore⟩ := List.find?_eq_some_iff_append.mp hd
    rw [distinctDoubts_iff, hlist, List.map_append, List.map_cons, List.nodup_middle, List.nodup_cons] at h
    have hno := h.1
    simp only [beq_iff_eq] at hcard
    subst hcard
    simp only [Law.holds, hlist]
    rw [List.eraseP_append_right _ (by simpa using hbefore), List.eraseP_cons_of_pos (by simp)]
    simp only [List.mem_append, List.mem_map, not_or, not_exists, not_and] at hno
    simp only [List.all_append, List.all_eq_true, Bool.and_eq_true, bne_iff_ne]
    exact ⟨hno.1, hno.2⟩

/-- The use of a card at a station, and the law of the cards with it. -/
def takesUse (i : StationId) : Law → Prop := fun l => l = .cards ∨ ∃ card, l = .free i card

/-- Where a card comes into use at a station, and is in use at no other place, no card is in use twice. -/
theorem cardsLawful_accepted {u v : State} {card : Nat} (hk : KeepsLaws (takesUse i) u v) (hd : v.doubts = u.doubts)
    (hcard : (v.station i).card = some card) (hnew : v.doubts.all (fun x => x.debit.card != card) = true)
    (hfree : holdsCard card (v.station (otherStation i)) = false) (hu : u.cardsLawful) : v.cardsLawful := by
  obtain ⟨hlen, hdistinct, hone⟩ := hu
  have howns : ∀ c, holdsCard c (v.station i) = true → c = card := by
    intro c hc
    rw [holdsCard_eq, hcard] at hc
    simp_all
  have hother : ∀ c, holdsCard c (v.station (otherStation i)) = true → holdsCard c (u.station (otherStation i)) = true := by
    intro c hc
    by_contra hno
    have hwaived : ¬ takesUse i (.free (otherStation i) c) := by cases i <;> simp [takesUse, otherStation]
    rw [hk (.free (otherStation i) c) hwaived (Bool.eq_false_iff.mpr hno)] at hc
    exact absurd hc (by simp)
  have hboth : ∀ c, holdsCard c (v.station i) = true → holdsCard c (v.station (otherStation i)) = true → False := by
    intro c hi ho
    rw [howns c hi, hfree] at ho
    exact absurd ho (by simp)
  have hundoubted : ∀ c, holdsCard c (v.station i) = true ∨ holdsCard c (v.station (otherStation i)) = true →
      v.doubts.all (fun x => x.debit.card != c) = true := by
    rintro c (hi | ho)
    · rw [howns c hi]; exact hnew
    · rw [hd]; exact (hone c).2 (by cases i; exacts [.inr (hother c ho), .inl (hother c ho)])
  refine ⟨by rw [hd]; exact hlen, by rw [hd]; exact hdistinct, fun c => ?_⟩
  cases i with
  | a => exact ⟨fun hab => hboth c hab.1 hab.2, hundoubted c⟩
  | b => exact ⟨fun hab => hboth c hab.2 hab.1, fun hab => hundoubted c hab.symm⟩

theorem KeepsLaws.mono {v : Law → Prop} (h : KeepsLaws w s t) (hw : ∀ l, w l → v l) : KeepsLaws v s t :=
  fun l hl => h l (fun hv => hl (hw l hv))

/-- R86: a card accepted is in use at its station, and was in use nowhere. -/
theorem KeepsLaws.thenAcceptCard (h : KeepsLaws Law.passing s t) {card : Nat} {slot : Slot} {pair : Pair}
    (hread : (t.station i).state = .reading) (hfree : holdsCard card (t.station (otherStation i)) = false) :
    KeepsLaws Law.passing s (acceptCard i card slot pair t) := by
  refine h.trans ?_
  unfold acceptCard
  dsimp only
  generalize hu : modifyStation i (fun x => { x with card := some card, slot := some slot, pair := pair, balanceDue := true }) t = u
  have hentered : KeepsLaws Law.passing t u := by
    subst hu
    refine (KeepsLaws.refl _ t).thenSetStation (.inr fun c _ => ?_) (fun hw => absurd trivial hw) (fun _ hw => absurd trivial hw)
    simp [holdsCard, busyStation, hread]
  have hcard : (u.station i).card = some card := by subst hu; simp [modifyStation]
  have hother : holdsCard card (u.station (otherStation i)) = false := by
    subst hu; rw [station_other_modifyStation]; exact hfree
  have hresolve : ∀ w, KeepsLaws w (resolveDoubts i card pair u) (resolveCredit i card pair (resolveDoubts i card pair u)) :=
    fun w => (KeepsLaws.refl w _).thenResolveCredit
  have hdoubts : ∀ w, KeepsLaws w u (resolveDoubts i card pair u) := fun w => (KeepsLaws.refl w u).thenResolveDoubts
  generalize hr : resolveCredit i card pair (resolveDoubts i card pair u) = r at hresolve
  have hsettle : KeepsLaws (takesUse i) r (settleRecord i r) :=
    (KeepsLaws.refl _ r).thenSettleRecord (.inl ⟨.inl rfl, fun c => .inr ⟨c, rfl⟩⟩)
  have hwhole : KeepsLaws (takesUse i) u (settleRecord i r) := ((hdoubts _).trans (hresolve _)).trans hsettle
  have hwaived : ∀ l, takesUse i l → waiving Law.passing .cards l := by
    rintro l (rfl | ⟨c, rfl⟩)
    · exact .inr rfl
    · exact .inl trivial
  refine (hentered.waive.trans (hwhole.mono hwaived)).mend (fun ht => ?_)
  have hlawful := hentered .cards id ht
  have hundoubted := hresolve noLaw (.undoubted card) id (resolveDoubts_undoubted card pair hlawful.2.1)
  refine cardsLawful_accepted (card := card) hsettle (touched_settleRecord i r .doubts (by simp)).1 ?_ ?_ ?_
    (((hdoubts noLaw).trans (hresolve noLaw)) .cards id hlawful)
  · exact hwhole (.cardAt i card) (by simp [takesUse]) hcard
  · exact hsettle (.undoubted card) (by simp [takesUse]) hundoubted
  · exact hwhole (.free _ card) (by cases i <;> simp [takesUse, otherStation]) hother

theorem KeepsLaws.thenDecideCard (h : KeepsLaws Law.passing s t) {bytes : List Byte} (hread : (t.station i).state = .reading) :
    KeepsLaws Law.passing s (decideCard i bytes t) := by
  unfold decideCard
  dsimp only
  refine .ite h.thenEndCard (.ite h.thenEndCard ?_)
  split
  · exact h.thenEndCard
  case isFalse hother =>
    split
    · exact h.thenEndCard
    · exact h.thenAcceptCard hread (Bool.eq_false_iff.mpr hother)

theorem KeepsLaws.thenReadEnds (h : KeepsLaws Law.passing s t) {bytes : Option (List Byte)} :
    KeepsLaws Law.passing s (readEnds i bytes t) := by
  unfold readEnds readFails readCompletes
  split
  · exact .ite h.thenEndCard h
  · split
    case isTrue hread => exact h.thenDecideCard hread
    case isFalse => exact h

theorem KeepsLaws.thenKeepCopy (h : KeepsLaws w s t) : KeepsLaws w s (keepCopy i t) := .ite h.thenSetDebitCopy h

theorem KeepsLaws.thenWriteBegins (h : KeepsLaws w s t) : KeepsLaws w s (writeBegins i t) :=
  .ite (h.thenKeepCopy.thenSameCard rfl rfl) h

theorem busyStation_of_writing {x : Station} (h : writingCard x = true) : busyStation x = true := by
  unfold writingCard at h
  unfold busyStation
  cases hx : x.state <;> simp_all

theorem KeepsLaws.thenWriteEnds (h : KeepsLaws Law.passing s t) {outcome : WriteOutcome} :
    KeepsLaws Law.passing s (writeEnds i outcome t) := by
  unfold writeEnds
  dsimp only
  split
  case isTrue => exact h
  case isFalse hw =>
    have hbusy := busyStation_of_writing (by simpa using hw)
    have hended : KeepsLaws Law.passing s (modifyStation i (fun x => { x with state := .verifying, begun := true }) (keepCopy i t)) := by
      have hkept : ((keepCopy i t).station i).accepted = true :=
        (KeepsLaws.refl noLaw t).thenKeepCopy (.accepted i) id (accepted_of_busy hbusy)
      exact h.thenKeepCopy.thenAccepted (.inr hkept) rfl rfl
    split
    · exact .ite h (h.thenDropAndEnd hbusy)
    · exact hended
    · exact hended

theorem KeepsLaws.thenSecondMismatch (h : KeepsLaws Law.passing s t) {bytes : List Byte} :
    KeepsLaws Law.passing s (secondMismatch i bytes t) := by
  unfold secondMismatch
  dsimp only
  split
  · exact .ite (h.thenCreditSuspect.thenEmptied fun _ => id).thenDisplay h.thenCreditFailed.thenEndCard
  · exact .ite (h.thenSetDebitCopy.thenDebitUnresolved.thenEmptied fun _ => id).thenDisplay
      h.thenSetDebitCopy.thenAbandonDebit.thenEndCard
  · exact h

theorem KeepsLaws.thenVerifyEnds (h : KeepsLaws Law.passing s t) {bytes : Option (List Byte)} :
    KeepsLaws Law.passing s (verifyEnds i bytes t) := by
  unfold verifyEnds
  dsimp only
  split
  case isTrue => exact h
  case isFalse hst =>
    have hbusy : busyStation (t.station i) = true := by simp [busyStation, not_not.mp hst]
    have haccepted := accepted_of_busy hbusy
    split
    · exact h.thenLoseAndEnd hbusy
    · refine .ite ?_ (.ite ?_ h.thenSecondMismatch)
      · split
        · exact h.thenLandCredit haccepted
        · exact h.thenLandDebit haccepted
        · exact h
      · refine h.thenSameCard rfl ?_
        have hst : writingState (t.station i) = .crediting ∨ writingState (t.station i) = .debiting := by
          unfold writingState
          split <;> simp
        rw [haccepted]
        rcases hst with hst | hst <;> simp [Station.accepted, busyStation, hst]

/-! ## Panel requests -/

theorem KeepsLaws.thenInService (h : KeepsLaws w s t) {small : Nat} {decide : State → State} (hd : KeepsLaws w s (decide t)) :
    KeepsLaws w s (inService i small decide t) := by
  unfold inService
  split
  · exact h.thenDisplay
  · exact h.thenDisplay
  · exact hd

theorem KeepsLaws.thenBeginDebit (h : KeepsLaws w s t) {request : CardRequest} {p : Purchase}
    (hi : (t.station i).accepted = true) : KeepsLaws w s (beginDebit i a request p t) :=
  h.thenSameCard rfl (by rw [hi]; rfl)

theorem KeepsLaws.thenPayFor (h : KeepsLaws w s t) {p : Purchase} (hi : (t.station i).accepted = true) :
    KeepsLaws w s (payFor i a p t) := by
  unfold payFor
  dsimp only
  split
  · exact h.thenDisplay
  · refine .ite h.thenCountCharged.thenBeginStart.thenRaise.thenDisplay (h.thenBeginStart.thenBeginDebit ?_)
    exact (KeepsLaws.refl noLaw t).thenBeginStart (.accepted i) id hi

theorem KeepsLaws.thenDecidePay (h : KeepsLaws w s t) {target steps : Nat} : KeepsLaws w s (decidePay i target steps t) := by
  unfold decidePay
  dsimp only
  split
  case isTrue => exact h.thenDisplay
  case isFalse hst =>
    refine .ite h.thenDisplay (.ite h.thenDisplay ?_)
    split
    · exact h.thenDisplay
    · split
      · exact h.thenDisplay
      · exact h.thenPayFor (accepted_of_cardReady (not_not.mp hst))

theorem KeepsLaws.thenRefusePanel (h : KeepsLaws w s t) {m : Message} (hi : (t.station i).accepted = true) :
    KeepsLaws w s (refusePanel i m t) :=
  h.thenSettle hi fun v => (KeepsLaws.refl v t).thenDisplay

theorem KeepsLaws.thenAddTimeFor (h : KeepsLaws w s t) {p : Purchase} (hi : (t.station i).accepted = true) :
    KeepsLaws w s (addTimeFor i a p t) := by
  unfold addTimeFor
  dsimp only
  split
  · exact h.thenRefusePanel hi
  · refine .ite (h.thenSettle hi fun v => ?_) (h.thenBeginTopUp.thenBeginDebit ?_)
    · exact (KeepsLaws.refl v t).thenBeginTopUp.thenCountCharged.thenCommitTopUp.thenRaise.thenDisplay
    · exact (KeepsLaws.refl noLaw t).thenBeginTopUp (.accepted i) id hi

theorem KeepsLaws.thenDecideAddTime (h : KeepsLaws w s t) {target steps : Nat} :
    KeepsLaws w s (decideAddTime i target steps t) := by
  unfold decideAddTime
  dsimp only
  split
  case isTrue => exact h.thenDisplay
  case isFalse hst =>
    have hi := accepted_of_cardReady (not_not.mp hst)
    split
    · exact h.thenRefusePanel hi
    · split
      · exact h.thenRefusePanel hi
      · exact h.thenAddTimeFor hi

/-- R127: an entry at the tail, of a card that is not in the queue, while the queue has room. -/
theorem KeepsLaws.thenDecideQueue (h : KeepsLaws w s t) {c : MachineClass} : KeepsLaws w s (decideQueue i c t) := by
  unfold decideQueue
  dsimp only
  split
  case isTrue => exact h.thenDisplay
  case isFalse hst =>
    have hi := accepted_of_cardReady (not_not.mp hst)
    refine .ite (h.thenRefusePanel hi) ?_
    split
    case isTrue => exact h.thenRefusePanel hi
    case isFalse hnew =>
      split
      case isTrue => exact h.thenRefusePanel hi
      case isFalse hroom =>
        refine (h.thenChangeQueue fun hq => ?_).thenDisplay
        rw [claimQueue_lawful_iff] at hq ⊢
        simp only [Config.queueEntries, not_le] at hroom
        simp only [List.any_eq_true, beq_iff_eq, not_exists, not_and] at hnew
        refine ⟨by simpa using hroom, ?_⟩
        rw [List.map_append]
        exact List.nodup_append.mpr ⟨hq.2, by simp, by simpa [newClaim] using hnew⟩

theorem KeepsLaws.thenDecideBalance (h : KeepsLaws w s t) : KeepsLaws w s (decideBalance i t) :=
  .ite h.thenDisplay h.thenDisplay

theorem KeepsLaws.thenTakeQueue (h : KeepsLaws w s t) {n : Nat} : KeepsLaws w s (takeQueue i n t) := by
  unfold takeQueue
  split
  · exact h.thenPanelError
  · exact h.thenInService h.thenDecideQueue

theorem KeepsLaws.thenTakePay (h : KeepsLaws w s t) {target steps : Nat} : KeepsLaws w s (takePay i target steps t) :=
  h.thenInService h.thenDecidePay

theorem KeepsLaws.thenTakeAddTime (h : KeepsLaws w s t) {target steps : Nat} : KeepsLaws w s (takeAddTime i target steps t) :=
  h.thenInService h.thenDecideAddTime

theorem KeepsLaws.thenTakeBalance (h : KeepsLaws w s t) : KeepsLaws w s (takeBalance i t) :=
  h.thenInService h.thenDecideBalance

theorem KeepsLaws.thenPanelByte (h : KeepsLaws w s t) {b : Byte} : KeepsLaws w s (panelByte i b t) := by
  have hc := h.thenClearPanel (i := i)
  exact .ite h (.ite (h.thenSameCard rfl rfl) (.ite hc.thenPanelError (.ite hc.thenTakePay (.ite hc.thenTakeAddTime
    (.ite hc.thenTakeQueue (.ite hc.thenTakeBalance hc.thenPanelError))))))

end Sys2Proof.Machine

/-! PROOF. The laws of the device kept by the replies of the machines (chapters 1 and 2), by the sheds of the pools (3.4, 3.5),
by the requests of the control ports, by the loader and by a power-on; with them every step keeps each law by itself. -/

namespace Sys2Proof.Machine

variable {w : Law → Prop} {s t : State} {a : Addr} {i : StationId} {k : PoolId}

/-! ## Replies of PRESENT machines -/

theorem KeepsLaws.thenFollowPanel (h : KeepsLaws w s t) : KeepsLaws w s (followPanel a t) := by
  unfold followPanel
  dsimp only
  split
  · exact .ite h.thenMoveTo h
  · exact .ite h.thenMoveTo h
  all_goals exact h

theorem KeepsLaws.thenFinishedDoor (h : KeepsLaws w s t) {door : Door} : KeepsLaws w s (finishedDoor a door t) := by
  unfold finishedDoor
  split
  · exact h.thenModifyMachine (by simp)
  · exact .ite (h.thenModifyMachine (by simp)).thenReleaseToRoom h
  · exact .ite (h.thenModifyMachine (by simp)).thenReleaseToRoom h

theorem KeepsLaws.thenTakeDoor (h : KeepsLaws w s t) {door : Door} : KeepsLaws w s (takeDoor a door t) := by
  have hdoor := h.thenModifyMachine (a := a) (f := fun m => { m with door := some door }) (by simp)
  unfold takeDoor
  dsimp only
  split
  · exact hdoor.thenFollowPanel
  · exact hdoor.thenFollowPanel
  · exact hdoor.thenRunningDoor
  · exact hdoor.thenFinishedDoor
  all_goals exact hdoor

theorem KeepsLaws.thenTakeSelection (h : KeepsLaws w s t) {selection : Option Nat} :
    KeepsLaws w s (takeSelection a selection t) := (h.thenModifyMachine (by simp)).thenFollowPanel

theorem KeepsLaws.thenRetryPhase (h : KeepsLaws w s t) : KeepsLaws w s (retryPhase a t) := h.thenModifyCycle.thenStartPhase

theorem KeepsLaws.thenTakeCycleFault (h : KeepsLaws w s t) {r : Report} : KeepsLaws w s (takeCycleFault a r t) := by
  unfold takeCycleFault
  split
  · exact h
  · dsimp only
    split
    · exact .ite (.ite h.thenHandFault.thenStopCycle h.thenHandFault.thenRetryPhase) h.thenHandFault
    · exact h.thenHandFault.thenStopCycle
    · exact h.thenHandFault

theorem KeepsLaws.thenTakeFault (h : KeepsLaws w s t) {r : Report} : KeepsLaws w s (takeFault a r t) := by
  unfold takeFault
  split
  · exact h.thenTakeCycleFault
  · exact h.thenHandFault
  all_goals exact h.thenHandFault

theorem KeepsLaws.thenTakeCool (h : KeepsLaws w s t) {taken : Option BusCommand} : KeepsLaws w s (takeCool a taken t) := by
  unfold takeCool
  split
  · exact .ite h.thenReleaseGrant.thenModifyCycle h
  · exact h

theorem KeepsLaws.thenReadOutcome (h : KeepsLaws w s t) {r : Report} : KeepsLaws w s (readOutcome a r t) := by
  unfold readOutcome
  split
  · exact h
  · refine .ite h.thenTimeoutStop ?_
    split
    · exact h.thenModifyCycle
    · exact h.thenModifyCycle.thenCompletePhase
    · exact .ite h.thenModifyCycle h.thenModifyCycle.thenTakeCycleFault
    all_goals exact h.thenTimeoutStop

theorem KeepsLaws.thenNoteStop (h : KeepsLaws w s t) {taken : Option BusCommand} : KeepsLaws w s (noteStop a taken t) := by
  unfold noteStop
  refine .ite ?_ h
  split
  · exact h.thenModifyCycle
  · exact h.thenModifyCycle
  all_goals exact h

theorem KeepsLaws.thenPanelStop (h : KeepsLaws w s t) : KeepsLaws w s (panelStop a t) :=
  h.thenModifyCycle.thenMoveTo.thenWithdrawEntry

theorem KeepsLaws.thenTakeConfirmation (h : KeepsLaws w s t) {r : Report} : KeepsLaws w s (takeConfirmation a r t) :=
  .ite h.thenConfirmStop.thenEnterFinished h.thenConfirmStop

theorem KeepsLaws.thenRunningActivity (h : KeepsLaws w s t) {x : Shown} : KeepsLaws w s (runningActivity a x t) := by
  unfold runningActivity
  split
  · exact h
  · dsimp only
    split
    · exact .ite h h.thenPanelStop.thenTakeConfirmation
    · exact .ite h h.thenPanelStop.thenTakeConfirmation
    · refine .ite ?_ h
      split
      · exact h.thenCompletePhase
      · exact h.thenCompletePhase
      · exact h.thenCompletePhase
      · exact h.thenCompletePhase
      all_goals exact h
    · refine .ite ?_ h
      split
      · exact h.thenTimeoutStop
      · exact .ite h.thenConfirmSuspend h
      all_goals exact h
    · exact .ite h.thenTimeoutStop h
    · exact .ite h.thenTimeoutStop h
    · exact .ite h.thenTimeoutStop h
    all_goals exact h

theorem KeepsLaws.thenStoppingActivity (h : KeepsLaws w s t) {r : Report} : KeepsLaws w s (stoppingActivity a r t) :=
  .ite h.thenTakeConfirmation h

theorem KeepsLaws.thenTakeActivity (h : KeepsLaws w s t) {x : Shown} : KeepsLaws w s (takeActivity a x t) := by
  unfold takeActivity
  split
  · exact h.thenRunningActivity
  · exact h.thenStoppingActivity
  all_goals exact h

theorem KeepsLaws.thenTakeWork (h : KeepsLaws w s t) {x : Shown} {activity fault : Bool} :
    KeepsLaws w s (takeWork a x activity fault t) := by
  have hactivity : KeepsLaws w s (if activity then takeActivity a x t else t) := .ite h.thenTakeActivity h
  exact .ite h.thenServiceReport (.ite hactivity.thenTakeFault hactivity)

theorem KeepsLaws.thenTakeOutcome (h : KeepsLaws w s t) {x : Shown} {d : Changes} : KeepsLaws w s (takeOutcome a x d t) := by
  have hnote := (h.thenNoteStop (a := a) (taken := x.taken)).thenTakeCool (a := a) (taken := x.taken)
  unfold takeOutcome
  dsimp only
  generalize takeCool a x.taken (noteStop a x.taken t) = u at hnote ⊢
  have hread : KeepsLaws w s (if showsOutcome a x.taken u then readOutcome a x.report u else u) := .ite hnote.thenReadOutcome hnote
  have hdoor := fun (v : State) (hv : KeepsLaws w s v) => KeepsLaws.ite (c := d.door = true) (hv.thenTakeDoor (a := a) (door := x.report.door)) hv
  have hpanel := fun (v : State) (hv : KeepsLaws w s v) =>
    KeepsLaws.ite (c := d.selection = true) (hv.thenTakeSelection (a := a) (selection := x.report.selection)) hv
  exact KeepsLaws.thenTakeWork (hpanel _ (hdoor _ hread))

/-! ## Absence and join -/

theorem KeepsLaws.thenEndWork (h : KeepsLaws w s t) {st : MachineState} : KeepsLaws w s (endWork a st t) := by
  unfold endWork
  split
  · exact h.thenHandBack
  · exact h.thenHandBack
  · exact h.thenWithdrawEntry.thenReleaseGrant.thenSettleRefund.thenModifyMachine (by simp)
  · exact h.thenSettleRefund.thenReleaseGrant.thenModifyMachine (by simp)
  · exact h.thenModifyMachine (by simp)
  · exact h.thenAbsentService
  · exact h.thenAbsentService
  all_goals exact h

theorem KeepsLaws.thenTakeAbsence (h : KeepsLaws w s t) : KeepsLaws w s (takeAbsence a t) :=
  (h.thenModifyMachine (by simp)).thenMoveTo.thenEndWork

theorem KeepsLaws.thenTakeJoin (h : KeepsLaws w s t) {r : Report} : KeepsLaws w s (takeJoin a r t) :=
  .ite (h.thenModifyMachine (by simp)).thenReleaseToRoom (h.thenModifyMachine (by simp)).thenReleaseToRoom.thenHandFault

/-! ## The room bus -/

theorem absentBus_lawful (b : BusFields) : (absentBus b).lawful = true := rfl

theorem KeepsLaws.thenDeclareAbsent (h : KeepsLaws w s t) {reason : AbsenceReason} : KeepsLaws w s (declareAbsent a reason t) :=
  (h.thenModifyBus (fun _ => rfl) (fun _ _ => rfl)).thenTakeAbsence.thenRaise.thenHandFault

/-- R12: right after its absence a machine is away. -/
theorem away_declareAbsent (a : Addr) (reason : AbsenceReason) (s : State) :
    ((declareAbsent a reason s).machine a).bus.presence = .absent := by
  refine (KeepsLaws.refl noLaw (modifyBus a (fun b => { absentBus b with mismatch := decide (reason = .identity) }) s)).thenTakeAbsence
    |>.thenRaise |>.thenHandFault (.away a) id ?_
  simp [Law.holds, modifyBus, absentBus, leaveJoining]

theorem KeepsLaws.thenMissedSlot (h : KeepsLaws w s t) : KeepsLaws w s (missedSlot a t) := by
  have hcount : (t.machine a).bus.missed + 1 < 3 → (t.machine a).bus.presence ≠ .absent →
      KeepsLaws w s (modifyBus a (fun b => { b with missed := b.missed + 1 }) t) := by
    intro hm hp
    refine h.thenModifyBus (fun hb => ?_) (fun _ => id)
    rw [busFields_lawful_iff] at hb ⊢
    obtain ⟨-, hqueued, hreport, -, htag⟩ := hb
    exact ⟨fun habs => absurd habs hp, hqueued, hreport, hm, htag⟩
  unfold missedSlot
  dsimp only
  split
  case h_1 => exact h
  case h_2 hp =>
    split
    case isTrue hm => exact hcount hm (by simp [hp])
    case isFalse => exact h.thenDeclareAbsent
  case h_3 hp =>
    split
    case isTrue hm => exact hcount hm (by simp [hp])
    case isFalse => exact h.thenModifyBus (fun _ => rfl) (fun _ _ => rfl)

theorem KeepsLaws.thenRecordMismatch (h : KeepsLaws w s t) : KeepsLaws w s (recordMismatch a t) :=
  .ite h (h.thenHandFault.thenModifyBus id (fun _ => id))

/-- R16: a machine joins with its last status report. -/
theorem KeepsLaws.thenJoinMachine (h : KeepsLaws w s t) {r : Report} (hw : w (.away a))
    (hr : (t.machine a).bus.lawful = true → (t.machine a).bus.report.isSome = true) : KeepsLaws w s (joinMachine a r t) := by
  refine (h.thenModifyBus (fun hb => ?_) (fun hno => absurd hw hno)).thenTakeJoin.thenRaise
  have hreport := hr hb
  rw [busFields_lawful_iff] at hb ⊢
  obtain ⟨-, hqueued, -, hmissed, htag⟩ := hb
  exact ⟨by simp, fun hq => ⟨rfl, (hqueued hq).2⟩, fun _ => hreport, hmissed, htag⟩

/-- R17: an address found at work has a STOP in flight and nothing queued. -/
theorem KeepsLaws.thenBeginOrphan (h : KeepsLaws w s t) (hw : w (.away a)) (hp : (t.machine a).bus.presence = .absent)
    (hr : (t.machine a).bus.report.isSome = true) : KeepsLaws w s (beginOrphan a t) := by
  refine KeepsLaws.thenHandFault (h.thenModifyBus (fun hb => ?_) (fun hno => absurd hw hno))
  rw [busFields_lawful_iff] at hb ⊢
  obtain ⟨habsent, -, -, hmissed, -⟩ := hb
  obtain ⟨-, -, hqueued, -⟩ := habsent hp
  refine ⟨by simp, by simp [hqueued], fun _ => hr, hmissed, ?_⟩
  simp

theorem KeepsLaws.thenDiscoveryFrom (h : KeepsLaws w s t) {echo : Bool} {r : Report} (hw : w (.away a))
    (hp : (t.machine a).bus.presence = .absent) : KeepsLaws w s (discoveryFrom a echo r t) := by
  have hreport : KeepsLaws w s (modifyBus a (fun b => { b with
      lastTag := echo, missed := 0, mismatch := false, report := some r }) t) := by
    refine h.thenModifyBus (fun hb => ?_) (fun _ => id)
    rw [busFields_lawful_iff] at hb ⊢
    obtain ⟨habsent, hqueued, -, -, -⟩ := hb
    obtain ⟨-, hinFlight, -, horphan⟩ := habsent hp
    exact ⟨fun _ => ⟨rfl, (habsent hp).2⟩, hqueued, fun _ => rfl, by simp, by simp [hinFlight]⟩
  refine .ite (.ite (hreport.thenBeginOrphan hw ?_ ?_) (hreport.thenJoinMachine hw (fun _ => ?_))) h.thenRecordMismatch
  · simpa [modifyBus] using hp
  · simp [modifyBus]
  · simp [modifyBus]

/-- R9: the echoed command is taken, and the queued one moves up with the other tag. -/
theorem takeEcho_lawful {b : BusFields} (echo : Bool) (h : b.lawful = true) : (takeEcho echo b).1.lawful = true := by
  rw [busFields_lawful_iff] at h
  obtain ⟨habsent, hqueued, hreport, hmissed, htag⟩ := h
  unfold takeEcho
  split
  case h_1 hf => rw [busFields_lawful_iff]; exact ⟨habsent, hqueued, hreport, hmissed, htag⟩
  case h_2 f hf =>
    split
    case isFalse => rw [busFields_lawful_iff]; exact ⟨habsent, hqueued, hreport, hmissed, htag⟩
    case isTrue he =>
      rw [busFields_lawful_iff]
      refine ⟨fun hp => absurd (habsent hp).2.1 (by simp [hf]), by simp, hreport, hmissed, fun x hx => ?_⟩
      obtain ⟨q, -, rfl⟩ := Option.map_eq_some_iff.mp hx
      simp

theorem takeEcho_presence (echo : Bool) (b : BusFields) : (takeEcho echo b).1.presence = b.presence := by
  unfold takeEcho
  split
  · rfl
  · split <;> rfl

/-- A status report is taken. -/
theorem lawful_report {b : BusFields} (r : Report) (h : b.lawful = true) : ({ b with report := some r } : BusFields).lawful = true := by
  rw [busFields_lawful_iff] at h ⊢
  obtain ⟨habsent, hqueued, -, hmissed, htag⟩ := h
  exact ⟨habsent, hqueued, fun _ => rfl, hmissed, htag⟩

theorem KeepsLaws.thenCountSlot (h : KeepsLaws w s t) {miss : Bool} : KeepsLaws w s (countSlot a miss t) := by
  refine .ite h.thenMissedSlot (h.thenModifyBus (fun hb => ?_) (fun _ => id))
  rw [busFields_lawful_iff] at hb ⊢
  obtain ⟨habsent, hqueued, hreport, -, htag⟩ := hb
  exact ⟨fun hp => ⟨rfl, (habsent hp).2⟩, hqueued, hreport, by simp, htag⟩

theorem KeepsLaws.thenJoiningFrom (h : KeepsLaws w s t) {echo : Bool} {r : Report} (hw : w (.away a)) :
    KeepsLaws w s (joiningFrom a echo r t) := by
  have hleave : KeepsLaws w s (modifyBus a leaveJoining t) := by
    refine h.thenModifyBus (fun hb => ?_) (fun _ _ => rfl)
    rw [busFields_lawful_iff]
    exact ⟨fun _ => ⟨rfl, rfl, rfl, rfl⟩, by simp [leaveJoining], by simp [leaveJoining], by simp [leaveJoining], by simp [leaveJoining]⟩
  have htaken : KeepsLaws w s (modifyBus a (fun b => { (takeEcho echo b).1 with report := some r }) t) :=
    h.thenModifyBus (fun hb => lawful_report r (takeEcho_lawful echo hb)) (fun _ hp => (takeEcho_presence echo _).trans hp)
  have horphan : KeepsLaws w s (modifyBus a (fun b => { b with orphanDeadline := none })
      (modifyBus a (fun b => { (takeEcho echo b).1 with report := some r }) t)) := by
    refine htaken.thenModifyBus (fun hb => ?_) (fun _ => id)
    rw [busFields_lawful_iff] at hb ⊢
    obtain ⟨habsent, hrest⟩ := hb
    exact ⟨fun hp => ⟨(habsent hp).1, (habsent hp).2.1, (habsent hp).2.2.1, rfl⟩, hrest⟩
  refine .ite (hleave.thenDiscoveryFrom hw (by simp [modifyBus, leaveJoining])) (.ite hleave.thenRecordMismatch
    (.ite htaken.thenCountSlot (KeepsLaws.thenCountSlot (horphan.thenJoinMachine hw (fun _ => ?_)))))
  simp [modifyBus]

theorem KeepsLaws.thenPresentFrom (h : KeepsLaws w s t) {echo : Bool} {r : Report} (hw : w (.away a)) :
    KeepsLaws w s (presentFrom a echo r t) := by
  have htaken : KeepsLaws w s (modifyBus a (fun b => (takeEcho echo b).1) t) :=
    h.thenModifyBus (takeEcho_lawful echo) (fun _ hp => (takeEcho_presence echo _).trans hp)
  have houtcome := htaken.thenTakeOutcome (a := a) (x := { taken := (takeEcho echo (t.machine a).bus).2, report := r })
    (d := changesOf (t.machine a).bus.report r)
  have hreport := houtcome.thenModifyBus (a := a) (f := fun b => { b with report := some r }) (lawful_report r) (fun _ => id)
  unfold presentFrom
  exact .ite (h.thenDeclareAbsent.thenDiscoveryFrom hw (away_declareAbsent a _ t)) (.ite h.thenDeclareAbsent hreport.thenCountSlot)

theorem KeepsLaws.thenTakeReply (h : KeepsLaws Law.passing s t) {bytes : List Byte} :
    KeepsLaws Law.passing s (takeReply bytes t) := by
  unfold takeReply
  split
  · exact h
  · dsimp only
    refine .ite h.thenSlot ?_
    split
    · exact h.thenSlot.thenMissedSlot
    · split
      · exact h.thenSlot.thenPresentFrom trivial
      · exact h.thenSlot.thenJoiningFrom trivial
      case h_3 hp => exact h.thenSlot.thenDiscoveryFrom trivial hp

theorem KeepsLaws.thenWindowMissed (h : KeepsLaws w s t) : KeepsLaws w s (windowMissed t) := by
  unfold windowMissed
  split
  · exact h
  · exact .ite h.thenSlot.thenMissedSlot h.thenSlot

theorem KeepsLaws.thenOrphanTimeout (h : KeepsLaws Law.passing s t) {joinFirst : Bool} :
    KeepsLaws Law.passing s (orphanTimeout joinFirst a t) := by
  have hjoin : ∀ u, KeepsLaws Law.passing s u → (u.machine a).bus.presence = .joining → ∀ r, KeepsLaws Law.passing s
      (joinMachine a r (modifyBus a (fun b => { b with orphanDeadline := none, inFlight := none }) u)) := by
    intro u hu hp r
    have hcleared : KeepsLaws Law.passing s (modifyBus a (fun b => { b with orphanDeadline := none, inFlight := none }) u) := by
      refine hu.thenModifyBus (fun hb => ?_) (fun _ => id)
      rw [busFields_lawful_iff] at hb ⊢
      obtain ⟨habsent, hqueued, hreport, hmissed, htag⟩ := hb
      refine ⟨by simp [hp], fun hq => ?_, hreport, hmissed, by simp⟩
      exact absurd (hqueued hq).1 (by simp [hp])
    refine hcleared.thenJoinMachine trivial (fun hb => ?_)
    rw [busFields_lawful_iff] at hb
    exact hb.2.2.1 (by simp [modifyBus, hp])
  unfold orphanTimeout
  dsimp only
  split
  case isFalse => exact h
  case isTrue hc =>
    split
    · exact h
    · refine .ite (hjoin t h hc.1 _).thenHandFault (hjoin _ h.thenHandFault ?_ _)
      rw [(struck_handFault _ a t).bus]
      exact hc.1

/-! ## The room second -/

theorem KeepsLaws.thenBeginSlot (h : KeepsLaws w s t) : KeepsLaws w s (beginSlot t) :=
  h.trans (keeps_of_touches (touched_beginSlot t) (by simp))

/-- The room second leaves what the laws read: it counts time and statistics. -/
theorem KeepsLaws.thenTick (h : KeepsLaws w s t) : KeepsLaws w s (tick t) := by
  have hpools : KeepsLaws w s ((t.setPool .electric (countPool t.electric)).setPool .water (countPool t.water)) :=
    (h.thenSamePool (k := .electric) (p := countPool t.electric) ⟨rfl, rfl, rfl, rfl⟩ ⟨rfl, rfl, rfl⟩ rfl).thenSamePool
      (k := .water) (p := countPool t.water) ⟨rfl, rfl, rfl, rfl⟩ ⟨rfl, rfl, rfl⟩ rfl
  refine hpools.trans (keeps_of_touches (ps := [.machines, .clock, .bus]) (fun p hp => ?_)
    (List.forall_mem_cons.mpr ⟨?_, by simp⟩))
  · unfold tick beginRound
    dsimp only
    split <;> cases p <;> simp_all [Same, samePort, State.setPool]
  · have hmachine : ∀ b, ((tick t).machine b).bus = (t.machine b).bus := by
      intro b
      have : (tick t).machine b = countMachine (t.machine b) := by
        unfold tick beginRound
        dsimp only
        split <;> simp [State.machine]
      rw [this]
      unfold countMachine
      split <;> rfl
    have hold : ∀ b, (((t.setPool .electric (countPool t.electric)).setPool .water (countPool t.water)).machine b).bus =
        (t.machine b).bus := fun b => by simp
    exact ⟨fun hb b => by rw [hmachine, ← hold]; exact hb b, fun b _ hp => by rw [hmachine, ← hold]; exact hp⟩

/-! ## Sheds -/

theorem KeepsLaws.thenOfferSuspension (h : KeepsLaws w s t) {g : Grant} : KeepsLaws w s (offerSuspension k g t) :=
  .ite h.thenBeginSuspend.thenModifyStats h

theorem KeepsLaws.thenRelieveShared (h : KeepsLaws w s t) {gs : List Grant} : KeepsLaws w s (relieveShared k gs t) := by
  induction gs generalizing t with
  | nil => exact h
  | cons g gs ih => exact .ite (ih h.thenOfferSuspension) h

theorem KeepsLaws.thenRelieveReserve (h : KeepsLaws w s t) {c : MachineClass} : KeepsLaws w s (relieveReserve k c t) := by
  unfold relieveReserve
  split
  · exact h
  · exact .ite h.thenOfferSuspension h

theorem setOverLimit_lawful (k : PoolId) (s : State) : ((setOverLimit k s).pool k).lawful = true := by
  unfold setOverLimit
  dsimp only
  split
  case isTrue he => rw [Pool.lawful, he]; simp
  case isFalse =>
    rw [raise_pool, pool_setPool_self]
    show (!(s.pool k).withinFigures || (s.pool k).withinFigures) = true
    simp

/-- R69: a shed ends with the pool within its figures or OVER_LIMIT, and scanned. -/
theorem KeepsLaws.thenShed (h : KeepsLaws (waiving (waiving w (.settled k)) (.figures k)) s t) : KeepsLaws w s (shed k t) := by
  have hrelieved := fun gs => (h.thenRelieveShared (k := k) (gs := gs)).thenRelieveReserve (k := k) (c := .washer)
    |>.thenRelieveReserve (k := k) (c := .dryer)
  refine KeepsLaws.thenScanMends (KeepsLaws.mend (l := .figures k) ?_ (fun _ => setOverLimit_lawful k _))
  refine .ite (hrelieved _) (KeepsLaws.thenRaise ((hrelieved _).thenSetPool (fun hw => absurd (.inr rfl) hw)
    (fun hw => absurd (.inl (.inr rfl)) hw) (by exact fun _ => id) (by exact id)))

theorem KeepsLaws.thenSetLimit (h : KeepsLaws w s t) {n : Nat} : KeepsLaws w s (setLimit k n t) := by
  refine KeepsLaws.thenShed (KeepsLaws.thenRaise (h.waive.waive.thenSetPool (fun hw => absurd (.inr rfl) hw)
    (fun hw => absurd (.inl (.inr rfl)) hw) (by exact fun _ => id) (by exact id)))

theorem KeepsLaws.thenSetReserve (h : KeepsLaws w s t) {c : MachineClass} {n : Nat} : KeepsLaws w s (setReserve k c n t) := by
  have hsame : ((t.pool k).withReserve c n).grants = (t.pool k).grants ∧ ((t.pool k).withReserve c n).waits = (t.pool k).waits := by
    cases c <;> exact ⟨rfl, rfl⟩
  refine KeepsLaws.thenShed (KeepsLaws.thenRaise (h.waive.waive.thenSetPool (fun hw => absurd (.inr rfl) hw)
    (fun hw => absurd (.inl (.inr rfl)) hw) ?_ ?_))
  · simp only [Pool.orderly, hsame]; exact fun _ => id
  · simp only [Pool.machines, hsame]; exact id

theorem KeepsLaws.thenTellExpiry (h : KeepsLaws w s t) {e : WaitEntry} : KeepsLaws w s (tellExpiry e t) := by
  unfold tellExpiry
  split
  · exact h.thenStopCycle
  · exact h.thenStopCycle
  · exact h.thenFinishPhase
  · exact h.thenFinishTest

theorem KeepsLaws.thenExpireFrom (h : KeepsLaws w s t) : KeepsLaws w s (expireFrom k a t) := by
  unfold expireFrom
  split
  · exact h
  · exact h.waive.thenFilterWaits.thenRaise.thenHandFault.thenTellExpiry.thenScanMends

theorem KeepsLaws.thenSuspendIgnored (h : KeepsLaws w s t) : KeepsLaws w s (suspendIgnored a t) :=
  .ite h.thenHandFault.thenStopCycle h

theorem KeepsLaws.thenSuspendTimeout (h : KeepsLaws w s t) : KeepsLaws w s (suspendTimeout k a t) :=
  .ite h.thenClearSuspendDeadline.thenSuspendIgnored h

/-! ## Requests -/

theorem KeepsLaws.thenHaltMachine (h : KeepsLaws w s t) : KeepsLaws w s (haltMachine t a) := by
  unfold haltMachine
  dsimp only
  split
  · exact h.thenStopCycle
  · exact h.thenHandBack.thenMoveTo
  · exact .ite (h.thenHandBack.thenModifyMachine (by simp)) h
  · exact h.thenHaltService
  · exact h.thenHaltService
  all_goals exact h

theorem KeepsLaws.thenHalted (h : KeepsLaws w s t) {x : Bool} : KeepsLaws w s { t with halted := x } :=
  h.trans (keeps_of_touches (ps := [.room]) (touched_of (by simp)) (by simp))

theorem KeepsLaws.thenHaltRoom (h : KeepsLaws w s t) : KeepsLaws w s (haltRoom t) :=
  h.thenHalted.thenRaise.thenTellPool.thenTellPool.trans (KeepsLaws.foldl (fun u _ => (KeepsLaws.refl w u).thenHaltMachine) _ _)

theorem KeepsLaws.thenResumeOffer (h : KeepsLaws w s t) : KeepsLaws w s (resumeOffer t a) := by
  have hplace := h.thenPlaceHold (a := a)
  unfold resumeOffer
  split
  · split <;> (rename_i he; rw [he] at hplace)
    · exact hplace.thenMoveTo
    · exact hplace
  · split <;> (rename_i he; rw [he] at hplace)
    · exact hplace.thenMoveTo
    · exact hplace
  all_goals exact h

theorem KeepsLaws.thenResumeRoom (h : KeepsLaws w s t) : KeepsLaws w s (resumeRoom t) :=
  h.thenHalted.thenRaise.thenTellPool.thenTellPool.trans (KeepsLaws.foldl (fun u _ => (KeepsLaws.refl w u).thenResumeOffer) _ _)

theorem KeepsLaws.thenOpenSession (h : KeepsLaws w s t) : KeepsLaws w s (openSession a t) := h.thenSession.thenMoveTo.thenRaise

theorem KeepsLaws.thenMakePhase (h : KeepsLaws w s t) {kind : PhaseKind} {seconds : Nat} :
    KeepsLaws w s (makePhase a kind seconds t) := by
  unfold makePhase
  dsimp only
  split
  · exact h.thenSession.thenRaise.thenStartServicePhase
  · exact h.thenSession.thenRaise.thenRequestGrant (by simp)

theorem KeepsLaws.thenMakeRun (h : KeepsLaws w s t) {origin : TestOrigin} : KeepsLaws w s (makeRun a origin t) :=
  (h.thenModifyMachine (by simp)).thenRaise.thenRaise.thenBeginSubtest

theorem KeepsLaws.thenCancelEntry (h : KeepsLaws w s t) {c : MachineClass} {e : ClaimEntry} :
    KeepsLaws w s (cancelEntry c e t) := by
  have herased : KeepsLaws w s (changeQueue c (fun q => { q with
    entries := q.entries.eraseP (fun x => x.card == e.card), cancelled := countUp q.cancelled }) t) := h.thenEraseEntry (by exact fun _ => rfl)
  unfold cancelEntry
  dsimp only
  split
  · exact herased
  · exact herased.thenReoffer

/-- A decision whose state keeps the laws. -/
theorem KeepsLaws.iteDecision {c : Prop} [Decidable c] {x y : Decision} (hx : KeepsLaws w s x.state) (hy : KeepsLaws w s y.state) :
    KeepsLaws w s (if c then x else y).state := by
  split
  · exact hx
  · exact hy

theorem KeepsLaws.withAddress (h : KeepsLaws w s t) {payload : List Byte} {f : Addr → Decision}
    (hf : ∀ a, KeepsLaws w s (f a).state) : KeepsLaws w s (withAddress payload t f).state := by
  unfold Machine.withAddress
  split
  · exact h
  · exact hf _

theorem KeepsLaws.withConfigured (h : KeepsLaws w s t) {payload : List Byte} {f : Addr → Decision}
    (hf : ∀ a, KeepsLaws w s (f a).state) : KeepsLaws w s (withConfigured payload t f).state :=
  h.withAddress fun a => .iteDecision (hf a) h

theorem KeepsLaws.thenSetTables (h : KeepsLaws w s t) {x : Tables} : KeepsLaws w s (setTables x t) :=
  h.trans (keeps_of_touches (touched_setTables x t) (by simp))

theorem KeepsLaws.thenReserveChanged (h : KeepsLaws w s t) {c : MachineClass} {old new : Nat} :
    KeepsLaws w s (reserveChanged k c old new t) := .ite h h.thenSetReserve

theorem KeepsLaws.thenSetRoster (h : KeepsLaws w s t) {new : Option RosterEntry} : KeepsLaws w s (setRoster a new t) := by
  have hrecord : ∀ old : Option RosterEntry, ∀ m : MachineRecord, (m.bus.lawful = true → (rosterRecord old new m).bus.lawful = true) ∧
      (m.bus.presence = .absent → (rosterRecord old new m).bus.presence = .absent) := by
    intro old m
    unfold rosterRecord
    split
    · exact ⟨fun _ => rfl, fun _ => rfl⟩
    · exact ⟨fun _ => rfl, fun _ => rfl⟩
    · split
      · exact ⟨id, id⟩
      · exact ⟨id, id⟩
  have hslot : ∀ u, KeepsLaws w s u → KeepsLaws w s (dropSlot a u) := fun u hu =>
    hu.trans (keeps_of_touches (ps := [.bus]) (touched_of (by simp)) (by simp))
  unfold setRoster
  dsimp only
  refine .ite (KeepsLaws.thenRaise (KeepsLaws.thenModifyMachine_of_bus ?_ (hrecord _ _).1 (fun _ => (hrecord _ _).2))) ?_
  · exact .ite (hslot _ h.thenSetTables) h.thenSetTables
  · exact .ite (hslot _ h.thenSetTables) h.thenSetTables

theorem KeepsLaws.thenSetFaults (h : KeepsLaws w s t) {rs : List FaultRecord} (hsub : rs.Sublist t.faults) :
    KeepsLaws w s { t with faults := rs } := by
  refine h.trans (keeps_of_touches (touched_of (touches_faults (ps := [.faults]) (by simp) rs))
    (List.forall_mem_cons.mpr ⟨fun hf => ?_, by simp⟩))
  rw [faultsLawful_iff] at hf ⊢
  exact ⟨hsub.length_le.trans hf.1, hf.2.sublist (hsub.map _)⟩

/-! ## What the owners decide -/

theorem KeepsLaws.decideHalt (h : KeepsLaws w s t) : KeepsLaws w s (decideHalt t).state := .ite h h.thenHaltRoom

theorem KeepsLaws.decideResume (h : KeepsLaws w s t) : KeepsLaws w s (decideResume t).state := .ite h.thenResumeRoom h

theorem KeepsLaws.decideStop (h : KeepsLaws w s t) {payload : List Byte} : KeepsLaws w s (decideStop payload t).state := by
  refine h.withConfigured fun a => ?_
  split
  · exact h.thenStopCycle
  · exact h.thenWindDownTest
  all_goals exact h

theorem KeepsLaws.decideLock (h : KeepsLaws w s t) {payload : List Byte} : KeepsLaws w s (decideLock payload t).state :=
  h.withConfigured fun _ => h.thenApplyLock

theorem KeepsLaws.decideUnlock (h : KeepsLaws w s t) {payload : List Byte} : KeepsLaws w s (decideUnlock payload t).state :=
  h.withConfigured fun _ => KeepsLaws.thenRaise (.ite (h.thenModifyMachine (by simp)) (h.thenModifyMachine (by simp)).thenApplyUnlock)

theorem KeepsLaws.decideClearStrikes (h : KeepsLaws w s t) {payload : List Byte} :
    KeepsLaws w s (decideClearStrikes payload t).state := h.withAddress fun _ => (h.thenModifyMachine (by simp)).thenRaiseIf

theorem KeepsLaws.decidePermit (h : KeepsLaws w s t) {payload : List Byte} : KeepsLaws w s (decidePermit payload t).state :=
  h.withConfigured fun _ => (h.thenModifyMachine (by simp)).thenRaise

theorem KeepsLaws.decideEnter (h : KeepsLaws w s t) {payload : List Byte} : KeepsLaws w s (decideEnter payload t).state :=
  h.withConfigured fun _ => .iteDecision h (.iteDecision h (.iteDecision h (.iteDecision h.thenOpenSession h)))

theorem KeepsLaws.decideExit (h : KeepsLaws w s t) : KeepsLaws w s (decideExit t).state := by
  unfold Machine.decideExit
  split
  · exact h
  · refine .iteDecision h (.iteDecision h ?_)
    split
    · exact h.thenEndSession
    · split
      · exact h.thenWindDownPhase.thenEndSession
      · exact h.thenCloseSession.thenWindDownPhase
      · exact h.thenCloseSession.thenWindDownPhase

theorem KeepsLaws.decidePhase (h : KeepsLaws w s t) {payload : List Byte} : KeepsLaws w s (decidePhase payload t).state := by
  unfold Machine.decidePhase
  dsimp only
  split
  · exact h
  · exact h
  · exact .iteDecision h (.iteDecision h (.iteDecision h.thenMakePhase h.thenMakePhase))

theorem KeepsLaws.decideTest (h : KeepsLaws w s t) {p : Port} {payload : List Byte} :
    KeepsLaws w s (decideTest p payload t).state := by
  refine h.withAddress fun a => ?_
  split
  · exact .iteDecision h h.thenMoveTo.thenMakeRun
  · unfold sessionTest
    split
    · exact h
    · exact .iteDecision h (.iteDecision h (.iteDecision h h.thenMakeRun))
  · exact h

theorem KeepsLaws.decideClearFaults (h : KeepsLaws w s t) {payload : List Byte} :
    KeepsLaws w s (decideClearFaults payload t).state := by
  refine .iteDecision h (h.thenSetFaults ?_).thenRaise
  unfold surviving
  split
  · exact List.nil_sublist _
  · exact List.filter_sublist

/-- R123: after CLEAR_AUDIT what is issued is what the table holds. -/
theorem KeepsLaws.decideClearAudit (h : KeepsLaws w s t) : KeepsLaws w s (decideClearAudit t).state :=
  (h.thenSetMoney (es := t.refunds) (fun _ _ _ _ _ _ => by simp [Audit.zero]) id).thenRaise

theorem KeepsLaws.decideAddRefund (h : KeepsLaws w s t) {payload : List Byte} :
    KeepsLaws w s (decideAddRefund payload t).state := by
  refine .iteDecision h ?_
  split
  · exact h
  · exact h.thenPlaceRefund

/-- R119: the amount of an entry removed is counted as cancelled. -/
theorem KeepsLaws.thenCancelled (h : KeepsLaws w s t) {card : Nat} {e : RefundEntry} (he : t.refund card = some e) :
    KeepsLaws w s (removeRefund card (modifyAudit (fun x => { x with cancelled := addTotal x.cancelled e.amount }) t)) := by
  have hsum := refundSum_eraseP (p := refundFor card) he
  refine (h.thenSetMoney (x := _) (fun _ ho hi hc hu hx => ?_) (lawfulRefunds_sublist List.eraseP_sublist)).thenRaise
  obtain ⟨hcancelled, hlt⟩ := addTotal_lt hx
  have := ho hi hc hu hlt
  dsimp only [modifyAudit]
  omega

theorem KeepsLaws.decideCancelRefund (h : KeepsLaws w s t) {payload : List Byte} :
    KeepsLaws w s (decideCancelRefund payload t).state := by
  refine .iteDecision h ?_
  split
  · exact h
  case h_2 he =>
    split
    · exact h
    · exact .iteDecision h (h.thenCancelled he)
    · exact .iteDecision h (h.thenCancelled he)

theorem KeepsLaws.decideConfirmRefund (h : KeepsLaws w s t) {payload : List Byte} :
    KeepsLaws w s (decideConfirmRefund payload t).state := by
  refine .iteDecision h ?_
  split
  · exact h
  · exact .iteDecision h h.thenCreditLanded.thenTellPlacement

theorem KeepsLaws.decideCancelClaim (h : KeepsLaws w s t) {payload : List Byte} :
    KeepsLaws w s (decideCancelClaim payload t).state := by
  unfold Machine.decideCancelClaim
  dsimp only
  split
  · exact h
  · refine .iteDecision h ?_
    split
    · exact h
    · exact .iteDecision h h.thenCancelEntry

theorem KeepsLaws.decideRoomParam (h : KeepsLaws w s t) {payload : List Byte} :
    KeepsLaws w s (decideRoomParam payload t).state :=
  .iteDecision h (.ite h.thenSetTables.thenReserveChanged.thenReserveChanged.thenReserveChanged h.thenSetTables)

theorem KeepsLaws.decideMachine (h : KeepsLaws w s t) {payload : List Byte} :
    KeepsLaws w s (decideMachine payload t).state := by
  refine .iteDecision h ?_
  split
  · exact h
  · exact .iteDecision h (.iteDecision h h.thenSetRoster)

theorem KeepsLaws.decideReserve (h : KeepsLaws w s t) {payload : List Byte} :
    KeepsLaws w s (decideReserve payload t).state := by
  refine .iteDecision h ?_
  split
  · exact .iteDecision h (.ite h.thenSetTables.thenSetReserve h.thenSetTables)
  · exact h

/-- The owner of a request keeps the laws by one of the lemmas above, or touches no part that a law reads. -/
theorem KeepsLaws.ownerDecision (h : KeepsLaws w s t) {r : Req} {p : Port} {payload : List Byte} :
    KeepsLaws w s (ownerDecision r p payload t).state := by
  cases r with
  | setFeederLimit => exact h.thenSetLimit
  | setWaterLimit => exact h.thenSetLimit
  | clearPoolStats => exact (h.thenClearStats (k := .electric)).thenClearStats (k := .water)
  | haltRoom => exact h.decideHalt
  | resumeRoom => exact h.decideResume
  | setRoomParam => exact h.decideRoomParam
  | setMachine => exact h.decideMachine
  | setReserve => exact h.decideReserve
  | lock => exact h.decideLock
  | unlock => exact h.decideUnlock
  | clearStrikes => exact h.decideClearStrikes
  | grantPermit => exact h.decidePermit
  | stopMachine => exact h.decideStop
  | selfTest => exact h.decideTest
  | clearFaults => exact h.decideClearFaults
  | clearAudit => exact h.decideClearAudit
  | addRefund => exact h.decideAddRefund
  | cancelRefund => exact h.decideCancelRefund
  | confirmRefund => exact h.decideConfirmRefund
  | cancelClaim => exact h.decideCancelClaim
  | enterService => exact h.decideEnter
  | exitService => exact h.decideExit
  | servicePhase => exact h.decidePhase
  | readMachine => exact h.trans (keeps_of_touches (touched_decideReadMachine _ _) (by simp))
  | readRoom => exact h
  | readEvents => exact h
  | ackEvents => exact h.trans (keeps_of_touches (touched_decideAck _ _ _) (by simp))
  | setNoticeMask => exact h.trans (keeps_of_touches (touched_decideMask _ _ _) (by simp))
  | setBand => exact h.trans (keeps_of_touches (touched_decideBand _ _) (by simp))
  | readPool => exact h.trans (keeps_of_touches (touched_decideReadPool _ _) (by simp))
  | setWashProfile => exact h.trans (keeps_of_touches (touched_decideWashProfile _ _) (by simp))
  | setDryProfile => exact h.trans (keeps_of_touches (touched_decideDryProfile _ _) (by simp))
  | setPrice => exact h.trans (keeps_of_touches (touched_decidePrice _ _) (by simp))
  | storeConfig => exact h.trans (keeps_of_touches (touched_decideStore _) (by simp))
  | readFaults => exact h.trans (keeps_of_touches (touched_decideReadFaults _ _) (by simp))
  | readAudit => exact h
  | readRefunds => exact h.trans (keeps_of_touches (touched_decideReadRefunds _ _) (by simp))
  | readDoubts => exact h
  | readQueue => exact h.trans (keeps_of_touches (touched_decideReadQueue _ _) (by simp))

/-! ## Ports -/

theorem KeepsLaws.thenSetPort (h : KeepsLaws w s t) {p : Port} {x : PortState} : KeepsLaws w s (t.setPort p x) :=
  h.trans (keeps_of_touches (ps := [.ports, .flags]) (touched_of (by simp)) (by simp))

theorem KeepsLaws.decideRequest (h : KeepsLaws w s t) {r : Req} {p : Port} {payload : List Byte} :
    KeepsLaws w s (decideRequest r p payload t).state := by
  unfold Machine.decideRequest
  split
  · exact h
  · exact h.ownerDecision

theorem KeepsLaws.thenTakeRequest (h : KeepsLaws w s t) {r : Req} {p : Port} {payload : List Byte} :
    KeepsLaws w s (takeRequest r p payload t) :=
  .ite h.thenSetPort (KeepsLaws.thenSetPort (KeepsLaws.decideRequest h.thenSetPort))

theorem KeepsLaws.thenTakeFrame (h : KeepsLaws w s t) {p : Port} {code : Byte} {payload : List Byte} :
    KeepsLaws w s (takeFrame p code payload t) := by
  unfold takeFrame
  split
  · exact h.thenTakeRequest
  · exact .ite h.thenSetPort h.thenSetPort.thenSetPort

theorem KeepsLaws.thenPortByte (h : KeepsLaws w s t) {p : Port} {b : Byte} : KeepsLaws w s (portByte p b t) := by
  have herror := h.trans (keeps_of_touches (touched_takeFrameError p t) (by simp))
  unfold portByte completeFrame
  dsimp only
  split
  · exact .ite h.thenSetPort h
  · exact .ite h.thenSetPort herror
  · exact .ite h.thenSetPort (.ite h.thenSetPort (.ite h.thenTakeFrame herror))

/-! ## Timers -/

theorem KeepsLaws.atAddress (h : KeepsLaws w s t) {n : Nat} {f : Addr → State → State} (hf : ∀ a, KeepsLaws w s (f a t)) :
    KeepsLaws w s (atAddress n f t) := by
  unfold Machine.atAddress
  split
  · exact h
  · exact hf _

theorem KeepsLaws.thenStopTimeout (h : KeepsLaws w s t) : KeepsLaws w s (stopTimeout a t) :=
  .ite (h.thenHandFault.thenConfirmStop.thenModifyMachine (by simp)).thenMoveTo h

theorem KeepsLaws.thenPostCool (h : KeepsLaws w s t) : KeepsLaws w s (postCool a t) := by
  unfold postCool
  split
  · exact h
  · exact .ite h.thenModifyCycle.thenPost h

theorem KeepsLaws.thenHoldTimeout (h : KeepsLaws w s t) : KeepsLaws w s (holdTimeout a t) := by
  unfold holdTimeout
  split
  · exact h
  · exact .ite h.thenExpireHold h

theorem KeepsLaws.thenServicePhaseTimeout (h : KeepsLaws w s t) : KeepsLaws w s (servicePhaseTimeout t) := by
  unfold servicePhaseTimeout
  split
  · exact h
  · split
    · exact h
    · exact .ite h.thenPhaseTimeout h

theorem KeepsLaws.thenWindDownTimeout (h : KeepsLaws w s t) : KeepsLaws w s (windDownTimeout a t) := by
  unfold windDownTimeout
  dsimp only
  split
  · exact .ite h.thenHandFault.thenReleaseGrant.thenFinishTest h
  · split
    · exact .ite h.thenHandFault.thenReleaseGrant.thenFinishPhase h
    · exact h

theorem KeepsLaws.thenReportTimeout (h : KeepsLaws w s t) : KeepsLaws w s (reportTimeout a t) := by
  unfold reportTimeout
  split
  · exact h
  · exact .ite h.thenSubtestTimeout h

/-! ## The loader and power-on -/

theorem applyLocks_bus (rs : List ImageRecord) (ms : Vector MachineRecord Config.addresses) (n : Nat) (hn : n < Config.addresses) :
    ((applyLocks ms rs)[n]).bus = (ms[n]).bus := by
  induction rs generalizing ms with
  | nil => rfl
  | cons r rs ih =>
    cases r with
    | machine a e locked =>
      rw [applyLocks, ih, Vector.getElem_set]
      split
      case isTrue he => subst he; rfl
      case isFalse => rfl
    | room p => exact ih ms
    | wash i p => exact ih ms
    | dry i p => exact ih ms

/-- A pool that holds no grant and no wait entry. -/
def Pool.idle (p : Pool) : Prop := p.grants = [] ∧ p.waits = []

theorem Pool.idle.lawful {p : Pool} (h : p.idle) : p.lawful = true := by
  obtain ⟨hg, -⟩ := h
  simp [Pool.lawful, Pool.withinFigures, Pool.sharedGranted, reserveWithin, hg, grantSum]

theorem Pool.idle.settled {p : Pool} (h : p.idle) : p.settled := by
  obtain ⟨-, hw⟩ := h
  simp [settled_iff, hw, Pool.blocks]

theorem Pool.idle.orderly {p : Pool} (h : p.idle) : p.orderly := by
  obtain ⟨hg, hw⟩ := h
  simp [Pool.orderly, hg, hw, resumesFirst]

/-- Two idle pools meet every law of the pools. -/
theorem keepsPools_of_idle {s t : State} (h : ∀ k, (t.pool k).idle) : KeepsPools w s t := by
  refine ⟨fun k _ _ => (h k).lawful, fun k _ _ => (h k).settled, fun _ _ => ⟨(h .electric).orderly, (h .water).orderly, ?_⟩⟩
  obtain ⟨heg, hew⟩ := h .electric
  obtain ⟨hwg, hww⟩ := h .water
  simp only [State.pool] at heg hew hwg hww
  simp [Pool.machines, heg, hew, hwg, hww]

theorem KeepsLaws.thenApplyImage (h : KeepsLaws w s t) {rs : List ImageRecord} : KeepsLaws w s (applyImage rs t) := by
  refine KeepsLaws.thenBeginReading (KeepsLaws.thenBeginReading (h.trans
    (keeps_of_touches (ps := [.pools, .machines, .loader, .bus]) (fun p hp => ?_)
      (List.forall_mem_cons.mpr ⟨?_, List.forall_mem_cons.mpr ⟨?_, by simp⟩⟩))))
  · cases p <;> simp_all [Same, samePort]
  · exact keepsPools_of_idle fun k => by cases k <;> exact ⟨rfl, rfl⟩
  · have hmachine : ∀ a : Addr, ((applyLocks t.machines rs)[a]).bus = (t.machine a).bus :=
      fun a => applyLocks_bus rs t.machines a.val a.isLt
    exact ⟨fun hb a => (congrArg BusFields.lawful (hmachine a)).trans (hb a),
      fun a _ hp => (congrArg BusFields.presence (hmachine a)).trans hp⟩

theorem KeepsLaws.thenEndAutoload (h : KeepsLaws w s t) {image : Option (List Byte)} :
    KeepsLaws w s (endAutoload image t) := by
  have hfault : ∀ reason, KeepsLaws w s (enterConfigFault reason t) := fun reason =>
    h.trans (keeps_of_touches (ps := [.loader]) (fun p hp => by cases p <;> simp_all [Same, samePort, enterConfigFault]) (by simp))
  refine .ite h (KeepsLaws.thenRaise ?_)
  split
  · exact hfault _
  · split
    · exact hfault _
    · exact h.thenApplyImage

/-- Right after power-on each law holds of nothing, but for what is retained of the refund accounts. -/
theorem keeps_freshStart (s : State) {es : List RefundEntry} {x : Audit} (ha : s.accountsHold → accountsOwe 0 es x)
    (hr : s.refundsLawful = true → lawfulRefunds es) :
    KeepsLaws Law.passing s { freshStart s with refunds := es, audit := x } := by
  have hmachine : ∀ a, (freshStart s).machine a = .initial := fun a => reset_machine a
  intro l hl hs
  cases l with
  | figures k => cases k <;> rfl
  | settled k => cases k <;> exact fun _ => rfl
  | orderly => exact ⟨Pool.idle.orderly ⟨rfl, rfl⟩, Pool.idle.orderly ⟨rfl, rfl⟩, List.nodup_nil⟩
  | accounts => exact ha hs
  | refunds => exact (refundsLawful_iff _).mpr (hr hs)
  | queues => rfl
  | faults => rfl
  | cards =>
    have hnone : ∀ card, holdsCard card (freshStart s).stationA = false := fun card => rfl
    exact ⟨Nat.zero_le 4, rfl, fun card => ⟨fun h => absurd ((hnone card).symm.trans h.1) (by simp), fun _ => rfl⟩⟩
  | bus =>
    intro a
    show ((freshStart s).machine a).bus.lawful = true
    rw [hmachine]
    rfl
  | free i card => exact absurd trivial hl
  | undoubted card => exact absurd trivial hl
  | accepted i => exact absurd trivial hl
  | cardAt i card => exact absurd trivial hl
  | away a => exact absurd trivial hl

theorem keptRefund_same (e : RefundEntry) :
    (keptRefund e).card = e.card ∧ (keptRefund e).position = e.position ∧ (keptRefund e).amount = e.amount := by
  unfold keptRefund
  split <;> exact ⟨rfl, rfl, rfl⟩

/-- R177: what is retained brings its accounts and its refund table with it. -/
theorem keeps_keepRetained (s : State) : KeepsLaws Law.passing s (keepRetained s (freshStart s)) := by
  have hmap : ∀ {α : Type} (g : RefundEntry → α), (∀ e, g (keptRefund e) = g e) → (s.refunds.map keptRefund).map g = s.refunds.map g :=
    fun g hg => by rw [List.map_map]; exact List.map_congr_left fun e _ => hg e
  have hcard := hmap (·.card) (fun e => (keptRefund_same e).1)
  have hposition := hmap (·.position) (fun e => (keptRefund_same e).2.1)
  have hamount := hmap (·.amount) (fun e => (keptRefund_same e).2.2)
  have hfresh : KeepsLaws Law.passing s { freshStart s with refunds := s.refunds.map keptRefund, audit := s.audit } := by
    refine keeps_freshStart s (accountsOwe_congr rfl ?_) (fun hr => ?_)
    · rw [refundSum_eq_sum, refundSum_eq_sum, hamount]
    · obtain ⟨hlen, hlt, hrest⟩ := (refundsLawful_iff s).mp hr
      refine ⟨by rwa [List.length_map], ?_, by rwa [hcard, hposition]⟩
      have hall := List.forall_mem_map (f := RefundEntry.position) (l := s.refunds.map keptRefund) (P := (· < 32))
      rw [← hall, hposition, List.forall_mem_map]
      exact hlt
  refine KeepsLaws.thenRaiseIf (hfresh.trans (keeps_of_touches (ps := [.pools, .room, .counter, .base]) (fun p hp => ?_)
    (List.forall_mem_cons.mpr ⟨keepsPools_of_idle fun k => ?_, by simp⟩)))
  · cases p <;> simp_all [Same, samePort]
  · cases k <;> exact ⟨rfl, rfl⟩

theorem KeepsLaws.thenCloseRetained (h : KeepsLaws w s t) {old : State} : KeepsLaws w s (closeRetained old t a) := by
  unfold closeRetained
  split
  · exact h
  · exact .ite h h.thenPlaceRefund

theorem KeepsLaws.thenCloseDebit (h : KeepsLaws w s t) {d : DebitCopy} : KeepsLaws w s (closeDebit t d) :=
  h.thenHandFault.thenCountDebitUnresolved.thenRaise

theorem keeps_powerOn (backupHeld : Bool) (s : State) : KeepsLaws Law.passing s (powerOn backupHeld s) := by
  refine .ite ((keeps_keepRetained s).trans ?_) (keeps_freshStart s (es := []) (x := .zero) (fun _ _ _ _ _ => rfl) (fun _ => ?_))
  · exact (KeepsLaws.foldl (fun u _ => (KeepsLaws.refl _ u).thenCloseRetained) _ _).trans
      (KeepsLaws.foldl (fun u _ => (KeepsLaws.refl _ u).thenCloseDebit) _ _)
  · exact ⟨Nat.zero_le 32, by simp, List.nodup_nil, List.nodup_nil⟩

/-! ## Every command -/

/-- Every command keeps every law of the device by itself. -/
theorem keeps_exec {c : Instr} {s t : State} (h : exec c s = .next t) : KeepsLaws Law.passing s t := by
  have hs := KeepsLaws.refl Law.passing s
  cases c
  case powerOn held => cases h; exact keeps_powerOn held s
  case autoloadEnd answers => cases h; exact hs.thenEndAutoload
  case roomSecondTick => cases h; exact hs.thenTick
  case pollSlot => cases h; exact hs.thenBeginSlot
  case replyValid bytes => cases h; exact hs.thenTakeReply
  case discoveryReply bytes => cases h; exact hs.thenTakeReply
  case joiningReply bytes => cases h; exact hs.thenTakeReply
  case replyWindowMissed => cases h; exact hs.thenWindowMissed
  case orphanDeadline expiry => cases h; exact hs.atAddress fun _ => hs.thenOrphanTimeout
  case phaseLimitReached n => cases h; exact hs.atAddress fun _ => .ite hs.thenTimeoutStop hs
  case stopDeadline n => cases h; exact hs.atAddress fun _ => hs.thenStopTimeout
  case remainingPaidSecondsZero n => cases h; exact hs.atAddress fun _ => hs.thenPostCool
  case pauseDeadline n => cases h; exact hs.atAddress fun _ => .ite hs.thenStopCycle hs
  case suspendDeadline n => cases h; exact hs.atAddress fun _ => hs.thenSuspendTimeout.thenSuspendTimeout
  case grantWaitExpiry n => cases h; exact hs.atAddress fun _ => hs.thenExpireFrom.thenExpireFrom
  case pay station target steps => cases h; exact hs.thenClearPanel.thenTakePay
  case addTime station target steps => cases h; exact hs.thenClearPanel.thenTakeAddTime
  case queue station cls => cases h; exact hs.thenClearPanel.thenTakeQueue
  case balance station => cases h; exact hs.thenClearPanel.thenTakeBalance
  case requestError station => cases h; exact hs.thenClearPanel.thenPanelError
  case requestGapTimeout station => cases h; exact hs.thenClearPanel
  case requestLineByte station byte => cases h; exact hs.thenPanelByte
  case cardInserted station => cases h; exact hs.thenInsertCard
  case cardRemoved station => cases h; exact hs.thenRemoveCard
  case insertionReadFail station => cases h; exact .ite hs.thenEndCard hs
  case insertionReadDone station answers => cases h; exact hs.thenReadEnds
  case writeBegun station => cases h; exact hs.thenWriteBegins
  case cardWriteDone station answers => cases h; exact hs.thenWriteEnds
  case verifyReadDone station answers => cases h; exact hs.thenVerifyEnds
  case doubtDeadline card => cases h; exact hs.thenDoubtTimeout
  case holdDeadline n => cases h; exact hs.atAddress fun _ => hs.thenHoldTimeout
  case servicePhaseDeadline => cases h; exact hs.thenServicePhaseTimeout
  case windDownDeadline n => cases h; exact hs.atAddress fun _ => hs.thenWindDownTimeout
  case subtestReportDeadline n => cases h; exact hs.atAddress fun _ => hs.thenReportTimeout
  case storeAccessDone access => cases h; exact keeps_of_touches (touched_storeAccess access s) (by simp)
  case frameError p => cases h; exact keeps_of_touches (touched_takeFrameError p s) (by simp)
  case portBreak p => cases h; exact hs.thenSetPort
  case frameDiscardedQueueFull p => cases h; exact hs.thenSetPort
  case unknownCode p code payload => cases h; exact hs.thenTakeFrame
  case replySent p => cases h; exact hs.thenSetPort
  case receiveLineByte p byte => cases h; exact hs.thenPortByte
  all_goals cases h; exact hs.thenTakeRequest

/-- A law that no command waives is kept by every step. -/
theorem step_keeps_law {l : Law} (hl : ¬ l.passing) (hpending : ∀ s q, l.holds s → l.holds { s with pending := q })
    {s t : State} (hs : l.holds s) (h : step s = .next t) : l.holds t :=
  step_keeps (J := l.holds) hpending (fun _ _ _ hs h => keeps_exec h l hl hs) hs h

end Sys2Proof.Machine

/-! PROOF. The invariants that each step keeps by themselves: the pools (R57 to R69), the refund accounts (R123), the fault and
refund tables (R138, R114) and the cards in use (R101). -/

namespace Sys2Proof.Machine

/-- A pool with its state of scan, apart from whether it may scan. -/
theorem grantsLawful_iff (p : Pool) : p.grantsLawful = true ↔ p.orderly ∧ p.settled := by
  simp only [Pool.grantsLawful, Pool.orderly, Pool.settled, Bool.and_eq_true, decide_eq_true_eq, Bool.or_eq_true,
    Bool.not_eq_true', List.all_eq_true, List.isEmpty_iff]
  have hclass : (∀ c, (p.grants.filter (isReserveOf c)).length ≤ 1) ↔
      (p.grants.filter (isReserveOf .washer)).length ≤ 1 ∧ (p.grants.filter (isReserveOf .dryer)).length ≤ 1 :=
    ⟨fun h => ⟨h _, h _⟩, fun h c => by cases c; exacts [h.1, h.2]⟩
  rw [hclass]
  cases p.mayScan <;> simp [and_assoc]

theorem state_grantsLawful_iff (s : State) :
    s.grantsLawful ↔ Law.holds .orderly s ∧ ∀ k, Law.holds (.settled k) s := by
  have hpools : (∀ k, Law.holds (.settled k) s) ↔ s.electric.settled ∧ s.water.settled :=
    ⟨fun h => ⟨h .electric, h .water⟩, fun h k => by cases k; exacts [h.1, h.2]⟩
  rw [hpools, State.grantsLawful, grantsLawful_iff, grantsLawful_iff]
  simp only [Law.holds, State.poolsOrderly]
  tauto

theorem state_poolsLawful_iff (s : State) : s.poolsLawful = true ↔ ∀ k, Law.holds (.figures k) s := by
  rw [State.poolsLawful, Bool.and_eq_true]
  exact ⟨fun h k => by cases k; exacts [h.1, h.2], fun h => ⟨h .electric, h .water⟩⟩

/-- Settles O4: the laws of the pools are among those that every command keeps by themselves (`keeps_exec`). A scan grants by
the rule of R57, which keeps the figures, and leaves only what a second scan would not grant (`scanFrom_scanning`); whatever
frees a pool ends in a scan. -/
theorem everyStepKeepsPoolsWithinFigures : Obligations.EveryStepKeepsPoolsWithinFigures := by
  refine ⟨fun s t hs h => ?_, fun s t hs h => ?_⟩
  · rw [state_poolsLawful_iff] at hs ⊢
    exact fun k => step_keeps_law (l := .figures k) id (fun s q hs => by cases k <;> exact hs) (hs k) h
  · rw [state_grantsLawful_iff] at hs ⊢
    exact ⟨step_keeps_law (l := .orderly) id (fun _ _ => id) hs.1 h,
      fun k => step_keeps_law (l := .settled k) id (fun s q hs => by cases k <;> exact hs) (hs.2 k) h⟩

/-- Settles O5: a placed refund is in the table or counted as unplaced (`KeepsLaws.thenMergeRefund`), a landed credit is counted
as it leaves its entry (`KeepsLaws.thenCreditLanded`), and a cancelled one likewise. -/
theorem everyStepKeepsTheRefundBalance : Obligations.EveryStepKeepsTheRefundBalance := by
  intro s t hs h hi hc hu hx
  have hhold : ∀ u : State, u.balanced → u.accountsHold := fun u hb _ _ _ _ => hb
  exact step_keeps_law (l := .accounts) id (fun _ _ => id) (hhold s hs) h hi hc hu hx

/-- Settles O8: a handing of a fault replaces the record of its machine and code, or makes one at the tail after dropping the
oldest (`recordFault_nodup`), and a new refund entry takes the lowest free position (`lawfulRefunds_append`). -/
theorem everyStepKeepsTheTablesLawful : Obligations.EveryStepKeepsTheTablesLawful :=
  ⟨fun _ _ hs h => step_keeps_law (l := .faults) id (fun _ _ => id) hs h,
    fun _ _ hs h => step_keeps_law (l := .refunds) id (fun _ _ => id) hs h⟩

/-- Settles O9: a card comes into use only at an insertion, which refuses it while the other station holds it and resolves its
doubt first (`KeepsLaws.thenAcceptCard`), and goes over to the doubt list only from its own station, which is emptied with it
(`KeepsLaws.thenDoubtAndEnd`). -/
theorem everyStepKeepsCardsInUseOnce : Obligations.EveryStepKeepsCardsInUseOnce :=
  fun _ _ hs h => step_keeps_law (l := .cards) id (fun _ _ => id) hs h

end Sys2Proof.Machine

/-! PROOF. Requests on a port that listens: the decision of their owner is their whole effect, with the reply and the end of the
frame on their port (R159, R160). With it the requests that name the band, the records of the fault table and a position of the
refund table. -/

namespace Sys2Proof.Machine

section
variable {c : Instr} {r : Req} {payload bytes : List Byte} {p : Port} {s t : State} {st : Status} {e : Event}

/-- R160: an admitted request is answered with what its owner decides. -/
theorem exec_admitted (hr : requestOf c = some (r, payload)) (hp : portOf c = some p) (hs : s.listens p)
    (hright : reqRight p r = true) (hlength : reqLength payload r = true) :
    exec c s = .next (pushReply p ⟨byte (reqCode r), (ownerDecision r p payload (hunt p s)).status,
      (ownerDecision r p payload (hunt p s)).payload⟩ (ownerDecision r p payload (hunt p s)).state) := by
  rw [exec_request hr hp, takeRequest_admitted hs hright hlength]

/-- A request that its owner answers and that changes nothing has its answer for its whole effect. -/
theorem exec_answered (hr : requestOf c = some (r, payload)) (hp : portOf c = some p) (hs : s.listens p)
    (hright : reqRight p r = true) (hlength : reqLength payload r = true)
    (howner : ownerDecision r p payload (hunt p s) = ⟨hunt p s, st, bytes⟩) :
    exec c s = .next (s.answering p (replyTo (reqCode r) st bytes) 0) := by
  rw [exec_admitted hr hp hs hright hlength, howner, pushReply_hunt]
  rfl

/-- The end of the frame, an event and the reply, in one. -/
theorem pushReply_raise_hunt (p : Port) (x : PortReply) (e : Event) (t : State) :
    pushReply p x (raise e (hunt p t)) = t.answering p x (eventBit e) := by
  cases p <;> rfl

/-- A request whose owner changes the room to `t` and raises an event. -/
theorem exec_raised (hr : requestOf c = some (r, payload)) (hp : portOf c = some p) (hs : s.listens p)
    (hright : reqRight p r = true) (hlength : reqLength payload r = true)
    (howner : ownerDecision r p payload (hunt p s) = ⟨raise e (hunt p t), st, bytes⟩) :
    exec c s = .next (t.answering p (replyTo (reqCode r) st bytes) (eventBit e)) := by
  rw [exec_admitted hr hp hs hright hlength, howner, pushReply_raise_hunt]
  rfl

/-- A request served in the CONFIG_FAULT mode, answered with its owner's answer and nothing else, outside LOADING. -/
theorem exec_served (hr : requestOf c = some (r, payload)) (hp : portOf c = some p) (hm : s.mode ≠ .loading)
    (hroom : (s.port p).replies.length < 4) (hright : reqRight p r = true) (hlength : reqLength payload r = true)
    (hserved : reqServed r = true) (howner : ownerDecision r p payload (hunt p s) = ⟨hunt p s, st, bytes⟩) :
    exec c s = .next (s.answering p (replyTo (reqCode r) st bytes) 0) := by
  rw [exec_request hr hp, takeRequest_served hm hroom hright hlength hserved, howner, pushReply_hunt]
  rfl

end

/-! ## The end of the frame and the rest of the room -/

@[simp] theorem hunt_faults (p : Port) (s : State) : (hunt p s).faults = s.faults := setPort_faults ..
@[simp] theorem hunt_refunds (p : Port) (s : State) : (hunt p s).refunds = s.refunds := setPort_refunds ..

/-! ## SET_BAND -/

theorem decideBand_of_some {b : Byte} {band : Band} (h : bandOf b.toNat = some band) (p : Port) (s : State) :
    decideBand [b] (hunt p s) = ⟨raise .room (hunt p { s with band := band }), .ok, []⟩ := by
  have hat : at1 [b] 0 = b.toNat := rfl
  simp only [decideBand, hat, h]
  cases p <;> rfl

theorem bandOf_of_large {n : Nat} (h : 2 < n) : bandOf n = none := by
  obtain ⟨k, rfl⟩ := Nat.exists_eq_add_of_le' h
  rfl

/-- Settles O34: the owner of SET_BAND decides by the one byte of the payload. -/
theorem setBandSetsTheBand : Obligations.SetBandSetsTheBand := by
  intro b s hs
  have hset : ∀ band, bandOf b.toNat = some band → exec (.setBand .building [b]) s =
      .next (State.answering { s with band := band } .building (replyTo 0x12 .ok []) (eventBit .room)) :=
    fun band h => exec_raised (r := .setBand) rfl rfl hs rfl rfl (decideBand_of_some h .building s)
  refine ⟨fun h => hset _ (by rw [h]; rfl), fun h => hset _ (by rw [h]; rfl), fun h => hset _ (by rw [h]; rfl), fun h => ?_⟩
  have hrefused : decideBand [b] (hunt .building s) = refuse .badArg (hunt .building s) := by
    have hat : at1 [b] 0 = b.toNat := rfl
    simp only [decideBand, hat, bandOf_of_large h]
  exact exec_answered (r := .setBand) rfl rfl hs rfl rfl hrefused

/-! ## CLEAR_FAULTS -/

/-- R140: the records of the machine go, and of all machines with 255. -/
theorem surviving_byte (n : Byte) (rs : List FaultRecord) : surviving n.toNat rs =
    if n = 255 then [] else rs.filter (fun r => r.machine != n.toNat) := by
  have : n.toNat = 255 ↔ n = 255 := ⟨fun h => BitVec.eq_of_toNat_eq h, fun h => by rw [h]; rfl⟩
  simp only [surviving, this]

/-- Settles O52: the Operator port holds the right to CLEAR_FAULTS, which the CONFIG_FAULT mode does not serve. -/
theorem clearFaultsRemovesTheRecords : Obligations.ClearFaultsRemovesTheRecords := by
  intro n s hroom
  have hat : at1 [n] 0 = n.toNat := rfl
  have hall : n.toNat = 255 ↔ n = 255 := ⟨fun h => BitVec.eq_of_toNat_eq h, fun h => by rw [h]; rfl⟩
  refine ⟨fun hm hn => ?_, fun hm hbig hn => ?_, fun hm => ?_⟩
  · have hok : ¬ (24 < n.toNat ∧ n.toNat ≠ 255) := by rw [← hall] at hn; omega
    refine exec_raised (r := .clearFaults) rfl rfl ⟨hm, hroom⟩ rfl rfl ?_
    simp only [ownerDecision, decideClearFaults, hat, if_neg hok, surviving_byte, hunt_faults]
    rfl
  · have hbad : 24 < n.toNat ∧ n.toNat ≠ 255 := ⟨hbig, hall.ne.mpr hn⟩
    refine exec_answered (r := .clearFaults) rfl rfl ⟨hm, hroom⟩ rfl rfl ?_
    simp only [ownerDecision, decideClearFaults, hat, if_pos hbad]
    rfl
  · have hrefused := requestsAreAdmittedInOrder (.clearFaults .operator [n]) .clearFaults [n] .operator s rfl rfl
    exact ((hrefused.2 hroom).2 rfl |>.2 rfl).2 hm rfl

/-! ## READ_REFUNDS -/

theorem find_position {es : List RefundEntry} {n : Nat} : (∀ e ∈ es, e.position ≠ n) →
    es.find? (fun e => e.position == n) = none := by
  simp

/-- R121: the bytes of a found entry, its pairs spelled out. -/
theorem refundBytes_eq (e : RefundEntry) : refundBytes e =
    be4 e.card ++ be2 e.amount ++ [byte (refundStateCode e.state), byte (bit e.inProgress)] ++
      (match e.pairs with
        | none => [0, 0, 0, 0, 0, 0, 0, 0, 0]
        | some (old, new) => 1 :: (be2 old.sequence ++ be2 old.value ++ be2 new.sequence ++ be2 new.value)) ++
      be4 e.created := by
  unfold refundBytes pairsBytes
  cases e.pairs with
  | none => simp [be1, byte, be2, pairBytes, Pair.zero]
  | some x => simp [be1, byte, pairBytes]

/-- Settles O15: the owner reads the entry at the position named, and only reads. -/
theorem readRefundsNamesAPosition : Obligations.ReadRefundsNamesAPosition := by
  intro n s hm hroom
  have hat : at1 [n] 0 = n.toNat := rfl
  have hread : ∀ st bytes, decideReadRefunds [n] (hunt .operator s) = ⟨hunt .operator s, st, bytes⟩ →
      exec (.readRefunds .operator [n]) s = .next (s.answering .operator (replyTo 0x52 st bytes) 0) :=
    fun st bytes h => exec_served (r := .readRefunds) rfl rfl hm hroom rfl rfl rfl h
  refine ⟨fun hn => hread _ _ ?_, fun hn hfree => hread _ _ ?_, fun hn before behind e hes he hbefore => hread _ _ ?_⟩
  · simp only [decideReadRefunds, hat, if_pos hn]
    rfl
  · simp only [decideReadRefunds, hat, if_neg (Nat.not_lt.mpr hn), hunt_refunds, find_position hfree]
    rfl
  · have hfound : s.refunds.find? (fun e => e.position == n.toNat) = some e := by
      rw [hes, List.find?_append, find_position hbefore]
      simp [he]
    simp only [decideReadRefunds, hat, if_neg (Nat.not_lt.mpr hn), hunt_refunds, hfound, refundBytes_eq]
    rfl

end Sys2Proof.Machine

/-! PROOF. The reads of the control ports: each answers the bytes of the record it names, field by field (R75, R102, R135, R139,
R166 to R168). -/

namespace Sys2Proof.Machine

/-! ## Fields and their bytes -/

@[simp] theorem spell_nil : spell [] = [] := rfl

theorem spell_cons (x : Nat × Nat) (xs : List (Nat × Nat)) : spell (x :: xs) = field x.1 x.2 ++ spell xs := rfl

theorem spell_append (xs ys : List (Nat × Nat)) : spell (xs ++ ys) = spell xs ++ spell ys := List.flatMap_append

theorem append_eq_spell {as bs : List Byte} {xs ys : List (Nat × Nat)} (ha : as = spell xs) (hb : bs = spell ys) :
    as ++ bs = spell (xs ++ ys) := by
  rw [spell_append, ha, hb]

theorem spell_flatMap {α : Type} (xs : List α) (f : α → List (Nat × Nat)) :
    spell (xs.flatMap f) = xs.flatMap (fun x => spell (f x)) := List.flatMap_assoc

@[simp] theorem field_one (n : Nat) : field 1 n = be1 n := by simp [field, be1, byte]

@[simp] theorem field_two (n : Nat) : field 2 n = be2 n := by simp [field, be2, byte]

@[simp] theorem field_four (n : Nat) : field 4 n = be4 n := by
  simp [field, be4, be2, byte, Nat.div_div_eq_div_mul]

@[simp] theorem field_five (n : Nat) : field 5 n = be5 n := by
  simp [field, be5, be4, be2, byte, Nat.div_div_eq_div_mul]

/-! ## Listed values by their places -/

theorem idxOf_modeCode (x : Mode) : [Mode.loading, .operating, .configFault].idxOf x = modeCode x := by cases x <;> rfl

theorem idxOf_bandCode (x : Band) : [Band.standard, .offPeak, .quiet].idxOf x = bandCode x := by cases x <;> rfl

theorem idxOf_startCode (x : StartReason) : [StartReason.kept, .lost].idxOf x = startCode x := by cases x <;> rfl

theorem idxOf_storeCode (x : Option StoreResult) :
    [none, some StoreResult.ok, some .writeFail].idxOf x = orZero storeCode x := by
  rcases x with _ | x
  · rfl
  · cases x <;> rfl

theorem idxOf_reasonCode (x : Option FaultReason) :
    [none, some FaultReason.noMemory, some .badMarker, some .badLength, some .badCheck, some .badRecord, some .badField,
      some .duplicate, some .noRoomRecord].idxOf x = orZero reasonCode x := by
  rcases x with _ | x
  · rfl
  · cases x <;> rfl

theorem idxOf_kindCode (x : Option PhaseKind) :
    [none, some PhaseKind.fill, some .heat, some .wash, some .rinse, some .drain, some .spin, some .soak, some .dry,
      some .cool].idxOf x = orZero kindCode x := by
  rcases x with _ | x
  · rfl
  · cases x <;> rfl

theorem idxOf_stateCode (x : MachineState) : [MachineState.absent, .idle, .selected, .paying, .held, .running, .stopping,
    .finished, .testing, .service, .outOfService].idxOf x = stateCode x := by cases x <;> rfl

theorem idxOf_lockCode (x : Lock) : [Lock.none, .locked, .autoLocked].idxOf x = lockCode x := by cases x <;> rfl

theorem idxOf_doorCode (x : Option Door) : [none, some Door.opened, some .closed, some .locked].idxOf x = doorCode x := by
  rcases x with _ | x
  · rfl
  · cases x <;> rfl

theorem idxOf_testOutcome (x : Option LastTest) :
    [none, some TestOutcome.pass, some .fail, some .aborted, some .noPower].idxOf (x.map (·.outcome)) =
      orZero (fun t => testOutcomeCode t.outcome) x := by
  rcases x with _ | ⟨o, n, k⟩
  · rfl
  · cases o <;> rfl

theorem idxOf_presenceCode (x : Presence) : [Presence.absent, .joining, .present].idxOf x = presenceCode x := by
  cases x <;> rfl

theorem idxOf_activityCode (x : Activity) : [Activity.ready, .running, .complete, .suspended, .faultHold, .stopping, .stopped,
    .testing, .testDone].idxOf x = activityCode x := by cases x <;> rfl

theorem idxOf_subCode (x : SubState) : [SubState.waiting, .starting, .active, .suspending, .suspended, .resuming, .paused].idxOf x =
    subCode x := by cases x <;> rfl

theorem idxOf_causeCode (x : Option StopCause) :
    [none, some StopCause.user, some .machine, some .operator, some .room].idxOf x = orZero causeCode x := by
  rcases x with _ | x
  · rfl
  · cases x <;> rfl

theorem idxOf_serviceSub (x : Option ServicePhase) :
    [none, some ServiceSub.waiting, some .starting, some .active].idxOf (x.map (·.sub)) =
      orZero (fun ph => serviceSubCode ph.sub) x := by
  rcases x with _ | ⟨_, _, _, _, sub, _, _⟩
  · rfl
  · cases sub <;> rfl

theorem idxOf_originCode (x : TestOrigin) : [TestOrigin.operator, .session].idxOf x = originCode x := by cases x <;> rfl

theorem idxOf_subtestCode (x : SubtestState) : [SubtestState.waiting, .starting, .running].idxOf x = subtestCode x := by
  cases x <;> rfl

theorem idxOf_purposeCode (x : Purpose) : [Purpose.cyclePhase, .resume, .servicePhase, .subtest].idxOf x = purposeCode x := by
  cases x <;> rfl

theorem idxOf_portionCode (x : Portion) : [Portion.shared, .washerReserve, .dryerReserve].idxOf x = portionCode x := by
  cases x <;> rfl

theorem idxOf_severityCode (x : Severity) : [Severity.soft, .hard, .info].idxOf x = severityCode x := by cases x <;> rfl

theorem ite_classCode (x : MachineClass) : (if x = .washer then 1 else 2) = classCode x := by cases x <;> rfl

theorem ite_poolCode (k : PoolId) : (if k = .electric then 0 else 1) = poolCode k := by cases k <;> rfl

theorem ite_doubtCode (x : DoubtKind) : (if x = .start then 0 else 1) = doubtCode x := by cases x <;> rfl

theorem ite_slotCode (x : Slot) : (if x = .a then 0 else 1) = slotCode x := by cases x <;> rfl

/-! ## The selectors of the reads -/

@[simp] theorem addr?_addrNum (a : Addr) : addr? (addrNum a) = some a := by
  have ha : 1 ≤ a.val + 1 ∧ a.val + 1 ≤ 24 := ⟨by omega, a.isLt⟩
  simp [addr?, addrNum, ha]

@[simp] theorem at1_addrNum (a : Addr) (bs : List Byte) : at1 (byte (addrNum a) :: bs) 0 = addrNum a := by
  have ha : a.val < 24 := a.isLt
  show (byte (addrNum a)).toNat = addrNum a
  rw [toNat_byte, addrNum]
  omega

theorem withAddress_addrNum (a : Addr) (s : State) (f : Addr → Decision) : withAddress [byte (addrNum a)] s f = f a := by
  simp only [withAddress, at1_addrNum, addr?_addrNum]

end Sys2Proof.Machine

/-! PROOF. The payloads of the reads, spelled out, and the reads on their ports. -/

namespace Sys2Proof.Machine

/-! ## The payloads as fields -/

/-- The grants of a portion are summed by their amounts. -/
theorem grantSum_eq_sum (f : Grant → Bool) (gs : List Grant) : grantSum f gs = ((gs.filter f).map (·.amount)).sum := by
  induction gs with
  | nil => rfl
  | cons g gs ih =>
    by_cases h : f g = true
    · simp [grantSum, h, ih]
    · simp [grantSum, h, ih]

theorem orZero_map {α β : Type} (f : β → Nat) (g : α → β) (x : Option α) : orZero f (x.map g) = orZero (fun y => f (g y)) x := by
  cases x <;> rfl

theorem orZero_id (x : Option Nat) : orZero id x = x.getD 0 := by cases x <;> rfl

/-- The groups of READ_MACHINE (R168). -/
theorem machinePayload_eq (a : Addr) (s : State) : machinePayload a s = rosterPayload a s ++
    (fieldsPayload (s.machine a) ++ busPayload (s.machine a).bus) ++ cyclePayload (s.machine a).cycle ++
      sessionPayload a s ++ runPayload (s.machine a).testRun := by
  simp only [machinePayload, List.append_assoc]

/-- The entries of a queue, numbered from a position on. -/
theorem claimBytes_eq_spell (n : Nat) (es : List ClaimEntry) : claimBytes (n + 1) es =
    spell ((es.zipIdx n).flatMap (fun e => [(1, e.2 + 1), (4, e.1.card), (4, e.1.joined),
      (1, (e.1.hold.map (fun h => h.machine.val + 1)).getD 0), (4, (e.1.hold.map (·.deadline)).getD 0),
      (1, bit e.1.paying)])) := by
  induction es generalizing n with
  | nil => rfl
  | cons e es ih =>
    rw [claimBytes, ih, List.zipIdx_cons, List.flatMap_cons, spell_append]
    simp [spell_cons, orZero, addrNum]

theorem queuePayload_eq_spell (c : MachineClass) (s : State) : queuePayload c s =
    spell ([(2, s.params.holdWindow), (1, (s.queue c).entries.length)] ++
      (s.queue c).entries.zipIdx.flatMap (fun e => [(1, e.2 + 1), (4, e.1.card), (4, e.1.joined),
        (1, (e.1.hold.map (fun h => h.machine.val + 1)).getD 0), (4, (e.1.hold.map (·.deadline)).getD 0),
        (1, bit e.1.paying)]) ++
      [(2, (s.queue c).placed), (2, (s.queue c).served), (2, (s.queue c).expired), (2, (s.queue c).cancelled)]) := by
  rw [queuePayload, claimBytes_eq_spell 0]
  simp [spell_append, spell_cons]

/-- R139: the records of the machine are passed, and those of all machines with 255. -/
theorem passing_byte (f : Byte) (rs : List FaultRecord) : passing f.toNat rs =
    if f = 255 then rs else rs.filter (fun r => r.machine == f.toNat) := by
  have : f.toNat = 255 ↔ f = 255 := ⟨fun h => BitVec.eq_of_toNat_eq h, fun h => by rw [h]; rfl⟩
  simp only [passing, this]

/-- READ_ROOM counts the addresses configured in the tables in force, which are those stored only in the OPERATING mode. -/
theorem countP_configured (s : State) : allAddrs.countP s.configured =
    if s.mode = .operating then (List.finRange 24).countP (fun a => (s.tables.roster[a]).isSome) else 0 := by
  by_cases hm : s.mode = .operating
  · rw [if_pos hm]
    refine List.countP_congr fun a _ => ?_
    simp only [State.configured, State.roster, State.inForce, if_pos hm]
  · rw [if_neg hm, List.countP_eq_zero]
    intro a _
    simp only [State.configured, State.roster, State.inForce, if_neg hm]
    simp [Tables.initial]

/-! ## The reads on a port -/

section
variable (p : Port) (s : State)

theorem roomPayload_hunt : roomPayload (hunt p s) = roomPayload s := by cases p <;> rfl

theorem machinePayload_hunt (a : Addr) : machinePayload a (hunt p s) = machinePayload a s := by cases p <;> rfl

theorem poolPayload_hunt (k : PoolId) (n : Nat) : poolPayload k n (hunt p s) = poolPayload k n s := by cases p <;> rfl

theorem queuePayload_hunt (c : MachineClass) : queuePayload c (hunt p s) = queuePayload c s := by cases p <;> rfl

/-- R166: READ_ROOM is answered in every mode. -/
theorem exec_readRoom (hroom : (s.port p).replies.length < 4) :
    exec (.readRoom p []) s = .next (s.answering p (replyTo 0x02 .ok (roomPayload s)) 0) := by
  have hadmitted : admission .readRoom p [] (hunt p s) = none := by simp [admission, reqRight, reqLength, reqServed]
  have hdecided : decideRequest .readRoom p [] (hunt p s) = done (roomPayload s) (hunt p s) := by
    simp only [decideRequest, hadmitted, ownerDecision, decideReadRoom, roomPayload_hunt]
  rw [exec_request (r := .readRoom) (payload := []) (p := p) rfl rfl, takeRequest_decided hroom, hdecided]
  exact congrArg _ (pushReply_hunt p _ s)

variable {s} (hm : s.mode ≠ .loading) (hroom : (s.port p).replies.length < 4)
include hm hroom

theorem exec_readMachine (a : Addr) : exec (.readMachine p [byte (addrNum a)]) s =
    .next (s.answering p (replyTo 0x01 .ok (machinePayload a s)) 0) := by
  refine exec_served (r := .readMachine) rfl rfl hm hroom rfl rfl rfl ?_
  rw [ownerDecision, decideReadMachine, withAddress_addrNum, machinePayload_hunt]
  rfl

theorem exec_readPool (hp : p = .building ∨ p = .operator) (k : PoolId) {n : Byte} (hn : n.toNat ≤ 23) :
    exec (.readPool p [byte (poolCode k), n]) s = .next (s.answering p (replyTo 0x15 .ok (poolPayload k n.toNat s)) 0) := by
  have hright : reqRight p .readPool = true := by simpa [reqRight] using hp
  have hk : poolOf (at1 [byte (poolCode k), n] 0) = some k := by cases k <;> rfl
  have hat : at1 [byte (poolCode k), n] 1 = n.toNat := rfl
  refine exec_served (r := .readPool) rfl rfl hm hroom hright rfl rfl ?_
  simp only [ownerDecision, decideReadPool, hk, hat, if_pos hn, poolPayload_hunt]
  rfl

theorem exec_readFaults (hp : p = .operator ∨ p = .service) {n f : Byte} (hn : n.toNat ≤ 47) (hf : f.toNat ≤ 24 ∨ f = 255) :
    exec (.readFaults p [n, f]) s =
      let passed := passing f.toNat s.faults
      let sent := (passed.drop n.toNat).take 8
      .next (s.answering p (if passed.length ≤ n.toNat then replyTo 0x40 .notFound [byte passed.length]
        else replyTo 0x40 .ok (be1 passed.length ++ be1 sent.length ++ sent.flatMap faultBytes)) 0) := by
  have hright : reqRight p .readFaults = true := by simpa [reqRight] using hp
  have hgood : ¬ (47 < n.toNat ∨ 24 < f.toNat ∧ f.toNat ≠ 255) := by
    rcases hf with hf | rfl
    · omega
    · simpa using hn
  have hat : at1 [n, f] 0 = n.toNat ∧ at1 [n, f] 1 = f.toNat := ⟨rfl, rfl⟩
  have howner : ∀ st bytes, decideReadFaults [n, f] (hunt p s) = ⟨hunt p s, st, bytes⟩ →
      exec (.readFaults p [n, f]) s = .next (s.answering p (replyTo 0x40 st bytes) 0) :=
    fun st bytes h => exec_served (r := .readFaults) rfl rfl hm hroom hright rfl rfl h
  dsimp only
  split
  case isTrue h =>
    refine howner _ _ ?_
    simp only [decideReadFaults, hat, hunt_faults, if_neg hgood, if_pos h]
    rfl
  case isFalse h =>
    refine howner _ _ ?_
    simp only [decideReadFaults, hat, hunt_faults, if_neg hgood, if_neg h]
    rfl

end

theorem exec_readQueue {s : State} (hm : s.mode ≠ .loading) (hroom : (s.port .operator).replies.length < 4)
    (c : MachineClass) : exec (.readQueue .operator [byte (classCode c)]) s =
      .next (s.answering .operator (replyTo 0x60 .ok (queuePayload c s)) 0) := by
  have hc : classOf (at1 [byte (classCode c)] 0) = some c := by cases c <;> rfl
  refine exec_served (r := .readQueue) rfl rfl hm hroom rfl rfl rfl ?_
  simp only [ownerDecision, decideReadQueue, hc, queuePayload_hunt]
  rfl

theorem exec_readDoubts {s : State} (hm : s.mode ≠ .loading) (hroom : (s.port .operator).replies.length < 4) :
    exec (.readDoubts .operator []) s =
      .next (s.answering .operator (replyTo 0x56 .ok (be1 s.doubts.length ++ s.doubts.flatMap doubtBytes)) 0) :=
  exec_served (r := .readDoubts) rfl rfl hm hroom rfl rfl rfl rfl

/-! ## Every read -/

/-- Settles O14: each read is served on its ports outside LOADING (READ_ROOM in it, too), and the bytes of its payload are
the fields that the manual lists. -/
theorem readsAnswerAndChangeNothing : Obligations.ReadsAnswerAndChangeNothing := by
  intro p s hroom answer kind command outcome purpose cls
  have hanswer : ∀ {c : Instr} {code : Nat} {bytes : List Byte} {fields : List (Nat × Nat)},
      exec c s = .next (s.answering p (replyTo code .ok bytes) 0) → bytes = spell fields → exec c s = answer code fields := by
    rintro c code _ fields h rfl
    exact h
  have hkind : ∀ x, kind x = orZero kindCode x := idxOf_kindCode
  have hpurpose : ∀ x, purpose x = purposeCode x := idxOf_purposeCode
  have hcls : ∀ x, cls x = classCode x := ite_classCode
  have hcommand : ∀ x : Option BusCommand, command x = orZero commandCode x := by
    rintro (_ | x)
    · rfl
    · cases x <;> rfl
  have houtcome : ∀ x, outcome x = (orZero phaseOutcomeCode x, orZero phaseOutcomeFault x) := by
    rintro (_ | x)
    · rfl
    · cases x <;> rfl
  refine ⟨hanswer (exec_readRoom p s hroom) ?room, fun hm => ⟨fun a => hanswer (exec_readMachine p hm hroom a) ?machine, ?pool, ?queue, ?doubts, ?faults⟩⟩
  case room =>
    simp only [roomPayload, countP_configured, spell_cons, spell_nil, idxOf_modeCode, idxOf_bandCode, idxOf_startCode,
      idxOf_storeCode, idxOf_reasonCode, field_one, field_two, field_four, List.append_assoc, List.append_nil]
    rfl
  case machine =>
    rw [machinePayload_eq]
    refine append_eq_spell (append_eq_spell (append_eq_spell (append_eq_spell ?roster ?fields) ?cycle) ?session) ?run
    case roster =>
      rw [rosterPayload, State.configured, State.ratings]
      cases s.roster a with
      | none => simp [spell_cons, ratingsBytes, orZero, bit, addrNum]
      | some e => simp [spell_cons, ratingsBytes, orZero, hcls, bit, addrNum]
    case fields =>
      simp only [fieldsPayload, busPayload, spell_cons, spell_nil, field_one, field_four, idxOf_stateCode, idxOf_lockCode,
        idxOf_doorCode, idxOf_testOutcome, idxOf_presenceCode, hcommand, idxOf_activityCode, List.append_assoc, List.append_nil]
      rw [orZero_map, orZero_map]
      rfl
    case cycle =>
      cases (s.machine a).cycle with
      | none => rfl
      | some c =>
        simp only [cyclePayload, spell_cons, spell_nil, field_one, field_two, field_four, hkind, idxOf_subCode,
          idxOf_causeCode, List.append_assoc, List.append_nil]
        rw [orZero_id]
        rfl
    case session =>
      rw [sessionPayload]
      cases s.session with
      | none => rfl
      | some x =>
        by_cases hx : x.machine = a
        · simp only [if_pos hx, spell_cons, spell_nil, field_one, field_two, field_four, hkind, houtcome, idxOf_serviceSub,
            orZero_map, List.append_assoc, List.append_nil]
        · simp only [if_neg hx]
          rfl
    case run =>
      cases (s.machine a).testRun with
      | none => rfl
      | some r =>
        simp only [runPayload, spell_cons, spell_nil, field_one, idxOf_originCode, idxOf_subtestCode, List.append_assoc,
          List.append_nil]
  case pool =>
    intro hp k n hn x washer dryer code
    have hcode : code = poolCode k := ite_poolCode k
    rw [hcode]
    refine hanswer (exec_readPool p hm hroom hp k hn) ?_
    simp only [poolPayload, spell_append, spell_cons, spell_nil, spell_flatMap, field_one, field_two, field_four, field_five,
      hpurpose, hcls, idxOf_portionCode, Pool.sharedGranted, grantSum_eq_sum, List.append_assoc, List.append_nil]
    rfl
  case queue =>
    intro hp c q
    rw [hcls]
    subst hp
    exact hanswer (exec_readQueue hm hroom c) (queuePayload_eq_spell c s)
  case doubts =>
    rintro rfl
    refine hanswer (exec_readDoubts hm hroom) ?_
    simp only [spell_append, spell_cons, spell_nil, spell_flatMap, field_one, field_two, field_four, ite_doubtCode, ite_slotCode,
      List.append_assoc, List.append_nil]
    congr 1
  case faults =>
    intro hp n f hn hf passed sent
    have hpassed : passing f.toNat s.faults = passed := passing_byte f s.faults
    have hread := exec_readFaults p hm hroom hp hn hf
    simp only [hpassed] at hread
    refine ⟨fun h => ?_, fun h => ?_⟩
    · rw [if_neg (Nat.not_le.mpr h)] at hread
      refine hanswer hread ?_
      simp only [spell_append, spell_cons, spell_nil, spell_flatMap, field_one, field_two, field_four, hkind, idxOf_severityCode,
        List.append_assoc, List.append_nil]
      refine congrArg (be1 _ ++ ·) (congrArg (be1 _ ++ ·) (List.flatMap_congr fun x _ => ?_))
      simp only [faultBytes, orZero_id, List.append_assoc]
    · rw [if_pos h] at hread
      exact hread

end Sys2Proof.Machine

/-! PROOF. The pay stations: panel messages byte by byte, the card switch, a failed read, and what goes over the card link (R77,
R79, R80, R84, R85, R87). -/

namespace Sys2Proof.Machine

/-! ## Panel messages -/

/-- Between messages a byte that starts none is passed over (R77). -/
theorem panelByte_idle {i : StationId} {b : Byte} {s : State} (hgot : (s.station i).gathered = []) (hb : b ≠ 0x6B) :
    panelByte i b s = s := by
  simp only [panelByte, if_pos (And.intro hgot hb)]

/-- A byte that starts or continues a message, up to the fourth, is gathered (R77). -/
theorem panelByte_gathers {i : StationId} {b : Byte} {s : State} (hb : (s.station i).gathered ≠ [] ∨ b = 0x6B)
    (hlength : (s.station i).gathered.length < 4) :
    panelByte i b s = s.setStation i { s.station i with gathered := (s.station i).gathered ++ [b] } := by
  have hmessage : ¬ ((s.station i).gathered = [] ∧ b ≠ 0x6B) := by tauto
  have hshort : (s.station i).gathered.length + 1 < 5 := by omega
  simp only [panelByte, if_neg hmessage, if_pos hshort, modifyStation]

/-- The fifth byte ends the message (R77). -/
theorem panelByte_ends {i : StationId} {b : Byte} {s : State} (hlength : (s.station i).gathered.length = 4) :
    panelByte i b s = takePanel i ((s.station i).gathered ++ [b]) (clearPanel i s) := by
  have hmessage : ¬ ((s.station i).gathered = [] ∧ b ≠ 0x6B) := by
    rintro ⟨h, _⟩
    simp [h] at hlength
  simp only [panelByte, if_neg hmessage, hlength, Nat.lt_irrefl, if_false]

/-- The four bytes before the last leave nothing but themselves. -/
theorem clearPanel_setStation_gathered (i : StationId) (got : List Byte) (s : State) :
    clearPanel i (s.setStation i { s.station i with gathered := got }) = clearPanel i s := by
  simp only [clearPanel, modifyStation, station_setStation_self, setStation_setStation_self]

theorem after_requestLineByte (i : StationId) (b : Byte) (s : State) :
    after (.requestLineByte i b) s = some (panelByte i b s) := rfl

/-- R77: the five bytes of a message, the first of them 0x6B, are taken as one. -/
theorem afterAll_panelBytes {i : StationId} {s : State} (hgot : (s.station i).gathered = []) (b c d e : Byte) :
    afterAll (([0x6B, b, c, d, e] : List Byte).map (.requestLineByte i)) s =
      some (takePanel i [0x6B, b, c, d, e] (clearPanel i s)) := by
  have hgather : ∀ got x, got ≠ [] ∨ x = 0x6B → got.length < 4 →
      panelByte i x (s.setStation i { s.station i with gathered := got }) =
        s.setStation i { s.station i with gathered := got ++ [x] } := by
    intro got x hx hlength
    rw [panelByte_gathers (by simpa using hx) (by simpa using hlength)]
    simp only [station_setStation_self, setStation_setStation_self]
  have hfirst : panelByte i 0x6B s = s.setStation i { s.station i with gathered := [0x6B] } := by
    rw [panelByte_gathers (Or.inr rfl) (by simp [hgot]), hgot]
    rfl
  have hlast : panelByte i e (s.setStation i { s.station i with gathered := [0x6B, b, c, d] }) =
      takePanel i [0x6B, b, c, d, e] (clearPanel i s) := by
    rw [panelByte_ends (by simp), clearPanel_setStation_gathered, station_setStation_self]
    rfl
  simp only [List.map_cons, List.map_nil, afterAll, after_requestLineByte, Option.bind_some, hfirst]
  rw [hgather _ b (Or.inl (by simp)) (by simp), hgather _ c (Or.inl (by simp)) (by simp),
    hgather _ d (Or.inl (by simp)) (by simp)]
  exact congrArg some hlast

/-- The check of a message is right, and its code and operands stand in their places. -/
theorem panelCheckOk_panelBytes (code target steps : Byte) : panelCheckOk (panelBytes code target steps) = true := by
  have hsmall : byteCheck [code, target, steps] % 256 = byteCheck [code, target, steps] := by
    rw [byteCheck]
    omega
  show ((byte (byteCheck [code, target, steps])).toNat == byteCheck [code, target, steps]) = true
  rw [toNat_byte, hsmall, beq_self_eq_true]

/-- Settles O20: a message is gathered byte by byte, and the fifth byte takes it as the request of its code. -/
theorem panelBytesSpellTheRequest : Obligations.PanelBytesSpellTheRequest := by
  intro i s
  refine ⟨fun b hgot hb => congrArg _ (panelByte_idle hgot hb), fun b hb hlength => congrArg _ (panelByte_gathers hb hlength),
    fun hgot target steps => ?_⟩
  have htaken : ∀ code t, takePanel i (panelBytes code target steps) (clearPanel i s) = t →
      afterAll ((panelBytes code target steps).map (.requestLineByte i)) s = some t := by
    rintro code _ rfl
    exact afterAll_panelBytes hgot code target steps _
  have hcode : ∀ code, takePanel i (panelBytes code target steps) (clearPanel i s) =
      if code.toNat = 1 then takePay i target.toNat steps.toNat (clearPanel i s)
      else if code.toNat = 2 then takeAddTime i target.toNat steps.toNat (clearPanel i s)
      else if code.toNat = 3 then takeQueue i target.toNat (clearPanel i s)
      else if code.toNat = 4 then takeBalance i (clearPanel i s)
      else panelError i (clearPanel i s) := by
    intro code
    simp only [takePanel, panelCheckOk_panelBytes, Bool.not_true, Bool.false_eq_true, if_false]
    rfl
  exact ⟨htaken 1 _ (hcode 1), htaken 2 _ (hcode 2), htaken 3 _ (hcode 3), htaken 4 _ (hcode 4), htaken 5 _ (hcode 5)⟩

/-! ## The switch, a failed read and the card link -/

/-- R79, R80: the 32 bytes are asked for from offset 0, and the first byte that the card does not acknowledge ends the read. -/
theorem cardTraffic_reading {x : Station} (h : x.state = .reading) (answers : LinkAnswers) : cardTraffic x answers =
    .start :: acknowledged ([0x6C, 0x00].map .put ++ .restart :: .put 0x6D :: (takes 32 ++ [.stop])) answers.bytes := by
  simp only [cardTraffic, cardAccess, h, linkTraffic, LinkAccess.traffic, List.append_nil]
  rfl

/-- Settles O44: each event of the station rewrites its record alone. -/
theorem cardSwitchAndPanelErrors : Obligations.CardSwitchAndPanelErrors := by
  intro i s x empty message
  have hexec : ∀ {c : Instr} {t u : State}, exec c s = .next t → t = u → exec c s = .next u := by
    rintro c t _ h rfl
    exact h
  refine ⟨fun hopen hempty hawait hmode => ?_, fun hopen hempty hawait hmode => ?_, fun hstate => ?_, fun hstate => ?_,
    fun hstate acks polls => ?_, fun hstate answers => ?_, ?_, congrArg _ rfl⟩
  · refine hexec (t := insertCard i s) rfl ?_
    have hopen' : (s.station i).switchClosed = false := hopen
    have hempty' : (s.station i).state = .empty := hempty
    have hawait' : (s.station i).awaitingRemoval = false := hawait
    simp [insertCard, hopen', hempty', hawait', hmode, beginReading, modifyStation, x]
  · refine hexec (t := insertCard i s) rfl ?_
    have hopen' : (s.station i).switchClosed = false := hopen
    have hempty' : (s.station i).state = .empty := hempty
    have hawait' : (s.station i).awaitingRemoval = false := hawait
    simp [insertCard, hopen', hempty', hawait', hmode, display, modifyStation, x]
    rfl
  · refine hexec (t := removeCard i s) rfl ?_
    have hstate' : (s.station i).state = .empty ∨ (s.station i).state = .reading ∨ (s.station i).state = .cardReady := hstate
    rcases hstate' with h | h | h <;> simp [removeCard, modifyStation, h] <;> rfl
  · refine hexec (t := readFails i s) rfl ?_
    have hstate' : (s.station i).state = .reading := hstate
    simp [readFails, hstate', refuseCard, endCard, display, modifyStation]
    rfl
  · simp only [cardTraffic_reading hstate]
    refine ⟨?_, rfl, rfl, rfl⟩
    simp only [List.map_cons, List.map_nil, List.cons_append, List.nil_append, acknowledged, acknowledged_takes]
    rfl
  · rcases hstate with h | h <;> simp only [cardTraffic, cardAccess, h]
  · refine hexec (t := panelError i (clearPanel i s)) rfl ?_
    simp only [panelError, display_clearPanel]
    rfl

end Sys2Proof.Machine

/-! PROOF. What the shared operations leave of a machine record, of the fault table and of the ports, and the timers whose
effect follows from that: the phase limit, the pause deadline, the deadline of a doubt (R31, R46, R100). -/

namespace Sys2Proof.Machine

/-! ## The first entry of a list that satisfies a test -/

section
variable {α : Type} {p : α → Bool} {before behind : List α} {x : α}

theorem find?_split (hbefore : ∀ y ∈ before, p y = false) (hx : p x = true) :
    (before ++ x :: behind).find? p = some x := by
  have hnone : before.find? p = none := by simpa using hbefore
  rw [List.find?_append, hnone, Option.none_or, List.find?_cons_of_pos hx]

theorem eraseP_split (hbefore : ∀ y ∈ before, p y = false) (hx : p x = true) :
    (before ++ x :: behind).eraseP p = before ++ behind := by
  rw [List.eraseP_append_right _ (by simpa using hbefore), List.eraseP_cons_of_pos hx]

theorem modifyFirst_split (f : α → α) (hbefore : ∀ y ∈ before, p y = false) (hx : p x = true) :
    modifyFirst p f (before ++ x :: behind) = before ++ f x :: behind := by
  induction before with
  | nil => simp [modifyFirst, hx]
  | cons y ys ih =>
    have hy : p y = false := hbefore y (by simp)
    simp [modifyFirst, hy, ih fun z hz => hbefore z (by simp [hz])]

theorem modifyFirst_none (f : α → α) {xs : List α} (h : ∀ y ∈ xs, p y = false) : modifyFirst p f xs = xs := by
  induction xs with
  | nil => rfl
  | cons y ys ih =>
    have hy : p y = false := h y (by simp)
    simp [modifyFirst, hy, ih fun z hz => h z (by simp [hz])]

end

/-! ## A machine record but for its hold -/

/-- A record that differs from another in nothing but its state and its hold. -/
def SameButHold (m n : MachineRecord) : Prop := n = { m with state := n.state, hold := n.hold }

theorem SameButHold.refl (m : MachineRecord) : SameButHold m m := rfl

theorem SameButHold.trans {m n o : MachineRecord} (h : SameButHold m n) (k : SameButHold n o) : SameButHold m o := by
  unfold SameButHold at *
  rw [k, h]

theorem SameButHold.of_eq {m n : MachineRecord} (h : n = m) : SameButHold m n := by rw [h]; exact .refl m

theorem SameButHold.payment {m n : MachineRecord} (h : SameButHold m n) : n.payment = m.payment := by rw [h]

theorem SameButHold.cycle {m n : MachineRecord} (h : SameButHold m n) : n.cycle = m.cycle := by rw [h]

theorem SameButHold.bus {m n : MachineRecord} (h : SameButHold m n) : n.bus = m.bus := by rw [h]

theorem SameButHold.testRun {m n : MachineRecord} (h : SameButHold m n) : n.testRun = m.testRun := by rw [h]

theorem SameButHold.lastTest {m n : MachineRecord} (h : SameButHold m n) : n.lastTest = m.lastTest := by rw [h]

theorem sameButHold_modifyMachine (a b : Addr) {f : MachineRecord → MachineRecord} (hf : ∀ m, SameButHold m (f m)) (s : State) :
    SameButHold (s.machine b) ((modifyMachine a f s).machine b) := by
  by_cases h : b = a
  · rw [h, machine_modifyMachine_self]
    exact hf _
  · exact .of_eq (machine_modifyMachine_other h f s)

theorem sameButHold_moveTo (a b : Addr) (st : MachineState) (s : State) :
    SameButHold (s.machine b) ((moveTo a st s).machine b) := by
  rw [moveTo, raise_machine]
  exact sameButHold_modifyMachine a b (by exact fun _ => rfl) s

theorem sameButHold_placeHold (a b : Addr) (s : State) : SameButHold (s.machine b) ((placeHold a s).1.machine b) := by
  unfold placeHold
  dsimp only
  split
  · exact .refl _
  · rw [raise_machine]
    exact .trans (.of_eq (changeQueue_machine _ _ s b)) (sameButHold_modifyMachine a b (by exact fun _ => rfl) _)

theorem sameButHold_offer (a b : Addr) (s : State) : SameButHold (s.machine b) ((offer a s).machine b) := by
  have hplaced := sameButHold_placeHold a b s
  unfold offer
  split <;> rename_i heq <;> rw [heq] at hplaced <;> exact hplaced.trans (sameButHold_moveTo a b _ _)

theorem sameButHold_reoffer (a b : Addr) (s : State) : SameButHold (s.machine b) ((reoffer a s).machine b) := by
  have hplaced := sameButHold_placeHold a b s
  unfold reoffer
  split
  · rename_i heq
    rwa [heq] at hplaced
  · rename_i heq
    rw [heq] at hplaced
    have hcleared : ∀ t : State, SameButHold (t.machine b)
        ((raise .machine (modifyMachine a (fun m => { m with hold := none }) t)).machine b) := fun t =>
      sameButHold_modifyMachine a b (f := fun m => { m with hold := none }) (fun _ => rfl) t
    dsimp only
    split
    · exact (hplaced.trans (hcleared _)).trans (sameButHold_moveTo a b _ _)
    · exact hplaced.trans (hcleared _)

theorem sameButHold_expireHold (a b : Addr) (s : State) : SameButHold (s.machine b) ((expireHold a s).machine b) :=
  .trans (.of_eq (changeQueue_machine _ _ s b)) (sameButHold_reoffer a b _)

theorem sameButHold_handBack (a b : Addr) (s : State) : SameButHold (s.machine b) ((handBack a s).machine b) := by
  by_cases h : b = a
  · rw [h, handBack_machine_self]
    rfl
  · exact .of_eq (handBack_machine_other h s)

theorem sameButHold_holderStopsPaying (a b : Addr) (s : State) :
    SameButHold (s.machine b) ((holderStopsPaying a s).machine b) := by
  unfold holderStopsPaying
  dsimp only
  split
  · exact .trans (.of_eq (changeQueue_machine _ _ s b)) (sameButHold_expireHold a b _)
  · exact .of_eq (changeQueue_machine _ _ s b)

theorem sameButHold_claimServed (a b : Addr) (card : Nat) (s : State) :
    SameButHold (s.machine b) ((claimServed a card s).machine b) := by
  unfold claimServed
  dsimp only
  split
  · rw [raise_machine]
    exact .trans (.of_eq (changeQueue_machine _ _ s b)) (sameButHold_modifyMachine a b (by exact fun _ => rfl) _)
  · split
    · exact .refl _
    · split
      · exact .of_eq (changeQueue_machine _ _ s b)
      · exact .trans (.of_eq (changeQueue_machine _ _ s b)) (sameButHold_reoffer _ b _)

/-- An abandoned payment is gone (R27). -/
theorem abandonStart_payment (a : Addr) (s : State) : ((abandonStart a s).machine a).payment = none := by
  have hcleared : ((modifyMachine a (fun m => { m with payment := none }) s).machine a).payment = none := by simp
  unfold abandonStart
  dsimp only
  split
  · split
    · exact (((sameButHold_handBack a a _).trans (sameButHold_moveTo a a _ _)).payment).trans hcleared
    · split
      · exact (((sameButHold_moveTo a a _ _).trans (sameButHold_holderStopsPaying a a _)).payment).trans hcleared
      · exact (sameButHold_moveTo a a _ _).payment.trans hcleared
  · exact hcleared

/-! ## Doubts at their deadlines -/

@[simp] theorem modifyAudit_machine (f : Audit → Audit) (s : State) (a : Addr) :
    (modifyAudit f s).machine a = s.machine a := rfl

@[simp] theorem countDebitUnresolved_machine (s : State) (a : Addr) :
    (countDebitUnresolved s).machine a = s.machine a := rfl

theorem countDebitUnresolved_audit (s : State) : (countDebitUnresolved s).audit =
    { s.audit with debitsUnresolved := addTotal s.audit.debitsUnresolved 1 } := rfl

/-- A debit that ends unresolved is counted, handed over with DEBIT_UNRESOLVED, and its payment is gone (R95, R100). -/
theorem debitUnresolved_counts (d : DebitCopy) (s : State) :
    (debitUnresolved d s).audit = { s.audit with debitsUnresolved := addTotal s.audit.debitsUnresolved 1 } ∧
    (debitUnresolved d s).refunds = s.refunds ∧ faultLast (addrNum d.machine) faultDebitUnresolved (debitUnresolved d s) ∧
    (d.kind = .start → ((debitUnresolved d s).machine d.machine).payment = none) := by
  have hmoney : Touches [.machines, .flags, .claims, .faults] s
      (handFault { plainHanding (addrNum d.machine) faultDebitUnresolved with card := some d.card }
        (abandonDebit d.kind d.machine d.card s)) :=
    touched_of (by simp)
  refine ⟨?_, (hmoney .money (by simp)).1, ?_, fun hkind => ?_⟩
  · rw [debitUnresolved, countDebitUnresolved_audit, (hmoney .money (by simp)).2]
  · exact (faultLast_handFault { plainHanding (addrNum d.machine) faultDebitUnresolved with card := some d.card } _).of_touches
      (touched_countDebitUnresolved _) (by simp) (by simp)
  · rw [debitUnresolved, countDebitUnresolved_machine, (struck_handFault _ _ _).payment, hkind]
    exact abandonStart_payment d.machine s

theorem exec_doubtDeadline (card : Nat) (s : State) : exec (.doubtDeadline card) s = .next (doubtTimeout card s) := rfl

/-- Settles O48: the doubt is the first of its card, and it is due. -/
theorem doubtDeadlineEndsTheDebitUnresolved : Obligations.DoubtDeadlineEndsTheDebitUnresolved := by
  intro s before behind d hdoubts hbefore hdue
  have hfirst : ∀ y ∈ before, (y.debit.card == d.debit.card && decide (y.deadline ≤ s.now)) = false :=
    fun y hy => by simp [hbefore y hy]
  have hd : (d.debit.card == d.debit.card && decide (d.deadline ≤ s.now)) = true := by simp [hdue]
  have htimeout : doubtTimeout d.debit.card s =
      raise .payment (debitUnresolved d.debit { s with doubts := before ++ behind }) := by
    simp only [doubtTimeout, hdoubts, find?_split (p := fun y : Doubt => y.debit.card == d.debit.card && decide (y.deadline ≤ s.now)) hfirst hd,
      eraseP_split (p := fun y : Doubt => y.debit.card == d.debit.card && decide (y.deadline ≤ s.now)) hfirst hd]
  obtain ⟨haudit, hrefunds, hfault, hpayment⟩ := debitUnresolved_counts d.debit { s with doubts := before ++ behind }
  have hkept : Touches [.machines, .flags, .claims, .faults, .money] { s with doubts := before ++ behind }
      (raise .payment (debitUnresolved d.debit { s with doubts := before ++ behind })) := touched_of (by simp)
  refine ⟨_, (exec_doubtDeadline _ s).trans (congrArg _ htimeout), (hkept .doubts (by simp)).1, haudit, hrefunds, ?_, hpayment⟩
  exact hfault.of_touches (ps := [.flags]) (touched_of (by simp)) (by simp) (by simp)

end Sys2Proof.Machine

/-! PROOF. Stops that a limit, a deadline or an expired wait asks for (R31, R36, R46, R70 to R72). -/

namespace Sys2Proof.Machine

/-! ## A stop after a handing -/

theorem StoppedWith.of_eq {cause : StopCause} {a : Addr} {s t u : State} (h : StoppedWith cause a t u)
    (hcycle : (t.machine a).cycle = (s.machine a).cycle) (hnow : t.now = s.now) : StoppedWith cause a s u := by
  obtain ⟨hstate, hstopped, hentries⟩ := h
  exact ⟨hstate, by rw [hstopped, hcycle, hnow], hentries⟩

/-- A handing leaves a RUNNING machine RUNNING with its cycle, so a stop after it is a stop (R36, R137). -/
theorem stopCycle_handFault {cause : StopCause} {a : Addr} {s : State} (x : Handing) (hs : (s.machine a).state = .running) :
    StoppedWith cause a s (stopCycle a cause (handFault x s)) ∧
      faultLast x.machine x.code (stopCycle a cause (handFault x s)) := by
  have hstruck := struck_handFault x a s
  have hrunning : ((handFault x s).machine a).state = .running :=
    ((hstruck.state (by simp [hs]) (by simp [hs]) (by simp [hs])).1).trans hs
  exact ⟨(stopCycle_running hrunning).of_eq hstruck.cycle (handFault_now x s),
    (faultLast_handFault x s).of_touches (touched_stopCycle a cause _) (by simp) (by simp)⟩

theorem atAddress_addrNum (a : Addr) (f : Addr → State → State) (s : State) : atAddress (addrNum a) f s = f a s := by
  simp only [atAddress, addr?_addrNum]

/-! ## The phase limit and the pause deadline -/

theorem exec_phaseLimitReached (a : Addr) (s : State) :
    exec (.phaseLimitReached (addrNum a)) s = .next (limitTimeout a s) := congrArg _ (atAddress_addrNum a _ s)

theorem exec_pauseDeadline (a : Addr) (s : State) :
    exec (.pauseDeadline (addrNum a)) s = .next (pauseTimeout a s) := congrArg _ (atAddress_addrNum a _ s)

/-- Settles O29: each timer meets its condition, and stops the RUNNING machine. -/
theorem phaseLimitAndPauseDeadlineStopTheCycle : Obligations.PhaseLimitAndPauseDeadlineStopTheCycle := by
  intro s a c hrunning hcycle
  refine ⟨fun e n hactive hentry hlimit hused => ?_, fun d hdeadline hdue hsub => ?_⟩
  · have hreached : limitReached c = true := by
      have hphase : phaseLimit c = some n := by rw [← hlimit, phaseLimit, Cycle.entry, hentry]
      simp [limitReached, hactive, hphase, hused]
    have htimeout : limitTimeout a s = timeoutStop a s := if_pos ⟨hrunning, by simp [hcycle, hreached]⟩
    obtain ⟨hstopped, hfault⟩ := stopCycle_handFault (cause := .machine) (cycleHanding a faultPhaseTimeout s) hrunning
    exact ⟨_, (exec_phaseLimitReached a s).trans (congrArg _ htimeout), hstopped, hfault⟩
  · have hpause : pauseDue s.now c = true := by
      rcases hsub with h | h <;> simp [pauseDue, hdeadline, due, hdue, h]
    have htimeout : pauseTimeout a s = stopCycle a .user s := if_pos ⟨hrunning, by simp [hcycle, hpause]⟩
    exact ⟨_, (exec_pauseDeadline a s).trans (congrArg _ htimeout), stopCycle_running hrunning,
      touched_stopCycle a .user s .faults (by simp)⟩

/-! ## A pool but for its grants and its wait list -/

/-- A pool that differs from another in nothing but its grants and its wait list. -/
def SameButGrants (p q : Pool) : Prop := q = { p with grants := q.grants, waits := q.waits }

theorem SameButGrants.refl (p : Pool) : SameButGrants p p := rfl

theorem SameButGrants.of_eq {p q : Pool} (h : q = p) : SameButGrants p q := by rw [h]; exact .refl p

theorem SameButGrants.trans {p q r : Pool} (h : SameButGrants p q) (k : SameButGrants q r) : SameButGrants p r := by
  unfold SameButGrants at *
  rw [k, h]

theorem SameButGrants.stats {p q : Pool} (h : SameButGrants p q) : q.stats = p.stats := by rw [h]

theorem SameButGrants.of_frame {p q : Pool} (h : { q with grants := p.grants } = p) (ws : List WaitEntry) :
    SameButGrants p { q with waits := ws } := by
  cases p
  cases q
  simp only [Pool.mk.injEq] at h
  simp only [SameButGrants, Pool.mk.injEq]
  tauto

theorem sameButGrants_scanned (now : Nat) (p : Pool) : SameButGrants p (p.scanned now) := by
  unfold Pool.scanned
  split
  · obtain ⟨ks, rs, _, hscan, _⟩ := scanFrom_scanning (now := now) (Scanning.start p) (by simp)
    exact .of_frame hscan.frame _
  · exact .refl p

theorem sameButGrants_scanPool (k j : PoolId) (s : State) : SameButGrants (s.pool j) ((scanPool k s).pool j) := by
  by_cases h : j = k
  · subst h
    rw [scanPool_pool]
    exact sameButGrants_scanned s.now _
  · exact .of_eq (scanPool_pool_other h s)

theorem sameButGrants_setPool (k j : PoolId) {p : Pool} {s : State} (h : SameButGrants (s.pool k) p) :
    SameButGrants (s.pool j) ((s.setPool k p).pool j) := by
  by_cases hj : j = k
  · rw [hj, pool_setPool_self]
    exact h
  · exact .of_eq (pool_setPool_other s p hj)

theorem sameButGrants_withdrawFrom (k j : PoolId) (a : Addr) (s : State) :
    SameButGrants (s.pool j) ((withdrawFrom k a s).pool j) := by
  unfold withdrawFrom
  dsimp only
  split
  · exact .trans (sameButGrants_setPool k j (by exact rfl)) (sameButGrants_scanPool k j _)
  · exact .refl _

theorem sameButGrants_withdrawEntry (j : PoolId) (a : Addr) (s : State) :
    SameButGrants (s.pool j) ((withdrawEntry a s).pool j) :=
  (sameButGrants_withdrawFrom .electric j a s).trans (sameButGrants_withdrawFrom .water j a _)

/-- What touches no pool leaves each pool. -/
theorem Touches.pool {ps : List Part} {s t : State} (h : Touches ps s t) (hp : Part.pools ∉ ps) (k : PoolId) :
    t.pool k = s.pool k := by
  obtain ⟨helectric, hwater⟩ := h _ hp
  cases k
  · exact helectric
  · exact hwater

theorem sameButGrants_stopCycle (j : PoolId) (a : Addr) (cause : StopCause) (s : State) :
    SameButGrants (s.pool j) ((stopCycle a cause s).pool j) := by
  unfold stopCycle
  split
  · dsimp only
    rw [(touched_post a _ _ _).pool (by simp)]
    refine .trans (.of_eq ?_) (sameButGrants_withdrawEntry j a _)
    exact Touches.pool (ps := [.machines, .flags]) (touched_of (by simp)) (by simp) j
  · exact .refl _

/-! ## The grant-wait limit -/

/-- A scan of a pool in which a machine waits for nothing leaves its stop as it is. -/
theorem StoppedWith.scanPool {cause : StopCause} {a : Addr} {s t : State} (h : StoppedWith cause a s t) (k : PoolId) :
    StoppedWith cause a s (scanPool k t) := by
  obtain ⟨hstate, hcycle, helectric, hwater⟩ := h
  have hentry : ∀ j, (t.pool j).hasEntry a = false := by
    intro j
    cases j
    · exact helectric
    · exact hwater
  refine ⟨(calm_scanPool k a t).state.trans hstate, (scanPool_other (hentry k)).1.trans hcycle, ?_, ?_⟩
  · exact scanPool_hasEntry (j := .electric) (hentry .electric)
  · exact scanPool_hasEntry (j := .water) (hentry .water)

theorem exec_grantWaitExpiry (a : Addr) (s : State) : exec (.grantWaitExpiry (addrNum a)) s =
    .next (expireFrom .water a (expireFrom .electric a s)) := congrArg _ (atAddress_addrNum a _ s)

theorem expireFrom_none {k : PoolId} {a : Addr} {s : State}
    (h : ∀ x ∈ (s.pool k).waits, x.machine = a → s.now < x.time + s.expiryAge) : expireFrom k a s = s := by
  have hnone : expiredEntry k a s = none := by
    simp only [expiredEntry, List.find?_eq_none, decide_eq_true_eq, not_and, not_le]
    exact h
  simp only [expireFrom, hnone]

theorem expireFrom_of_no_entry {k : PoolId} {a : Addr} {s : State} (h : (s.pool k).hasEntry a = false) :
    expireFrom k a s = s := by
  refine expireFrom_none fun x hx hxa => ?_
  rw [Pool.hasEntry, List.any_eq_false] at h
  exact absurd (decide_eq_true hxa) (h x hx)

/-- R71, R72: an expired entry of a RUNNING machine's cycle is counted, and the cycle stops with GRANT_WAIT. -/
theorem expireFrom_cycle {k : PoolId} {a : Addr} {s : State} {e : WaitEntry} (he : e ∈ (s.pool k).waits)
    (hea : e.machine = a) (hdue : e.time + s.expiryAge ≤ s.now)
    (hpurpose : ∀ x ∈ (s.pool k).waits, x.machine = a → x.purpose = .cyclePhase ∨ x.purpose = .resume)
    (hrunning : (s.machine a).state = .running) :
    StoppedWith .room a s (expireFrom k a s) ∧ faultLast (addrNum a) faultGrantWait (expireFrom k a s) ∧
      ((expireFrom k a s).pool k).stats.expiries = addUpTo Config.largestCount (s.pool k).stats.expiries 1 := by
  obtain ⟨x, hx⟩ : ∃ x, expiredEntry k a s = some x :=
    Option.isSome_iff_exists.mp (List.find?_isSome.mpr ⟨e, he, decide_eq_true ⟨hea, hdue⟩⟩)
  have hfound := hx
  rw [expiredEntry] at hfound
  have hxa : x.machine = a := (by simpa using List.find?_some hfound : x.machine = a ∧ _).1
  have hxp := hpurpose x (List.mem_of_find?_eq_some hfound) hxa
  let counted := raise .pool (s.setPool k { s.pool k with
    waits := (s.pool k).waits.filter (fun e => !decide (e.machine = a)),
    stats := { (s.pool k).stats with expiries := addUpTo Config.largestCount (s.pool k).stats.expiries 1 } })
  have hmachine : counted.machine a = s.machine a := Touches.machine (ps := [.pools, .flags]) (touched_of (by simp [counted])) (by simp) a
  have hhanding : waitHanding x counted = cycleHanding a faultGrantWait counted := by
    rcases hxp with h | h <;> simp only [waitHanding, h, hxa]
  have htell : ∀ t, tellExpiry x t = stopCycle a .room t := by
    intro t
    rcases hxp with h | h <;> simp only [tellExpiry, h, hxa]
  have hexpired : expireFrom k a s =
      scanPool k (stopCycle a .room (handFault (cycleHanding a faultGrantWait counted) counted)) := by
    simp only [expireFrom, hx]
    rw [htell, ← hhanding]
  obtain ⟨hstopped, hfault⟩ := stopCycle_handFault (cause := .room) (cycleHanding a faultGrantWait counted)
    (hmachine.symm ▸ hrunning : (counted.machine a).state = .running)
  rw [hexpired]
  refine ⟨(hstopped.of_eq (by rw [hmachine]) (by simp [counted])).scanPool k,
    hfault.of_touches (touched_scanPool k _) (by simp) (by simp), ?_⟩
  have hstats := ((sameButGrants_stopCycle k a .room (handFault (cycleHanding a faultGrantWait counted) counted)).trans
    (sameButGrants_scanPool k k _)).stats
  rw [hstats, (touched_handFault _ _).pool (by simp) k]
  simp [counted]

/-- Settles O38: the entry expires in its pool, and in the other pool the machine has none. -/
theorem grantWaitExpiryStopsTheCycle : Obligations.GrantWaitExpiryStopsTheCycle := by
  intro s a k e he hea
  refine ⟨fun hlimit hbegun hpurpose hother hrunning => ?_, fun hyoung => ?_⟩
  · have hdue : e.time + s.expiryAge ≤ s.now := by
      simp only [State.expiryAge]
      omega
    obtain ⟨hstopped, hfault, hcount⟩ := expireFrom_cycle he hea hdue hpurpose hrunning
    refine ⟨expireFrom k a s, (exec_grantWaitExpiry a s).trans (congrArg _ ?_), hstopped, hfault, hcount⟩
    cases k with
    | electric => exact expireFrom_of_no_entry hstopped.2.2.2
    | water => rw [expireFrom_of_no_entry (k := .electric) (hother .electric (by simp))]
  · have hnone : ∀ j, expireFrom j a s = s := fun j => expireFrom_none fun x hx hxa => by
      have := hyoung j x hx hxa
      simp only [State.expiryAge]
      omega
    rw [exec_grantWaitExpiry, hnone, hnone]

end Sys2Proof.Machine

/-! PROOF. Events are raised in every port alike (R162): what an operation does to the flags of one port it does to those of the
others. With it a request is answered on its port, whatever events its owner raises. -/

namespace Sys2Proof.Machine

/-- The ports of `t` are those of `s`, with the flags of some events set in each (R162). -/
def Raised (s t : State) : Prop := ∃ bits, ∀ q, t.port q = { s.port q with flags := (s.port q).flags ||| bits }

theorem Raised.refl (s : State) : Raised s s := ⟨0, fun q => by simp⟩

section
variable {s t u : State}

theorem Raised.trans (h : Raised s t) (k : Raised t u) : Raised s u := by
  obtain ⟨x, hx⟩ := h
  obtain ⟨y, hy⟩ := k
  exact ⟨x ||| y, fun q => by rw [hy, hx, BitVec.or_assoc]⟩

theorem port_eq_of_same {x y : PortState} (h : samePort x y) (hf : x.flags = y.flags) : x = y := by
  cases x
  cases y
  obtain ⟨h1, h2, h3⟩ := h
  simp only [PortState.mk.injEq]
  exact ⟨h1, h2, hf, h3⟩

/-- What touches neither the flags nor the rest of the ports raises nothing. -/
theorem Raised.touch {ps : List Part} (h : Raised s t) (ht : Touches ps t u) (hf : Part.flags ∉ ps) (hp : Part.ports ∉ ps) :
    Raised s u := by
  have hport : ∀ q, u.port q = t.port q := by
    obtain ⟨hbuilding, hoperator, hservice⟩ := ht _ hf
    obtain ⟨kbuilding, koperator, kservice⟩ := ht _ hp
    intro q
    cases q
    · exact port_eq_of_same kbuilding hbuilding
    · exact port_eq_of_same koperator hoperator
    · exact port_eq_of_same kservice hservice
  exact h.trans ⟨0, fun q => by simp [hport]⟩

theorem Raised.thenRaise (h : Raised s t) (e : Event) : Raised s (raise e t) :=
  h.trans ⟨eventBit e, fun q => by rw [raise_port]; rfl⟩

theorem Raised.thenRaiseIf (h : Raised s t) (b : Bool) (e : Event) : Raised s (raiseIf b e t) := by
  cases b
  · exact h
  · exact h.thenRaise e

variable (h : Raised s t)
include h

/-! ## Machines, queues and faults -/

theorem Raised.thenModifyMachine (a : Addr) (f : MachineRecord → MachineRecord) : Raised s (modifyMachine a f t) :=
  h.touch (touched_modifyMachine a f t) (by simp) (by simp)

theorem Raised.thenModifyCycle (a : Addr) (f : Cycle → Cycle) : Raised s (modifyCycle a f t) :=
  h.thenModifyMachine a _

theorem Raised.thenPost (a : Addr) (cmd : BusCommand) (poster : Poster) : Raised s (post a cmd poster t) :=
  h.thenModifyMachine a _

theorem Raised.thenSetSession (x : Option Session) : Raised s { t with session := x } :=
  h.touch (ps := [.session]) (touched_of (by simp)) (by simp) (by simp)

theorem Raised.thenSetPool (k : PoolId) (p : Pool) : Raised s (t.setPool k p) :=
  h.touch (ps := [.pools]) (touched_of (by simp)) (by simp) (by simp)

theorem Raised.thenMoveTo (a : Addr) (st : MachineState) : Raised s (moveTo a st t) := (h.thenModifyMachine a _).thenRaise _

theorem Raised.thenChangeQueue (c : MachineClass) (f : ClaimQueue → ClaimQueue) : Raised s (changeQueue c f t) :=
  (h.touch (ps := [.claims]) (touched_of (by simp)) (by simp) (by simp)).thenRaise _

theorem Raised.thenPlaceHold (a : Addr) : Raised s (placeHold a t).1 := by
  unfold placeHold
  dsimp only
  split
  · exact h
  · exact ((h.thenChangeQueue _ _).thenModifyMachine a _).thenRaise _

theorem Raised.thenOffer (a : Addr) : Raised s (offer a t) := by
  have hplaced := h.thenPlaceHold a
  unfold offer
  split <;> rename_i heq <;> rw [heq] at hplaced <;> exact hplaced.thenMoveTo a _

theorem Raised.thenHandBack (a : Addr) : Raised s (handBack a t) := by
  unfold handBack
  split
  · exact ((h.thenChangeQueue _ _).thenModifyMachine a _).thenRaise _
  · exact h

theorem Raised.thenSetLock (a : Addr) (kind : Lock) : Raised s (setLock a kind t) := by
  unfold setLock
  split
  · exact h
  · exact (h.thenModifyMachine a _).thenRaise _

theorem Raised.thenSetPending (a : Addr) : Raised s (setPending a t) := by
  unfold setPending
  split
  · exact h
  · exact (h.thenModifyMachine a _).thenRaise _

theorem Raised.thenApplyLock (a : Addr) (kind : Lock) : Raised s (applyLock a kind t) := by
  have hlocked := h.thenSetLock a kind
  unfold applyLock
  dsimp only
  split
  · exact hlocked.thenMoveTo a _
  · exact hlocked.thenMoveTo a _
  · exact (hlocked.thenHandBack a).thenMoveTo a _
  iterate 5 exact hlocked.thenSetPending a
  all_goals exact hlocked

theorem Raised.thenStrike (a : Addr) (x : Handing) : Raised s (strike a x t) := by
  unfold strike
  dsimp only
  split
  · exact h.thenModifyMachine a _
  · split
    · have hstruck := (h.thenModifyMachine a (fun m => { m with strikes := addUpTo 15 m.strikes 1 })).thenRaise .machine
      split
      · exact hstruck.thenApplyLock a _
      · exact hstruck
    · exact h

theorem Raised.thenForcedLock (a : Addr) (x : Handing) : Raised s (forcedLock a x t) := by
  unfold forcedLock
  split
  · exact h.thenApplyLock a _
  · exact h

theorem Raised.thenHandFault (x : Handing) : Raised s (handFault x t) := by
  have hrecorded : Raised s (raise .fault { t with faults := recordFault t.now x t.faults }) :=
    (h.touch (ps := [.faults]) (touched_of (by simp)) (by simp) (by simp)).thenRaise _
  unfold handFault
  dsimp only
  split
  · exact hrecorded
  · exact (hrecorded.thenStrike _ x).thenForcedLock _ x

theorem Raised.thenReleaseToRoom (a : Addr) : Raised s (releaseToRoom a t) := by
  unfold releaseToRoom
  split
  · exact (h.thenModifyMachine a _).thenMoveTo a _
  · split
    · exact h.thenMoveTo a _
    · exact h.thenOffer a

/-! ## Grants -/

theorem Raised.thenStartPhase (a : Addr) : Raised s (startPhase a t) :=
  h.touch (touched_startPhase a t) (by simp) (by simp)

theorem Raised.thenStartServicePhase : Raised s (startServicePhase t) := by
  unfold startServicePhase
  split
  · exact h
  · split
    · exact h
    · exact ((h.thenSetSession _).thenPost _ _ _).thenRaise _

theorem Raised.thenModifyRun (a : Addr) (f : TestRun → TestRun) : Raised s (modifyRun a f t) :=
  (h.thenModifyMachine a _).thenRaise _

theorem Raised.thenStartSubtest (a : Addr) : Raised s (startSubtest a t) := by
  unfold startSubtest
  split
  · exact h
  · exact (h.thenModifyRun a _).thenPost a _ _

theorem Raised.thenDeliverGrant (e : WaitEntry) : Raised s (deliverGrant t e) := by
  unfold deliverGrant
  split
  · exact h.thenStartPhase _
  · exact h.touch (touched_resumePhase _ t) (by simp) (by simp)
  · exact h.thenStartServicePhase
  · exact h.thenStartSubtest _

omit h in
theorem Raised.thenFoldl {α : Type} {f : State → α → State} (hf : ∀ t x, Raised s t → Raised s (f t x)) :
    ∀ (xs : List α) (t : State), Raised s t → Raised s (xs.foldl f t)
  | [], _, h => h
  | x :: xs, t, h => Raised.thenFoldl hf xs (f t x) (hf t x h)

theorem Raised.thenScanPool (k : PoolId) : Raised s (scanPool k t) := by
  unfold scanPool
  dsimp only
  split
  · exact Raised.thenFoldl (fun _ e ht => ht.thenDeliverGrant e) _ _ (h.thenSetPool k _)
  · exact h

theorem Raised.thenCountWait (k : PoolId) (a : Addr) : Raised s (countWait k a t) :=
  h.touch (touched_countWait k a t) (by simp) (by simp)

theorem Raised.thenRequestGrant (k : PoolId) (a : Addr) (purpose : Purpose) (demand : Nat) (suspendable : Bool) :
    Raised s (requestGrant k a purpose demand suspendable t) := by
  unfold requestGrant
  split
  · exact h
  · exact ((h.thenSetPool k _).thenScanPool k).thenCountWait k a

theorem Raised.thenWithdrawFrom (k : PoolId) (a : Addr) : Raised s (withdrawFrom k a t) := by
  unfold withdrawFrom
  dsimp only
  split
  · exact (h.thenSetPool k _).thenScanPool k
  · exact h

theorem Raised.thenWithdrawEntry (a : Addr) : Raised s (withdrawEntry a t) :=
  (h.thenWithdrawFrom .electric a).thenWithdrawFrom .water a

theorem Raised.thenStopCycle (a : Addr) (cause : StopCause) : Raised s (stopCycle a cause t) := by
  unfold stopCycle
  split
  · exact (((h.thenModifyCycle a _).thenMoveTo a _).thenWithdrawEntry a).thenPost a _ _
  · exact h

/-! ## Service work -/

theorem Raised.thenEndSession : Raised s (endSession t) := by
  unfold endSession
  split
  · exact h
  · rename_i x _
    have hended := (((h.thenSetSession none).thenModifyMachine x.machine (fun m => { m with permit := false })).thenRaise
      .machine).thenRaise .test
    dsimp only
    split
    · exact hended.thenReleaseToRoom _
    · exact hended

theorem Raised.thenEndIfClosing (a : Addr) : Raised s (endIfClosing a t) := by
  unfold endIfClosing
  split
  · exact h.thenEndSession
  · exact h

theorem Raised.thenFinishTest (a : Addr) (outcome : TestOutcome) (code : Nat) : Raised s (finishTest a outcome code t) := by
  unfold finishTest
  split
  · exact h
  · rename_i r _
    have hrun := ((h.thenModifyMachine a (fun m => { m with lastTest := some ⟨outcome, r.subtest, code⟩, testRun := none })).thenRaise
      .machine).thenRaise .test
    have hfailed : ∀ u, Raised s u → Raised s (if outcome = .fail then
        handFault { plainHanding (addrNum a) faultTestFail with subtest := some r.subtest } u else u) := by
      intro u hu
      split
      · exact hu.thenHandFault _
      · exact hu
    have htold := hfailed _ hrun
    dsimp only
    revert htold
    generalize (if outcome = .fail then _ else _) = u
    intro htold
    split
    · split
      · exact htold.thenReleaseToRoom a
      · exact htold
    · exact htold.thenEndIfClosing a

theorem Raised.thenWindDownTest (a : Addr) (cause : StopCause) (outcome : TestOutcome) (code : Nat) (override : Bool) :
    Raised s (windDownTest a cause outcome code override t) := by
  unfold windDownTest
  split
  · exact h
  · split
    · split
      · exact h.thenModifyRun a _
      · exact h
    · split
      · exact (h.thenWithdrawEntry a).thenFinishTest a _ _
      all_goals exact (h.thenModifyRun a _).thenPost a _ _

theorem Raised.thenModifyPhase (f : ServicePhase → ServicePhase) : Raised s (modifyPhase f t) :=
  (h.thenSetSession _).thenRaise _

theorem Raised.thenFinishPhase (a : Addr) (outcome : PhaseOutcome) : Raised s (finishPhase a outcome t) :=
  ((h.thenSetSession _).thenRaise _).thenEndIfClosing a

theorem Raised.thenWindDownPhase (a : Addr) (cause : StopCause) (outcome : PhaseOutcome) :
    Raised s (windDownPhase a cause outcome t) := by
  unfold windDownPhase
  split
  · exact h
  · split
    · exact h
    · split
      · exact (h.thenWithdrawEntry a).thenFinishPhase a _
      all_goals exact (h.thenModifyPhase _).thenPost a _ _

theorem Raised.thenCloseSession : Raised s (closeSession t) := (h.thenSetSession _).thenRaise _

theorem Raised.thenCloseWork (a : Addr) (cause : StopCause) : Raised s (closeWork a cause t) := by
  unfold closeWork
  split
  · exact h.thenCloseSession.thenWindDownTest a _ _ _ _
  · split
    · exact h.thenCloseSession.thenWindDownPhase a _ _
    · exact h.thenEndSession

theorem Raised.thenHaltService (a : Addr) : Raised s (haltService a t) := by
  unfold haltService
  split
  · exact ((h.thenModifyMachine a _).thenRaise _).thenCloseWork a _
  · exact h.thenWindDownTest a _ _ _ _

/-! ## The room -/

theorem Raised.thenHaltMachine (a : Addr) : Raised s (haltMachine t a) := by
  unfold haltMachine
  dsimp only
  split
  · exact h.thenStopCycle a _
  · exact (h.thenHandBack a).thenMoveTo a _
  · split
    · exact (h.thenHandBack a).thenModifyMachine a _
    · exact h
  iterate 2 exact h.thenHaltService a
  all_goals exact h

theorem Raised.thenTellPool (k : PoolId) (halted : Bool) : Raised s (tellPool k halted t) :=
  (h.thenSetPool k _).thenScanPool k

theorem Raised.thenSetHalted (halted : Bool) : Raised s { t with halted := halted } :=
  h.touch (ps := [.room]) (touched_of (by simp)) (by simp) (by simp)

theorem Raised.thenHaltRoom : Raised s (haltRoom t) :=
  Raised.thenFoldl (fun _ a ht => ht.thenHaltMachine a) _ _
    ((((h.thenSetHalted true).thenRaise .room).thenTellPool .electric true).thenTellPool .water true)

theorem Raised.thenResumeOffer (a : Addr) : Raised s (resumeOffer t a) := by
  have hplaced := h.thenPlaceHold a
  unfold resumeOffer
  split
  iterate 2
    · split <;> rename_i heq <;> rw [heq] at hplaced
      · exact hplaced.thenMoveTo a _
      · exact hplaced
  all_goals exact h

theorem Raised.thenResumeRoom : Raised s (resumeRoom t) :=
  Raised.thenFoldl (fun _ a ht => ht.thenResumeOffer a) _ _
    ((((h.thenSetHalted false).thenRaise .room).thenTellPool .electric false).thenTellPool .water false)

/-! ## Sheds -/

theorem Raised.thenOfferSuspension (k : PoolId) (g : Grant) : Raised s (offerSuspension k g t) :=
  h.touch (touched_offerSuspension k g t) (by simp) (by simp)

theorem Raised.thenRelieveReserve (k : PoolId) (c : MachineClass) : Raised s (relieveReserve k c t) :=
  h.touch (touched_relieveReserve k c t) (by simp) (by simp)

theorem Raised.thenRelieveShared (k : PoolId) (gs : List Grant) : Raised s (relieveShared k gs t) :=
  h.touch (touched_relieveShared k gs t) (by simp) (by simp)

theorem Raised.thenSetOverLimit (k : PoolId) : Raised s (setOverLimit k t) := by
  unfold setOverLimit
  dsimp only
  split
  · exact h
  · exact (h.thenSetPool k _).thenRaise _

theorem Raised.thenShed (k : PoolId) : Raised s (shed k t) :=
  ((((h.thenRelieveShared k _).thenRelieveReserve k _).thenRelieveReserve k _).thenSetOverLimit k).thenScanPool k

theorem Raised.thenSetLimit (k : PoolId) (limit : Nat) : Raised s (setLimit k limit t) :=
  ((h.thenSetPool k _).thenRaise _).thenShed k

theorem Raised.thenSetReserve (k : PoolId) (c : MachineClass) (n : Nat) : Raised s (setReserve k c n t) :=
  ((h.thenSetPool k _).thenRaise _).thenShed k

omit h

/-- The answer on a port and the events that its owner raised (R159, R162). -/
theorem answers_of_raised {p : Port} {s u : State} (h : Raised (hunt p s) u) (x : PortReply) :
    Answers p x s (pushReply p x u) := by
  obtain ⟨bits, hbits⟩ := h
  refine ⟨bits, fun q => ?_⟩
  by_cases hq : q = p
  · subst hq
    rw [pushReply, port_setPort_self, hbits, port_hunt_self, portAfter, if_pos rfl]
  · rw [pushReply, port_setPort_other _ _ hq, hbits, hunt, port_setPort_other _ _ hq, portAfter, if_neg hq]

end

end Sys2Proof.Machine

/-! PROOF. STOP_MACHINE and SET_RESERVE (R41, R56): what their owners decide past the end of the frame, and what a shed leaves of a
pool's terms. -/

namespace Sys2Proof.Machine

/-! ## Readings that an operation leaves alone -/

section
variable {ps : List Part} {s t : State} (h : Touches ps s t)
include h

theorem Touches.inForce (hp : Part.loader ∉ ps) : t.inForce = s.inForce := by
  obtain ⟨hmode, _, htables, _⟩ := h _ hp
  rw [State.inForce, State.inForce, hmode, htables]

theorem Touches.params (hp : Part.loader ∉ ps) : t.params = s.params := congrArg Tables.params (h.inForce hp)

theorem Touches.roster (hp : Part.loader ∉ ps) (a : Addr) : t.roster a = s.roster a := by
  rw [State.roster, State.roster, h.inForce hp]

theorem Touches.classOf (hp : Part.loader ∉ ps) (a : Addr) : t.classOf a = s.classOf a := by
  rw [State.classOf, State.classOf, h.roster hp]

theorem Touches.now (hp : Part.clock ∉ ps) : t.now = s.now := (h _ hp).1

theorem Touches.halted (hp : Part.room ∉ ps) : t.halted = s.halted := (h _ hp).1

theorem Touches.queue (hp : Part.claims ∉ ps) (c : MachineClass) : t.queue c = s.queue c := by
  obtain ⟨hwashers, hdryers⟩ := h _ hp
  cases c
  · exact hwashers
  · exact hdryers

end

section
variable (p : Port) (s : State)

@[simp] theorem hunt_machine (a : Addr) : (hunt p s).machine a = s.machine a := setPort_machine ..
@[simp] theorem hunt_queue (c : MachineClass) : (hunt p s).queue c = s.queue c := setPort_queue ..
@[simp] theorem hunt_pool (k : PoolId) : (hunt p s).pool k = s.pool k := setPort_pool ..
@[simp] theorem hunt_inForce : (hunt p s).inForce = s.inForce := setPort_inForce ..
@[simp] theorem hunt_params : (hunt p s).params = s.params := congrArg Tables.params (hunt_inForce p s)
@[simp] theorem hunt_roster (a : Addr) : (hunt p s).roster a = s.roster a := by simp [State.roster]
@[simp] theorem hunt_classOf (a : Addr) : (hunt p s).classOf a = s.classOf a := by simp [State.classOf]
@[simp] theorem hunt_ratings (a : Addr) : (hunt p s).ratings a = s.ratings a := by simp [State.ratings]
@[simp] theorem hunt_configured (a : Addr) : s.configured a = true → (hunt p s).configured a = true := by
  simp [State.configured]
@[simp] theorem hunt_halted : (hunt p s).halted = s.halted := setPort_halted ..
@[simp] theorem hunt_session : (hunt p s).session = s.session := setPort_session ..
@[simp] theorem hunt_now : (hunt p s).now = s.now := setPort_now ..
@[simp] theorem hunt_store : (hunt p s).store = s.store := setPort_store ..
@[simp] theorem hunt_tables : (hunt p s).tables = s.tables := setPort_tables ..
@[simp] theorem hunt_mode : (hunt p s).mode = s.mode := setPort_mode ..

end

theorem withConfigured_addrNum {a : Addr} {s : State} (h : s.configured a = true) (f : Addr → Decision) :
    withConfigured [byte (addrNum a)] s f = f a := by
  simp only [withConfigured, withAddress_addrNum, h, if_true]

theorem touched_pushReply_ports (p : Port) (x : PortReply) (t : State) : Touches [.ports] t (pushReply p x t) :=
  touched_of (by simp)

theorem StoppedWith.thenTouch {ps : List Part} {cause : StopCause} {a : Addr} {s t u : State} (h : StoppedWith cause a s t)
    (ht : Touches ps t u) (hm : Part.machines ∉ ps) (hp : Part.pools ∉ ps) : StoppedWith cause a s u := by
  obtain ⟨helectric, hwater⟩ := ht _ hp
  rw [StoppedWith, ht.machine hm a, helectric, hwater]
  exact h

/-! ## STOP_MACHINE -/

/-- Settles O31: the owner stops the RUNNING machine, and refuses every state but RUNNING and TESTING. -/
theorem stopMachineStopsARunningMachine : Obligations.StopMachineStopsARunningMachine := by
  intro s a hs hconf
  have hconf' := hunt_configured .operator s a hconf
  refine ⟨fun hrunning => ?_, fun hrunning htesting => ?_⟩
  · have hrunning' : ((hunt .operator s).machine a).state = .running := by rwa [hunt_machine]
    have howner : decideStop [byte (addrNum a)] (hunt .operator s) = accepted (stopCycle a .operator (hunt .operator s)) := by
      simp only [decideStop, withConfigured_addrNum hconf', hrunning']
    refine ⟨_, exec_admitted (r := .stopMachine) rfl rfl hs rfl rfl, ?_, ?_⟩
    · simp only [ownerDecision, howner]
      exact answers_of_raised ((Raised.refl _).thenStopCycle a _) _
    · simp only [ownerDecision, howner]
      refine ((stopCycle_running hrunning').of_eq ?_ ?_).thenTouch (touched_pushReply_ports _ _ _) (by simp) (by simp)
      · rw [hunt_machine]
      · rw [hunt_now]
  · refine exec_answered (r := .stopMachine) rfl rfl hs rfl rfl ?_
    simp only [ownerDecision, decideStop, withConfigured_addrNum hconf', hunt_machine]
    generalize (s.machine a).state = st at hrunning htesting
    cases st
    case running => exact absurd rfl hrunning
    case testing => exact absurd rfl htesting
    all_goals rfl

/-! ## The terms of a pool -/

/-- A pool that differs from another in nothing but its grants, its wait list, what it says of itself and its counts. -/
def SameTerms (p q : Pool) : Prop :=
  q = { p with grants := q.grants, waits := q.waits, overLimit := q.overLimit, suspCounter := q.suspCounter, stats := q.stats }

theorem SameTerms.refl (p : Pool) : SameTerms p p := rfl

theorem SameTerms.of_eq {p q : Pool} (h : q = p) : SameTerms p q := by rw [h]; exact .refl p

theorem SameTerms.trans {p q r : Pool} (h : SameTerms p q) (k : SameTerms q r) : SameTerms p r := by
  unfold SameTerms at *
  rw [k, h]

theorem SameButGrants.terms {p q : Pool} (h : SameButGrants p q) : SameTerms p q := by
  rw [h]
  rfl

theorem SameTerms.limit {p q : Pool} (h : SameTerms p q) : q.limit = p.limit := by rw [h]

theorem SameTerms.reqWasher {p q : Pool} (h : SameTerms p q) : q.reqWasher = p.reqWasher := by rw [h]

theorem SameTerms.reqDryer {p q : Pool} (h : SameTerms p q) : q.reqDryer = p.reqDryer := by rw [h]

theorem SameTerms.halted {p q : Pool} (h : SameTerms p q) : q.halted = p.halted := by rw [h]

theorem sameTerms_setPool (k j : PoolId) {p : Pool} {s : State} (h : SameTerms (s.pool k) p) :
    SameTerms (s.pool j) ((s.setPool k p).pool j) := by
  by_cases hj : j = k
  · rw [hj, pool_setPool_self]
    exact h
  · exact .of_eq (pool_setPool_other s p hj)

theorem sameTerms_markFrom (k j : PoolId) (a : Addr) (s : State) : SameTerms (s.pool j) ((markFrom k a s).pool j) := by
  unfold markFrom
  dsimp only
  split
  · exact sameTerms_setPool k j (by exact rfl)
  · exact .refl _

theorem sameTerms_beginSuspend (j : PoolId) (a : Addr) (s : State) : SameTerms (s.pool j) ((beginSuspend a s).pool j) := by
  unfold beginSuspend markGrant
  refine .trans (.trans (.of_eq ?_) (sameTerms_markFrom .electric j a _)) (sameTerms_markFrom .water j a _)
  exact Touches.pool (ps := [.machines]) (touched_of (by simp)) (by simp) j

theorem sameTerms_offerSuspension (k j : PoolId) (g : Grant) (s : State) :
    SameTerms (s.pool j) ((offerSuspension k g s).pool j) := by
  unfold offerSuspension
  split
  · exact (sameTerms_beginSuspend j _ s).trans (sameTerms_setPool k j (by exact rfl))
  · exact .refl _

theorem sameTerms_relieveShared (k j : PoolId) (gs : List Grant) (s : State) :
    SameTerms (s.pool j) ((relieveShared k gs s).pool j) := by
  induction gs generalizing s with
  | nil => exact .refl _
  | cons g gs ih =>
    unfold relieveShared
    split
    · exact (sameTerms_offerSuspension k j g s).trans (ih _)
    · exact .refl _

theorem sameTerms_relieveReserve (k j : PoolId) (c : MachineClass) (s : State) :
    SameTerms (s.pool j) ((relieveReserve k c s).pool j) := by
  unfold relieveReserve
  split
  · exact .refl _
  · split
    · exact sameTerms_offerSuspension k j _ s
    · exact .refl _

theorem sameTerms_setOverLimit (k j : PoolId) (s : State) : SameTerms (s.pool j) ((setOverLimit k s).pool j) := by
  unfold setOverLimit
  dsimp only
  split
  · exact .refl _
  · rw [raise_pool]
    exact sameTerms_setPool k j (by exact rfl)

/-- The pool before the scan that ends a shed. -/
def relieved (k : PoolId) (s : State) : State :=
  setOverLimit k (relieveReserve k .dryer (relieveReserve k .washer (relieveShared k
    ((s.pool k).grants.filter (fun g => isShared g && !g.pending)).reverse s)))

theorem shed_eq (k : PoolId) (s : State) : shed k s = scanPool k (relieved k s) := rfl

/-- A shed leaves the limit and the reserves of each pool (R67 to R69). -/
theorem sameTerms_shed (k j : PoolId) (s : State) : SameTerms (s.pool j) ((shed k s).pool j) :=
  ((((sameTerms_relieveShared k j _ s).trans (sameTerms_relieveReserve k j .washer _)).trans
    (sameTerms_relieveReserve k j .dryer _)).trans (sameTerms_setOverLimit k j _)).trans (sameButGrants_scanPool k j _).terms

theorem setOverLimit_overLimit (k : PoolId) (s : State) :
    ((setOverLimit k s).pool k).overLimit = !((setOverLimit k s).pool k).withinFigures := by
  unfold setOverLimit
  dsimp only
  split
  case isTrue h => exact h
  case isFalse =>
    rw [raise_pool, pool_setPool_self]
    rfl

/-- A scan leaves a pool OVER_LIMIT by its figures where it was (R57, R60). -/
theorem scanned_overLimit {now : Nat} {p : Pool} (h : p.overLimit = !p.withinFigures) :
    (p.scanned now).overLimit = !(p.scanned now).withinFigures := by
  unfold Pool.scanned
  split
  case isFalse => exact h
  case isTrue hscan =>
    obtain ⟨ks, rs, _, hs, _⟩ := scanFrom_scanning (now := now) (Scanning.start p) (by simp)
    have hnormal : p.overLimit = false := by
      have hboth : p.overLimit = false ∧ p.halted = false := by simpa [Pool.mayScan] using hscan
      exact hboth.1
    have hwithin := hs.figures (by simpa [hnormal] using h)
    have hover : (scanFrom now p [] p.waits).pool.overLimit = p.overLimit := by conv_rhs => rw [← hs.frame]
    show (scanFrom now p [] p.waits).pool.overLimit = !(scanFrom now p [] p.waits).pool.withinFigures
    rw [hover, hnormal, hwithin]
    rfl

/-- R69: after a shed a pool is OVER_LIMIT by its figures. -/
theorem shed_overLimit (k : PoolId) (s : State) : ((shed k s).pool k).overLimit = !((shed k s).pool k).withinFigures := by
  rw [shed_eq, scanPool_pool]
  exact scanned_overLimit (setOverLimit_overLimit k _)

/-! ## SET_RESERVE -/

/-- A requested reserve stands in its pool, which has shed by it (R56). -/
theorem setReserve_pool (k : PoolId) (c : MachineClass) (n : Nat) (s : State) :
    SameTerms ((s.pool k).withReserve c n) ((setReserve k c n s).pool k) ∧
      ((setReserve k c n s).pool k).overLimit = !((setReserve k c n s).pool k).withinFigures := by
  refine ⟨?_, shed_overLimit k _⟩
  have h := sameTerms_shed k k (raise .pool (s.setPool k ((s.pool k).withReserve c n)))
  rwa [raise_pool, pool_setPool_self] at h

/-- What an admitted SET_RESERVE of a pool and a class comes to outside a store (R56). -/
theorem exec_setReserve {s : State} (hs : s.listens .operator) (hstore : s.store = none) {k : PoolId} {c : MachineClass}
    (hkc : ¬ (k = .water ∧ c = .dryer)) (hi lo : Byte) :
    let n := clampReserve k (hi.toNat * 256 + lo.toNat)
    ∃ t, exec (.setReserve .operator [byte (poolCode k), byte (classCode c), hi, lo]) s = .next t ∧
      Answers .operator (replyTo 0x25 (if n = hi.toNat * 256 + lo.toNat then .ok else .clamped) (be2 n)) s t ∧
      t.tables = { s.tables with params := s.tables.params.withReserve k c n } ∧
      SameTerms ((s.pool k).withReserve c n) (t.pool k) ∧ (t.pool k).overLimit = !(t.pool k).withinFigures := by
  intro n
  have hat : at2 [byte (poolCode k), byte (classCode c), hi, lo] 2 = hi.toNat * 256 + lo.toNat := rfl
  have hpool : poolOf (at1 [byte (poolCode k), byte (classCode c), hi, lo] 0) = some k := by cases k <;> rfl
  have hclass : classOf (at1 [byte (poolCode k), byte (classCode c), hi, lo] 1) = some c := by cases c <;> rfl
  let set := setTables { s.tables with params := s.tables.params.withReserve k c n } (hunt .operator s)
  have hset : set.operating = true := by
    have hmode : s.mode = .operating := hs.1
    simp [set, State.operating, setTables, hmode]
  have howner : decideReserve [byte (poolCode k), byte (classCode c), hi, lo] (hunt .operator s) =
      applied (decide (n = hi.toNat * 256 + lo.toNat)) (be2 n) (setReserve k c n set) := by
    simp only [decideReserve, hat, hpool, hclass, hunt_store, hstore, Option.isSome_none, Bool.false_eq_true, if_false,
      if_neg hkc, hunt_tables]
    exact congrArg _ (if_pos hset)
  have htouched : Touches [.machines, .flags, .session, .pools, .ports] set
      (pushReply .operator ⟨byte 0x25, if decide (n = hi.toNat * 256 + lo.toNat) = true then .ok else .clamped, be2 n⟩
        (setReserve k c n set)) := touched_of (by simp)
  have hpoolk := setReserve_pool k c n set
  have hsetpool : set.pool k = s.pool k := by cases k <;> rfl
  refine ⟨_, exec_admitted (r := .setReserve) rfl rfl hs rfl rfl, ?_⟩
  simp only [ownerDecision, howner]
  refine ⟨?_, (htouched .loader (by simp)).2.2.1, ?_⟩
  · have hraised : Raised (hunt .operator s) set :=
      ((Raised.refl _).touch ((touches_tables (ps := [.loader]) (by simp) _).mpr (Touches.refl _ _)) (by simp) (by simp)).thenRaise
        .config
    simp only [applied, decide_eq_true_eq]
    exact answers_of_raised (hraised.thenSetReserve k c n) _
  · rw [(touched_pushReply_ports _ _ _).pool (by simp) k, ← hsetpool]
    exact hpoolk

/-- Settles O36: the four pairs of a pool and a class, and the test for a store before them. -/
theorem setReserveSetsTheRequestedReserve : Obligations.SetReserveSetsTheRequestedReserve := by
  intro hi lo s hs asked answer
  have helectric : clampReserve .electric asked = min asked 600 := by simp [clampReserve, clampTo]
  have hwater : clampReserve .water asked = min asked 120 := by simp [clampReserve, clampTo]
  refine ⟨fun hstore => ⟨?_, ?_, ?_, ?_⟩, fun hstore k c => ?_⟩
  · obtain ⟨t, hexec, hanswer, htables, hterms, hover⟩ :=
      exec_setReserve hs hstore (k := .electric) (c := .washer) (by simp) hi lo
    rw [helectric] at hanswer htables hterms
    exact ⟨t, hexec, hanswer, htables, hterms.reqWasher, hterms.reqDryer, hterms.limit, hover⟩
  · obtain ⟨t, hexec, hanswer, htables, hterms, hover⟩ :=
      exec_setReserve hs hstore (k := .electric) (c := .dryer) (by simp) hi lo
    rw [helectric] at hanswer htables hterms
    exact ⟨t, hexec, hanswer, htables, hterms.reqDryer, hterms.reqWasher, hterms.limit, hover⟩
  · obtain ⟨t, hexec, hanswer, htables, hterms, hover⟩ :=
      exec_setReserve hs hstore (k := .water) (c := .washer) (by simp) hi lo
    rw [hwater] at hanswer htables hterms
    exact ⟨t, hexec, hanswer, htables, hterms.reqWasher, hterms.limit, hover⟩
  · refine exec_answered (r := .setReserve) rfl rfl hs rfl rfl ?_
    simp only [ownerDecision, decideReserve, hunt_store, hstore]
    rfl
  · refine exec_answered (r := .setReserve) rfl rfl hs rfl rfl ?_
    simp only [ownerDecision, decideReserve, hunt_store, hstore]
    rfl

end Sys2Proof.Machine

/-! PROOF. What the operations on one machine leave of the others, and of the pools while these are halted. -/

namespace Sys2Proof.Machine

section
variable {a b : Addr} {s t u : State}

/-! ## The other machines -/

theorem OtherMachines.refl (a : Addr) (s : State) : OtherMachines a s s := fun _ _ => rfl

theorem OtherMachines.trans (h : OtherMachines a s t) (k : OtherMachines a t u) : OtherMachines a s u :=
  fun b hb => (k b hb).trans (h b hb)

variable (h : OtherMachines a s t)
include h

theorem OtherMachines.touch {ps : List Part} (ht : Touches ps t u) (hm : Part.machines ∉ ps) : OtherMachines a s u :=
  h.trans fun b _ => ht.machine hm b

theorem OtherMachines.thenRaise (e : Event) : OtherMachines a s (raise e t) := h

theorem OtherMachines.thenModifyMachine (f : MachineRecord → MachineRecord) : OtherMachines a s (modifyMachine a f t) :=
  h.trans fun _ hb => machine_modifyMachine_other hb f t

theorem OtherMachines.thenModifyCycle (f : Cycle → Cycle) : OtherMachines a s (modifyCycle a f t) := h.thenModifyMachine _

theorem OtherMachines.thenPost (cmd : BusCommand) (poster : Poster) : OtherMachines a s (post a cmd poster t) :=
  h.thenModifyMachine _

theorem OtherMachines.thenMoveTo (st : MachineState) : OtherMachines a s (moveTo a st t) :=
  h.trans fun _ hb => moveTo_machine_other hb st t

theorem OtherMachines.thenChangeQueue (c : MachineClass) (f : ClaimQueue → ClaimQueue) :
    OtherMachines a s (changeQueue c f t) := h.trans fun b _ => changeQueue_machine c f t b

theorem OtherMachines.thenPlaceHold : OtherMachines a s (placeHold a t).1 := by
  unfold placeHold
  dsimp only
  split
  · exact h
  · exact ((h.thenChangeQueue _ _).thenModifyMachine _).thenRaise _

theorem OtherMachines.thenOffer : OtherMachines a s (offer a t) := by
  have hplaced := h.thenPlaceHold
  unfold offer
  split <;> rename_i heq <;> rw [heq] at hplaced <;> exact hplaced.thenMoveTo _

theorem OtherMachines.thenReoffer : OtherMachines a s (reoffer a t) := by
  have hplaced := h.thenPlaceHold
  unfold reoffer
  split <;> rename_i heq <;> rw [heq] at hplaced
  · exact hplaced
  · have hcleared := (hplaced.thenModifyMachine (fun m => { m with hold := none })).thenRaise .machine
    dsimp only
    split
    · exact hcleared.thenMoveTo _
    · exact hcleared

theorem OtherMachines.thenHandBack : OtherMachines a s (handBack a t) := h.trans fun _ hb => handBack_machine_other hb t

theorem OtherMachines.thenReleaseToRoom : OtherMachines a s (releaseToRoom a t) := by
  unfold releaseToRoom
  split
  · exact (h.thenModifyMachine _).thenMoveTo _
  · split
    · exact h.thenMoveTo _
    · exact h.thenOffer

theorem OtherMachines.thenHandFault {x : Handing} (hx : x.machine = addrNum a) : OtherMachines a s (handFault x t) :=
  h.trans fun _ hb => handFault_machine_other hx hb t

theorem OtherMachines.thenSetSession (x : Option Session) : OtherMachines a s { t with session := x } := h

theorem OtherMachines.thenModifyRun (f : TestRun → TestRun) : OtherMachines a s (modifyRun a f t) :=
  (h.thenModifyMachine _).thenRaise _

theorem OtherMachines.thenModifyPhase (f : ServicePhase → ServicePhase) : OtherMachines a s (modifyPhase f t) := h

theorem OtherMachines.thenEndSession (hx : ∀ x, t.session = some x → x.machine = a) : OtherMachines a s (endSession t) := by
  unfold endSession
  split
  · exact h
  · rename_i x heq
    obtain rfl := hx x heq
    have hended := (((h.thenSetSession none).thenModifyMachine (fun m => { m with permit := false })).thenRaise
      .machine).thenRaise .test
    dsimp only
    split
    · exact hended.thenReleaseToRoom
    · exact hended

omit h in
theorem sessionOn_iff (a : Addr) (s : State) : sessionOn a s = true ↔ ∃ x, s.session = some x ∧ x.machine = a := by
  unfold sessionOn
  cases s.session <;> simp

omit h in
theorem machine_of_sessionOn (hs : sessionOn a t = true) (x : Session) (hx : t.session = some x) : x.machine = a := by
  obtain ⟨y, hy, hya⟩ := (sessionOn_iff a t).mp hs
  rw [hy] at hx
  exact Option.some.inj hx ▸ hya

theorem OtherMachines.thenEndIfClosing : OtherMachines a s (endIfClosing a t) := by
  unfold endIfClosing
  split
  · rename_i hclosing
    have hon : sessionOn a t = true := (Bool.and_eq_true_iff.mp hclosing).1
    exact h.thenEndSession (machine_of_sessionOn hon)
  · exact h

theorem OtherMachines.thenFinishTest (outcome : TestOutcome) (code : Nat) : OtherMachines a s (finishTest a outcome code t) := by
  unfold finishTest
  split
  · exact h
  · rename_i r _
    have hrun := ((h.thenModifyMachine (fun m => { m with lastTest := some ⟨outcome, r.subtest, code⟩, testRun := none })).thenRaise
      .machine).thenRaise .test
    have hfailed : ∀ u, OtherMachines a s u → OtherMachines a s (if outcome = .fail then
        handFault { plainHanding (addrNum a) faultTestFail with subtest := some r.subtest } u else u) := by
      intro u hu
      split
      · exact hu.thenHandFault rfl
      · exact hu
    have htold := hfailed _ hrun
    dsimp only
    revert htold
    generalize (if outcome = .fail then _ else _) = u
    intro htold
    split
    · split
      · exact htold.thenReleaseToRoom
      · exact htold
    · exact htold.thenEndIfClosing

theorem OtherMachines.thenFinishPhase (outcome : PhaseOutcome) : OtherMachines a s (finishPhase a outcome t) :=
  ((h.thenSetSession _).thenRaise _).thenEndIfClosing

end

/-! ## Halted pools -/

/-- The room is HALTED and both pools know it (R73). -/
structure RoomHalted (s : State) : Prop where
  room : s.halted = true
  pools : ∀ k, (s.pool k).halted = true

theorem scanPool_halted {k : PoolId} {s : State} (h : (s.pool k).halted = true) : scanPool k s = s := by
  simp [scanPool, Pool.mayScan, h]

section
variable {a : Addr} {s t u : State}

/-- What a change leaves of the pools when it grants nothing: their terms, their counts, and the machines that wait for
nothing. -/
structure PoolsShrink (s t : State) : Prop where
  same : ∀ k, SameButGrants (s.pool k) (t.pool k)
  entries : ∀ k b, (s.pool k).hasEntry b = false → (t.pool k).hasEntry b = false

theorem PoolsShrink.refl (s : State) : PoolsShrink s s := ⟨fun _ => .refl _, fun _ _ h => h⟩

theorem PoolsShrink.trans (h : PoolsShrink s t) (k : PoolsShrink t u) : PoolsShrink s u :=
  ⟨fun j => (h.same j).trans (k.same j), fun j b hb => k.entries j b (h.entries j b hb)⟩

theorem PoolsShrink.touch {ps : List Part} (h : PoolsShrink s t) (ht : Touches ps t u) (hp : Part.pools ∉ ps) :
    PoolsShrink s u :=
  h.trans ⟨fun j => .of_eq (ht.pool hp j), fun j b hb => by rwa [ht.pool hp j]⟩

theorem withdrawEntry_hasEntry {k : PoolId} {a b : Addr} {s : State} (h : (s.pool k).hasEntry b = false) :
    ((withdrawEntry a s).pool k).hasEntry b = false := withdrawFrom_hasEntry (withdrawFrom_hasEntry h)

theorem PoolsShrink.thenWithdrawEntry (h : PoolsShrink s t) (a : Addr) : PoolsShrink s (withdrawEntry a t) :=
  h.trans ⟨fun j => sameButGrants_withdrawEntry j a t, fun _ _ => withdrawEntry_hasEntry⟩

theorem PoolsShrink.thenStopCycle (h : PoolsShrink s t) (a : Addr) (cause : StopCause) : PoolsShrink s (stopCycle a cause t) := by
  unfold stopCycle
  split
  · exact ((h.touch (ps := [.machines, .flags]) (touched_of (by simp)) (by simp)).thenWithdrawEntry a).touch
      (touched_post a _ _ _) (by simp)
  · exact h

theorem PoolsShrink.thenFinishTest (h : PoolsShrink s t) (a : Addr) (outcome : TestOutcome) (code : Nat) :
    PoolsShrink s (finishTest a outcome code t) := h.touch (touched_finishTest a outcome code t) (by simp)

theorem PoolsShrink.thenWindDownTest (h : PoolsShrink s t) (a : Addr) (cause : StopCause) (outcome : TestOutcome) (code : Nat)
    (override : Bool) : PoolsShrink s (windDownTest a cause outcome code override t) := by
  unfold windDownTest
  split
  · exact h
  · split
    · split
      · exact h.touch (ps := [.machines, .flags]) (touched_of (by simp)) (by simp)
      · exact h
    · split
      · exact (h.thenWithdrawEntry a).thenFinishTest a _ _
      all_goals exact h.touch (ps := [.machines, .flags]) (touched_of (by simp)) (by simp)

theorem PoolsShrink.thenWindDownPhase (h : PoolsShrink s t) (a : Addr) (cause : StopCause) (outcome : PhaseOutcome) :
    PoolsShrink s (windDownPhase a cause outcome t) := by
  unfold windDownPhase
  split
  · exact h
  · split
    · exact h
    · split
      · exact (h.thenWithdrawEntry a).touch (touched_finishPhase a _ _) (by simp)
      all_goals exact h.touch (ps := [.machines, .flags, .session]) (touched_of (by simp)) (by simp)

theorem PoolsShrink.thenHaltService (h : PoolsShrink s t) (a : Addr) : PoolsShrink s (haltService a t) := by
  have hclosed : ∀ u, PoolsShrink s u → PoolsShrink s (closeSession u) := fun u hu =>
    hu.touch (touched_closeSession u) (by simp)
  unfold haltService closeWork
  split
  · have hspent := h.touch (ps := [.machines, .flags]) (u := raise .machine (modifyMachine a (fun m => { m with permit := false }) t))
      (touched_of (by simp)) (by simp)
    split
    · exact (hclosed _ hspent).thenWindDownTest a _ _ _ _
    · split
      · exact (hclosed _ hspent).thenWindDownPhase a _ _
      · exact hspent.touch (touched_endSession _) (by simp)
  · exact h.thenWindDownTest a _ _ _ _

theorem PoolsShrink.thenHaltMachine (h : PoolsShrink s t) (a : Addr) : PoolsShrink s (haltMachine t a) := by
  unfold haltMachine
  dsimp only
  split
  · exact h.thenStopCycle a _
  · exact h.touch (ps := [.machines, .flags, .claims]) (touched_of (by simp)) (by simp)
  · split
    · exact h.touch (ps := [.machines, .flags, .claims]) (touched_of (by simp)) (by simp)
    · exact h
  iterate 2 exact h.thenHaltService a
  all_goals exact h

theorem RoomHalted.of_shrink (hs : RoomHalted s) (h : PoolsShrink s t) (hroom : t.halted = s.halted) : RoomHalted t :=
  ⟨hroom.trans hs.room, fun k => ((h.same k).terms.halted).trans (hs.pools k)⟩

/-! ## One machine under the halt -/

/-- A withdrawal from halted pools changes no machine (R65, R73). -/
theorem withdrawEntry_machine_halted (hs : RoomHalted s) (a b : Addr) : (withdrawEntry a s).machine b = s.machine b := by
  have hone : ∀ (k : PoolId) (t : State), (t.pool k).halted = true → (withdrawFrom k a t).machine b = t.machine b := by
    intro k t ht
    unfold withdrawFrom
    dsimp only
    split
    · rw [scanPool_halted (by rw [pool_setPool_self]; exact ht), setPool_machine]
    · rfl
  have hwater : ((withdrawFrom .electric a s).pool .water).halted = true :=
    ((sameButGrants_withdrawFrom .electric .water a s).terms.halted).trans (hs.pools .water)
  exact (hone .water _ hwater).trans (hone .electric s (hs.pools .electric))

theorem RoomHalted.touch {ps : List Part} (hs : RoomHalted s) (h : Touches ps s t) (hp : Part.pools ∉ ps)
    (hr : Part.room ∉ ps) : RoomHalted t :=
  ⟨(h.halted hr).trans hs.room, fun k => by rw [h.pool hp]; exact hs.pools k⟩

theorem otherMachines_withdrawEntry (hs : RoomHalted s) : OtherMachines a s (withdrawEntry a s) :=
  fun b _ => withdrawEntry_machine_halted hs a b

theorem otherMachines_stopCycle (hs : RoomHalted s) (cause : StopCause) : OtherMachines a s (stopCycle a cause s) := by
  unfold stopCycle
  split
  · have hmoved := ((OtherMachines.refl a s).thenModifyCycle (fun c => { c with
      stopCause := some cause, stopDeadline := some (s.now + 600), pauseDeadline := none })).thenMoveTo .stopping
    exact (hmoved.trans (otherMachines_withdrawEntry
      (hs.touch (ps := [.machines, .flags]) (touched_of (by simp)) (by simp) (by simp)))).thenPost _ _
  · exact .refl a s

theorem otherMachines_windDownTest (hs : RoomHalted s) (cause : StopCause) (outcome : TestOutcome) (code : Nat)
    (override : Bool) : OtherMachines a s (windDownTest a cause outcome code override s) := by
  unfold windDownTest
  split
  · exact .refl a s
  · split
    · split
      · exact (OtherMachines.refl a s).thenModifyRun _
      · exact .refl a s
    · split
      · exact (otherMachines_withdrawEntry hs).thenFinishTest _ _
      all_goals exact ((OtherMachines.refl a s).thenModifyRun _).thenPost _ _

theorem otherMachines_windDownPhase (hs : RoomHalted s) (cause : StopCause) (outcome : PhaseOutcome) :
    OtherMachines a s (windDownPhase a cause outcome s) := by
  unfold windDownPhase
  split
  · exact .refl a s
  · split
    · exact .refl a s
    · split
      · exact (otherMachines_withdrawEntry hs).thenFinishPhase _
      all_goals exact ((OtherMachines.refl a s).thenModifyPhase _).thenPost _ _

theorem otherMachines_haltService (hs : RoomHalted s) : OtherMachines a s (haltService a s) := by
  unfold haltService closeWork
  split
  · rename_i hon
    have hspent := ((OtherMachines.refl a s).thenModifyMachine (fun m => { m with permit := false })).thenRaise .machine
    have hhalted : RoomHalted (raise .machine (modifyMachine a (fun m => { m with permit := false }) s)) :=
      hs.touch (ps := [.machines, .flags]) (touched_of (by simp)) (by simp) (by simp)
    have hclosed := hhalted.touch (touched_closeSession _) (by simp) (by simp)
    split
    · exact (hspent.touch (touched_closeSession _) (by simp)).trans (otherMachines_windDownTest hclosed _ _ _ _)
    · split
      · exact (hspent.touch (touched_closeSession _) (by simp)).trans (otherMachines_windDownPhase hclosed _ _)
      · exact hspent.thenEndSession (machine_of_sessionOn hon)
  · exact otherMachines_windDownTest hs _ _ _ _

theorem otherMachines_haltMachine (hs : RoomHalted s) : OtherMachines a s (haltMachine s a) := by
  unfold haltMachine
  dsimp only
  split
  · exact otherMachines_stopCycle hs _
  · exact (OtherMachines.refl a s).thenHandBack.thenMoveTo _
  · split
    · exact (OtherMachines.refl a s).thenHandBack.thenModifyMachine _
    · exact .refl a s
  iterate 2 exact otherMachines_haltService hs
  all_goals exact .refl a s

end

end Sys2Proof.Machine

/-! PROOF. HALT_ROOM and RESUME_ROOM (R49, R50, R73): the machines are taken in ascending order, and each change of one leaves the
others to their own. -/

namespace Sys2Proof.Machine

/-! ## Going through the machines -/

/-- The addresses before and behind an address, in the order in which the machines are taken. -/
theorem allAddrs_split (a : Addr) : ∃ before behind, allAddrs = before ++ a :: behind ∧ (∀ b ∈ before, b < a) ∧
    ∀ b ∈ behind, a < b := by
  obtain ⟨before, behind, hsplit⟩ := List.append_of_mem (List.mem_finRange a)
  have hsorted : (before ++ a :: behind).Pairwise (· < ·) := hsplit ▸ List.pairwise_lt_finRange Config.addresses
  rw [List.pairwise_append, List.pairwise_cons] at hsorted
  obtain ⟨_, ⟨hbehind, _⟩, hbefore⟩ := hsorted
  exact ⟨before, behind, hsplit, fun b hb => hbefore b hb a (by simp), hbehind⟩

/-- What every step of a fold over some elements keeps holds at its end. -/
theorem foldl_keeps {α β : Type} {f : β → α → β} (P : β → Prop) {xs : List α} (h : ∀ y, ∀ x ∈ xs, P y → P (f y x)) {y : β}
    (hy : P y) : P (xs.foldl f y) := by
  induction xs generalizing y with
  | nil => exact hy
  | cons x xs ih => exact ih (fun z w hw => h z w (by simp [hw])) (h y x (by simp) hy)

/-! ## The halt -/

/-- The room right before the halt reaches the machines. -/
def haltTold (s : State) : State := tellPool .water true (tellPool .electric true (raise .room { s with halted := true }))

theorem haltRoom_eq (s : State) : haltRoom s = allAddrs.foldl haltMachine (haltTold s) := rfl

theorem tellPool_halted (k : PoolId) (s : State) : tellPool k true s = s.setPool k { s.pool k with halted := true } :=
  scanPool_halted (by rw [pool_setPool_self])

theorem roomHalted_haltTold (s : State) : RoomHalted (haltTold s) := by
  refine ⟨?_, fun k => ?_⟩
  · simp [haltTold, tellPool_halted]
  · cases k <;> simp [haltTold, tellPool_halted, State.pool, State.setPool]

theorem haltTold_machine (s : State) (a : Addr) : (haltTold s).machine a = s.machine a := by
  simp only [haltTold, tellPool_halted, setPool_machine]
  rfl

theorem haltTold_now (s : State) : (haltTold s).now = s.now := by simp [haltTold, tellPool_halted]

theorem RoomHalted.thenHaltMachine {s : State} (hs : RoomHalted s) (a : Addr) : RoomHalted (haltMachine s a) :=
  hs.of_shrink ((PoolsShrink.refl s).thenHaltMachine a) ((touched_haltMachine a s).halted (by simp))

theorem RoomHalted.thenHaltMachines {s : State} (hs : RoomHalted s) (as : List Addr) : RoomHalted (as.foldl haltMachine s) :=
  foldl_keeps RoomHalted (fun _ a _ h => h.thenHaltMachine a) hs

/-- The halt of some machines leaves the others. -/
theorem haltMachines_machine {s : State} (hs : RoomHalted s) {as : List Addr} {b : Addr} (hb : b ∉ as) :
    (as.foldl haltMachine s).machine b = s.machine b := by
  induction as generalizing s with
  | nil => rfl
  | cons a as ih =>
    obtain ⟨hba, hbas⟩ := not_or.mp (mt List.mem_cons.mpr hb)
    rw [List.foldl_cons, ih (hs.thenHaltMachine a) hbas, otherMachines_haltMachine hs b hba]

theorem touched_haltMachines (as : List Addr) (s : State) :
    Touches [.machines, .flags, .pools, .session, .claims, .faults] s (as.foldl haltMachine s) :=
  foldl_keeps (fun t => Touches [.machines, .flags, .pools, .session, .claims, .faults] s t)
    (fun t a _ h => h.trans ((touched_haltMachine a t).mono (by simp))) (Touches.refl _ s)

/-- Each machine meets the halt as it was when the room was still running, and keeps what the halt has made of it. -/
theorem haltRoom_machine (s : State) (a : Addr) : ∃ u, RoomHalted u ∧ u.machine a = s.machine a ∧ u.now = s.now ∧
    (haltRoom s).machine a = (haltMachine u a).machine a ∧ PoolsShrink (haltMachine u a) (haltRoom s) := by
  obtain ⟨before, behind, hsplit, hbefore, hbehind⟩ := allAddrs_split a
  have hu := (roomHalted_haltTold s).thenHaltMachines before
  refine ⟨before.foldl haltMachine (haltTold s), hu, ?_, ?_, ?_, ?_⟩
  · rw [haltMachines_machine (roomHalted_haltTold s) fun h => lt_irrefl a (hbefore a h), haltTold_machine]
  · rw [(touched_haltMachines before _).now (by simp), haltTold_now]
  · rw [haltRoom_eq, hsplit, List.foldl_append, List.foldl_cons,
      haltMachines_machine (hu.thenHaltMachine a) fun h => lt_irrefl a (hbehind a h)]
  · rw [haltRoom_eq, hsplit, List.foldl_append, List.foldl_cons]
    exact foldl_keeps (fun t => PoolsShrink (haltMachine (before.foldl haltMachine (haltTold s)) a) t)
      (fun _ b _ h => h.thenHaltMachine b) (PoolsShrink.refl _)

/-- R49: a RUNNING machine is stopped with cause ROOM. -/
theorem haltRoom_running {s : State} {a : Addr} (h : (s.machine a).state = .running) : StoppedWith .room a s (haltRoom s) := by
  obtain ⟨u, _, hmachine, hnow, hafter, hshrink⟩ := haltRoom_machine s a
  have hrunning : (u.machine a).state = .running := hmachine.symm ▸ h
  have hhalted : haltMachine u a = stopCycle a .room u := by simp only [haltMachine, hrunning]
  obtain ⟨hstate, hcycle, helectric, hwater⟩ := (stopCycle_running (cause := .room) hrunning).of_eq (s := s)
    (by rw [hmachine]) hnow
  rw [hhalted] at hafter hshrink
  rw [StoppedWith, hafter]
  exact ⟨hstate, hcycle, hshrink.entries .electric a helectric, hshrink.entries .water a hwater⟩

theorem restingState_eq (m : MachineRecord) : restingState m = .idle ∨ restingState m = .selected := by
  unfold restingState
  split
  · exact .inr rfl
  · exact .inl rfl

/-- R49: a HELD machine gives its hold back and rests. -/
theorem haltRoom_held {s : State} {a : Addr} (h : (s.machine a).state = .held) : ((haltRoom s).machine a).hold = none ∧
    (((haltRoom s).machine a).state = .idle ∨ ((haltRoom s).machine a).state = .selected) := by
  obtain ⟨u, _, hmachine, _, hafter, _⟩ := haltRoom_machine s a
  have hheld : (u.machine a).state = .held := hmachine.symm ▸ h
  have hhalted : haltMachine u a = moveTo a (restingState ((handBack a u).machine a)) (handBack a u) := by
    simp only [haltMachine, hheld]
  rw [hafter, hhalted, moveTo_machine_self, handBack_machine_self]
  exact ⟨rfl, restingState_eq _⟩

theorem haltRoom_halted (s : State) : RoomHalted (haltRoom s) := (roomHalted_haltTold s).thenHaltMachines allAddrs

/-! ## The resumption -/

/-- The room right before its machines are offered again. -/
def resumeTold (s : State) : State := tellPool .water false (tellPool .electric false (raise .room { s with halted := false }))

theorem resumeRoom_eq (s : State) : resumeRoom s = allAddrs.foldl resumeOffer (resumeTold s) := rfl

theorem touched_resumeTold (s : State) : Touches [.room, .flags, .pools, .machines, .session] s (resumeTold s) := by
  have hroom : Touches [.room, .flags, .pools, .machines, .session] s (raise .room { s with halted := false }) :=
    touched_of (by simp)
  exact (hroom.trans ((touched_tellPool .electric false _).mono (by simp))).trans
    ((touched_tellPool .water false _).mono (by simp))

theorem calm_tellPool (k : PoolId) (halted : Bool) (b : Addr) (s : State) :
    Calm (s.machine b) ((tellPool k halted s).machine b) := by
  have h := calm_scanPool k b (s.setPool k { s.pool k with halted := halted })
  rwa [setPool_machine] at h

theorem calm_resumeTold (b : Addr) (s : State) : Calm (s.machine b) ((resumeTold s).machine b) :=
  (calm_tellPool .electric false b (raise .room { s with halted := false })).trans (calm_tellPool .water false b _)

theorem otherMachines_resumeOffer (a : Addr) (s : State) : OtherMachines a s (resumeOffer s a) := by
  have hplaced := (OtherMachines.refl a s).thenPlaceHold
  unfold resumeOffer
  split
  iterate 2
    · split <;> rename_i heq <;> rw [heq] at hplaced
      · exact hplaced.thenMoveTo _
      · exact hplaced
  all_goals exact .refl a s

/-- A machine whose queue has no entry without a hold is offered to nobody (R129). -/
theorem placeHold_none {a : Addr} {s : State} (h : ∀ e ∈ (s.queue (s.classOf a)).entries, e.hold.isSome = true) :
    placeHold a s = (s, false) := by
  have hnone : (s.queue (s.classOf a)).entries.find? (fun e => e.hold.isNone) = none := by
    rw [List.find?_eq_none]
    intro e he
    simp [Option.isSome_iff_ne_none.mp (h e he)]
  simp only [placeHold, hnone]

theorem resumeOffer_none {a : Addr} {s : State} (h : ∀ e ∈ (s.queue (s.classOf a)).entries, e.hold.isSome = true) :
    resumeOffer s a = s := by
  unfold resumeOffer
  split
  iterate 2 rw [placeHold_none h]
  all_goals rfl

theorem resumeOffer_resting {a : Addr} {s : State} (hidle : (s.machine a).state ≠ .idle)
    (hselected : (s.machine a).state ≠ .selected) : resumeOffer s a = s := by
  unfold resumeOffer
  split
  · exact absurd ‹_› hidle
  · exact absurd ‹_› hselected
  all_goals rfl

/-- An offer leaves the queue of the other class. -/
theorem placeHold_queue_other {a : Addr} {c : MachineClass} {s : State} (hc : s.classOf a ≠ c) :
    (placeHold a s).1.queue c = s.queue c := by
  unfold placeHold
  dsimp only
  split
  · rfl
  · rw [raise_queue]
    refine ((touched_modifyMachine _ _ _).queue (by simp) c).trans ?_
    rw [changeQueue_queue, if_neg (Ne.symm hc)]

theorem resumeOffer_queue_other {a : Addr} {c : MachineClass} {s : State} (hc : s.classOf a ≠ c) :
    (resumeOffer s a).queue c = s.queue c := by
  have hplaced := placeHold_queue_other hc
  unfold resumeOffer
  split
  iterate 2
    · split <;> rename_i heq <;> rw [heq] at hplaced
      · exact ((touched_moveTo _ _ _).queue (by simp) c).trans hplaced
      · exact hplaced
  all_goals rfl

/-- The offers so far have left the classes, the queue of a class and the machines that `keep` names. -/
def OffersLeave (s : State) (c : MachineClass) (keep : Addr → Prop) (t : State) : Prop :=
  (∀ b, t.classOf b = s.classOf b) ∧ t.queue c = s.queue c ∧ ∀ b, keep b → t.machine b = (resumeTold s).machine b

theorem offersLeave_resumeTold (s : State) (c : MachineClass) (keep : Addr → Prop) : OffersLeave s c keep (resumeTold s) :=
  ⟨fun b => (touched_resumeTold s).classOf (by simp) b, (touched_resumeTold s).queue (by simp) c, fun _ _ => rfl⟩

/-- An offer of a machine of the other class that is not to be kept. -/
theorem OffersLeave.thenOther {s t : State} {c : MachineClass} {keep : Addr → Prop} {b : Addr} (h : OffersLeave s c keep t)
    (hc : s.classOf b ≠ c) (hb : ¬ keep b) : OffersLeave s c keep (resumeOffer t b) := by
  obtain ⟨hclass, hqueue, hmachine⟩ := h
  refine ⟨fun x => ((touched_resumeOffer b t).classOf (by simp) x).trans (hclass x), ?_, fun x hx => ?_⟩
  · rw [resumeOffer_queue_other (by rwa [hclass]), hqueue]
  · have hxb : x ≠ b := fun hxb => hb (hxb ▸ hx)
    rw [otherMachines_resumeOffer b t x hxb, hmachine x hx]

/-- A machine of a class whose every waiting card has its hold is no one's, and keeps its state and its hold (R50). -/
theorem resumeRoom_unclaimed {s : State} {a : Addr} (h : ∀ e ∈ (s.queue (s.classOf a)).entries, e.hold.isSome = true) :
    ((resumeRoom s).machine a).state = (s.machine a).state ∧ ((resumeRoom s).machine a).hold = (s.machine a).hold := by
  have hleft : OffersLeave s (s.classOf a) (fun b => b = a) (resumeRoom s) := by
    rw [resumeRoom_eq]
    refine foldl_keeps (OffersLeave s (s.classOf a) (fun b => b = a)) (fun t b _ ht => ?_) (offersLeave_resumeTold s _ _)
    by_cases hb : s.classOf b = s.classOf a
    · have ⟨hclass, hqueue, _⟩ := ht
      rw [resumeOffer_none (by rw [hclass, hb, hqueue]; exact h)]
      exact ht
    · exact ht.thenOther hb fun hba => hb (by rw [hba])
  obtain ⟨_, _, hmachine⟩ := hleft
  rw [hmachine a rfl]
  exact ⟨(calm_resumeTold a s).state, (calm_resumeTold a s).hold⟩

/-- The first machine of a class at rest goes to the card that has waited longest without a hold (R50, R129). -/
theorem resumeRoom_claimed {s : State} {a : Addr} {e : ClaimEntry}
    (hrest : (s.machine a).state = .idle ∨ (s.machine a).state = .selected)
    (hfirst : ∀ b < a, s.classOf b = s.classOf a → (s.machine b).state ≠ .idle ∧ (s.machine b).state ≠ .selected)
    (he : (s.queue (s.classOf a)).entries.find? (fun e => e.hold.isNone) = some e) :
    ((resumeRoom s).machine a).state = .held ∧
      ((resumeRoom s).machine a).hold = some ⟨e.card, s.now + s.params.holdWindow⟩ := by
  obtain ⟨before, behind, hsplit, hbefore, hbehind⟩ := allAddrs_split a
  have htold := touched_resumeTold s
  let u := before.foldl resumeOffer (resumeTold s)
  have htouched : Touches [.machines, .flags, .claims] (resumeTold s) u :=
    foldl_keeps (fun t => Touches [.machines, .flags, .claims] (resumeTold s) t)
      (fun t b _ h => h.trans (touched_resumeOffer b t)) (Touches.refl _ _)
  have hleft : OffersLeave s (s.classOf a) (fun b => a ≤ b ∨ s.classOf b = s.classOf a) u := by
    refine foldl_keeps (OffersLeave s (s.classOf a) (fun b => a ≤ b ∨ s.classOf b = s.classOf a)) (fun t b hb ht => ?_)
      (offersLeave_resumeTold s _ _)
    by_cases hcb : s.classOf b = s.classOf a
    · have hstate : (t.machine b).state = (s.machine b).state := by
        rw [ht.2.2 b (.inr hcb), (calm_resumeTold b s).state]
      obtain ⟨hidle, hselected⟩ := hfirst b (hbefore b hb) hcb
      rw [resumeOffer_resting (hstate ▸ hidle) (hstate ▸ hselected)]
      exact ht
    · exact ht.thenOther hcb fun hkeep => hkeep.elim (fun hle => absurd (hbefore b hb) (not_lt.mpr hle)) hcb
  obtain ⟨hclass, hqueue, hmachines⟩ := hleft
  have hstate : (u.machine a).state = (s.machine a).state := by
    rw [hmachines a (.inl le_rfl), (calm_resumeTold a s).state]
  have hdeadline : u.now + u.params.holdWindow = s.now + s.params.holdWindow := by
    rw [htouched.now (by simp), htold.now (by simp), htouched.params (by simp), htold.params (by simp)]
  have hheld : ((resumeOffer u a).machine a).state = .held ∧
      ((resumeOffer u a).machine a).hold = some ⟨e.card, s.now + s.params.holdWindow⟩ := by
    have hplaced : (placeHold a u).2 = true ∧ ((placeHold a u).1.machine a).hold = some ⟨e.card, u.now + u.params.holdWindow⟩ := by
      have hfound : (u.queue (u.classOf a)).entries.find? (fun e => e.hold.isNone) = some e := by rw [hclass, hqueue, he]
      simp only [placeHold, hfound, raise_machine, machine_modifyMachine_self, and_self]
    rw [hdeadline] at hplaced
    have hoffer : resumeOffer u a = moveTo a .held (placeHold a u).1 := by
      have hpair : placeHold a u = ((placeHold a u).1, true) := Prod.ext rfl hplaced.1
      rcases hrest with h | h
      · simp only [resumeOffer, hstate, h]
        rw [hpair]
      · simp only [resumeOffer, hstate, h]
        rw [hpair]
    rw [hoffer, moveTo_machine_self]
    exact ⟨rfl, hplaced.2⟩
  have hafter : (resumeRoom s).machine a = (resumeOffer u a).machine a := by
    rw [resumeRoom_eq, hsplit, List.foldl_append, List.foldl_cons]
    exact foldl_keeps (fun t : State => t.machine a = (resumeOffer u a).machine a) (fun t b hb ht => by
      have hab : a ≠ b := fun hab => lt_irrefl a (hab ▸ hbehind b hb)
      rw [otherMachines_resumeOffer b t a hab]
      exact ht) rfl
  rw [hafter]
  exact hheld

theorem resumeTold_pools (s : State) (k : PoolId) : ((resumeTold s).pool k).halted = false := by
  have hpool : ∀ (j : PoolId) (t : State), ((tellPool j false t).pool k).halted = if k = j then false else (t.pool k).halted := by
    intro j t
    rw [tellPool, ((sameButGrants_scanPool j k _).terms).halted]
    split
    · rename_i hkj
      rw [hkj, pool_setPool_self]
    · rename_i hkj
      rw [pool_setPool_other _ _ hkj]
  rw [resumeTold, hpool, hpool]
  cases k <;> rfl

/-- The pools and the room after the offers are those before them. -/
theorem touched_resumeOffers (s : State) : Touches [.machines, .flags, .claims] (resumeTold s) (resumeRoom s) := by
  rw [resumeRoom_eq]
  exact foldl_keeps (fun t => Touches [.machines, .flags, .claims] (resumeTold s) t)
    (fun t b _ h => h.trans (touched_resumeOffer b t)) (Touches.refl _ _)

theorem resumeTold_halted (s : State) : (resumeTold s).halted = false := by
  have h : Touches [.machines, .flags, .session, .pools] (raise .room { s with halted := false }) (resumeTold s) :=
    (touched_tellPool .electric false _).trans (touched_tellPool .water false _)
  exact h.halted (by simp)

/-! ## The requests -/

/-- Settles O33: the halt takes each machine as it was, with both pools halted before; the resumption offers them in
ascending order. -/
theorem haltAndResumeTheRoom : Obligations.HaltAndResumeTheRoom := by
  intro s hs
  have hread : ∀ {u : State} (x : PortReply), let t := pushReply .building x u
      t.halted = u.halted ∧ t.electric = u.electric ∧ t.water = u.water ∧ ∀ a, t.machine a = u.machine a := by
    intro u x
    have h := touched_pushReply_ports .building x u
    exact ⟨h.halted (by simp), (h _ (by simp : Part.pools ∉ _)).1, (h _ (by simp : Part.pools ∉ _)).2,
      fun a => h.machine (by simp) a⟩
  have hpool : ∀ u : State, u.electric = u.pool .electric ∧ u.water = u.pool .water := fun _ => ⟨rfl, rfl⟩
  refine ⟨fun hhalted => ?_, fun hrunning => ?_, fun hrunning => ?_, fun hhalted => ?_⟩
  · refine exec_answered (r := .haltRoom) rfl rfl hs rfl rfl ?_
    simp only [ownerDecision, decideHalt, hunt_halted, hhalted, if_true]
    rfl
  · have howner : decideHalt (hunt .building s) = done [] (haltRoom (hunt .building s)) := by
      simp only [decideHalt, hunt_halted, hrunning, Bool.false_eq_true, if_false]
    have hroom := haltRoom_halted (hunt .building s)
    refine ⟨_, exec_admitted (r := .haltRoom) rfl rfl hs rfl rfl, ?_⟩
    simp only [ownerDecision, howner, done]
    obtain ⟨hthalted, helectric, hwater, hmachine⟩ := hread (u := haltRoom (hunt .building s)) (replyTo 0x13 .ok [])
    refine ⟨answers_of_raised (Raised.refl _).thenHaltRoom _, hthalted.trans hroom.room, ?_, ?_, fun a ha => ?_, fun a ha => ?_⟩
    · exact (congrArg Pool.halted (helectric.trans (hpool _).1)).trans (hroom.pools .electric)
    · exact (congrArg Pool.halted (hwater.trans (hpool _).2)).trans (hroom.pools .water)
    · refine ((haltRoom_running (s := hunt .building s) (a := a) ?_).of_eq ?_ ?_).thenTouch (touched_pushReply_ports _ _ _)
        (by simp) (by simp)
      · rw [hunt_machine]
        exact ha
      · rw [hunt_machine]
      · rw [hunt_now]
    · have hheld := haltRoom_held (s := hunt .building s) (a := a) (by rw [hunt_machine]; exact ha)
      rw [← hmachine a] at hheld
      exact hheld
  · refine exec_answered (r := .resumeRoom) rfl rfl hs rfl rfl ?_
    simp only [ownerDecision, decideResume, hunt_halted, hrunning, Bool.false_eq_true, if_false]
    rfl
  · have howner : decideResume (hunt .building s) = done [] (resumeRoom (hunt .building s)) := by
      simp only [decideResume, hunt_halted, hhalted, if_true]
    have hoffers := touched_resumeOffers (hunt .building s)
    refine ⟨_, exec_admitted (r := .resumeRoom) rfl rfl hs rfl rfl, ?_⟩
    simp only [ownerDecision, howner, done]
    obtain ⟨hthalted, helectric, hwater, hmachine⟩ := hread (u := resumeRoom (hunt .building s)) (replyTo 0x14 .ok [])
    refine ⟨answers_of_raised (Raised.refl _).thenResumeRoom _, ?_, ?_, ?_, fun a ha => ?_, fun a e hrest hfirst he => ?_⟩
    · exact hthalted.trans ((hoffers.halted (by simp)).trans (resumeTold_halted _))
    · exact (congrArg Pool.halted ((helectric.trans (hpool _).1).trans (hoffers.pool (by simp) .electric))).trans
        (resumeTold_pools _ .electric)
    · exact (congrArg Pool.halted ((hwater.trans (hpool _).2).trans (hoffers.pool (by simp) .water))).trans
        (resumeTold_pools _ .water)
    · have hunclaimed := resumeRoom_unclaimed (s := hunt .building s) (a := a) (by simpa using ha)
      rw [← hmachine a, hunt_machine] at hunclaimed
      exact hunclaimed
    · have hclaimed := resumeRoom_claimed (s := hunt .building s) (a := a) (e := e) (by simpa using hrest)
        (by simpa using hfirst) (by simpa using he)
      rw [← hmachine a, hunt_now, hunt_params] at hclaimed
      exact hclaimed

end Sys2Proof.Machine

/-! PROOF. The slots of a round: the poll frame and its characters, and what a byte changed in a reply spoils. -/

namespace Sys2Proof.Machine

/-! ## The poll frame of a slot -/

theorem exec_pollSlot (s : State) : exec .pollSlot s = .next (beginSlot s) := rfl

/-- R3: the next slot sends the poll frame of its address and opens the reply window. -/
theorem beginSlot_next {s : State} {a : Addr} {rest : List Addr} (hs : s.slot = none) (hr : s.slots = a :: rest) :
    beginSlot s = { s with
      slots := rest, slot := some a,
      pollFrame := pollFrame a (decide ((s.machine a).bus.presence ≠ .absent)) (s.machine a).bus.inFlight } := by
  simp [beginSlot, hs, hr]

/-- R3: bit 1 of the mark says that the address has joined. -/
theorem joinedMark (p : Presence) : 2 * bit (decide (p ≠ .absent)) = if p = .absent then 0 else 2 := by
  cases p <;> rfl

/-- R3: the poll frame of an address without a command in flight. -/
theorem pollFrame_none (a : Addr) (p : Presence) : pollFrame a (decide (p ≠ .absent)) none =
    0x3C :: [byte (a.val + 1), byte (if p = .absent then 0 else 2), 0, 0, 0, 0, 0] ++
      be2 (busCheck [byte (a.val + 1), byte (if p = .absent then 0 else 2), 0, 0, 0, 0, 0]) := by
  rw [← joinedMark, ← Nat.zero_add (2 * bit _)]
  rfl

/-- R3: the poll frame of an address with a command in flight. -/
theorem pollFrame_some (a : Addr) (p : Presence) (f : InFlight) (c x y h l : Byte) (hc : byte (commandCode f.cmd) = c)
    (hx : byte (commandArgs f.cmd).1 = x) (hy : byte (commandArgs f.cmd).2.1 = y)
    (hh : byte ((commandArgs f.cmd).2.2 / 256) = h) (hl : byte (commandArgs f.cmd).2.2 = l) :
    pollFrame a (decide (p ≠ .absent)) (some f) =
      0x3C :: [byte (a.val + 1), byte ((if p = .absent then 0 else 2) + bit f.tag), c, x, y, h, l] ++
        be2 (busCheck [byte (a.val + 1), byte ((if p = .absent then 0 else 2) + bit f.tag), c, x, y, h, l]) := by
  subst hc hx hy hh hl
  rw [← joinedMark, Nat.add_comm (2 * bit _)]
  rfl

theorem byte_high_zero : byte (0 / 256) = 0 := rfl

theorem pollFrame_length (a : Addr) (joined : Bool) (f : Option InFlight) : (pollFrame a joined f).length = 10 := by
  cases f <;> rfl

/-! ## Characters -/

theorem bit_getLsbD (b : Byte) (n : Nat) : bit (b.getLsbD n) = b.toNat / 2 ^ n % 2 := by
  rw [BitVec.getLsbD, Nat.testBit_eq_decide_div_mod_eq, bit]
  have : b.toNat / 2 ^ n % 2 < 2 := Nat.mod_lt _ (by decide)
  split <;> simp_all

/-- R1: a character is read back as its byte. -/
theorem readCharacter_character (b : Byte) : readCharacter (character b) = some b := by
  have hb : b.toNat < 256 := b.isLt
  have hsum : b.toNat / 2 ^ 0 % 2 + 2 * (b.toNat / 2 ^ 1 % 2) + 4 * (b.toNat / 2 ^ 2 % 2) + 8 * (b.toNat / 2 ^ 3 % 2) +
      16 * (b.toNat / 2 ^ 4 % 2) + 32 * (b.toNat / 2 ^ 5 % 2) + 64 * (b.toNat / 2 ^ 6 % 2) +
      128 * (b.toNat / 2 ^ 7 % 2) = b.toNat := by omega
  simp only [character, List.map_cons, List.map_nil, List.cons_append, List.nil_append, readCharacter, bit_getLsbD, hsum]
  rw [byte, BitVec.ofNat_toNat, BitVec.setWidth_eq]

/-- Settles O22: the next slot's poll frame by the command in flight, and the characters of its bytes on the pair. -/
theorem pollSlotSendsThePollFrame : Obligations.PollSlotSendsThePollFrame := by
  intro s a rest hs hr
  have hslot := (exec_pollSlot s).trans (congrArg _ (beginSlot_next hs hr))
  have hsent : ∀ (f : Option InFlight) (body : List Byte), (s.machine a).bus.inFlight = f →
      pollFrame a (decide ((s.machine a).bus.presence ≠ .absent)) f = 0x3C :: body ++ be2 (busCheck body) →
      exec .pollSlot s = .next { s with
        slots := rest, slot := some a, pollFrame := 0x3C :: body ++ be2 (busCheck body) } := by
    intro f body hf hframe
    rw [hslot, hf, hframe]
  refine ⟨fun h => hsent _ _ h (pollFrame_none a _),
    fun tag poster index kind third h =>
      hsent _ _ h (pollFrame_some a _ _ 1 (byte index) (byte (kindCode kind)) (byte (third / 256)) (byte third)
        rfl rfl rfl rfl rfl),
    fun tag poster h => hsent _ _ h (pollFrame_some a _ _ 2 0 0 0 0 rfl rfl rfl byte_high_zero rfl),
    fun tag poster h => hsent _ _ h (pollFrame_some a _ _ 3 0 0 0 0 rfl rfl rfl byte_high_zero rfl),
    fun tag poster cause h =>
      hsent _ _ h (pollFrame_some a _ _ 4 (byte (causeCode cause)) 0 0 0 rfl rfl rfl byte_high_zero rfl),
    fun tag poster n h => hsent _ _ h (pollFrame_some a _ _ 5 (byte n) 0 0 0 rfl rfl rfl byte_high_zero rfl),
    fun after => by simp [State.slotPair, hs], readCharacter_character, fun t after ht => ?_⟩
  obtain rfl := Host.Outcome.next.inj (hslot.symm.trans ht)
  exact ⟨pollFrame_length _ _ _, rfl⟩

end Sys2Proof.Machine

/-! PROOF. The check of a reply frame, and the room second. -/

namespace Sys2Proof.Machine

/-! ## One byte changed -/

theorem at1_set_self {bs : List Byte} {n : Nat} (hn : n < bs.length) (b : Byte) : at1 (bs.set n b) n = b.toNat := by
  simp [at1, hn]

theorem at1_set_other {n i : Nat} (h : n ≠ i) (bs : List Byte) (b : Byte) : at1 (bs.set n b) i = at1 bs i := by
  simp [at1, List.getElem?_set_ne h]

/-- A byte changed within a byte string changes its sum by the difference. -/
theorem byteSum_set (b : Byte) : ∀ {bs : List Byte} {n : Nat}, n < bs.length →
    byteSum (bs.set n b) + at1 bs n = byteSum bs + b.toNat := by
  intro bs
  induction bs with
  | nil => exact fun h => absurd h (by simp)
  | cons x xs ih =>
    intro n hn
    cases n with
    | zero => simp [byteSum, at1]; omega
    | succ n =>
      have := ih (n := n) (by simpa using hn)
      simp only [List.set_cons_succ, byteSum]
      have hat : at1 (x :: xs) (n + 1) = at1 xs n := by simp [at1]
      omega

theorem byteSum_le (bs : List Byte) : byteSum bs ≤ 255 * bs.length := by
  induction bs with
  | nil => exact Nat.le_refl _
  | cons x xs ih =>
    have := x.isLt
    simp only [byteSum, List.length_cons]
    omega

/-- R4: what every valid reply has: its length, its start value and its check. -/
theorem readReply_frame {a : Addr} {bs : List Byte} (h : (readReply a bs).isSome = true) :
    bs.length = 16 ∧ at1 bs 0 = 0xC3 ∧ at2 bs 14 = busCheck (slice bs 1 13) := by
  unfold readReply at h
  split at h
  · rename_i hc
    simp only [Bool.and_eq_true, beq_iff_eq] at hc
    obtain ⟨⟨⟨⟨⟨⟨⟨⟨⟨⟨hlen, hstart⟩, -⟩, hcheck⟩, -⟩, -⟩, -⟩, -⟩, -⟩, -⟩, -⟩ := hc
    exact ⟨hlen, hstart, hcheck⟩
  · exact absurd h (by simp)

/-- A byte changed outside a part leaves that part. -/
theorem slice_set_outside {n i k : Nat} (h : n < i ∨ i + k ≤ n) (bs : List Byte) (b : Byte) :
    slice (bs.set n b) i k = slice bs i k := by
  unfold slice
  rcases h with h | h
  · rw [List.drop_set_of_lt h]
  · rw [List.drop_set, if_neg (by omega), List.take_set_of_le (by omega)]

/-- A byte changed within a part is changed there. -/
theorem slice_set_inside {n i k : Nat} (hi : i ≤ n) (bs : List Byte) (b : Byte) :
    slice (bs.set n b) i k = (slice bs i k).set (n - i) b := by
  unfold slice
  rw [List.drop_set, if_neg (by omega), List.take_set]

theorem at1_slice {n i k : Nat} (hi : i ≤ n) (hn : n < i + k) (bs : List Byte) : at1 (slice bs i k) (n - i) = at1 bs n := by
  have e : i + (n - i) = n := by omega
  simp [at1, slice, List.getElem?_take, List.getElem?_drop, e, show n - i < k by omega]

/-- Settles O28: the start value, a checked byte or a byte of the check has changed. -/
theorem oneWrongByteSpoilsAReply : Obligations.OneWrongByteSpoilsAReply := by
  intro a bytes n b hvalid hn hb
  obtain ⟨hlen, hstart, hcheck⟩ := readReply_frame hvalid
  have hnew : b.toNat ≠ at1 bytes n := fun e => hb (BitVec.eq_of_toNat_eq e)
  rw [← Option.not_isSome_iff_eq_none]
  intro hvalid'
  obtain ⟨-, hstart', hcheck'⟩ := readReply_frame hvalid'
  have hself := at1_set_self hn b
  have hother : ∀ i, n ≠ i → at1 (bytes.set n b) i = at1 bytes i := fun i h => at1_set_other h bytes b
  rw [at2] at hcheck hcheck'
  rcases Nat.lt_or_ge n 1 with h0 | h1
  · obtain rfl : n = 0 := by omega
    omega
  rcases Nat.lt_or_ge n 14 with h13 | h14
  · have hslice : (slice bytes 1 13).length = 13 := by simp [slice, hlen]
    have hsum := byteSum_set b (bs := slice bytes 1 13) (n := n - 1) (by omega)
    have hle := byteSum_le (slice bytes 1 13)
    have hle' := byteSum_le ((slice bytes 1 13).set (n - 1) b)
    rw [List.length_set] at hle'
    rw [at1_slice h1 (by omega)] at hsum
    rw [slice_set_inside h1, hother 14 (by omega), hother (14 + 1) (by omega), hcheck, busCheck, busCheck] at hcheck'
    omega
  · rw [slice_set_outside (.inr h14), ← hcheck] at hcheck'
    have h15 : n = 14 ∨ n = 14 + 1 := by omega
    rcases h15 with rfl | rfl
    · rw [hself, hother (14 + 1) (by omega)] at hcheck'
      omega
    · rw [hself, hother 14 (by omega)] at hcheck'
      omega

/-! ## The room second -/

theorem grantSum_true (gs : List Grant) : grantSum (fun _ => true) gs = (gs.map (·.amount)).sum := by
  rw [grantSum_eq_sum, List.filter_true]

theorem exec_roomSecondTick (s : State) : exec .roomSecondTick s = .next (tick s) := rfl

/-- R31, R43, R74: what the second is counted in, apart from the round. -/
def counted (s : State) : State := { s with
  now := s.now + 1, waitLimit := s.params.grantWait, machines := s.machines.map countMachine,
  electric := countPool s.electric, water := countPool s.water }

theorem tick_operating {s : State} (h : s.mode = .operating) : tick s = beginRound (counted s) := if_pos h

theorem counted_machine (a : Addr) (s : State) : (counted s).machine a = countMachine (s.machine a) := by
  simp [counted, State.machine]

theorem counted_pool (k : PoolId) (s : State) : (counted s).pool k = countPool (s.pool k) := by cases k <;> rfl

/-- R2: the slots of a round. -/
theorem mem_beginRound_slots (a : Addr) (s : State) : a ∈ (beginRound s).slots ↔
    s.configured a = true ∧ ((s.machine a).bus.presence ≠ .absent ∨ (beginRound s).roundNumber % 4 = 0) := by
  simp [beginRound, qualifies, allAddrs]

theorem beginRound_pairwise (s : State) : (beginRound s).slots.Pairwise (· < ·) :=
  (List.pairwise_lt_finRange _).filter _

/-- R31, R36: a second moves no bus field. -/
theorem countMachine_bus (m : MachineRecord) : (countMachine m).bus = m.bus := by
  unfold countMachine
  split <;> rfl

/-- R74: the statistics of a pool at a room second. -/
theorem countPool_eq (p : Pool) : countPool p = { p with stats := { p.stats with
    unitSeconds := min 999999999999 (p.stats.unitSeconds + (p.grants.map (·.amount)).sum),
    overSeconds := min 4294967295 (p.stats.overSeconds + if p.overLimit then 1 else 0) } } := by
  rw [countPool, Pool.granted, grantSum_true]
  rfl

/-- Settles O21: the second is counted, and a round begins. -/
theorem roomSecondCountsAndBeginsARound : Obligations.RoomSecondCountsAndBeginsARound := by
  intro s hmode
  refine ⟨tick s, rfl, ?_⟩
  rw [tick_operating hmode]
  refine ⟨rfl, rfl, fun k => ?_, fun a ha => ?_, fun a ha => ?_, rfl, rfl, fun a => ?_, beginRound_pairwise _, rfl, rfl⟩
  · exact (counted_pool k s).trans (countPool_eq _)
  · exact (counted_machine a s).trans (if_neg ha)
  · refine (counted_machine a s).trans ((if_pos ha).trans ?_)
    rfl
  · rw [mem_beginRound_slots, counted_machine, countMachine_bus]
    rfl

end Sys2Proof.Machine

/-! PROOF. A reply window that closes without a reply: a machine declared absent keeps to its absence while what it did is
ended. -/

namespace Sys2Proof.Machine

variable {s t u : State} {a b : Addr}

/-! ## A machine that stands absent -/

/-- What a machine that is away keeps while the rest of the room goes on: its state, its door, its selection and its bus
fields, to which nothing is posted (R7). -/
structure Abides (m n : MachineRecord) : Prop where
  state : n.state = m.state
  door : n.door = m.door
  selection : n.selection = m.selection
  bus : n.bus = m.bus

theorem Abides.refl (m : MachineRecord) : Abides m m := ⟨rfl, rfl, rfl, rfl⟩

theorem Abides.trans {l m n : MachineRecord} (h : Abides l m) (k : Abides m n) : Abides l n :=
  ⟨k.state.trans h.state, k.door.trans h.door, k.selection.trans h.selection, k.bus.trans h.bus⟩

/-- R24: a machine is away when Cycle Control has it ABSENT and the bus does not have it PRESENT. -/
def IsAway (m : MachineRecord) : Prop := m.state = .absent ∧ m.bus.presence ≠ .present

theorem Abides.isAway {m n : MachineRecord} (h : Abides m n) (k : IsAway m) : IsAway n :=
  ⟨h.state.trans k.1, by rw [h.bus]; exact k.2⟩

/-- From `s` to `t` a machine that is away stays so. -/
def StaysAway (a : Addr) (s t : State) : Prop := IsAway (s.machine a) → Abides (s.machine a) (t.machine a)

theorem StaysAway.refl (a : Addr) (s : State) : StaysAway a s s := fun _ => Abides.refl _

theorem StaysAway.trans (h : StaysAway a s t) (k : StaysAway a t u) : StaysAway a s u :=
  fun hs => (h hs).trans (k ((h hs).isAway hs))

theorem StaysAway.of_eq (h : t.machine a = s.machine a) : StaysAway a s t := fun _ => h ▸ Abides.refl _

theorem StaysAway.foldl {α : Type} {f : State → α → State} (h : ∀ s x, StaysAway a s (f s x)) (xs : List α) :
    ∀ s, StaysAway a s (xs.foldl f s) := by
  induction xs with
  | nil => exact fun s => .refl a s
  | cons x xs ih => exact fun s => (h s x).trans (ih (f s x))

theorem staysAway_modifyMachine {f : MachineRecord → MachineRecord} (h : ∀ m, IsAway m → Abides m (f m)) (b : Addr)
    (s : State) : StaysAway a s (modifyMachine b f s) := by
  intro hs
  rw [machine_modifyMachine]
  split
  · next e => subst e; exact h _ hs
  · exact Abides.refl _

theorem staysAway_touch {ps : List Part} (h : Touches ps s t) (hp : Part.machines ∉ ps) : StaysAway a s t :=
  .of_eq (h.machine hp a)

theorem staysAway_raise (e : Event) (s : State) : StaysAway a s (raise e s) := .of_eq rfl

/-- R7: a post for an address that is not PRESENT is refused. -/
theorem postBus_away {b : BusFields} (h : b.presence ≠ .present) (cmd : BusCommand) (poster : Poster) :
    postBus cmd poster b = b := if_neg h

theorem staysAway_post (b : Addr) (cmd : BusCommand) (poster : Poster) (s : State) : StaysAway a s (post b cmd poster s) :=
  staysAway_modifyMachine (by exact fun _ h => ⟨rfl, rfl, rfl, postBus_away h.2 cmd poster⟩) b s

theorem staysAway_modifyCycle (b : Addr) (f : Cycle → Cycle) (s : State) : StaysAway a s (modifyCycle b f s) :=
  staysAway_modifyMachine (by exact fun _ _ => ⟨rfl, rfl, rfl, rfl⟩) b s

theorem staysAway_modifyRun (b : Addr) (f : TestRun → TestRun) (s : State) : StaysAway a s (modifyRun b f s) :=
  (staysAway_modifyMachine (by exact fun _ _ => ⟨rfl, rfl, rfl, rfl⟩) b s).trans (staysAway_raise .test _)

/-- A machine that is away is not moved by a handing of a fault. -/
theorem Struck.staysAway (k : Struck (s.machine a) (t.machine a)) : StaysAway a s t := by
  intro hs
  exact ⟨(k.state (by simp [hs.1]) (by simp [hs.1]) (by simp [hs.1])).1, k.door, k.selection, k.bus⟩

/-! ## Grants, withdrawals and refunds -/

theorem struck_of_eq {m n : MachineRecord} (h : n = m) : Struck m n := h ▸ Struck.refl m

/-- R115: what a refund that cannot be placed whole does to a machine is the handing of its fault. -/
theorem struck_unplaced (card amount machine : Nat) (b : Addr) (s : State) :
    Struck (s.machine b) ((unplaced card amount machine s).machine b) := by
  unfold unplaced
  split
  · exact Struck.refl _
  · exact struck_handFault _ b (modifyAudit _ s)

theorem struck_mergeRefund (card amount machine : Nat) (b : Addr) (s : State) :
    Struck (s.machine b) ((mergeRefund card amount machine s).machine b) := by
  have hplaced : ∀ n f, Struck (s.machine b) ((unplaced card n machine (modifyRefunds f s)).machine b) := fun n f =>
    (struck_of_eq ((touched_modifyRefunds f s).machine (by simp) b)).trans (struck_unplaced card n machine b _)
  unfold mergeRefund
  split
  · exact (struck_of_eq ((touched_updateRefund card _ s).machine (by simp) b)).trans (struck_unplaced _ _ _ b _)
  · split
    · exact hplaced _ _
    · exact struck_unplaced card amount machine b s

/-- R115: a placement leaves a machine as a handing of a fault would. -/
theorem struck_placeRefund (card amount machine : Nat) (b : Addr) (s : State) :
    Struck (s.machine b) ((placeRefund card amount machine s).machine b) := by
  unfold placeRefund
  split
  · exact Struck.refl _
  · have haudit : Struck (s.machine b) ((modifyAudit (fun t => { t with issued := addTotal t.issued amount }) s).machine b) :=
      struck_of_eq ((touched_modifyAudit _ s).machine (by simp) b)
    have htell := fun t => struck_of_eq ((touched_tellPlacement card t).machine (by simp) b)
    exact (haudit.trans (struck_mergeRefund card amount machine b _)).trans (htell _)

theorem staysAway_deliverGrant (s : State) (e : WaitEntry) : StaysAway a s (deliverGrant s e) := by
  unfold deliverGrant
  split
  · unfold startPhase
    split
    · exact .refl a s
    · split
      · exact .refl a s
      · exact (staysAway_modifyCycle _ _ s).trans (staysAway_post _ _ _ _)
  · exact (staysAway_modifyCycle _ _ s).trans (staysAway_post _ _ _ _)
  · unfold startServicePhase
    split
    · exact .refl a s
    · split
      · exact .refl a s
      · exact staysAway_post _ _ _ _
  · unfold startSubtest
    split
    · exact .refl a s
    · exact (staysAway_modifyRun _ _ s).trans (staysAway_post _ _ _ _)

theorem staysAway_setPool (k : PoolId) (p : Pool) (s : State) : StaysAway a s (s.setPool k p) := .of_eq (by simp)

theorem staysAway_scanPool (k : PoolId) (s : State) : StaysAway a s (scanPool k s) := by
  unfold scanPool
  dsimp only
  split
  · exact (staysAway_setPool k _ s).trans (StaysAway.foldl staysAway_deliverGrant _ _)
  · exact .refl a s

theorem staysAway_withdrawFrom (k : PoolId) (b : Addr) (s : State) : StaysAway a s (withdrawFrom k b s) := by
  unfold withdrawFrom
  dsimp only
  split
  · exact (staysAway_setPool k _ s).trans (staysAway_scanPool k _)
  · exact .refl a s

theorem staysAway_withdrawEntry (b : Addr) (s : State) : StaysAway a s (withdrawEntry b s) :=
  (staysAway_withdrawFrom .electric b s).trans (staysAway_withdrawFrom .water b _)

theorem staysAway_releaseFrom (k : PoolId) (b : Addr) (s : State) : StaysAway a s (releaseFrom k b s) := by
  unfold releaseFrom
  dsimp only
  split
  · exact ((staysAway_setPool k _ s).trans (staysAway_touch (touched_leaveOverLimit k _) (by simp))).trans (staysAway_scanPool k _)
  · exact .refl a s

theorem staysAway_releaseGrant (b : Addr) (s : State) : StaysAway a s (releaseGrant b s) :=
  (staysAway_releaseFrom .electric b s).trans (staysAway_releaseFrom .water b _)

theorem staysAway_settleRefund (b : Addr) (cause : StopCause) (s : State) : StaysAway a s (settleRefund b cause s) := by
  unfold settleRefund
  split
  · exact .refl a s
  · split
    · exact .refl a s
    · exact (staysAway_modifyCycle b _ s).trans (struck_placeRefund _ _ _ a _).staysAway

/-! ## What the absence of a machine ends -/

theorem staysAway_handBack (s : State) : StaysAway a s (handBack a s) := fun _ =>
  handBack_machine_self a s ▸ ⟨rfl, rfl, rfl, rfl⟩

theorem staysAway_endSession (h : sessionOn a s = true) : StaysAway a s (endSession s) := by
  intro hs
  obtain ⟨x, hx, rfl⟩ := (sessionOn_iff a s).mp h
  have hremoved : StaysAway x.machine s { s with session := none } := .of_eq rfl
  have hspent := (hremoved.trans (staysAway_modifyMachine (f := fun m => { m with permit := false })
    (fun _ _ => ⟨rfl, rfl, rfl, rfl⟩) x.machine _)).trans ((staysAway_raise .machine _).trans (staysAway_raise .test _)) hs
  unfold endSession
  simp only [hx]
  rw [if_neg (by rw [hspent.state, hs.1]; decide)]
  exact hspent

theorem staysAway_endIfClosing (s : State) : StaysAway a s (endIfClosing a s) := by
  unfold endIfClosing
  split
  · next h =>
    rw [Bool.and_eq_true] at h
    exact staysAway_endSession h.1
  · exact .refl a s

theorem staysAway_finishTest (outcome : TestOutcome) (code : Nat) (s : State) : StaysAway a s (finishTest a outcome code s) := by
  unfold finishTest
  split
  · exact .refl a s
  · next r _ =>
    have hrun : StaysAway a s (raise .test (raise .machine (modifyMachine a
        (fun m => { m with lastTest := some ⟨outcome, r.subtest, code⟩, testRun := none }) s))) :=
      (staysAway_modifyMachine (by exact fun _ _ => ⟨rfl, rfl, rfl, rfl⟩) a s).trans
        ((staysAway_raise .machine _).trans (staysAway_raise .test _))
    have hfail : ∀ t h, StaysAway a s t → StaysAway a s (if outcome = .fail then handFault h t else t) := by
      intro t h ht
      split
      · exact ht.trans ((struck_handFault h a t).staysAway)
      · exact ht
    dsimp only
    split
    · intro hs
      have hfailed := hfail _ { plainHanding (addrNum a) faultTestFail with subtest := some r.subtest } hrun hs
      rw [if_neg (by rw [hfailed.state, hs.1]; decide)]
      exact hfailed
    · exact (hfail _ _ hrun).trans (staysAway_endIfClosing _)

theorem staysAway_absentService (s : State) : StaysAway a s (absentService a s) := by
  have hend : ∀ t, StaysAway a t (if sessionOn a t then endSession t else t) := by
    intro t
    split
    · next h => exact staysAway_endSession h
    · exact .refl a t
  exact ((((staysAway_withdrawEntry a s).trans (staysAway_releaseGrant a _)).trans (staysAway_finishTest _ _ _)).trans
    (hend _)).trans (staysAway_modifyMachine (by exact fun _ _ => ⟨rfl, rfl, rfl, rfl⟩) a _)

theorem staysAway_endWork (st : MachineState) (s : State) : StaysAway a s (endWork a st s) := by
  unfold endWork
  split
  · exact staysAway_handBack s
  · exact staysAway_handBack s
  · exact (((staysAway_withdrawEntry a s).trans (staysAway_releaseGrant a _)).trans (staysAway_settleRefund a _ _)).trans
      (staysAway_modifyMachine (by exact fun _ _ => ⟨rfl, rfl, rfl, rfl⟩) a _)
  · exact ((staysAway_settleRefund a _ s).trans (staysAway_releaseGrant a _)).trans
      (staysAway_modifyMachine (by exact fun _ _ => ⟨rfl, rfl, rfl, rfl⟩) a _)
  · exact staysAway_modifyMachine (by exact fun _ _ => ⟨rfl, rfl, rfl, rfl⟩) a s
  · exact staysAway_absentService s
  · exact staysAway_absentService s
  all_goals exact .refl a s

/-- R24: right after its absence was handed over. -/
theorem takeAbsence_machine (h : (s.machine a).bus.presence ≠ .present) : Abides
    { s.machine a with state := .absent, door := none, selection := none } ((takeAbsence a s).machine a) := by
  have hm : (moveTo a .absent (modifyMachine a (fun m => { m with door := none, selection := none }) s)).machine a =
      { s.machine a with state := .absent, door := none, selection := none } := by simp
  have := staysAway_endWork (a := a) (s.machine a).state
    (moveTo a .absent (modifyMachine a (fun m => { m with door := none, selection := none }) s))
  rw [StaysAway, hm] at this
  exact this ⟨rfl, h⟩

/-- R12: what the absence of a machine after its third missed reply leaves of it. -/
theorem declareAbsent_machine (a : Addr) (reason : AbsenceReason) (s : State) : Abides
    { s.machine a with
      state := .absent, door := none, selection := none,
      bus := { absentBus (s.machine a).bus with mismatch := decide (reason = .identity) } }
    ((declareAbsent a reason s).machine a) := by
  have habsence := takeAbsence_machine (a := a)
    (s := modifyBus a (fun b => { absentBus b with mismatch := decide (reason = .identity) }) s)
    (by simp [modifyBus, absentBus, leaveJoining])
  rw [modifyBus, machine_modifyMachine_self] at habsence
  refine habsence.trans (StaysAway.trans (staysAway_raise .machine _) (struck_handFault _ a _).staysAway ?_)
  exact habsence.isAway ⟨rfl, by simp [absentBus, leaveJoining]⟩

/-! ## A window without a reply -/

theorem exec_replyWindowMissed {s : State} {a : Addr} (hs : s.slot = some a) (hc : s.configured a = true) :
    exec .replyWindowMissed s = .next (missedSlot a { s with slot := none }) := by
  have h : windowMissed s = missedSlot a { s with slot := none } := by
    unfold windowMissed
    simp only [hs]
    exact if_pos hc
  exact congrArg _ h

/-- R11, R18: a missed reply of an address that is not ABSENT is counted below the third. -/
theorem missedSlot_counts {s : State} {a : Addr} (hp : (s.machine a).bus.presence ≠ .absent)
    (hm : (s.machine a).bus.missed < 2) : missedSlot a s =
      s.setMachine a { s.machine a with bus := { (s.machine a).bus with missed := (s.machine a).bus.missed + 1 } } := by
  have h3 : (s.machine a).bus.missed + 1 < 3 := by omega
  unfold missedSlot
  dsimp only
  split
  · next h => exact absurd h hp
  · exact if_pos h3
  · exact if_pos h3

theorem missedSlot_absent {s : State} {a : Addr} (hp : (s.machine a).bus.presence = .absent) : missedSlot a s = s := by
  simp [missedSlot, hp]

/-- R18: a JOINING address is ABSENT again with its third missed reply. -/
theorem missedSlot_joining {s : State} {a : Addr} (hp : (s.machine a).bus.presence = .joining)
    (hm : 2 ≤ (s.machine a).bus.missed) : missedSlot a s = modifyBus a absentBus s := by
  simp [missedSlot, hp, show ¬ (s.machine a).bus.missed + 1 < 3 by omega]

/-- R12: a PRESENT machine is declared absent with its third missed reply. -/
theorem missedSlot_present {s : State} {a : Addr} (hp : (s.machine a).bus.presence = .present)
    (hm : 2 ≤ (s.machine a).bus.missed) : missedSlot a s = declareAbsent a .missed s := by
  simp [missedSlot, hp, show ¬ (s.machine a).bus.missed + 1 < 3 by omega]

/-- Settles O23: a missed reply is counted, and the third ends the joining or the presence. -/
theorem aMissedWindowIsCounted : Obligations.AMissedWindowIsCounted := by
  intro s a hs hc
  have hexec := exec_replyWindowMissed hs hc
  refine ⟨fun hp => ?_, fun hp hm => ?_, fun hp hm => ?_, fun hp hm => ?_⟩
  · exact hexec.trans (congrArg _ (missedSlot_absent (s := { s with slot := none }) hp))
  · exact hexec.trans (congrArg _ (missedSlot_counts (s := { s with slot := none }) hp hm))
  · exact hexec.trans (congrArg _ (missedSlot_joining (s := { s with slot := none }) hp hm))
  · have habsent := declareAbsent_machine a .missed { s with slot := none }
    refine ⟨_, hexec.trans (congrArg _ (missedSlot_present (s := { s with slot := none }) hp hm)),
      habsent.state, habsent.door, habsent.selection, habsent.bus, ?_⟩
    exact faultLast_handFault (plainHanding (addrNum a) faultNoReply) _

end Sys2Proof.Machine

/-! PROOF. Whole states: the events an operation raises are drawn out behind the records it writes, so that what an operation
leaves is written as the records it replaced and the events it raised. With it the claim queues, the locks and the sessions. -/

namespace Sys2Proof.Machine

/-! ## Events behind the records -/

section
variable (s : State) (bits more : BitVec 7)

theorem raise_eq_raising (e : Event) : raise e s = s.raising (eventBit e) := rfl

@[simp] theorem raising_raising : (s.raising bits).raising more = s.raising (bits ||| more) := by
  simp [State.raising, BitVec.or_assoc]

@[simp] theorem raising_zero : s.raising 0#7 = s := by simp [State.raising]

@[simp] theorem raising_machine (a : Addr) : (s.raising bits).machine a = s.machine a := rfl
@[simp] theorem raising_queue (c : MachineClass) : (s.raising bits).queue c = s.queue c := by cases c <;> rfl
@[simp] theorem raising_pool (k : PoolId) : (s.raising bits).pool k = s.pool k := by cases k <;> rfl
@[simp] theorem raising_station (i : StationId) : (s.raising bits).station i = s.station i := by cases i <;> rfl
@[simp] theorem raising_classOf (a : Addr) : (s.raising bits).classOf a = s.classOf a := rfl
@[simp] theorem raising_params : (s.raising bits).params = s.params := rfl
@[simp] theorem raising_now : (s.raising bits).now = s.now := rfl
@[simp] theorem raising_halted : (s.raising bits).halted = s.halted := rfl
@[simp] theorem raising_session : (s.raising bits).session = s.session := rfl
@[simp] theorem raising_refunds : (s.raising bits).refunds = s.refunds := rfl
@[simp] theorem raising_refund (n : Nat) : (s.raising bits).refund n = s.refund n := rfl

@[simp] theorem setMachine_raising (a : Addr) (m : MachineRecord) :
    (s.raising bits).setMachine a m = (s.setMachine a m).raising bits := rfl
@[simp] theorem setQueue_raising (c : MachineClass) (q : ClaimQueue) :
    (s.raising bits).setQueue c q = (s.setQueue c q).raising bits := by cases c <;> rfl
@[simp] theorem setPool_raising (k : PoolId) (p : Pool) : (s.raising bits).setPool k p = (s.setPool k p).raising bits := by
  cases k <;> rfl
@[simp] theorem setStation_raising (i : StationId) (x : Station) :
    (s.raising bits).setStation i x = (s.setStation i x).raising bits := by cases i <;> rfl
@[simp] theorem setDebitCopy_raising (i : StationId) (d : Option DebitCopy) :
    (s.raising bits).setDebitCopy i d = (s.setDebitCopy i d).raising bits := by cases i <;> rfl

/-! ## Records in one order -/

@[simp] theorem setMachine_setMachine (a : Addr) (m n : MachineRecord) : (s.setMachine a m).setMachine a n = s.setMachine a n := by
  simp [State.setMachine]

@[simp] theorem setMachine_machine_self (a : Addr) : s.setMachine a (s.machine a) = s := by
  simp [State.setMachine, State.machine]

@[simp] theorem setQueue_setQueue (c : MachineClass) (p q : ClaimQueue) : (s.setQueue c p).setQueue c q = s.setQueue c q := by
  cases c <;> rfl

@[simp] theorem setMachine_setQueue (a : Addr) (m : MachineRecord) (c : MachineClass) (q : ClaimQueue) :
    (s.setMachine a m).setQueue c q = (s.setQueue c q).setMachine a m := by cases c <;> rfl

@[simp] theorem setQueue_classOf (a : Addr) (c : MachineClass) (q : ClaimQueue) :
    (s.setQueue c q).classOf a = s.classOf a := by cases c <;> rfl

@[simp] theorem setQueue_params (c : MachineClass) (q : ClaimQueue) : (s.setQueue c q).params = s.params := by cases c <;> rfl

@[simp] theorem setMachine_params (a : Addr) (m : MachineRecord) : (s.setMachine a m).params = s.params := rfl

/-! ## The end of a frame before the rest -/

@[simp] theorem setMachine_hunt (p : Port) (a : Addr) (m : MachineRecord) :
    (hunt p s).setMachine a m = hunt p (s.setMachine a m) := by cases p <;> rfl

@[simp] theorem setQueue_hunt (p : Port) (c : MachineClass) (q : ClaimQueue) :
    (hunt p s).setQueue c q = hunt p (s.setQueue c q) := by cases p <;> cases c <;> rfl

/-- The end of the frame, events and the reply, in one. -/
theorem pushReply_raising_hunt (p : Port) (x : PortReply) (t : State) :
    pushReply p x ((hunt p t).raising bits) = t.answering p x bits := by
  cases p <;> rfl

end

section
variable {c : Instr} {r : Req} {payload bytes : List Byte} {p : Port} {s t : State} {st : Status} {bits : BitVec 7}

/-- A request whose owner changes the room to `t` and raises some events. -/
theorem exec_raising (hr : requestOf c = some (r, payload)) (hp : portOf c = some p) (hs : s.listens p)
    (hright : reqRight p r = true) (hlength : reqLength payload r = true)
    (howner : ownerDecision r p payload (hunt p s) = ⟨(hunt p t).raising bits, st, bytes⟩) :
    exec c s = .next (t.answering p (replyTo (reqCode r) st bytes) bits) := by
  rw [exec_admitted hr hp hs hright hlength, howner, pushReply_raising_hunt]
  rfl

end

/-! ## What the shared operations leave, as whole states -/

section
variable {s : State} {a : Addr}

theorem modifyMachine_eq (a : Addr) (f : MachineRecord → MachineRecord) (s : State) :
    modifyMachine a f s = s.setMachine a (f (s.machine a)) := rfl

theorem moveTo_eq (a : Addr) (st : MachineState) (s : State) :
    moveTo a st s = (s.setMachine a { s.machine a with state := st }).raising (eventBit .machine) := rfl

theorem changeQueue_eq (c : MachineClass) (f : ClaimQueue → ClaimQueue) (s : State) :
    changeQueue c f s = (s.setQueue c (f (s.queue c))).raising (eventBit .machine) := rfl

/-- R129: the hold of a machine placed for an entry. -/
def withHold (a : Addr) (before : List ClaimEntry) (w : ClaimEntry) (rest : List ClaimEntry) (s : State) : State :=
  (s.setQueue (s.classOf a) { s.queue (s.classOf a) with
    entries := before ++ { w with hold := some ⟨a, s.now + s.params.holdWindow⟩, paying := false } :: rest,
    placed := min 65535 ((s.queue (s.classOf a)).placed + 1) }).setMachine a { s.machine a with
      hold := some ⟨w.card, s.now + s.params.holdWindow⟩ }

/-- R129: the oldest entry without a hold receives the machine. -/
theorem placeHold_oldest {before rest : List ClaimEntry} {w : ClaimEntry}
    (hq : (s.queue (s.classOf a)).entries = before ++ w :: rest) (hbefore : ∀ e ∈ before, e.hold.isSome = true)
    (hw : w.hold = none) : placeHold a s = ((withHold a before w rest s).raising (eventBit .machine), true) := by
  have hb : ∀ e ∈ before, e.hold.isNone = false := fun e he => by simpa using hbefore e he
  have hfind := find?_split (p := fun e : ClaimEntry => e.hold.isNone) (x := w) (behind := rest) hb
    (by simp [hw])
  have hgiven := modifyFirst_split (p := fun e : ClaimEntry => e.hold.isNone) (x := w) (behind := rest)
    (fun e => { e with hold := some ⟨a, s.now + s.params.holdWindow⟩, paying := false }) hb (by simp [hw])
  simp only [placeHold, hq, hfind, changeQueue_eq, modifyMachine_eq, raise_eq_raising, hgiven]
  simp [withHold, countUp, addUpTo, Config.largestShort]

/-- R23: a machine offered where no entry waits goes to its resting state. -/
theorem offer_none (h : ∀ e ∈ (s.queue (s.classOf a)).entries, e.hold.isSome = true) :
    offer a s = moveTo a (restingState (s.machine a)) s := by
  simp only [offer, placeHold_none h]

/-- R23, R129: a machine offered where an entry waits is held for the oldest. -/
theorem offer_oldest {before rest : List ClaimEntry} {w : ClaimEntry}
    (hq : (s.queue (s.classOf a)).entries = before ++ w :: rest) (hbefore : ∀ e ∈ before, e.hold.isSome = true)
    (hw : w.hold = none) : offer a s =
      ((withHold a before w rest s).setMachine a { s.machine a with
        state := .held, hold := some ⟨w.card, s.now + s.params.holdWindow⟩ }).raising (eventBit .machine) := by
  simp only [offer, placeHold_oldest hq hbefore hw, moveTo_eq]
  simp [withHold]

/-- R130: a HELD machine whose entry is gone and for which no other waits goes to its resting state. -/
theorem reoffer_none (h : ∀ e ∈ (s.queue (s.classOf a)).entries, e.hold.isSome = true) (hheld : (s.machine a).state = .held) :
    reoffer a s = (s.setMachine a { s.machine a with
      hold := none, state := restingState (s.machine a) }).raising (eventBit .machine) := by
  simp only [reoffer, placeHold_none h, modifyMachine_eq, raise_eq_raising, moveTo_eq]
  simp [hheld, restingState]

/-- R130: a HELD machine whose entry is gone passes to the oldest entry without a hold. -/
theorem reoffer_oldest {before rest : List ClaimEntry} {w : ClaimEntry}
    (hq : (s.queue (s.classOf a)).entries = before ++ w :: rest) (hbefore : ∀ e ∈ before, e.hold.isSome = true)
    (hw : w.hold = none) : reoffer a s = (withHold a before w rest s).raising (eventBit .machine) := by
  simp only [reoffer, placeHold_oldest hq hbefore hw]

end

/-! ## Holds that expire and claims that are cancelled -/

theorem exec_holdDeadline (a : Addr) (s : State) :
    exec (.holdDeadline (addrNum a)) s = .next (holdTimeout a s) := congrArg _ (atAddress_addrNum a _ s)

theorem holdsMachine_iff (a : Addr) (e : ClaimEntry) : holdsMachine a e = true ↔ e.hold.map (·.machine) = some a := by
  unfold holdsMachine
  cases e.hold <;> simp

theorem holdsMachine_eq_false (a : Addr) (e : ClaimEntry) : holdsMachine a e = false ↔ e.hold.map (·.machine) ≠ some a := by
  rw [← Bool.not_eq_true, holdsMachine_iff]

section
variable {s : State} {a : Addr} {before behind : List ClaimEntry} {e : ClaimEntry} {d : Nat}

/-- R130: a hold at its deadline ends with its entry, which is counted, and the machine is offered again. -/
theorem holdTimeout_due (hq : (s.queue (s.classOf a)).entries = before ++ e :: behind) (he : e.hold = some ⟨a, d⟩)
    (hd : d ≤ s.now) (hp : e.paying = false) (hbefore : ∀ x ∈ before, x.hold.map (·.machine) ≠ some a) :
    holdTimeout a s = reoffer a ((s.setQueue (s.classOf a) { s.queue (s.classOf a) with
      entries := before ++ behind,
      expired := min 65535 ((s.queue (s.classOf a)).expired + 1) }).raising (eventBit .machine)) := by
  have hb : ∀ x ∈ before, holdsMachine a x = false := fun x hx => (holdsMachine_eq_false a x).mpr (hbefore x hx)
  have hheld : holdsMachine a e = true := by simp [holdsMachine_iff, he]
  have hdue : due (e.hold.map (·.deadline)) s.now = true := by simp [he, due, hd]
  simp only [holdTimeout, hq, find?_split hb hheld, hdue, hp, expireHold, changeQueue_eq, eraseP_split hb hheld]
  simp [countUp, addUpTo, Config.largestShort]

end

/-! ## Numbers in a payload -/

theorem at1_cons_succ (b : Byte) (bs : List Byte) (i : Nat) : at1 (b :: bs) (i + 1) = at1 bs i := rfl

theorem at2_cons_succ (b : Byte) (bs : List Byte) (i : Nat) : at2 (b :: bs) (i + 1) = at2 bs i := rfl

theorem at4_cons_succ (b : Byte) (bs : List Byte) (i : Nat) : at4 (b :: bs) (i + 1) = at4 bs i := rfl

/-- 3.2: a two-byte number is read back from its bytes. -/
theorem at2_be2 {n : Nat} (h : n < 65536) (bs : List Byte) : at2 (be2 n ++ bs) 0 = n := by
  have hhigh : at1 (be2 n ++ bs) 0 = (byte (n / 256)).toNat := rfl
  have hlow : at1 (be2 n ++ bs) 1 = (byte n).toNat := rfl
  rw [at2, hhigh, hlow, toNat_byte, toNat_byte]
  omega

/-- 3.2: a four-byte number is read back from its bytes. -/
theorem at4_be4 {n : Nat} (h : n < 4294967296) (bs : List Byte) : at4 (be4 n ++ bs) 0 = n := by
  have hhigh : at2 (be4 n ++ bs) 0 = at2 (be2 (n / 65536) ++ (be2 n ++ bs)) 0 := rfl
  have hlow : at2 (be4 n ++ bs) 2 = (byte (n / 256)).toNat * 256 + (byte n).toNat := rfl
  rw [at4, hhigh, hlow, at2_be2 (by omega), toNat_byte, toNat_byte]
  omega

theorem firstPosition_split {α : Type} {p : α → Bool} {before behind : List α} {x : α}
    (hbefore : ∀ y ∈ before, p y = false) (hx : p x = true) :
    firstPosition p (before ++ x :: behind) = some (before.length + 1) := by
  have hnone : before.findIdx? p = none := by simpa using hbefore
  simp [firstPosition, List.findIdx?_append, hnone, List.findIdx?_cons, hx]

/-- Settles O51: the queue of the class, split at the entry that expires or is cancelled. -/
theorem holdsExpireAndClaimsAreCancelled : Obligations.HoldsExpireAndClaimsAreCancelled := by
  intro s c before behind e q hq
  refine ⟨?_, fun hs hcard hbig hbefore => ?_⟩
  · rintro a d rfl he hd hp hbefore hheld hall
    have hexpired := holdTimeout_due hq he hd hp hbefore
    refine ⟨fun hbehind => ?_, fun w rest hw hwhold => ?_⟩
    · rw [exec_holdDeadline, hexpired, reoffer_none (by simpa [or_imp, forall_and] using ⟨hall, hbehind⟩) (by simpa using hheld)]
      simp
      rfl
    · subst hw
      rw [exec_holdDeadline, hexpired, reoffer_oldest (before := before) (w := w) (rest := rest) (by simp) hall hwhold]
      simp [withHold]
      rfl
  · have hcardAt : at4 (byte (classCode c) :: be4 e.card) 1 = e.card := by
      rw [at4_cons_succ, ← List.append_nil (be4 e.card), at4_be4 (by omega)]
    have hclass : classOf (at1 (byte (classCode c) :: be4 e.card) 0) = some c := by cases c <;> rfl
    have hvalid : validCard e.card = true := by simp [validCard]; omega
    have hb : ∀ x ∈ before, (x.card == e.card) = false := by simpa using hbefore
    have hfind := find?_split (p := fun x : ClaimEntry => x.card == e.card) (x := e) (behind := behind) hb (by simp)
    have hpos := firstPosition_split (p := fun x : ClaimEntry => x.card == e.card) (x := e) (behind := behind) hb (by simp)
    have herase := eraseP_split (p := fun x : ClaimEntry => x.card == e.card) (x := e) (behind := behind) hb (by simp)
    refine ⟨fun hp => ?_, fun hp hhold => ?_⟩
    · refine exec_answered (r := .cancelClaim) rfl rfl hs rfl rfl ?_
      simp [ownerDecision, decideCancelClaim, hcardAt, hclass, hvalid, q, hq, hfind, hp, refuse]
    · refine exec_raising (r := .cancelClaim) rfl rfl hs rfl rfl ?_
      simp [ownerDecision, decideCancelClaim, hcardAt, hclass, hvalid, q, hq, hfind, hp, hhold, done, hpos, cancelEntry, herase,
        changeQueue_eq, be1, countUp, addUpTo, Config.largestShort]

end Sys2Proof.Machine

/-! PROOF. Locks, strikes, permits and sessions, as whole states (R47, R48, R144, R145, R147 to R149). -/

namespace Sys2Proof.Machine

section
variable {s : State} {a : Addr} {m : MachineRecord}

/-! ## Events that are raised only for a change -/

/-- The events of a change that raises `e` where a test does not find it made already. -/
def bitsUnless (already : Bool) (e : Event) : BitVec 7 := if already then 0 else eventBit e

@[simp] theorem bitsUnless_true (e : Event) : bitsUnless true e = 0 := rfl
@[simp] theorem bitsUnless_false (e : Event) : bitsUnless false e = eventBit e := rfl

@[simp] theorem bitsUnless_or_self (b : Bool) (e : Event) : bitsUnless b e ||| eventBit e = eventBit e := by
  cases b <;> simp

@[simp] theorem self_or_bitsUnless (b : Bool) (e : Event) : eventBit e ||| bitsUnless b e = eventBit e := by
  cases b <;> simp

/-! ## Locks -/

theorem withLock_self (h : m.lock = .locked) : { m with lock := .locked } = m := by rw [← h]

theorem withPending_self (h : m.lockPending = true) : { m with lockPending := true } = m := by rw [← h]

/-- R47: the lock field of a machine takes LOCKED. -/
theorem setLock_locked (a : Addr) (s : State) : setLock a .locked s =
    (s.setMachine a { s.machine a with lock := .locked }).raising (bitsUnless (decide ((s.machine a).lock = .locked)) .machine) := by
  have hfield : lockField (s.machine a).lock .locked = .locked := by simp [lockField]
  unfold setLock
  rw [hfield]
  by_cases h : (s.machine a).lock = .locked
  · simp [h, withLock_self h]
  · rw [if_neg (fun e => h e.symm), modifyMachine_eq, hfield, raise_eq_raising, decide_eq_false h]
    rfl

/-- R47: lock pending becomes yes. -/
theorem setPending_eq (a : Addr) (s : State) : setPending a s =
    (s.setMachine a { s.machine a with lockPending := true }).raising (bitsUnless (s.machine a).lockPending .machine) := by
  unfold setPending
  by_cases h : (s.machine a).lockPending = true
  · simp [h, withPending_self h]
  · rw [if_neg h, Bool.not_eq_true] at *
    simp [h, modifyMachine_eq, raise_eq_raising]

/-- R134: a machine without a hold has none to give back. -/
theorem handBack_none (h : (s.machine a).hold = none) : handBack a s = s := by simp [handBack, h]

/-- R134: the hold of a machine is given back, and its entry keeps its place. -/
theorem handBack_held {before behind : List ClaimEntry} {e : ClaimEntry}
    (hq : (s.queue (s.classOf a)).entries = before ++ e :: behind) (hhold : (s.machine a).hold.isSome = true)
    (hbefore : ∀ x ∈ before, x.hold.map (·.machine) ≠ some a) (he : e.hold.map (·.machine) = some a) :
    handBack a s = ((s.setQueue (s.classOf a) { s.queue (s.classOf a) with
      entries := before ++ { e with hold := none, paying := false } :: behind }).setMachine a { s.machine a with
        hold := none }).raising (eventBit .machine) := by
  have hb : ∀ x ∈ before, holdsMachine a x = false := fun x hx => (holdsMachine_eq_false a x).mpr (hbefore x hx)
  have hheld : holdsMachine a e = true := (holdsMachine_iff a e).mpr he
  have hgiven := modifyFirst_split (fun e : ClaimEntry => { e with hold := none, paying := false }) hb hheld (behind := behind)
  simp only [handBack, hhold, if_true, changeQueue_eq, hq, hgiven, modifyMachine_eq, raise_eq_raising]
  simp

/-! ## A lock by the state of its machine -/

theorem applyLock_free (h : (s.machine a).state = .idle ∨ (s.machine a).state = .selected) : applyLock a .locked s =
    (s.setMachine a { s.machine a with lock := .locked, state := .outOfService }).raising (eventBit .machine) := by
  unfold applyLock
  rw [setLock_locked]
  rcases h with h | h <;> simp [h, moveTo_eq]

theorem applyLock_still (h : (s.machine a).state = .absent ∨ (s.machine a).state = .outOfService ∨ (s.machine a).state = .paying) :
    applyLock a .locked s = (s.setMachine a { s.machine a with lock := .locked }).raising
      (bitsUnless (decide ((s.machine a).lock = .locked)) .machine) := by
  unfold applyLock
  rw [setLock_locked]
  rcases h with h | h | h <;> simp [h]

theorem applyLock_working (h : (s.machine a).state = .running ∨ (s.machine a).state = .stopping ∨
    (s.machine a).state = .finished ∨ (s.machine a).state = .testing ∨ (s.machine a).state = .service) :
    applyLock a .locked s = (s.setMachine a { s.machine a with lock := .locked, lockPending := true }).raising
      (bitsUnless (decide ((s.machine a).lock = .locked)) .machine ||| bitsUnless (s.machine a).lockPending .machine) := by
  unfold applyLock
  rw [setLock_locked]
  rcases h with h | h | h | h | h <;> simp [h, setPending_eq]

theorem applyLock_held_none (h : (s.machine a).state = .held) (hhold : (s.machine a).hold = none) : applyLock a .locked s =
    (s.setMachine a { s.machine a with lock := .locked, state := .outOfService }).raising (eventBit .machine) := by
  unfold applyLock
  rw [setLock_locked]
  simp [h, handBack_none, hhold, moveTo_eq]

theorem applyLock_held {before behind : List ClaimEntry} {e : ClaimEntry} (h : (s.machine a).state = .held)
    (hq : (s.queue (s.classOf a)).entries = before ++ e :: behind) (hhold : (s.machine a).hold.isSome = true)
    (hbefore : ∀ x ∈ before, x.hold.map (·.machine) ≠ some a) (he : e.hold.map (·.machine) = some a) :
    applyLock a .locked s = ((s.setQueue (s.classOf a) { s.queue (s.classOf a) with
      entries := before ++ { e with hold := none, paying := false } :: behind }).setMachine a { s.machine a with
        lock := .locked, hold := none, state := .outOfService }).raising (eventBit .machine) := by
  have hstate : ((setLock a .locked s).machine a).state = .held := by simp [h]
  have hmove : applyLock a .locked s = moveTo a .outOfService (handBack a (setLock a .locked s)) := by
    unfold applyLock
    simp only [hstate]
  rw [hmove, setLock_locked, handBack_held (before := before) (behind := behind) (e := e) (by simpa using hq)
    (by simpa using hhold) hbefore he, moveTo_eq]
  simp

/-! ## Requests for a configured machine -/

theorem exec_lock {t : State} {bits : BitVec 7} (hs : s.listens .operator) (hc : s.configured a = true)
    (h : applyLock a .locked (hunt .operator s) = (hunt .operator t).raising bits) :
    exec (.lock .operator [byte (addrNum a)]) s = .next (t.answering .operator
      (replyTo 0x30 (if lockAtOnce (s.machine a).state then .ok else .accepted) []) bits) := by
  refine exec_raising (r := .lock) rfl rfl hs rfl rfl ?_
  rw [ownerDecision, decideLock, withConfigured_addrNum (hunt_configured _ s a hc), h, hunt_machine]

theorem decideUnlock_configured (hc : s.configured a = true) : decideUnlock [byte (addrNum a)] s =
    done [] (raise .machine (if (s.machine a).lock = .none then modifyMachine a (fun m => { m with strikes := 0 }) s
      else applyUnlock a (modifyMachine a (fun m => { m with strikes := 0 }) s))) := withConfigured_addrNum hc _

/-- R145: an unlocked machine that is not locked has its strikes cleared. -/
theorem exec_unlock_none (hs : s.listens .operator) (hc : s.configured a = true) (h : (s.machine a).lock = .none) :
    exec (.unlock .operator [byte (addrNum a)]) s = .next (State.answering (s.setMachine a { s.machine a with strikes := 0 })
      .operator (replyTo 0x31 .ok []) (eventBit .machine)) := by
  refine exec_raising (r := .unlock) rfl rfl hs rfl rfl ?_
  rw [ownerDecision, decideUnlock_configured (hunt_configured _ s a hc), hunt_machine, if_pos h]
  simp [modifyMachine_eq, raise_eq_raising, done]

/-- R48, R145: the record of a machine as an unlock leaves it before it is released to the room. -/
def unlockedRecord (m : MachineRecord) : MachineRecord := { m with lock := .none, lockPending := false, strikes := 0 }

theorem exec_unlock_locked {t : State} (hs : s.listens .operator) (hc : s.configured a = true)
    (h : (s.machine a).lock ≠ .none)
    (ht : (if (s.machine a).state = .outOfService then
        releaseToRoom a ((hunt .operator (s.setMachine a (unlockedRecord (s.machine a)))).raising (eventBit .machine))
      else (hunt .operator (s.setMachine a (unlockedRecord (s.machine a)))).raising (eventBit .machine)) =
        (hunt .operator t).raising (eventBit .machine)) :
    exec (.unlock .operator [byte (addrNum a)]) s = .next (t.answering .operator (replyTo 0x31 .ok []) (eventBit .machine)) := by
  refine exec_raising (r := .unlock) rfl rfl hs rfl rfl ?_
  rw [ownerDecision, decideUnlock_configured (hunt_configured _ s a hc), hunt_machine, if_neg h]
  have hunlocked : applyUnlock a (modifyMachine a (fun m => { m with strikes := 0 }) (hunt .operator s)) =
      (hunt .operator t).raising (eventBit .machine) := by
    rw [← ht, applyUnlock, modifyMachine_eq, modifyMachine_eq, raise_eq_raising]
    simp [unlockedRecord]
  rw [hunlocked, raise_eq_raising, raising_raising, BitVec.or_self]
  rfl

theorem exec_clearStrikes (hs : s.listens .operator) : exec (.clearStrikes .operator [byte (addrNum a)]) s =
    .next (State.answering (s.setMachine a { s.machine a with strikes := 0 }) .operator (replyTo 0x32 .ok [])
      (bitsUnless (decide ((s.machine a).strikes = 0)) .machine)) := by
  refine exec_raising (r := .clearStrikes) rfl rfl hs rfl rfl ?_
  rw [ownerDecision, decideClearStrikes, withAddress_addrNum, hunt_machine]
  rcases Nat.eq_zero_or_pos (s.machine a).strikes with h | h
  · simp [done, raiseIf, h, modifyMachine_eq]
  · simp [done, raiseIf, h, Nat.ne_of_gt h, modifyMachine_eq, raise_eq_raising]

theorem exec_grantPermit (hs : s.listens .operator) (hc : s.configured a = true) :
    exec (.grantPermit .operator [byte (addrNum a)]) s = .next (State.answering (s.setMachine a { s.machine a with permit := true })
      .operator (replyTo 0x33 .ok []) (eventBit .machine)) := by
  refine exec_raising (r := .grantPermit) rfl rfl hs rfl rfl ?_
  rw [ownerDecision, decidePermit, withConfigured_addrNum (hunt_configured _ s a hc)]
  simp [modifyMachine_eq, raise_eq_raising, done]

/-! ## Release to the room -/

theorem releaseToRoom_locked (h : (s.machine a).lock ≠ .none) : releaseToRoom a s =
    (s.setMachine a { s.machine a with lockPending := false, state := .outOfService }).raising (eventBit .machine) := by
  unfold releaseToRoom
  rw [if_pos h]
  simp [moveTo_eq, modifyMachine_eq]

/-- R23, R49: an unlocked machine is not offered in a halted room, and goes to its resting state where no entry waits. -/
theorem releaseToRoom_resting (h : (s.machine a).lock = .none)
    (hrest : s.halted = true ∨ ∀ e ∈ (s.queue (s.classOf a)).entries, e.hold.isSome = true) : releaseToRoom a s =
    (s.setMachine a { s.machine a with state := restingState (s.machine a) }).raising (eventBit .machine) := by
  unfold releaseToRoom
  rw [if_neg (not_not.mpr h)]
  split
  · rfl
  · next hrun => exact offer_none (hrest.resolve_left hrun)

/-- R23, R129: in a running room an unlocked machine is held for the oldest entry without a hold. -/
theorem releaseToRoom_oldest {before rest : List ClaimEntry} {w : ClaimEntry} (h : (s.machine a).lock = .none)
    (hrun : s.halted = false) (hq : (s.queue (s.classOf a)).entries = before ++ w :: rest)
    (hbefore : ∀ e ∈ before, e.hold.isSome = true) (hw : w.hold = none) : releaseToRoom a s =
      ((withHold a before w rest s).setMachine a { s.machine a with
        state := .held, hold := some ⟨w.card, s.now + s.params.holdWindow⟩ }).raising (eventBit .machine) := by
  unfold releaseToRoom
  rw [if_neg (not_not.mpr h), if_neg (by rw [hrun]; decide), offer_oldest hq hbefore hw]

/-- R23: the resting state, by the panel and the door. -/
theorem restingState_ite (m : MachineRecord) : restingState m =
    if m.selection.isSome = true ∧ (m.door = some .closed ∨ m.door = some .locked) then .selected else .idle := by
  have hdoor : doorClosed m.door = true ↔ m.door = some .closed ∨ m.door = some .locked := by
    rcases m.door with _ | d
    · simp [doorClosed]
    · cases d <;> simp [doorClosed]
  simp only [restingState, Bool.and_eq_true, hdoor]

end

/-- Settles O53: a lock by the state of its machine, an unlock by whether a lock is there and where the machine stands. -/
theorem locksStrikesAndPermits : Obligations.LocksStrikesAndPermits := by
  intro s a hs hc m q lock unlock leaves answers unlocked
  have hm : (hunt .operator s).machine a = m := hunt_machine ..
  have hlock : ∀ t bits st, applyLock a .locked (hunt .operator s) = (hunt .operator t).raising bits →
      (if lockAtOnce m.state then Status.ok else .accepted) = st →
      lock = .next (t.answering .operator (replyTo 0x30 st []) bits) := fun t bits st h hst => hst ▸ exec_lock hs hc h
  refine ⟨fun h => ?_, fun h => ?_, fun h => ?_, fun h => ?_, fun h hhold => ?_, fun before e behind h hhold hq hbefore he => ?_,
    exec_unlock_none hs hc, fun hl h => ?_, fun hl h hrest => ?_, fun before e behind hl h hrun hq hbefore he => ?_,
    fun h => ?_, fun h => ?_, exec_grantPermit hs hc⟩
  · refine hlock _ _ _ ((applyLock_free (by simpa using h)).trans ?_) (by rcases h with h | h <;> simp [h, lockAtOnce])
    simp [m]
  · have hstill := applyLock_still (s := hunt .operator s) (a := a) (by rw [hm]; tauto)
    have hst : lockAtOnce m.state = true := by rcases h with h | h <;> simp [h, lockAtOnce]
    refine ⟨fun hl => hlock _ _ _ (hstill.trans ?_) (if_pos hst), fun hl => hlock _ _ _ (hstill.trans ?_) (if_pos hst)⟩
    · simp [m, show (s.machine a).lock ≠ .locked from hl]
    · simp [withLock_self (m := s.machine a) hl, show (s.machine a).lock = .locked from hl]
  · have hstill := applyLock_still (s := hunt .operator s) (a := a) (by rw [hm]; tauto)
    have hst : ¬ lockAtOnce m.state = true := by simp [h, lockAtOnce]
    refine ⟨fun hl => hlock _ _ _ (hstill.trans ?_) (if_neg hst), fun hl => hlock _ _ _ (hstill.trans ?_) (if_neg hst)⟩
    · simp [m, show (s.machine a).lock ≠ .locked from hl]
    · simp [withLock_self (m := s.machine a) hl, show (s.machine a).lock = .locked from hl]
  · have hworking := applyLock_working (s := hunt .operator s) (a := a) (by rw [hm]; exact h)
    have hst : ¬ lockAtOnce m.state = true := by rcases h with h | h | h | h | h <;> simp [h, lockAtOnce]
    refine ⟨fun hl => hlock _ _ _ (hworking.trans ?_) (if_neg hst), fun hl hp => hlock _ _ _ (hworking.trans ?_) (if_neg hst)⟩
    · simp [m, show (s.machine a).lock ≠ .locked from hl]
    · have hsame : { s.machine a with lock := .locked, lockPending := true } = s.machine a := by
        rw [← show (s.machine a).lock = .locked from hl, ← show (s.machine a).lockPending = true from hp]
      simp [hsame, show (s.machine a).lock = .locked from hl, show (s.machine a).lockPending = true from hp]
  · refine hlock _ _ _ ((applyLock_held_none (by rw [hm]; exact h) (by rw [hm]; exact hhold)).trans ?_) (by simp [h, lockAtOnce])
    simp [m]
  · refine hlock _ _ _ ((applyLock_held (before := before) (behind := behind) (e := e) (by rw [hm]; exact h) (by simpa using hq)
      (by rw [hm]; exact hhold) hbefore he).trans ?_) (by simp [h, lockAtOnce])
    simp [m, q]
  · exact exec_unlock_locked hs hc hl (if_neg h)
  · refine exec_unlock_locked hs hc hl ((if_pos h).trans ((releaseToRoom_resting ?_ ?_).trans ?_))
    · simp [unlockedRecord]
    · simpa using hrest
    · simp [unlockedRecord, restingState_ite, unlocked, m]
  · refine exec_unlock_locked hs hc hl ((if_pos h).trans ((releaseToRoom_oldest (before := before) (rest := behind) (w := e)
      ?_ ?_ ?_ hbefore he).trans ?_))
    · simp [unlockedRecord]
    · simpa using hrun
    · simpa using hq
    · simp [unlockedRecord, withHold, unlocked, m, q]
  · refine (exec_clearStrikes hs).trans ?_
    rw [decide_eq_false (Nat.ne_of_gt h)]
    rfl
  · have hsame : { s.machine a with strikes := 0 } = s.machine a := by rw [← show (s.machine a).strikes = 0 from h]
    refine (exec_clearStrikes hs).trans ?_
    rw [decide_eq_true h, hsame, setMachine_machine_self]
    rfl

/-! ## Sessions -/

section
variable {s : State} {a : Addr} {bytes : List Byte} {st : Status}

theorem decideEnter_configured (hc : s.configured a = true) : decideEnter [byte (addrNum a)] s =
    if !(s.machine a).permit then refuse .notPermitted s
    else if s.halted then refuse .badState s
    else if s.session.isSome then refuse .busy s
    else if ((s.machine a).state = .idle ∨ (s.machine a).state = .outOfService) ∧ (s.machine a).payment.isNone then
      done [] (openSession a s)
    else refuse .badState s := withConfigured_addrNum hc _

/-- R148: a session opened on a machine, with the end of its frame and its events behind it. -/
theorem openSession_hunt (p : Port) (a : Addr) (s : State) : openSession a (hunt p s) =
    (hunt p (State.setMachine { s with session := some ⟨a, s.now, false, none, none, 0⟩ } a
      { s.machine a with state := .service })).raising (eventBit .machine ||| eventBit .test) := by
  have hopen : openSession a (hunt p s) = (((hunt p { s with session := some ⟨a, s.now, false, none, none, 0⟩ }).setMachine a
      { s.machine a with state := .service }).raising (eventBit .machine)).raising (eventBit .test) := by
    rw [← hunt_machine p s a, ← hunt_now p s]
    cases p <;> rfl
  rw [hopen, setMachine_hunt, raising_raising]

theorem exec_enterService (hs : s.listens .service) (hc : s.configured a = true)
    (h : decideEnter [byte (addrNum a)] (hunt .service s) = refuse st (hunt .service s)) :
    exec (.enterService .service [byte (addrNum a)]) s = .next (s.answering .service (replyTo 0x70 st []) 0) :=
  exec_answered (r := .enterService) rfl rfl hs rfl rfl h

/-- R149: the session of a locked machine in SERVICE ends, the permit is spent, and the machine goes to OUT_OF_SERVICE. -/
theorem endSession_locked {x : Session} (p : Port) (hx : s.session = some x) (hstate : (s.machine x.machine).state = .service)
    (hlock : (s.machine x.machine).lock ≠ .none) : endSession (hunt p s) =
    (hunt p (State.setMachine { s with session := none } x.machine { s.machine x.machine with
      permit := false, lockPending := false, state := .outOfService })).raising (eventBit .machine ||| eventBit .test) := by
  have hspent : raise .test (raise .machine (modifyMachine x.machine (fun m => { m with permit := false })
      { hunt p s with session := none })) =
      (hunt p (State.setMachine { s with session := none } x.machine { s.machine x.machine with permit := false })).raising
        (eventBit .machine ||| eventBit .test) := by
    rw [← raising_raising, ← setMachine_hunt]
    cases p <;> rfl
  have hend : endSession (hunt p s) = releaseToRoom x.machine
      ((hunt p (State.setMachine { s with session := none } x.machine { s.machine x.machine with permit := false })).raising
        (eventBit .machine ||| eventBit .test)) := by
    rw [← hspent]
    unfold endSession
    simp only [hunt_session, hx]
    refine if_pos ?_
    rw [hspent]
    simpa using hstate
  have hbits : (eventBit .machine ||| eventBit .test) ||| eventBit .machine = eventBit .machine ||| eventBit .test := rfl
  rw [hend, releaseToRoom_locked (by simpa using hlock), setMachine_raising, raising_raising, hbits, setMachine_hunt]
  simp

end

/-- Settles O54: ENTER_SERVICE by the first test that fails, and EXIT_SERVICE by what the session has in hand. -/
theorem sessionsOpenAndEnd : Obligations.SessionsOpenAndEnd := by
  intro s a hs hc m enter refused
  have hdecide := decideEnter_configured (hunt_configured .service s a hc)
  simp only [hunt_machine, hunt_halted, hunt_session] at hdecide
  refine ⟨fun hp => ?_, fun hp hh => ?_, fun hp hh hx => ?_, fun hp hh hx hpay hst => ?_, fun hx => ?_,
    fun x hx hxa hclosing hphase hrun hst hl => ?_⟩
  · exact exec_enterService hs hc (hdecide.trans (by simp [show (s.machine a).permit = false from hp]))
  · exact exec_enterService hs hc (hdecide.trans (by simp [show (s.machine a).permit = true from hp, hh]))
  · exact exec_enterService hs hc (hdecide.trans (by simp [show (s.machine a).permit = true from hp, hh, hx]))
  · refine exec_raising (r := .enterService) rfl rfl hs rfl rfl (hdecide.trans ?_)
    rw [openSession_hunt]
    simp [show (s.machine a).permit = true from hp, hh, hx, show (s.machine a).payment = none from hpay,
      show (s.machine a).state = .idle ∨ (s.machine a).state = .outOfService from hst, done, m]
  · refine exec_answered (r := .exitService) rfl rfl hs rfl rfl ?_
    simp [ownerDecision, decideExit, hx, refuse]
  · subst hxa
    refine exec_raising (r := .exitService) rfl rfl hs rfl rfl ?_
    have hexit : decideExit (hunt .service s) = done [] (endSession (hunt .service s)) := by
      simp [decideExit, hx, hclosing, hphase, show (s.machine x.machine).testRun = none from hrun]
    rw [ownerDecision, hexit, endSession_locked .service hx hst hl]
    rfl

end Sys2Proof.Machine

/-! PROOF. Charges and refunds by their formulas (R106 to R108, R110 to R112). -/

namespace Sys2Proof.Machine

/-! ## Weights -/

theorem weightSum_eq_sum (es : List PlanEntry) : weightSum es = (es.map (·.weight)).sum := by
  induction es with
  | nil => rfl
  | cons e es ih => rw [weightSum, ih, List.map_cons, List.sum_cons]

/-- The weights of a phase and of those behind it are part of the plan's. -/
theorem weightSum_from (plan : List PlanEntry) (i : Nat) :
    ((plan[i]?).map (·.weight)).getD 0 + weightSum (plan.drop (i + 1)) ≤ weightSum plan := by
  induction plan generalizing i with
  | nil => simp [weightSum]
  | cons e es ih =>
    cases i with
    | zero => simp [weightSum]
    | succ i =>
      have := ih i
      simp only [List.getElem?_cons_succ, List.drop_succ_cons, weightSum] at *
      omega

/-- R111: the weights a refund counts are part of the plan's, so no refund exceeds the charge. -/
theorem charge_mul_div_le {charge part whole : Nat} (h : part ≤ whole) : charge * part / whole ≤ charge := by
  refine Nat.div_le_of_le_mul ?_
  rw [Nat.mul_comm whole]
  exact Nat.mul_le_mul_left charge h

section
variable (plan : List PlanEntry) (index charge : Nat) (ever : Bool) (cause : StopCause)

theorem washerRefund_le : washerRefund plan index ever charge cause ≤ charge := by
  have hfrom := weightSum_from plan index
  refine charge_mul_div_le ?_
  have hstarted : (if ever = true then 0 else ((plan[index]?).map (·.weight)).getD 0) +
      (if ever = true then ((plan[index]?).map (·.weight)).getD 0 else 0) = ((plan[index]?).map (·.weight)).getD 0 := by
    cases ever <;> simp
  split <;> omega

/-- R111: the resident's own stop gives back no more than another stop. -/
theorem washerRefund_user_le : washerRefund plan index ever charge .user ≤ washerRefund plan index ever charge cause := by
  refine Nat.div_le_div_right (Nat.mul_le_mul_left charge ?_)
  by_cases h : cause = .user
  · rw [h]
  · rw [if_pos rfl, if_neg h]
    exact Nat.le_add_right _ _

/-- R111: before anything ran the whole charge comes back. -/
theorem washerRefund_whole (h : 0 < weightSum plan) : washerRefund plan 0 false charge cause = charge := by
  have hall : weightSum (plan.drop 1) + ((plan[0]?).map (·.weight)).getD 0 = weightSum plan := by
    cases plan with
    | nil => rfl
    | cons e es => simp [weightSum, Nat.add_comm]
  have heq : washerRefund plan 0 false charge cause = charge * weightSum plan / weightSum plan := by
    simp only [washerRefund, Bool.false_eq_true, if_false, Nat.add_zero, ite_self, Nat.zero_add, hall]
  rw [heq, Nat.mul_div_cancel _ h]

end

/-- R111: a washer's refund in its current phase. -/
theorem refundOf_washer {c : Cycle} {past todo : List PlanEntry} {e : PlanEntry} (hplan : c.plan = past ++ e :: todo)
    (hindex : c.index = past.length) (cause : StopCause) : refundOf .washer c cause =
      c.chargeTotal * (if cause = .user then weightSum todo + (if c.everActive then 0 else e.weight)
        else weightSum todo + (if c.everActive then 0 else e.weight) + if c.everActive then e.weight else 0) / weightSum c.plan := by
  have hcurrent : c.plan[c.index]? = some e := by simp [hplan, hindex]
  have hafter : c.plan.drop (c.index + 1) = todo := by simp [hplan, hindex]
  simp only [refundOf, washerRefund, hcurrent, hafter, Option.map_some, Option.getD_some]

/-- R112: a dryer's refund in its current phase. -/
theorem refundOf_dryer {c : Cycle} {past todo : List PlanEntry} {e : PlanEntry} (hplan : c.plan = past ++ e :: todo)
    (hindex : c.index = past.length) (cause : StopCause) : refundOf .dryer c cause =
      if cause = .user then 0 else c.chargeTotal * (if e.kind = .cool then 0 else c.remaining) / c.paidTotal := by
  have hcurrent : c.plan[c.index]? = some e := by simp [hplan, hindex]
  simp [refundOf, dryerRefund, Cycle.kind, Cycle.entry, hcurrent]

theorem dryerRefund_le (cool : Bool) (charge : Nat) {remaining paid : Nat} (cause : StopCause) (h : remaining ≤ paid) :
    dryerRefund cool charge remaining paid cause ≤ charge := by
  unfold dryerRefund
  split
  · exact Nat.zero_le _
  · refine charge_mul_div_le ?_
    split <;> omega

/-! ## Discounts and purchases -/

theorem discounted_le (amount d : Nat) : discounted amount d ≤ amount := Nat.sub_le _ _

/-- R106: the discount is rounded down, so at least the undiscounted share is charged. -/
theorem le_discounted {d : Nat} (amount : Nat) (h : d ≤ 100) : amount * (100 - d) ≤ discounted amount d * 100 := by
  have hle : amount * d ≤ amount * 100 := Nat.mul_le_mul_left amount h
  rw [discounted, Nat.mul_sub]
  omega

theorem half_le_discounted {d : Nat} (amount : Nat) (h : d ≤ 50) : (amount + 1) / 2 ≤ discounted amount d := by
  have hle : amount * d ≤ amount * 50 := Nat.mul_le_mul_left amount h
  rw [discounted]
  omega

theorem clampSteps_le (steps : Nat) : clampSteps steps ≤ 180 := by
  unfold clampSteps
  omega

/-- R107, R108: what is granted when something is. -/
theorem dryerPurchase_eq_some {p : DryProfile} {k d : Nat} {x : Purchase} (h : dryerPurchase p k d = some x) :
    1 ≤ k ∧ x.charge ≤ k * p.stepPrice ∧ x.minutes = k * p.stepMinutes ∧ x.seconds = k * p.stepMinutes * 60 := by
  unfold dryerPurchase at h
  split at h
  · exact absurd h nofun
  · next hk =>
    cases h
    exact ⟨Nat.pos_of_ne_zero hk, discounted_le _ _, rfl, rfl⟩

theorem dryerStart_bounds {p : DryProfile} {steps d : Nat} {x : Purchase} (hstep : 1 ≤ p.stepMinutes) (hprice : p.stepPrice ≤ 500)
    (hmax : p.maxMinutes ≤ 180) (h : dryerStart p steps d = some x) :
    1 ≤ x.minutes ∧ x.minutes ≤ 180 ∧ 60 ≤ x.seconds ∧ x.seconds ≤ p.maxMinutes * 60 ∧ x.charge ≤ 90000 := by
  obtain ⟨hk, hcharge, hminutes, hseconds⟩ := dryerPurchase_eq_some h
  generalize hgranted : min (clampSteps steps) (p.maxMinutes / p.stepMinutes) = k at *
  have hkeyed : k ≤ 180 := hgranted ▸ (Nat.min_le_left _ _).trans (clampSteps_le steps)
  have hroom : k * p.stepMinutes ≤ p.maxMinutes :=
    (Nat.mul_le_mul_right _ (hgranted ▸ Nat.min_le_right _ _)).trans (Nat.div_mul_le_self _ _)
  have hone : 1 * 1 ≤ k * p.stepMinutes := Nat.mul_le_mul hk hstep
  have hcost : k * p.stepPrice ≤ 180 * 500 := Nat.mul_le_mul hkeyed hprice
  omega

theorem dryerTopUp_bounds {p : DryProfile} {steps d remaining paid : Nat} {x : Purchase} (hstep : 1 ≤ p.stepMinutes)
    (h : dryerTopUp p remaining paid steps d = some x) :
    remaining + x.seconds ≤ p.maxMinutes * 60 ∧ paid + x.seconds ≤ 10800 := by
  obtain ⟨hk, -, hminutes, hseconds⟩ := dryerPurchase_eq_some h
  generalize hgranted : min (clampSteps steps)
    (min (p.maxMinutes * 60 - remaining) (10800 - paid) / (p.stepMinutes * 60)) = k at *
  have hroom : k * (p.stepMinutes * 60) ≤ min (p.maxMinutes * 60 - remaining) (10800 - paid) :=
    (Nat.mul_le_mul_right _ (hgranted ▸ Nat.min_le_right _ _)).trans (Nat.div_mul_le_self _ _)
  have hone : 1 * 1 ≤ k * p.stepMinutes := Nat.mul_le_mul hk hstep
  rw [← Nat.mul_assoc] at hroom
  omega

/-- Settles O49: each formula, and the bounds its terms give. -/
theorem refundsNeverExceedTheCharge : Obligations.RefundsNeverExceedTheCharge := by
  refine ⟨fun c past todo e cause hplan hindex => ?_, washerRefund_le, washerRefund_user_le,
    fun plan charge cause h => washerRefund_whole plan charge cause (weightSum_eq_sum plan ▸ h),
    fun cool charge remaining paid cause h => dryerRefund_le cool charge cause h,
    fun amount d h => ⟨rfl, discounted_le amount d, le_discounted amount h⟩,
    fun p d h => ⟨rfl, half_le_discounted p.price h⟩,
    fun p steps d remaining paid hstep hprice hmax => ⟨rfl, rfl, fun x hx => dryerStart_bounds hstep hprice hmax hx,
      fun x hx => dryerTopUp_bounds hstep hx⟩⟩
  simp only [← weightSum_eq_sum]
  exact ⟨refundOf_washer hplan hindex cause, refundOf_dryer hplan hindex cause⟩

end Sys2Proof.Machine

/-! PROOF. The refund table and the audit totals as whole states, and the operator's requests on them (R114 to R120, R123). -/

namespace Sys2Proof.Machine

/-! ## Table and totals -/

/-- The part with its refund table and its audit totals replaced. -/
def State.withMoney (s : State) (refunds : List RefundEntry) (audit : Audit) : State :=
  { s with refunds := refunds, audit := audit }

section
variable (s : State) (es fs : List RefundEntry) (x y : Audit)

@[simp] theorem withMoney_refunds : (s.withMoney es x).refunds = es := rfl
@[simp] theorem withMoney_audit : (s.withMoney es x).audit = x := rfl
@[simp] theorem withMoney_now : (s.withMoney es x).now = s.now := rfl
@[simp] theorem withMoney_params : (s.withMoney es x).params = s.params := rfl
@[simp] theorem withMoney_machine (a : Addr) : (s.withMoney es x).machine a = s.machine a := rfl
@[simp] theorem withMoney_station (i : StationId) : (s.withMoney es x).station i = s.station i := by cases i <;> rfl
@[simp] theorem withMoney_self : s.withMoney s.refunds s.audit = s := rfl
@[simp] theorem withMoney_withMoney : (s.withMoney es x).withMoney fs y = s.withMoney fs y := rfl
@[simp] theorem withMoney_raising (bits : BitVec 7) : (s.raising bits).withMoney es x = (s.withMoney es x).raising bits := rfl
@[simp] theorem withMoney_hunt (p : Port) : (hunt p s).withMoney es x = hunt p (s.withMoney es x) := by cases p <;> rfl
@[simp] theorem raising_audit (bits : BitVec 7) : (s.raising bits).audit = s.audit := rfl
@[simp] theorem hunt_audit (p : Port) : (hunt p s).audit = s.audit := by cases p <;> rfl
@[simp] theorem hunt_station (p : Port) (i : StationId) : (hunt p s).station i = s.station i := setPort_station ..
@[simp] theorem setStation_hunt (p : Port) (i : StationId) (z : Station) :
    (hunt p s).setStation i z = hunt p (s.setStation i z) := by cases p <;> cases i <;> rfl
@[simp] theorem withMoney_setStation (i : StationId) (z : Station) :
    (s.setStation i z).withMoney es x = (s.withMoney es x).setStation i z := by cases i <;> rfl

theorem modifyAudit_eq (f : Audit → Audit) : modifyAudit f s = s.withMoney s.refunds (f s.audit) := rfl

theorem modifyRefunds_eq (f : List RefundEntry → List RefundEntry) :
    modifyRefunds f s = (s.withMoney (f s.refunds) s.audit).raising (eventBit .payment) := rfl

theorem addTotal_eq (n k : Nat) : addTotal n k = min 999999999999 (n + k) := rfl

end

section
variable {s : State} {card amount machine : Nat} {before behind : List RefundEntry} {e : RefundEntry}

/-! ## The entry of a card -/

theorem refund_eq_none (h : ∀ e ∈ s.refunds, e.card ≠ card) : s.refund card = none := by
  simpa [State.refund, refundFor] using h

theorem refundFor_before (hbefore : ∀ y ∈ before, y.card ≠ card) : ∀ y ∈ before, refundFor card y = false := by
  simpa [refundFor] using hbefore

theorem refundFor_self (he : e.card = card) : refundFor card e = true := by simp [refundFor, he]

theorem refund_eq_some (hs : s.refunds = before ++ e :: behind) (he : e.card = card) (hbefore : ∀ y ∈ before, y.card ≠ card) :
    s.refund card = some e := by
  rw [State.refund, hs, find?_split (refundFor_before hbefore) (refundFor_self he)]

/-- R114: the entry of a card changed. -/
theorem updateRefund_eq (f : RefundEntry → RefundEntry) (hs : s.refunds = before ++ e :: behind) (he : e.card = card)
    (hbefore : ∀ y ∈ before, y.card ≠ card) :
    updateRefund card f s = (s.withMoney (before ++ f e :: behind) s.audit).raising (eventBit .payment) := by
  rw [updateRefund, modifyRefunds_eq, hs, modifyFirst_split f (refundFor_before hbefore) (refundFor_self he)]

/-- R114: the entry of a card removed. -/
theorem removeRefund_eq (hs : s.refunds = before ++ e :: behind) (he : e.card = card) (hbefore : ∀ y ∈ before, y.card ≠ card) :
    removeRefund card s = (s.withMoney (before ++ behind) s.audit).raising (eventBit .payment) := by
  rw [removeRefund, modifyRefunds_eq, hs, eraseP_split (refundFor_before hbefore) (refundFor_self he)]

/-! ## Placements -/

theorem unplaced_zero (card machine : Nat) (s : State) : unplaced card 0 machine s = s := rfl

/-- R115: a new entry that holds the whole amount. -/
theorem mergeRefund_new (hnone : s.refund card = none) (hroom : s.refunds.length < 32) (hamount : amount ≤ 50000) :
    mergeRefund card amount machine s = (s.withMoney (s.refunds ++ [⟨freePosition s.refunds, card, amount, .ready, false, none,
      s.now⟩]) s.audit).raising (eventBit .payment) := by
  have hexcess : amount - Config.largestValue = 0 := Nat.sub_eq_zero_of_le hamount
  have hheld : min Config.largestValue amount = amount := Nat.min_eq_right hamount
  simp only [mergeRefund, hnone, if_pos (show s.refunds.length < Config.refundEntries from hroom), hexcess, unplaced_zero,
    modifyRefunds_eq, hheld]

/-- R115: an amount that the card's entry can hold merges into it. -/
theorem mergeRefund_found (hs : s.refunds = before ++ e :: behind) (he : e.card = card) (hbefore : ∀ y ∈ before, y.card ≠ card)
    (hamount : e.amount + amount ≤ 50000) : mergeRefund card amount machine s =
      (s.withMoney (before ++ { e with amount := e.amount + amount } :: behind) s.audit).raising (eventBit .payment) := by
  have hexcess : e.amount + amount - Config.largestValue = 0 := Nat.sub_eq_zero_of_le hamount
  have hheld : min Config.largestValue (e.amount + amount) = e.amount + amount := Nat.min_eq_right hamount
  simp only [mergeRefund, refund_eq_some hs he hbefore, hexcess, unplaced_zero, updateRefund_eq _ hs he hbefore, hheld]

theorem settleIfReady_other {i : StationId} (h : (s.station i).card ≠ some card) : settleIfReady i card s = s :=
  if_neg fun hready => h hready.2

/-- R115: of a placement for a card at no station the Purse Engine has nothing to do. -/
theorem tellPlacement_away (h : ∀ i, (s.station i).card ≠ some card) : tellPlacement card s = s := by
  rw [tellPlacement, settleIfReady_other (h .a), settleIfReady_other (h .b)]

/-- R90: a placement for a card that stands CARD_READY at a station settles it there. -/
theorem tellPlacement_at {i : StationId} (hready : (s.station i).state = .cardReady) (hcard : (s.station i).card = some card)
    (hother : ∀ j, j ≠ i → ((settleRecord i s).station j).card ≠ some card ∧ (s.station j).card ≠ some card) :
    tellPlacement card s = settleRecord i s := by
  have hsettle : settleIfReady i card s = settleRecord i s := if_pos ⟨hready, hcard⟩
  cases i with
  | a => rw [tellPlacement, hsettle, settleIfReady_other (hother .b (by decide)).1]
  | b => rw [tellPlacement, settleIfReady_other (hother .a (by decide)).2, hsettle]

/-- R90, R91: a record with a READY refund of its card below the ceiling begins its credit. -/
def crediting (s : State) (i : StationId) (slot : Slot) (amount : Nat) : Station := { s.station i with
  state := .crediting, request := some .credit, target := none, amount := min amount (s.params.ceiling - (s.station i).pair.value),
  seconds := 0, minutes := 0, writing := some (if slot = .a then .b else .a), oldPair := (s.station i).pair,
  expectedPair := ⟨((s.station i).pair.sequence + 1) % 65536,
    (s.station i).pair.value + min amount (s.params.ceiling - (s.station i).pair.value)⟩,
  attempt := 1, begun := false }

theorem otherSlot_ite (slot : Slot) : otherSlot slot = if slot = .a then .b else .a := by cases slot <;> rfl

theorem settleRecord_credits {i : StationId} {slot : Slot} (hs : s.refunds = before ++ e :: behind) (he : e.card = card)
    (hbefore : ∀ y ∈ before, y.card ≠ card) (hready : e.state = .ready) (hcard : (s.station i).card = some card)
    (hslot : (s.station i).slot = some slot) (hceiling : (s.station i).pair.value < s.params.ceiling) :
    settleRecord i s = (s.withMoney (before ++ { e with
      inProgress := true, pairs := some ((s.station i).pair, (crediting s i slot e.amount).expectedPair) } :: behind)
        s.audit).setStation i (crediting s i slot e.amount) := by
  subst he
  have hfound : (s.station i).card.bind s.refund = some e := by simp [hcard, refund_eq_some hs rfl hbefore]
  have hsettle : settleRecord i s = beginCredit i e s := by
    unfold settleRecord
    simp only [hfound]
    exact if_pos ⟨hready, hceiling⟩
  have hmarked := modifyFirst_split (fun x : RefundEntry => { x with
    inProgress := true, pairs := some ((s.station i).pair, (crediting s i slot e.amount).expectedPair) })
    (refundFor_before hbefore) (refundFor_self (e := e) rfl) (behind := behind)
  rw [hsettle, ← hmarked, ← hs, beginCredit]
  simp only [hslot, Option.map_some, otherSlot_ite, crediting, nextSequence]
  cases i <;> rfl

end

end Sys2Proof.Machine

/-! PROOF. ADD_REFUND, CANCEL_REFUND, CONFIRM_REFUND and CLEAR_AUDIT (R118 to R120, R123). -/

namespace Sys2Proof.Machine

section
variable {s : State} {card amount machine asked : Nat} {before behind : List RefundEntry} {e : RefundEntry} {p : Port}

/-- R114: the position of a new entry is the lowest that is free. -/
theorem freePosition_least {es : List RefundEntry} {n : Nat} (hlen : es.length < 32) (hn : n < freePosition es) :
    ∃ e ∈ es, e.position = n := by
  have hfree := (freePosition_free hlen).1
  by_contra hnone
  have hfind : (List.range 32).find? (fun n => es.all (fun e => e.position != n)) = some (freePosition es) := by
    cases h : (List.range 32).find? (fun n => es.all (fun e => e.position != n)) with
    | none =>
      have hzero : freePosition es = 0 := by simp only [freePosition, Config.refundEntries, h, Option.getD_none]
      omega
    | some k => simp only [freePosition, Config.refundEntries, h, Option.getD_some]
  have hnot := (List.find?_range_eq_some.mp hfind).2.2 n hn
  rw [Bool.not_eq_true', ← Bool.not_eq_true] at hnot
  refine hnot (List.all_eq_true.mpr fun e he => ?_)
  rw [bne_iff_ne]
  exact fun heq => hnone ⟨e, he, heq⟩

/-- R114: the entry that a placement makes. -/
def newEntry (s : State) (card amount : Nat) : RefundEntry := ⟨freePosition s.refunds, card, amount, .ready, false, none, s.now⟩

/-- R110, R115: the audit totals with an amount issued. -/
def issuing (x : Audit) (amount : Nat) : Audit := { x with issued := min 999999999999 (x.issued + amount) }

/-- R110: an amount that is placed is issued, and the Purse Engine is told. -/
theorem placeRefund_pos (h : 0 < amount) : placeRefund card amount machine s =
    tellPlacement card (mergeRefund card amount machine (s.withMoney s.refunds (issuing s.audit amount))) :=
  if_neg (Nat.ne_of_gt h)

theorem refund_withMoney (es : List RefundEntry) (x : Audit) (bits : BitVec 7) (n : Nat) :
    ((s.withMoney es x).raising bits).refund n = es.find? (refundFor n) := rfl

/-- R115: a placement for a card without an entry. -/
theorem placeRefund_new (hpos : 0 < amount) (hamount : amount ≤ 50000) (hnone : ∀ e ∈ s.refunds, e.card ≠ card)
    (hroom : s.refunds.length < 32) : placeRefund card amount machine s = tellPlacement card
      ((s.withMoney (s.refunds ++ [newEntry s card amount]) (issuing s.audit amount)).raising (eventBit .payment)) := by
  rw [placeRefund_pos hpos, mergeRefund_new (refund_eq_none (by simpa using hnone)) (by simpa using hroom) hamount]
  rfl

/-- R115: a placement that merges into the card's entry. -/
theorem placeRefund_found (hpos : 0 < amount) (hs : s.refunds = before ++ e :: behind) (he : e.card = card)
    (hbefore : ∀ y ∈ before, y.card ≠ card) (hamount : e.amount + amount ≤ 50000) :
    placeRefund card amount machine s = tellPlacement card
      ((s.withMoney (before ++ { e with amount := e.amount + amount } :: behind) (issuing s.audit amount)).raising
        (eventBit .payment)) := by
  rw [placeRefund_pos hpos, mergeRefund_found (by simpa using hs) he hbefore hamount]
  rfl

@[simp] theorem crediting_raising (i : StationId) (slot : Slot) (bits : BitVec 7) :
    crediting (s.raising bits) i slot amount = crediting s i slot amount := by
  simp only [crediting, raising_station, raising_params]

@[simp] theorem crediting_withMoney (i : StationId) (slot : Slot) (es : List RefundEntry) (x : Audit) :
    crediting (s.withMoney es x) i slot amount = crediting s i slot amount := by
  simp only [crediting, withMoney_station, withMoney_params]

@[simp] theorem crediting_hunt (i : StationId) (slot : Slot) :
    crediting (hunt p s) i slot amount = crediting s i slot amount := by
  simp only [crediting, hunt_station, hunt_params]

/-- R90, R91, R115: a new entry of a card that stands CARD_READY below the ceiling is credited at once. -/
theorem placeRefund_new_credits {i : StationId} {slot : Slot} (hpos : 0 < amount) (hamount : amount ≤ 50000)
    (hnone : ∀ e ∈ s.refunds, e.card ≠ card) (hroom : s.refunds.length < 32) (hready : (s.station i).state = .cardReady)
    (hcard : (s.station i).card = some card) (hslot : (s.station i).slot = some slot)
    (hother : ∀ j, j ≠ i → (s.station j).card ≠ some card) (hceiling : (s.station i).pair.value < s.params.ceiling) :
    placeRefund card amount machine s = ((s.withMoney (s.refunds ++ [{ newEntry s card amount with
        inProgress := true, pairs := some ((s.station i).pair, (crediting s i slot amount).expectedPair) }])
      (issuing s.audit amount)).setStation i (crediting s i slot amount)).raising (eventBit .payment) := by
  have hsettle := settleRecord_credits (i := i) (slot := slot) (card := card) (before := s.refunds) (behind := [])
    (e := newEntry s card amount)
    (s := (s.withMoney (s.refunds ++ [newEntry s card amount]) (issuing s.audit amount)).raising (eventBit .payment))
    rfl rfl hnone rfl (by simpa using hcard) (by simpa using hslot) (by simpa using hceiling)
  rw [placeRefund_new hpos hamount hnone hroom, tellPlacement_at (i := i) (by simpa using hready) (by simpa using hcard)
    (fun j hj => ⟨by rw [hsettle, station_setStation_other _ _ hj]; simpa using hother j hj, by simpa using hother j hj⟩), hsettle]
  simp [newEntry]

/-- R116, R120: the credit of an entry has landed. -/
theorem creditLanded_found {credit : Nat} (hs : s.refunds = before ++ e :: behind) (he : e.card = card)
    (hbefore : ∀ y ∈ before, y.card ≠ card) (hcredit : credit ≤ e.amount) : creditLanded card credit s =
      (s.withMoney (before ++ (if credit = e.amount then [] else [{ e with
        amount := e.amount - credit, state := .ready, inProgress := false, pairs := none }]) ++ behind)
        { s.audit with credited := min 999999999999 (s.audit.credited + credit) }).raising (eventBit .payment) := by
  have hcounted : addTotal s.audit.credited (min credit e.amount) = min 999999999999 (s.audit.credited + credit) := by
    rw [Nat.min_eq_left hcredit, addTotal_eq]
  unfold creditLanded
  simp only [refund_eq_some hs he hbefore, modifyAudit_eq, hcounted]
  split
  · have heq : credit = e.amount := by omega
    rw [removeRefund_eq (before := before) (behind := behind) (e := e) (by simpa using hs) he hbefore, if_pos heq]
    simp
  · have hne : ¬ credit = e.amount := by omega
    rw [updateRefund_eq _ (before := before) (behind := behind) (e := e) (by simpa using hs) he hbefore, if_neg hne]
    simp

/-! ## The requests -/

theorem at4_card (h : card < 4294967296) (bs : List Byte) : at4 (be4 card ++ bs) 0 = card := at4_be4 h bs

theorem at2_behind_card (h : asked < 65536) : at2 (be4 card ++ be2 asked) 4 = asked := by
  have htail : at2 (be4 card ++ be2 asked) 4 = at2 (be2 asked ++ []) 0 := by
    rw [List.append_nil]
    rfl
  rw [htail, at2_be2 h]

theorem validCard_of_range (h : 0 < card) (hlt : card < 4294967295) : validCard card = true := by
  simp [validCard]
  omega

/-- R118: the owner of ADD_REFUND, for a card and an amount in range. -/
theorem decideAddRefund_eq (hcard : 0 < card) (hlt : card < 4294967295) (hasked : 0 < asked) (hmax : asked < 65536) (s : State) :
    decideAddRefund (be4 card ++ be2 asked) s =
      match refundFull card (min asked 50000) s with
      | some held => { state := s, status := .full, payload := be2 held }
      | none => applied (decide (asked ≤ 50000))
          (be2 (min asked 50000) ++ be2 (stillHeld card (placeRefund card (min asked 50000) 0 s)))
          (placeRefund card (min asked 50000) 0 s) := by
  have hok : ¬ ((!validCard card) = true ∨ asked = 0) := by
    rw [validCard_of_range hcard hlt]
    simp
    omega
  have hrange : decide (min asked 50000 = asked) = decide (asked ≤ 50000) := decide_eq_decide.mpr (by omega)
  simp only [decideAddRefund, at4_card (show card < 4294967296 by omega), at2_behind_card hmax, if_neg hok,
    Config.largestValue, hrange] <;> rfl

/-- R118: an ADD_REFUND that is placed. -/
theorem exec_addRefund {t : State} (hs : s.listens .operator) (hcard : 0 < card) (hlt : card < 4294967295) (hasked : 0 < asked)
    (hmax : asked < 65536) (hfull : refundFull card (min asked 50000) (hunt .operator s) = none)
    (ht : placeRefund card (min asked 50000) 0 (hunt .operator s) = (hunt .operator t).raising (eventBit .payment)) {held : Nat}
    (hheld : stillHeld card t = held) :
    exec (.addRefund .operator (be4 card ++ be2 asked)) s = .next (t.answering .operator
      (replyTo 0x53 (if asked ≤ 50000 then .ok else .clamped) (be2 (min asked 50000) ++ be2 held)) (eventBit .payment)) := by
  have hheld' : stillHeld card ((hunt .operator t).raising (eventBit .payment)) = held := hheld
  refine exec_raising (r := .addRefund) rfl rfl hs rfl rfl ?_
  rw [ownerDecision, decideAddRefund_eq hcard hlt hasked hmax]
  simp only [hfull, ht, hheld', applied, decide_eq_true_eq]

/-- R118: an ADD_REFUND that the table or the card's entry cannot take. -/
theorem exec_addRefund_full {held : Nat} (hs : s.listens .operator) (hcard : 0 < card) (hlt : card < 4294967295) (hasked : 0 < asked)
    (hmax : asked < 65536) (hfull : refundFull card (min asked 50000) (hunt .operator s) = some held) :
    exec (.addRefund .operator (be4 card ++ be2 asked)) s =
      .next (s.answering .operator (replyTo 0x53 .full (be2 held)) 0) := by
  refine exec_answered (r := .addRefund) rfl rfl hs rfl rfl ?_
  rw [ownerDecision, decideAddRefund_eq hcard hlt hasked hmax]
  simp only [hfull]

/-- R118: what the reply gives as held is the amount of the card's entry. -/
theorem stillHeld_eq (hs : s.refunds = before ++ e :: behind) (he : e.card = card) (hbefore : ∀ y ∈ before, y.card ≠ card) :
    stillHeld card s = e.amount := by
  simp [stillHeld, refund_eq_some hs he hbefore]

theorem refundFull_none (h : ∀ e ∈ s.refunds, e.card ≠ card) :
    refundFull card amount s = if s.refunds.length < 32 then none else some 0 := by
  simp only [refundFull, refund_eq_none h, Config.refundEntries]

theorem refundFull_found (hs : s.refunds = before ++ e :: behind) (he : e.card = card) (hbefore : ∀ y ∈ before, y.card ≠ card) :
    refundFull card amount s = if 50000 < e.amount + amount then some e.amount else none := by
  simp only [refundFull, refund_eq_some hs he hbefore, Config.largestValue]

theorem decideCancelRefund_eq (hcard : 0 < card) (hlt : card < 4294967295) (s : State) :
    decideCancelRefund (be4 card) s =
      match s.refund card with
      | none => refuse .notFound s
      | some e =>
        match e.state with
        | .inDoubt => refuse .badState s
        | .ready | .suspect =>
          if e.state = .ready ∧ e.inProgress then refuse .busy s
          else done (be2 e.amount) (removeRefund card
            (modifyAudit (fun t => { t with cancelled := addTotal t.cancelled e.amount }) s)) := by
  have hat : at4 (be4 card) 0 = card := by rw [← List.append_nil (be4 card), at4_card (by omega)]
  unfold decideCancelRefund
  simp only [hat, validCard_of_range hcard hlt] <;> rfl

/-- R119: a SUSPECT entry, or a READY one with no credit in progress, is cancelled. -/
theorem decideCancelRefund_removes (hcard : 0 < card) (hlt : card < 4294967295) (hs : s.refunds = before ++ e :: behind)
    (he : e.card = card) (hbefore : ∀ y ∈ before, y.card ≠ card)
    (hst : e.state = .suspect ∨ e.state = .ready ∧ e.inProgress = false) : decideCancelRefund (be4 card) s =
      done (be2 e.amount) ((s.withMoney (before ++ behind) { s.audit with
        cancelled := min 999999999999 (s.audit.cancelled + e.amount) }).raising (eventBit .payment)) := by
  have hremoved := removeRefund_eq (card := card) (before := before) (behind := behind) (e := e)
    (s := modifyAudit (fun t => { t with cancelled := addTotal t.cancelled e.amount }) s) hs he hbefore
  rw [decideCancelRefund_eq hcard hlt, refund_eq_some hs he hbefore]
  rcases hst with h | ⟨h, hprogress⟩
  · simp only [h, hremoved]
    rfl
  · simp only [h, hprogress, hremoved]
    rfl

theorem decideConfirmRefund_eq (hcard : 0 < card) (hlt : card < 4294967295) (s : State) :
    decideConfirmRefund (be4 card) s =
      match s.refund card with
      | none => refuse .notFound s
      | some e =>
        if e.state ≠ .suspect then refuse .badState s
        else done (be2 (min (creditCarried e) e.amount) ++ be2 (e.amount - min (creditCarried e) e.amount))
          (tellPlacement card (creditLanded card (creditCarried e) s)) := by
  have hat : at4 (be4 card) 0 = card := by rw [← List.append_nil (be4 card), at4_card (by omega)]
  unfold decideConfirmRefund
  simp only [hat, validCard_of_range hcard hlt] <;> rfl

end

/-- Settles O50: each request decides by the card's entry, found by splitting the table there. -/
theorem refundRequestsKeepTheAccounts : Obligations.RefundRequestsKeepTheAccounts := by
  intro s card hs hcard hlt t answerAs answer refused away
  have hhunt : (hunt .operator s).refunds = s.refunds := hunt_refunds ..
  refine ⟨?_, fun asked hasked hmax => ⟨fun hnone => ⟨fun hfull => ?_, fun hroom => ?_⟩, fun before behind e hes he hbefore =>
    ⟨fun hover => ?_, fun hfits haway => ?_⟩⟩, fun hnone => ⟨?_, ?_⟩, fun before behind e hes he hbefore =>
    ⟨fun hst => ?_, fun hst hprogress => ?_, fun hst => ?_, fun old new hst hpairs hcredit haway => ?_, fun hst => ?_⟩, ?_⟩
  · refine exec_answered (r := .addRefund) rfl rfl hs rfl rfl ?_
    simp [ownerDecision, decideAddRefund, at2_behind_card (show 0 < 65536 by decide), refuse]
  · refine exec_addRefund_full hs hcard hlt hasked hmax ?_
    rw [refundFull_none (by rwa [hhunt]), hhunt, if_neg (by omega)]
  · have hamount : 0 < min asked 50000 := by omega
    have hplace := placeRefund_new (s := hunt .operator s) (machine := 0) hamount (Nat.min_le_right _ _) (by rwa [hhunt])
      (by rwa [hhunt])
    have hfull : refundFull card (min asked 50000) (hunt .operator s) = none := by
      rw [refundFull_none (by rwa [hhunt]), hhunt, if_pos hroom]
    refine ⟨freePosition s.refunds, (freePosition_free hroom).1, fun e he heq =>
      (freePosition_free hroom).2 (List.mem_map.mpr ⟨e, he, heq⟩), fun n hn => freePosition_least hroom hn, fun haway => ?_,
      fun i slot hready hcardAt hslot hother hceiling => ?_⟩
    · refine exec_addRefund hs hcard hlt hasked hmax hfull (hplace.trans ?_)
        ((stillHeld_eq (card := card) (before := s.refunds) (behind := []) rfl rfl hnone).trans rfl)
      rw [tellPlacement_away (by simpa using haway)]
      simp [newEntry, issuing]
      rfl
    · refine exec_addRefund hs hcard hlt hasked hmax hfull ((placeRefund_new_credits (i := i) (slot := slot) hamount
        (Nat.min_le_right _ _) (by rwa [hhunt]) (by rwa [hhunt]) (by simpa using hready) (by simpa using hcardAt)
        (by simpa using hslot) (fun j hj => by simpa using hother j hj) (by simpa using hceiling)).trans ?_)
        ((stillHeld_eq (card := card) (before := s.refunds) (behind := []) (setStation_refunds ..) rfl hnone).trans rfl)
      rw [crediting_hunt, withMoney_hunt, setStation_hunt, hunt_station, hunt_refunds, hunt_audit]
      rfl
  · refine exec_addRefund_full hs hcard hlt hasked hmax ?_
    rw [refundFull_found (by rwa [hhunt]) he hbefore, if_pos hover]
  · refine exec_addRefund hs hcard hlt hasked hmax ?_ ((placeRefund_found (by omega) (by rwa [hhunt]) he hbefore hfits).trans ?_)
      (stillHeld_eq (before := before) (behind := behind) (e := { e with amount := e.amount + min asked 50000 }) rfl he hbefore)
    · rw [refundFull_found (by rwa [hhunt]) he hbefore, if_neg (by omega)]
    · rw [tellPlacement_away (by simpa using haway)]
      simp [issuing]
      rfl
  · refine exec_answered (r := .cancelRefund) rfl rfl hs rfl rfl ?_
    rw [ownerDecision, decideCancelRefund_eq hcard hlt, refund_eq_none (by rwa [hhunt])]
    rfl
  · refine exec_answered (r := .confirmRefund) rfl rfl hs rfl rfl ?_
    rw [ownerDecision, decideConfirmRefund_eq hcard hlt, refund_eq_none (by rwa [hhunt])]
    rfl
  · refine exec_answered (r := .cancelRefund) rfl rfl hs rfl rfl ?_
    rw [ownerDecision, decideCancelRefund_eq hcard hlt, refund_eq_some (by rwa [hhunt]) he hbefore]
    simp only [hst]
    rfl
  · refine exec_answered (r := .cancelRefund) rfl rfl hs rfl rfl ?_
    rw [ownerDecision, decideCancelRefund_eq hcard hlt, refund_eq_some (by rwa [hhunt]) he hbefore]
    simp only [hst, hprogress]
    rfl
  · refine exec_raising (r := .cancelRefund) rfl rfl hs rfl rfl ?_
    rw [ownerDecision, decideCancelRefund_removes hcard hlt (by rwa [hhunt]) he hbefore hst, hunt_audit, withMoney_hunt]
    rfl
  · refine exec_raising (r := .confirmRefund) rfl rfl hs rfl rfl ?_
    have hcarried : creditCarried e = new.value - old.value := by simp [creditCarried, hpairs]
    have hmin : min (new.value - old.value) e.amount = new.value - old.value := Nat.min_eq_left hcredit
    rw [ownerDecision, decideConfirmRefund_eq hcard hlt, refund_eq_some (by rwa [hhunt]) he hbefore]
    simp only [hst, hcarried, hmin]
    rw [creditLanded_found (by rwa [hhunt]) he hbefore hcredit, tellPlacement_away (by simpa using haway)]
    simp [done]
    rfl
  · refine exec_answered (r := .confirmRefund) rfl rfl hs rfl rfl ?_
    rw [ownerDecision, decideConfirmRefund_eq hcard hlt, refund_eq_some (by rwa [hhunt]) he hbefore]
    exact if_pos hst
  · refine exec_raising (r := .clearAudit) rfl rfl hs rfl rfl ?_
    rw [ownerDecision, decideClearAudit, hhunt, refundSum_eq_sum, hunt_audit]
    rfl

end Sys2Proof.Machine

/-! PROOF. The deadlines of service work (R151, R152, R154), and what of a session and of a test run no grant moves. -/

namespace Sys2Proof.Machine

/-! ## What no grant moves -/

/-- An observation of the room that neither a pool's own figures nor the delivery of a grant moves. -/
structure Unmoved {β : Type} (f : State → β) : Prop where
  pool : ∀ k p s, f (s.setPool k p) = f s
  raise : ∀ e s, f (raise e s) = f s
  deliver : ∀ s e, f (deliverGrant s e) = f s

section
variable {β : Type} {f : State → β}

theorem Unmoved.grants (h : Unmoved f) (es : List WaitEntry) : ∀ s, f (es.foldl deliverGrant s) = f s := by
  induction es with
  | nil => exact fun s => rfl
  | cons e es ih => exact fun s => (ih _).trans (h.deliver s e)

theorem Unmoved.scanPool (h : Unmoved f) (k : PoolId) (s : State) : f (scanPool k s) = f s := by
  unfold Machine.scanPool
  dsimp only
  split
  · exact (h.grants _ _).trans (h.pool k _ s)
  · rfl

theorem Unmoved.leaveOverLimit (h : Unmoved f) (k : PoolId) (s : State) : f (leaveOverLimit k s) = f s := by
  unfold Machine.leaveOverLimit
  dsimp only
  split
  · exact (h.raise _ _).trans (h.pool k _ s)
  · rfl

theorem Unmoved.releaseFrom (h : Unmoved f) (k : PoolId) (a : Addr) (s : State) : f (releaseFrom k a s) = f s := by
  unfold Machine.releaseFrom
  dsimp only
  split
  · exact ((h.scanPool k _).trans (h.leaveOverLimit k _)).trans (h.pool k _ s)
  · rfl

theorem Unmoved.releaseGrant (h : Unmoved f) (a : Addr) (s : State) : f (releaseGrant a s) = f s :=
  (h.releaseFrom .water a _).trans (h.releaseFrom .electric a s)

theorem Unmoved.withdrawFrom (h : Unmoved f) (k : PoolId) (a : Addr) (s : State) : f (withdrawFrom k a s) = f s := by
  unfold Machine.withdrawFrom
  dsimp only
  split
  · exact (h.scanPool k _).trans (h.pool k _ s)
  · rfl

theorem Unmoved.withdrawEntry (h : Unmoved f) (a : Addr) (s : State) : f (withdrawEntry a s) = f s :=
  (h.withdrawFrom .water a _).trans (h.withdrawFrom .electric a s)

end

/-- The machine of the session and whether it is CLOSING. -/
def sessionOf (s : State) : Option (Addr × Bool) := s.session.map (fun x => (x.machine, x.closing))

theorem unmoved_sessionOf : Unmoved sessionOf where
  pool k p s := by simp [sessionOf]
  raise e s := rfl
  deliver s e := by
    unfold deliverGrant
    split
    · unfold startPhase
      split
      · rfl
      · split <;> rfl
    · rfl
    · unfold startServicePhase
      split
      · rfl
      · next x hx =>
        split
        · rfl
        · simp [sessionOf, hx, post, modifyBus, modifyMachine]
    · unfold startSubtest
      split <;> rfl

/-- A machine's test run but for what the start of a subtest changes, and its last test. -/
def testOf (a : Addr) (s : State) : Option (TestOrigin × Nat × Option TestWindDown) × Option LastTest :=
  ((s.machine a).testRun.map (fun r => (r.origin, r.subtest, r.windDown)), (s.machine a).lastTest)

theorem testOf_of_eq {a : Addr} {s t : State} (hrun : (t.machine a).testRun = (s.machine a).testRun)
    (hlast : (t.machine a).lastTest = (s.machine a).lastTest) : testOf a t = testOf a s := by
  rw [testOf, testOf, hrun, hlast]

theorem testOf_post (a b : Addr) (cmd : BusCommand) (poster : Poster) (s : State) : testOf a (post b cmd poster s) = testOf a s := by
  by_cases h : a = b
  · subst h
    exact testOf_of_eq (by rw [post_machine, if_pos rfl]) (by rw [post_machine, if_pos rfl])
  · exact testOf_of_eq (by rw [post_machine, if_neg h]) (by rw [post_machine, if_neg h])

theorem testOf_modifyCycle (a b : Addr) (g : Cycle → Cycle) (s : State) : testOf a (modifyCycle b g s) = testOf a s := by
  by_cases h : a = b
  · subst h
    exact testOf_of_eq (by rw [modifyCycle_machine, if_pos rfl]) (by rw [modifyCycle_machine, if_pos rfl])
  · exact testOf_of_eq (by rw [modifyCycle_machine, if_neg h]) (by rw [modifyCycle_machine, if_neg h])

theorem testOf_modifyRun (a b : Addr) {g : TestRun → TestRun}
    (hg : ∀ r, ((g r).origin, (g r).subtest, (g r).windDown) = (r.origin, r.subtest, r.windDown)) (s : State) :
    testOf a (modifyRun b g s) = testOf a s := by
  unfold testOf modifyRun
  rw [raise_machine, machine_modifyMachine]
  split
  · next h => subst h; simp [Function.comp_def, hg]
  · rfl

theorem testOf_raise (a : Addr) (e : Event) (s : State) : testOf a (raise e s) = testOf a s := rfl

theorem testOf_session (a : Addr) (x : Option Session) (s : State) : testOf a { s with session := x } = testOf a s := rfl

theorem unmoved_testOf (a : Addr) : Unmoved (testOf a) where
  pool k p s := by simp [testOf]
  raise e s := rfl
  deliver s e := by
    unfold deliverGrant
    split
    · unfold startPhase
      split
      · rfl
      · split
        · rfl
        · exact (testOf_post ..).trans (testOf_modifyCycle ..)
    · exact (testOf_post ..).trans (testOf_modifyCycle ..)
    · unfold startServicePhase
      split
      · rfl
      · split
        · rfl
        · rw [testOf_raise, testOf_post, testOf_session]
    · unfold startSubtest
      split
      · rfl
      · exact (testOf_post ..).trans (testOf_modifyRun a _ (by exact fun _ => rfl) s)

/-! ## Work wound down -/

theorem exec_servicePhaseDeadline (s : State) : exec .servicePhaseDeadline s = .next (servicePhaseTimeout s) := rfl

theorem exec_subtestReportDeadline (a : Addr) (s : State) :
    exec (.subtestReportDeadline (addrNum a)) s = .next (reportTimeout a s) := congrArg _ (atAddress_addrNum a _ s)

theorem exec_windDownDeadline (a : Addr) (s : State) :
    exec (.windDownDeadline (addrNum a)) s = .next (windDownTimeout a s) := congrArg _ (atAddress_addrNum a _ s)

theorem handFault_session (h : Handing) (s : State) : (handFault h s).session = s.session :=
  touched_handFault h s .session (by simp)

section
variable {s : State} {a : Addr}

theorem phaseOn_eq {x : Session} (hx : s.session = some x) : phaseOn x.machine s = x.phase := by
  simp [phaseOn, sessionOn, hx]

/-- R152: a service phase at work is wound down by a STOP. -/
theorem windDownPhase_session {x : Session} {ph : ServicePhase} (hx : s.session = some x) (hph : x.phase = some ph)
    (hsub : ph.sub ≠ .waiting) (hw : ph.windDown = none) (cause : StopCause) (outcome : PhaseOutcome) :
    (windDownPhase x.machine cause outcome s).session = some { x with phase := some { ph with
      deadline := none, windDown := some ⟨s.now + 600, false, outcome⟩ } } := by
  have hpost : ∀ t, (post x.machine (.stop cause) .faultService t).session = t.session := fun t => rfl
  unfold windDownPhase
  simp only [phaseOn_eq hx, hph, hw]
  split
  · next h => exact absurd h hsub
  all_goals
    rw [hpost]
    simp [modifyPhase, hx, hph]

/-- R152: a subtest at work is wound down by a STOP. -/
theorem windDownTest_eq {r : TestRun} (hr : (s.machine a).testRun = some r) (hsub : r.sub ≠ .waiting) (hw : r.windDown = none)
    (cause : StopCause) (outcome : TestOutcome) (code : Nat) (override : Bool) :
    windDownTest a cause outcome code override s =
      post a (.stop cause) .faultService (modifyRun a (fun r => { r with
        reportDeadline := none, windDown := some ⟨s.now + 600, false, outcome, code⟩ }) s) := by
  unfold windDownTest
  simp only [hr, hw]
  split
  · next h => exact absurd h hsub
  all_goals rfl

theorem post_modifyRun_testRun {r : TestRun} (hr : (s.machine a).testRun = some r) (cmd : BusCommand) (poster : Poster)
    (g : TestRun → TestRun) : ((post a cmd poster (modifyRun a g s)).machine a).testRun = some (g r) := by
  rw [post_machine, if_pos rfl, modifyRun, raise_machine, machine_modifyMachine_self, hr]
  rfl

/-! ## Faults that stay in the table -/

/-- R138: a handing keeps the record at the tail unless it is of the same pair. -/
theorem mem_recordFault {now : Nat} {h : Handing} {t : List FaultRecord} {r : FaultRecord} (hr : t.getLast? = some r)
    (hne : r.code ≠ h.code) : r ∈ recordFault now h t := by
  have hmem : r ∈ t := List.mem_of_getLast? hr
  have hnot : recordOf h r = false := by simp [recordOf, hne]
  unfold recordFault
  split
  · exact List.mem_append_left _ ((List.mem_eraseP_of_neg (by simp [hnot])).mpr hmem)
  · refine List.mem_append_left _ ?_
    split
    · exact hmem
    · next hlen =>
      have hlast : (t.drop 1).getLast? = some r := by
        rw [List.getLast?_drop, if_neg (by simp [Config.faultRecords] at hlen; omega), hr]
      exact List.mem_of_getLast? hlast

/-! ## Tests that end -/

/-- R155: what follows the end of a test, by its origin. -/
def afterTest (a : Addr) (origin : TestOrigin) (s : State) : State :=
  match origin with
  | .operator => if (s.machine a).state = .testing then releaseToRoom a s else s
  | .session => endIfClosing a s

/-- R155: a test that ends without FAIL. -/
def testEnded (a : Addr) (outcome : TestOutcome) (subtest code : Nat) (s : State) : State :=
  raise .test (raise .machine (modifyMachine a (fun m => { m with lastTest := some ⟨outcome, subtest, code⟩, testRun := none }) s))

/-- R155: TEST_FAIL is handed over for a FAIL. -/
def testFailed (a : Addr) (outcome : TestOutcome) (subtest : Nat) (s : State) : State :=
  if outcome = .fail then handFault { plainHanding (addrNum a) faultTestFail with subtest := some subtest } s else s

theorem finishTest_eq {r : TestRun} (hr : (s.machine a).testRun = some r) (outcome : TestOutcome) (code : Nat) :
    finishTest a outcome code s =
      afterTest a r.origin (testFailed a outcome r.subtest (testEnded a outcome r.subtest code s)) := by
  unfold finishTest
  simp only [hr]
  rfl

theorem touched_afterTest (a : Addr) (origin : TestOrigin) (s : State) :
    Touches [.machines, .flags, .session, .claims] s (afterTest a origin s) := by
  cases origin with
  | operator =>
    unfold afterTest
    dsimp only
    split <;> simp
  | session => exact touched_endIfClosing a s

theorem testOf_releaseToRoom (a b : Addr) (s : State) : testOf a (releaseToRoom b s) = testOf a s := by
  have hsame : ∀ {t : State}, SameButHold (s.machine a) (t.machine a) → testOf a t = testOf a s := fun h =>
    testOf_of_eq h.testRun h.lastTest
  unfold releaseToRoom
  split
  · have hpending : testOf a (modifyMachine b (fun m => { m with lockPending := false }) s) = testOf a s := by
      unfold testOf
      rw [machine_modifyMachine]
      split
      · next h => subst h; rfl
      · rfl
    have hmove := sameButHold_moveTo b a .outOfService (modifyMachine b (fun m => { m with lockPending := false }) s)
    exact (testOf_of_eq hmove.testRun hmove.lastTest).trans hpending
  · split
    · exact hsame (sameButHold_moveTo b a _ s)
    · exact hsame (sameButHold_offer b a s)

theorem testOf_endSession (a : Addr) (s : State) : testOf a (endSession s) = testOf a s := by
  unfold endSession
  split
  · rfl
  · next x _ =>
    have hspent : testOf a (raise .test (raise .machine (modifyMachine x.machine (fun m => { m with permit := false })
        { s with session := none }))) = testOf a s := by
      unfold testOf
      rw [raise_machine, raise_machine, machine_modifyMachine]
      split
      · next h => subst h; rfl
      · rfl
    dsimp only
    split
    · exact (testOf_releaseToRoom a _ _).trans hspent
    · exact hspent

theorem testOf_afterTest (a : Addr) (origin : TestOrigin) (s : State) : testOf a (afterTest a origin s) = testOf a s := by
  cases origin with
  | operator =>
    unfold afterTest
    dsimp only
    split
    · exact testOf_releaseToRoom a a s
    · rfl
  | session =>
    unfold afterTest endIfClosing
    dsimp only
    split
    · exact testOf_endSession a s
    · rfl

theorem testOf_handFault (a : Addr) (h : Handing) (s : State) : testOf a (handFault h s) = testOf a s :=
  testOf_of_eq (struck_handFault h a s).testRun (struck_handFault h a s).lastTest

theorem testOf_testFailed (a : Addr) (outcome : TestOutcome) (subtest : Nat) (s : State) :
    testOf a (testFailed a outcome subtest s) = testOf a s := by
  unfold testFailed
  split
  · exact testOf_handFault a _ s
  · rfl

/-- R155: after its end a test is the last test, and no run is left. -/
theorem testOf_finishTest {r : TestRun} (hr : (s.machine a).testRun = some r) (outcome : TestOutcome) (code : Nat) :
    testOf a (finishTest a outcome code s) = (none, some ⟨outcome, r.subtest, code⟩) := by
  rw [finishTest_eq hr, testOf_afterTest, testOf_testFailed]
  simp [testOf, testEnded]

/-- A handing at the tail of the table stays there through the end of a test, unless it is TEST_FAIL itself. -/
theorem mem_faults_finishTest {r : TestRun} {f : FaultRecord} (hr : (s.machine a).testRun = some r) (outcome : TestOutcome)
    (code : Nat) (hf : s.faults.getLast? = some f) (hne : f.code ≠ faultTestFail) : f ∈ (finishTest a outcome code s).faults := by
  have hafter := touched_afterTest a r.origin (testFailed a outcome r.subtest (testEnded a outcome r.subtest code s)) .faults (by simp)
  rw [finishTest_eq hr, show (afterTest a r.origin _).faults = _ from hafter]
  have hended : (testEnded a outcome r.subtest code s).faults = s.faults := rfl
  unfold testFailed
  split
  · rw [handFault_faults, hended]
    exact mem_recordFault hf hne
  · rw [hended]
    exact List.mem_of_getLast? hf

end

/-- R152: a handing, and the grant given back, when a wind-down is not confirmed in time. -/
theorem testOf_timedOut (a : Addr) (h : Handing) (s : State) : testOf a (releaseGrant a (handFault h s)) = testOf a s :=
  ((unmoved_testOf a).releaseGrant a _).trans (testOf_handFault a h s)

/-- Settles O56: each deadline hands its fault over and winds the work down, or ends it as decided before. -/
theorem serviceDeadlinesWindTheWorkDown : Obligations.ServiceDeadlinesWindTheWorkDown := by
  refine ⟨fun s x ph d hx hph hsub hw hd hdue => ?_, fun s a r d hr hsub hw hd hdue => ?_,
    fun s a x ph w hrun hx hxa hclosing hph hw hdue => ?_, fun s a r w hr hw hdue => ?_⟩
  · have htimeout : servicePhaseTimeout s = phaseTimeout x.machine s := by
      unfold servicePhaseTimeout
      simp only [hx, hph]
      exact if_pos ⟨hsub, by simp [hw], by simp [hd, due, hdue]⟩
    refine ⟨_, (exec_servicePhaseDeadline s).trans (congrArg _ htimeout), ?_, ?_⟩
    · exact (faultLast_handFault (serviceHanding x.machine faultPhaseTimeout s) s).of_touches
        (touched_windDownPhase x.machine .machine .timeout _) (by simp) (by simp)
    · rw [phaseTimeout, windDownPhase_session ((handFault_session _ s).trans hx) hph (by simp [hsub]) hw, handFault_now]
  · have htimeout : reportTimeout a s = subtestTimeout a s := by
      unfold reportTimeout
      simp only [hr]
      exact if_pos ⟨by simp [hw], by simp [hd, due, hdue]⟩
    have hr' : ((handFault (serviceHanding a faultPhaseTimeout s) s).machine a).testRun = some r :=
      (struck_handFault _ a s).testRun.trans hr
    refine ⟨_, (exec_subtestReportDeadline a s).trans (congrArg _ htimeout), ?_, ?_⟩
    all_goals rw [subtestTimeout, windDownTest_eq hr' hsub hw]
    · exact (faultLast_handFault (serviceHanding a faultPhaseTimeout s) s).of_touches (ps := [.machines, .flags])
        (touched_of (by simp)) (by simp) (by simp)
    · rw [post_modifyRun_testRun hr', handFault_now]
  · subst hxa
    have htimeout : windDownTimeout x.machine s = finishPhase x.machine w.outcome
        (releaseGrant x.machine (handFault (serviceHanding x.machine faultStopTimeout s) s)) := by
      unfold windDownTimeout
      simp only [hrun, phaseOn_eq hx, hph, hw, Option.bind_none, Option.bind_some, if_pos hdue]
    have hsession := unmoved_sessionOf.releaseGrant x.machine (handFault (serviceHanding x.machine faultStopTimeout s) s)
    simp only [sessionOf, handFault_session, hx, Option.map_some, hclosing] at hsession
    obtain ⟨y, hy, hkept⟩ := Option.map_eq_some_iff.mp hsession
    obtain ⟨hmachine, hopen⟩ := Prod.mk.inj hkept
    refine ⟨_, { y with phase := none, lastOutcome := some w.outcome },
      (exec_windDownDeadline x.machine s).trans (congrArg _ htimeout), ?_, ?_, hmachine, rfl, rfl⟩
    · exact (faultLast_handFault (serviceHanding x.machine faultStopTimeout s) s).of_touches
        (ps := [.machines, .flags, .claims, .session, .pools]) (touched_of (by simp)) (by simp) (by simp)
    · have hkeep : ∀ t : State, t.session = some { y with phase := none, lastOutcome := some w.outcome } →
          (endIfClosing x.machine t).session = t.session := by
        intro t ht
        rw [endIfClosing, if_neg (by simp [ht, hopen])]
      have hended : (raise .test { releaseGrant x.machine (handFault (serviceHanding x.machine faultStopTimeout s) s) with
          session := (releaseGrant x.machine (handFault (serviceHanding x.machine faultStopTimeout s) s)).session.map
            (fun x => { x with phase := none, lastOutcome := some w.outcome }) }).session =
          some { y with phase := none, lastOutcome := some w.outcome } := by
        simp [hy]
      rw [finishPhase, hkeep _ hended, hended]
  · have htimeout : windDownTimeout a s = finishTest a w.outcome w.code
        (releaseGrant a (handFault (serviceHanding a faultStopTimeout s) s)) := by
      unfold windDownTimeout
      simp only [hr, hw, Option.bind_some, if_pos hdue]
    have htest := testOf_timedOut a (serviceHanding a faultStopTimeout s) s
    simp only [testOf, hr, Option.map_some, Prod.mk.injEq] at htest
    obtain ⟨q, hq, hkept⟩ := Option.map_eq_some_iff.mp htest.1
    have hsubtest : q.subtest = r.subtest := (Prod.mk.inj (Prod.mk.inj hkept).2).1
    have hfinished := testOf_finishTest hq w.outcome w.code
    rw [testOf, Prod.mk.injEq, Option.map_eq_none_iff] at hfinished
    obtain ⟨f, hlast, hmachine, hcode, htime⟩ := (faultLast_handFault (serviceHanding a faultStopTimeout s) s).of_touches
      (touched_releaseGrant a _) (by simp) (by simp)
    refine ⟨_, (exec_windDownDeadline a s).trans (congrArg _ htimeout), hfinished.1, hfinished.2.trans (by rw [hsubtest]), f, ?_,
      hmachine, hcode, ?_⟩
    · exact mem_faults_finishTest hq w.outcome w.code hlast (by rw [hcode]; exact (by decide : faultStopTimeout ≠ faultTestFail))
    · rw [htime, (touched_releaseGrant a _ .clock (by simp)).1, handFault_now]

end Sys2Proof.Machine

/-! PROOF. Faults that only tell, and power-on (R52, R103, R117, R137, R177). -/

namespace Sys2Proof.Machine

/-! ## Faults that only tell -/

/-- A handing that neither strikes nor locks a machine: its code is INFO, which is neither an absence nor a code that locks
(R137, R141 to R143). -/
def Tells (h : Handing) : Prop := effectiveSeverity h ≠ .hard ∧ h.code ≠ faultNoReply ∧ h.code ≠ faultRosterMismatch ∧
  h.code ≠ faultStopTimeout

/-- R137: such a handing is a record in the table and the FAULT event. -/
theorem handFault_tells {h : Handing} (hh : Tells h) (s : State) :
    handFault h s = raise .fault { s with faults := recordFault s.now h s.faults } := by
  obtain ⟨hsoft, hreply, hmismatch, htimeout⟩ := hh
  have hexempt : ∀ m, meetsExemption h m = false := fun m => by simp [meetsExemption, hreply, hmismatch]
  have hstrike : ∀ a t, strike a h t = t := fun a t => by simp [strike, hexempt, hsoft]
  have hforced : ∀ a t, forcedLock a h t = t := fun a t => if_neg (by simp [htimeout, hmismatch])
  unfold handFault
  dsimp only
  split
  · rfl
  · rw [hstrike, hforced]

theorem tells_card (machine : Nat) (card : Option Nat) {code : Nat} (hcode : code = faultDebitUnresolved ∨
    code = faultCreditUnresolved ∨ code = faultRefundUnplaced) : Tells { plainHanding machine code with card := card } := by
  rcases hcode with rfl | rfl | rfl <;> simp [Tells, effectiveSeverity, plainHanding, severityOf]

theorem touched_handFault_tells {h : Handing} (hh : Tells h) (s : State) : Touches [.flags, .faults] s (handFault h s) := by
  rw [handFault_tells hh]
  exact touched_of (by simp)

/-- R115: a placement is of the money, the stations and, where it cannot be placed whole, the fault table. -/
theorem touched_placeRefund_money (card amount machine : Nat) (s : State) :
    Touches [.flags, .faults, .money, .stations] s (placeRefund card amount machine s) := by
  have hunplaced : ∀ n t, Touches [.flags, .faults, .money, .stations] t (unplaced card n machine t) := by
    intro n t
    unfold unplaced
    split
    · exact Touches.refl _ _
    · refine Touches.trans ?_ ((touched_handFault_tells (tells_card machine (some card) (.inr (.inr rfl))) _).mono (by simp))
      exact touched_of (by simp)
  have hplaced : ∀ n f t, Touches [.flags, .faults, .money, .stations] t (unplaced card n machine (modifyRefunds f t)) :=
    fun n f t => Touches.trans (touched_of (by simp)) (hunplaced n _)
  have hmerge : ∀ t, Touches [.flags, .faults, .money, .stations] t (mergeRefund card amount machine t) := by
    intro t
    unfold mergeRefund
    split
    · exact hplaced _ _ t
    · split
      · exact hplaced _ _ t
      · exact hunplaced _ t
  unfold placeRefund
  split
  · exact Touches.refl _ _
  · have hissued : Touches [.flags, .faults, .money, .stations] s
        (modifyAudit (fun t => { t with issued := addTotal t.issued amount }) s) := touched_of (by simp)
    exact (hissued.trans (hmerge _)).trans (touched_of (by simp))

/-! ## The retained domain -/

theorem exec_powerOn (held : Bool) (s : State) : exec (.powerOn held) s = .next (powerOn held s) := rfl

theorem powerOn_lost {held : Bool} {s : State} (h : retentionKept held s = false) : powerOn held s = freshStart s :=
  if_neg (by simp [h])

theorem powerOn_kept {s : State} (h : s.retentionValid = true) :
    powerOn true s = closeRetainedState s (keepRetained s (freshStart s)) := if_pos h

/-- R177, step 1: the retained values taken, with the event of an entry that falls into doubt. -/
def keptState (s : State) : State := { freshStart s with
  startReason := .kept, halted := s.halted, cycleCounter := s.cycleCounter, audit := s.audit,
  refunds := s.refunds.map keptRefund,
  electric := { (freshStart s).electric with halted := s.halted }, water := { (freshStart s).water with halted := s.halted } }

/-- R117: an entry changes its state at power-on when its credit is in progress and it is not IN_DOUBT. -/
theorem fallsInDoubt_iff (e : RefundEntry) : fallsInDoubt e = true ↔ e.inProgress = true ∧ e.state ≠ .inDoubt := by
  unfold fallsInDoubt keptRefund
  rw [decide_eq_true_eq]
  split
  · next h => simp [h, eq_comm]
  · next h => simp [h]

theorem keepRetained_eq (s : State) : keepRetained s (freshStart s) = (keptState s).raising
    (if ∃ e ∈ s.refunds, e.inProgress = true ∧ e.state ≠ .inDoubt then eventBit .payment else 0) := by
  have hany : s.refunds.any fallsInDoubt = true ↔ ∃ e ∈ s.refunds, e.inProgress = true ∧ e.state ≠ .inDoubt := by
    simp only [List.any_eq_true, fallsInDoubt_iff]
  unfold keepRetained raiseIf
  by_cases h : ∃ e ∈ s.refunds, e.inProgress = true ∧ e.state ≠ .inDoubt
  · rw [if_pos h, if_pos (hany.mpr h)]
    rfl
  · rw [if_neg h, if_neg (hany.not.mpr h)]
    exact (raising_zero _).symm

/-- R125: a cycle whose refund is computed already, or none, leaves nothing to close. -/
theorem closeRetained_settled {old : State} {a : Addr} (h : ∀ c, (old.machine a).cycle = some c → c.refund.isSome = true)
    (s : State) : closeRetained old s a = s := by
  unfold closeRetained
  split
  · rfl
  · next c hc => exact if_pos (h c hc)

theorem closeRetained_open {old : State} {a : Addr} {c : Cycle} (hc : (old.machine a).cycle = some c) (hr : c.refund = none)
    (s : State) : closeRetained old s a = placeRefund c.payer (refundOf (old.classOf a) c .room) (addrNum a) s := by
  unfold closeRetained
  simp [hc, hr]

theorem foldl_closeRetained_settled {old : State} : ∀ {as : List Addr},
    (∀ a ∈ as, ∀ c, (old.machine a).cycle = some c → c.refund.isSome = true) → ∀ s, as.foldl (closeRetained old) s = s
  | [], _, _ => rfl
  | a :: as, h, s => by
    rw [List.foldl_cons, closeRetained_settled (h a (by simp)), foldl_closeRetained_settled fun b hb => h b (by simp [hb])]

theorem closeRetained_only {old : State} {a : Addr}
    (h : ∀ b, b ≠ a → ∀ c, (old.machine b).cycle = some c → c.refund.isSome = true) (s : State) :
    allAddrs.foldl (closeRetained old) s = closeRetained old s a := by
  obtain ⟨before, behind, hsplit, hbefore, hbehind⟩ := allAddrs_split a
  rw [hsplit, List.foldl_append, List.foldl_cons,
    foldl_closeRetained_settled fun b hb => h b (hbefore b hb).ne, foldl_closeRetained_settled fun b hb => h b (hbehind b hb).ne']

/-- R103: a debit that is closed is a record in the fault table and a count. -/
theorem closeDebit_eq (s : State) (d : DebitCopy) : closeDebit s d = State.raising { s with
    faults := recordFault s.now { plainHanding (addrNum d.machine) faultDebitUnresolved with card := some d.card } s.faults,
    audit := { s.audit with debitsUnresolved := min 999999999999 (s.audit.debitsUnresolved + 1) } }
    (eventBit .fault ||| eventBit .payment) := by
  rw [closeDebit, handFault_tells (tells_card _ _ (.inl rfl)), ← raising_raising]
  rfl

theorem touched_closeDebit (s : State) (d : DebitCopy) : Touches [.flags, .faults, .money] s (closeDebit s d) := by
  unfold closeDebit
  have htold : Touches [.flags, .faults, .money] s
      (handFault { plainHanding (addrNum d.machine) faultDebitUnresolved with card := some d.card } s) :=
    (touched_handFault_tells (tells_card _ _ (.inl rfl)) s).mono (by simp)
  exact htold.trans (touched_of (by simp))

theorem touched_closeRetained (old s : State) (a : Addr) :
    Touches [.flags, .faults, .money, .stations] s (closeRetained old s a) := by
  unfold closeRetained
  split
  · exact Touches.refl _ _
  · split
    · exact Touches.refl _ _
    · exact touched_placeRefund_money _ _ _ s

/-- R177, step 3: what the closure of retained state is of. -/
theorem touched_closeRetainedState_money (old s : State) :
    Touches [.flags, .faults, .money, .stations] s (closeRetainedState old s) :=
  (Touches.foldl (touched_closeRetained old) _ s).trans
    ((Touches.foldl touched_closeDebit _ _).mono (by simp))

/-! ## Debits counted -/

theorem debitsUnresolved_unplaced (card n machine : Nat) (s : State) :
    (unplaced card n machine s).audit.debitsUnresolved = s.audit.debitsUnresolved := by
  unfold unplaced
  split
  · rfl
  · rw [handFault_tells (tells_card _ _ (.inr (.inr rfl)))]
    rfl

theorem settleRecord_audit (i : StationId) (s : State) : (settleRecord i s).audit = s.audit := by
  have hready : (toReady i s).audit = s.audit := by
    unfold toReady
    dsimp only
    split <;> cases i <;> rfl
  unfold settleRecord
  dsimp only
  split
  · split
    · cases i <;> rfl
    · exact hready
  · exact hready

theorem tellPlacement_audit (card : Nat) (s : State) : (tellPlacement card s).audit = s.audit := by
  have hsettle : ∀ i t, (settleIfReady i card t).audit = t.audit := by
    intro i t
    unfold settleIfReady
    split
    · exact settleRecord_audit i t
    · rfl
  exact (hsettle .b _).trans (hsettle .a s)

theorem debitsUnresolved_placeRefund (card n machine : Nat) (s : State) :
    (placeRefund card n machine s).audit.debitsUnresolved = s.audit.debitsUnresolved := by
  have hmerge : ∀ t, (mergeRefund card n machine t).audit.debitsUnresolved = t.audit.debitsUnresolved := by
    intro t
    unfold mergeRefund
    split
    · exact debitsUnresolved_unplaced card _ machine _
    · split
      · exact debitsUnresolved_unplaced card _ machine _
      · exact debitsUnresolved_unplaced card _ machine t
  unfold placeRefund
  split
  · rfl
  · rw [tellPlacement_audit, hmerge]
    rfl

theorem debitsUnresolved_closeRetained (old : State) (as : List Addr) (s : State) :
    (as.foldl (closeRetained old) s).audit.debitsUnresolved = s.audit.debitsUnresolved := by
  induction as generalizing s with
  | nil => rfl
  | cons a as ih =>
    rw [List.foldl_cons, ih, closeRetained]
    split
    · rfl
    · split
      · rfl
      · exact debitsUnresolved_placeRefund _ _ _ s

theorem debitsUnresolved_closeDebits (ds : List DebitCopy) (s : State) :
    (ds.foldl closeDebit s).audit.debitsUnresolved = if ds = [] then s.audit.debitsUnresolved
      else min 999999999999 (s.audit.debitsUnresolved + ds.length) := by
  induction ds generalizing s with
  | nil => rfl
  | cons d ds ih =>
    have hone : (closeDebit s d).audit.debitsUnresolved = min 999999999999 (s.audit.debitsUnresolved + 1) := by
      rw [closeDebit_eq]
      rfl
    rw [List.foldl_cons, ih, hone, if_neg (List.cons_ne_nil d ds), List.length_cons]
    split
    · next h => rw [h, List.length_nil]
    · omega

/-! ## The refund table kept -/

theorem keptRefund_card (e : RefundEntry) : (keptRefund e).card = e.card := by
  unfold keptRefund
  split <;> rfl

theorem keptRefund_position (e : RefundEntry) : (keptRefund e).position = e.position := by
  unfold keptRefund
  split <;> rfl

theorem keptState_machine (a : Addr) (s : State) : (keptState s).machine a = .initial := Vector.getElem_replicate a.isLt

/-- R84: no card stands at a station after power-on. -/
theorem keptState_card (i : StationId) (s : State) : ((keptState s).station i).card = none := by cases i <;> rfl

/-- R52, R115: the refund of a retained cycle is a new entry of the table kept. -/
theorem placeRefund_keptState {s : State} {card amount machine : Nat} {bits : BitVec 7} (hpos : 0 < amount) (hmax : amount ≤ 50000)
    (hnone : ∀ e ∈ s.refunds, e.card ≠ card) (hroom : s.refunds.length < 32) :
    placeRefund card amount machine ((keptState s).raising bits) = State.raising (State.raising { keptState s with
      refunds := s.refunds.map keptRefund ++ [⟨freePosition (s.refunds.map keptRefund), card, amount, .ready, false, none, 0⟩],
      audit := { s.audit with issued := min 999999999999 (s.audit.issued + amount) } } bits) (eventBit .payment) := by
  have hcards : ∀ e ∈ s.refunds.map keptRefund, e.card ≠ card := by
    simpa [keptRefund_card] using hnone
  rw [placeRefund_new (s := (keptState s).raising bits) hpos hmax hcards ((List.length_map _).trans_lt hroom),
    tellPlacement_away fun i => by simp [keptState_card]]
  rfl

/-- Settles O60: the retained domain is kept or not, and what it holds is closed. -/
theorem powerOnStartsThePart : Obligations.PowerOnStartsThePart := by
  intro s fresh refunds changed kept debits settled
  have hkept : ∀ h : s.retentionValid = true, powerOn true s = debits.foldl closeDebit (allAddrs.foldl (closeRetained s) kept) :=
    fun h => (powerOn_kept h).trans (by rw [keepRetained_eq]; rfl)
  refine ⟨rfl, fun h => (exec_powerOn true s).trans (congrArg _ (powerOn_lost (by simp [retentionKept, h]))),
    fun h hnone hsettled => ?_, fun d h hone hsettled => ?_, fun a c h hnone hother hc hr hpos hmax hcard hroom => ?_,
    fun h => ⟨_, exec_powerOn true s, ?_⟩⟩
  · rw [exec_powerOn, hkept h, hnone, foldl_closeRetained_settled fun a _ => hsettled a]
    rfl
  · rw [exec_powerOn, hkept h, hone, foldl_closeRetained_settled fun a _ => hsettled a, List.foldl_cons, closeDebit_eq]
    rfl
  · have hlength : (s.refunds.map keptRefund).length < 32 := (List.length_map _).trans_lt hroom
    have hfree := freePosition_free hlength
    refine ⟨freePosition (s.refunds.map keptRefund), hfree.1, fun e he heq => hfree.2 ?_, fun n hn => ?_, ?_⟩
    · rw [← heq, ← keptRefund_position e]
      exact List.mem_map_of_mem (List.mem_map_of_mem he)
    · obtain ⟨e, he, heq⟩ := freePosition_least hlength hn
      obtain ⟨x, hx, rfl⟩ := List.mem_map.mp he
      exact ⟨x, hx, (keptRefund_position x).symm.trans heq⟩
    · rw [exec_powerOn, hkept h, hnone, closeRetained_only hother, closeRetained_open hc hr]
      exact congrArg _ (placeRefund_keptState hpos hmax hcard hroom)
  · have hclosed := touched_closeRetainedState_money s kept
    have hpower : powerOn true s = closeRetainedState s kept := hkept h
    obtain ⟨hdoubts, hdebitA, hdebitB⟩ := hclosed .doubts (by simp)
    rw [hpower]
    refine ⟨hdoubts, hdebitA, hdebitB, fun a => (hclosed.machine (by simp) a).trans (keptState_machine a s), ?_⟩
    exact (debitsUnresolved_closeDebits debits _).trans (by rw [debitsUnresolved_closeRetained]; rfl)

end Sys2Proof.Machine

/-! PROOF. The records of the image and of the configuration requests are read back from their bytes (9.2, R172 to R174). -/

namespace Sys2Proof.Machine

/-! ## Numbers in their bytes -/

theorem toNat_byte_of_lt {n : Nat} (h : n < 256) : (byte n).toNat = n := by
  rw [toNat_byte]
  omega

theorem toNat_bytes_of_lt {n : Nat} (h : n < 65536) : (byte (n / 256)).toNat * 256 + (byte n).toNat = n := by
  rw [toNat_byte, toNat_byte]
  omega

theorem byte_toNat (b : Byte) : byte b.toNat = b := by simp [byte]

/-! ## The room parameters -/

/-- 9.2: what the ranges of the room parameters bound. -/
structure Params.Bounded (p : Params) : Prop where
  ceiling : p.ceiling < 65536
  holdWindow : p.holdWindow < 65536
  doubtWindow : p.doubtWindow < 65536
  grantWait : p.grantWait < 65536
  doorPause : p.doorPause < 65536
  threshold : p.threshold < 256
  defaultElectric : p.defaultElectric < 65536
  defaultWater : p.defaultWater < 256
  electricWasher : p.electricWasher < 65536
  electricDryer : p.electricDryer < 65536
  waterWasher : p.waterWasher < 256
  discount : p.discount < 256

theorem clampTo_le {lo hi n : Nat} (h : lo ≤ hi) (hn : clampTo lo hi n = n) : n ≤ hi := by
  unfold clampTo at hn
  omega

theorem Params.bounded {p : Params} (h : p.clamp = p) : p.Bounded where
  ceiling := (clampTo_le (by decide) (congrArg Params.ceiling h)).trans_lt (by decide)
  holdWindow := (clampTo_le (by decide) (congrArg Params.holdWindow h)).trans_lt (by decide)
  doubtWindow := (clampTo_le (by decide) (congrArg Params.doubtWindow h)).trans_lt (by decide)
  grantWait := (clampTo_le (by decide) (congrArg Params.grantWait h)).trans_lt (by decide)
  doorPause := (clampTo_le (by decide) (congrArg Params.doorPause h)).trans_lt (by decide)
  threshold := (clampTo_le (by decide) (congrArg Params.threshold h)).trans_lt (by decide)
  defaultElectric := (clampTo_le (by decide) (congrArg Params.defaultElectric h)).trans_lt (by decide)
  defaultWater := (clampTo_le (by decide) (congrArg Params.defaultWater h)).trans_lt (by decide)
  electricWasher := (clampTo_le (by decide) (congrArg Params.electricWasher h)).trans_lt (by decide)
  electricDryer := (clampTo_le (by decide) (congrArg Params.electricDryer h)).trans_lt (by decide)
  waterWasher := (clampTo_le (by decide) (congrArg Params.waterWasher h)).trans_lt (by decide)
  discount := (clampTo_le (by decide) (congrArg Params.discount h)).trans_lt (by decide)

/-- 9.2: where the fields of a ROOM payload stand. -/
theorem readParams_fields (b0 b1 b2 b3 b4 b5 b6 b7 b8 b9 b10 b11 b12 b13 b14 b15 b16 b17 b18 b19 b20 b21 : Byte) :
    readParams [b0, b1, b2, b3, b4, b5, b6, b7, b8, b9, b10, b11, b12, b13, b14, b15, b16, b17, b18, b19, b20, b21] = {
      issuer := b0.toNat * 256 + b1.toNat, ceiling := b2.toNat * 256 + b3.toNat, holdWindow := b4.toNat * 256 + b5.toNat,
      doubtWindow := b6.toNat * 256 + b7.toNat, grantWait := b8.toNat * 256 + b9.toNat,
      doorPause := b10.toNat * 256 + b11.toNat, threshold := b12.toNat, defaultElectric := b13.toNat * 256 + b14.toNat,
      defaultWater := b15.toNat, electricWasher := b16.toNat * 256 + b17.toNat, electricDryer := b18.toNat * 256 + b19.toNat,
      waterWasher := b20.toNat, discount := b21.toNat } := rfl

theorem readParams_paramsBytes {p : Params} (h : p.clamp = p) (hissuer : p.issuer < 65536) : readParams (paramsBytes p) = p := by
  have hb := Params.bounded h
  have hbytes : paramsBytes p = [byte (p.issuer / 256), byte p.issuer, byte (p.ceiling / 256), byte p.ceiling,
      byte (p.holdWindow / 256), byte p.holdWindow, byte (p.doubtWindow / 256), byte p.doubtWindow, byte (p.grantWait / 256),
      byte p.grantWait, byte (p.doorPause / 256), byte p.doorPause, byte p.threshold, byte (p.defaultElectric / 256),
      byte p.defaultElectric, byte p.defaultWater, byte (p.electricWasher / 256), byte p.electricWasher,
      byte (p.electricDryer / 256), byte p.electricDryer, byte p.waterWasher, byte p.discount] := rfl
  rw [hbytes, readParams_fields, toNat_bytes_of_lt hissuer, toNat_bytes_of_lt hb.ceiling, toNat_bytes_of_lt hb.holdWindow,
    toNat_bytes_of_lt hb.doubtWindow, toNat_bytes_of_lt hb.grantWait, toNat_bytes_of_lt hb.doorPause,
    toNat_byte_of_lt hb.threshold, toNat_bytes_of_lt hb.defaultElectric, toNat_byte_of_lt hb.defaultWater,
    toNat_bytes_of_lt hb.electricWasher, toNat_bytes_of_lt hb.electricDryer, toNat_byte_of_lt hb.waterWasher,
    toNat_byte_of_lt hb.discount]

/-! ## Ratings and dryer profiles -/

theorem readRatings_behind {r : Ratings} (h : r.clamp = r) (b c : Byte) (rest : List Byte) :
    readRatings (b :: c :: (ratingsBytes r ++ rest)) 2 = r := by
  have hmotor : r.motor ≤ 20 := min_eq_left_iff.mp (congrArg Ratings.motor h)
  have hspin : r.spin ≤ 40 := min_eq_left_iff.mp (congrArg Ratings.spin h)
  have hheater : r.heater ≤ 80 := min_eq_left_iff.mp (congrArg Ratings.heater h)
  have hfill : r.fill ≤ 20 := min_eq_left_iff.mp (congrArg Ratings.fill h)
  have hread : readRatings (b :: c :: (ratingsBytes r ++ rest)) 2 =
      ⟨(byte r.motor).toNat, (byte r.spin).toNat, (byte r.heater).toNat, (byte r.fill).toNat⟩ := rfl
  rw [hread, toNat_byte_of_lt (by omega), toNat_byte_of_lt (by omega), toNat_byte_of_lt (by omega), toNat_byte_of_lt (by omega)]

theorem readDry_dryBytes {p : DryProfile} (h : p.clamp = p) (n : Nat) : readDry (dryBytes n p) = p := by
  have hlu : p.dryLu ≤ 80 := min_eq_left_iff.mp (congrArg DryProfile.dryLu h)
  have hcool : p.coolSeconds ≤ 7200 := clampTo_le (by decide) (congrArg DryProfile.coolSeconds h)
  have hstep : p.stepMinutes ≤ 30 := clampTo_le (by decide) (congrArg DryProfile.stepMinutes h)
  have hprice : p.stepPrice ≤ 500 := min_eq_left_iff.mp (congrArg DryProfile.stepPrice h)
  have hmost : p.maxMinutes ≤ 180 := clampTo_le (by decide) (congrArg DryProfile.maxMinutes h)
  have hread : readDry (dryBytes n p) = {
      dryLu := (byte p.dryLu).toNat, coolSeconds := (byte (p.coolSeconds / 256)).toNat * 256 + (byte p.coolSeconds).toNat,
      stepMinutes := (byte p.stepMinutes).toNat, stepPrice := (byte (p.stepPrice / 256)).toNat * 256 + (byte p.stepPrice).toNat,
      maxMinutes := (byte p.maxMinutes).toNat } := rfl
  rw [hread, toNat_byte_of_lt (by omega), toNat_bytes_of_lt (by omega), toNat_byte_of_lt (by omega), toNat_bytes_of_lt (by omega),
    toNat_byte_of_lt (by omega)]

/-! ## Washer profiles -/

theorem kindOf_kindCode (k : PhaseKind) : kindOf (byte (kindCode k)).toNat = some k := by cases k <;> rfl

/-- 9.2: a phase entry is read back from its seven bytes. -/
theorem readEntry_entryBytes {e : PlanEntry} (h : e.clamp = e) (rest : List Byte) :
    readEntry (entryBytes e ++ rest) 0 = some e := by
  have hlimit : e.limit ≤ 7200 := clampTo_le (by decide) (congrArg PlanEntry.limit h)
  have hlu : e.lu ≤ 80 := min_eq_left_iff.mp (congrArg PlanEntry.lu h)
  have hfu : e.fu ≤ 20 := min_eq_left_iff.mp (congrArg PlanEntry.fu h)
  have hweight : e.weight ≤ 100 := min_eq_left_iff.mp (congrArg PlanEntry.weight h)
  have hkind : at1 (entryBytes e ++ rest) 0 = (byte (kindCode e.kind)).toNat := rfl
  have hflag : at1 (entryBytes e ++ rest) (0 + 6) = bit e.suspendable := by
    show (byte (bit e.suspendable)).toNat = bit e.suspendable
    cases e.suspendable <;> rfl
  have hseconds : at2 (entryBytes e ++ rest) (0 + 1) = e.limit := toNat_bytes_of_lt (n := e.limit) (by omega)
  have hunits : at1 (entryBytes e ++ rest) (0 + 3) = e.lu := toNat_byte_of_lt (n := e.lu) (by omega)
  have hfill : at1 (entryBytes e ++ rest) (0 + 4) = e.fu := toNat_byte_of_lt (n := e.fu) (by omega)
  have hshare : at1 (entryBytes e ++ rest) (0 + 5) = e.weight := toNat_byte_of_lt (n := e.weight) (by omega)
  have hle : bit e.suspendable ≤ 1 := by cases e.suspendable <;> decide
  have hback : (bit e.suspendable == 1) = e.suspendable := by cases e.suspendable <;> rfl
  unfold readEntry
  simp only [hkind, kindOf_kindCode, hflag, hseconds, hunits, hfill, hshare, if_pos hle, hback]

theorem at1_append_right (xs ys : List Byte) (i : Nat) : at1 (xs ++ ys) (xs.length + i) = at1 ys i := by
  have hle : xs.length ≤ xs.length + i := Nat.le_add_right _ _
  simp [at1, List.getElem?_append_right hle]

theorem at2_append_right (xs ys : List Byte) (i : Nat) : at2 (xs ++ ys) (xs.length + i) = at2 ys i := by
  rw [at2, at2, at1_append_right, Nat.add_assoc, at1_append_right]

/-- An entry that stands behind other bytes is read as where it stands first. -/
theorem readEntry_append_right (xs ys : List Byte) : readEntry (xs ++ ys) xs.length = readEntry ys 0 := by
  have h0 := at1_append_right xs ys 0
  rw [Nat.add_zero] at h0
  simp only [readEntry, h0, at1_append_right, at2_append_right, Nat.zero_add]

theorem readEntries_plan {plan : List PlanEntry} (h : ∀ e ∈ plan, e.clamp = e) :
    ∀ before : List Byte, readEntries (before ++ plan.flatMap entryBytes) before.length plan.length = some plan := by
  induction plan with
  | nil => exact fun before => rfl
  | cons e es ih =>
    intro before
    have hfirst : readEntry (before ++ (e :: es).flatMap entryBytes) before.length = some e := by
      rw [readEntry_append_right, List.flatMap_cons, readEntry_entryBytes (h e (by simp))]
    have hrest := ih (fun x hx => h x (by simp [hx])) (before ++ entryBytes e)
    rw [List.append_assoc, List.length_append, ← List.flatMap_cons] at hrest
    have hlen : (entryBytes e).length = 7 := rfl
    rw [hlen] at hrest
    simp only [List.length_cons, readEntries, hfirst, hrest]

theorem WashProfile.plan_clamp {p : WashProfile} (h : p.clamp = p) : ∀ e ∈ p.plan, e.clamp = e := by
  have hplan : p.plan.map PlanEntry.clamp = p.plan := congrArg WashProfile.plan h
  intro e he
  obtain ⟨i, hi, rfl⟩ := List.getElem_of_mem he
  have hget := congrArg (fun l : List PlanEntry => l[i]?) hplan
  simpa [hi] using hget

theorem profileRule_length {p : WashProfile} (h : profileRule p = true) : p.plan.length ≤ 12 := by
  simp only [profileRule, Bool.and_eq_true, decide_eq_true_eq] at h
  exact h.1.1.2

/-- 9.2: a washer profile is read back from its bytes. -/
theorem readWash_washBytes {p : WashProfile} (h : p.clamp = p) (hrule : profileRule p = true) (n : Nat) :
    readWash (washBytes n p) = some p := by
  have hprice : p.price ≤ 5000 := min_eq_left_iff.mp (congrArg WashProfile.price h)
  have hlen := profileRule_length hrule
  have hcount : at1 (washBytes n p) 3 = p.plan.length := toNat_byte_of_lt (n := p.plan.length) (by omega)
  have hamount : at2 (washBytes n p) 1 = p.price := toNat_bytes_of_lt (n := p.price) (by omega)
  have hentries : readEntries (washBytes n p) 4 p.plan.length = some p.plan :=
    readEntries_plan (WashProfile.plan_clamp h) (be1 n ++ be2 p.price ++ be1 p.plan.length)
  rw [readWash, hcount, hentries, hamount]
  rfl

end Sys2Proof.Machine

/-! PROOF. The configuration requests as whole states (R20, R105, R172 to R174). -/

namespace Sys2Proof.Machine

/-! ## The loader's tables replaced -/

theorem vector_setIfInBounds_eq_set {α : Type} {n i : Nat} (xs : Vector α n) (h : i < n) (x : α) :
    xs.setIfInBounds i x = xs.set i x h := by
  apply Vector.toArray_inj.mp
  simp [Array.setIfInBounds_def, h]

/-- The part with the loader's tables replaced. -/
def State.withTables (s : State) (t : Tables) : State := { s with tables := t }

section
variable {s : State} {t : Tables} {c : Instr} {r : Req} {payload bytes : List Byte} {a : Addr}

theorem setTables_hunt (t : Tables) (s : State) :
    setTables t (hunt .operator s) = (hunt .operator (s.withTables t)).raising (eventBit .config) := rfl

/-- R172 to R174: a configuration request whose values are all in range. -/
theorem exec_tables (hr : requestOf c = some (r, payload)) (hp : portOf c = some .operator) (hs : s.listens .operator)
    (hright : reqRight .operator r = true) (hlength : reqLength payload r = true) {st : Status}
    (howner : ownerDecision r .operator payload (hunt .operator s) = ⟨setTables t (hunt .operator s), st, bytes⟩) :
    exec c s = .next (State.answering { s with tables := t } .operator (replyTo (reqCode r) st bytes) (eventBit .config)) :=
  exec_raising hr hp hs hright hlength (howner.trans (by rw [setTables_hunt]; rfl))

theorem hunt_store_none (h : s.store = none) : (hunt .operator s).store.isSome = false := by rw [hunt_store, h]; rfl

/-! ## SET_ROOM_PARAM -/

theorem reserveChanged_same (k : PoolId) (c : MachineClass) (n : Nat) (s : State) : reserveChanged k c n n s = s := if_pos rfl

theorem decideRoomParam_eq {p : Params} (hstore : s.store.isSome = false) (h : p.clamp = p) (hissuer : p.issuer < 65536)
    (hew : p.electricWasher = s.tables.params.electricWasher) (hed : p.electricDryer = s.tables.params.electricDryer)
    (hww : p.waterWasher = s.tables.params.waterWasher) : decideRoomParam (paramsBytes p) s =
      ⟨setTables { s.tables with params := p } s, .ok, paramsBytes p⟩ := by
  unfold decideRoomParam
  simp only [hstore, readParams_paramsBytes h hissuer, h, hew, hed, hww, reserveChanged_same, applied, ite_self]
  simp

/-! ## Profiles -/

theorem program_lt (n : Fin Config.programs) : n.val < 256 := n.isLt.trans (by decide)

theorem at1_program (n : Fin Config.programs) (rest : List Byte) : at1 (byte n :: rest) 0 = n := toNat_byte_of_lt (program_lt n)

theorem not_programs_le (n : Fin Config.programs) : ¬ Config.programs ≤ n.val := Nat.not_le.mpr n.isLt

theorem setWash_eq (t : Tables) (n : Fin Config.programs) (p : Option WashProfile) :
    t.setWash n p = { t with wash := t.wash.set n p } := by
  rw [Tables.setWash, vector_setIfInBounds_eq_set _ n.isLt]

theorem setDry_eq (t : Tables) (n : Fin Config.programs) (p : Option DryProfile) :
    t.setDry n p = { t with dry := t.dry.set n p } := by
  rw [Tables.setDry, vector_setIfInBounds_eq_set _ n.isLt]

theorem washOf_eq (t : Tables) (n : Fin Config.programs) : t.washOf n = t.wash[n] := dif_pos n.isLt

theorem dryOf_eq (t : Tables) (n : Fin Config.programs) : t.dryOf n = t.dry[n] := dif_pos n.isLt

theorem decideWashProfile_writes {p : WashProfile} (hstore : s.store.isSome = false) (n : Fin Config.programs) (h : p.clamp = p)
    (hrule : profileRule p = true) : decideWashProfile (washBytes n p) s =
      ⟨setTables { s.tables with wash := s.tables.wash.set n (some p) } s, .ok, washBytes n p⟩ := by
  have hat : at1 (washBytes n p) 0 = n := at1_program n _
  have hlong : ¬ (washBytes n p).length = 1 := by simp [washBytes, be1, be2]
  unfold decideWashProfile
  simp only [hstore, hat, if_neg (not_programs_le n), if_neg hlong, readWash_washBytes h hrule, h, hrule, applied, setWash_eq]
  simp

theorem decideWashProfile_removes (hstore : s.store.isSome = false) (n : Fin Config.programs) :
    decideWashProfile [byte n] s = if s.tables.wash[n].isNone then refuse .notFound s
      else done [] (setTables { s.tables with wash := s.tables.wash.set n none } s) := by
  unfold decideWashProfile
  simp only [hstore, at1_program, if_neg (not_programs_le n), washOf_eq, setWash_eq, List.length_singleton]
  simp

theorem decideDryProfile_writes {p : DryProfile} (hstore : s.store.isSome = false) (n : Fin Config.programs) (h : p.clamp = p) :
    decideDryProfile (dryBytes n p) s =
      ⟨setTables { s.tables with dry := s.tables.dry.set n (some p) } s, .ok, dryBytes n p⟩ := by
  have hat : at1 (dryBytes n p) 0 = n := at1_program n _
  have hlong : ¬ (dryBytes n p).length = 1 := by simp [dryBytes, be1, be2]
  unfold decideDryProfile
  simp only [hstore, hat, if_neg (not_programs_le n), if_neg hlong, readDry_dryBytes h, h, applied, setDry_eq]
  simp

theorem decideDryProfile_removes (hstore : s.store.isSome = false) (n : Fin Config.programs) :
    decideDryProfile [byte n] s = if s.tables.dry[n].isNone then refuse .notFound s
      else done [] (setTables { s.tables with dry := s.tables.dry.set n none } s) := by
  unfold decideDryProfile
  simp only [hstore, at1_program, if_neg (not_programs_le n), dryOf_eq, setDry_eq, List.length_singleton]
  simp

/-! ## SET_PRICE -/

theorem decidePrice_washer {p : WashProfile} {price : Nat} (hstore : s.store.isSome = false) (n : Fin Config.programs)
    (hp : s.tables.wash[n] = some p) (hprice : price < 65536) : decidePrice ([1, byte n] ++ be2 price) s =
      ⟨setTables { s.tables with wash := s.tables.wash.set n (some { p with price := min price 5000 }) } s,
        if min price 5000 = price then .ok else .clamped, be2 (min price 5000)⟩ := by
  have hclass : classOf (at1 ([1, byte n] ++ be2 price) 0) = some .washer := rfl
  have hat : at1 ([1, byte n] ++ be2 price) 1 = n := toNat_byte_of_lt (program_lt n)
  have hamount : at2 ([1, byte n] ++ be2 price) 2 = price := toNat_bytes_of_lt hprice
  unfold decidePrice
  simp only [hstore, hclass, hat, if_neg (not_programs_le n), hamount, priceWasher, washOf_eq, hp, applied, setWash_eq]
  simp

theorem decidePrice_dryer {p : DryProfile} {minutes price most : Nat} (hstore : s.store.isSome = false) (n : Fin Config.programs)
    (hp : s.tables.dry[n] = some p) (h1 : 1 ≤ minutes) (h30 : minutes ≤ 30) (hprice : price ≤ 500) (h10 : 10 ≤ most)
    (h180 : most ≤ 180) : decidePrice ([2, byte n, byte minutes] ++ be2 price ++ [byte most]) s =
      ⟨setTables { s.tables with dry := s.tables.dry.set n (some { p with
        stepMinutes := minutes, stepPrice := price, maxMinutes := most }) } s, .ok, [byte minutes] ++ be2 price ++ [byte most]⟩ := by
  have hclass : classOf (at1 ([2, byte n, byte minutes] ++ be2 price ++ [byte most]) 0) = some .dryer := rfl
  have hat : at1 ([2, byte n, byte minutes] ++ be2 price ++ [byte most]) 1 = n := toNat_byte_of_lt (program_lt n)
  have hminutes : at1 ([2, byte n, byte minutes] ++ be2 price ++ [byte most]) 2 = minutes :=
    toNat_byte_of_lt (n := minutes) (by omega)
  have hamount : at2 ([2, byte n, byte minutes] ++ be2 price ++ [byte most]) 3 = price :=
    toNat_bytes_of_lt (n := price) (by omega)
  have hmost : at1 ([2, byte n, byte minutes] ++ be2 price ++ [byte most]) 5 = most := toNat_byte_of_lt (n := most) (by omega)
  have hm : clampTo 1 30 minutes = minutes := by unfold clampTo; omega
  have hq : min price 500 = price := Nat.min_eq_left hprice
  have hx : clampTo 10 180 most = most := by unfold clampTo; omega
  unfold decidePrice
  simp only [hstore, hclass, hat, if_neg (not_programs_le n), hminutes, hamount, hmost, priceDryer, dryOf_eq, hp, hm, hq, hx, applied,
    setDry_eq]
  simp [be1]

/-! ## SET_MACHINE -/

/-- R174: the owner of SET_MACHINE for an address, a class byte and ratings in range. -/
theorem decideMachine_eq {x : Byte} {ratings : Ratings} (hstore : s.store.isSome = false) (h : ratings.clamp = ratings)
    (hx : x.toNat ≤ 2) : decideMachine ([byte (addrNum a), x] ++ ratingsBytes ratings) s =
      if !rosterFree a s then refuse .badState s
      else ⟨setRoster a ((classOf x.toNat).map (fun c => ⟨c, ratings⟩)) s, .ok,
        [byte (addrNum a), x] ++ ratingsBytes ratings⟩ := by
  have hread : readRatings ([byte (addrNum a), x] ++ ratingsBytes ratings) 2 = ratings := by
    have := readRatings_behind h (byte (addrNum a)) x []
    rwa [List.append_nil] at this
  have haddr : addr? (at1 ([byte (addrNum a), x] ++ ratingsBytes ratings) 0) = some a := by
    rw [List.cons_append, at1_addrNum, addr?_addrNum]
  have hclass : at1 ([byte (addrNum a), x] ++ ratingsBytes ratings) 1 = x.toNat := rfl
  unfold decideMachine
  simp only [hstore, hread, haddr, hclass, h, if_neg (Nat.not_lt.mpr hx), applied, be1, byte_toNat]
  simp

theorem hunt_operating (hs : s.mode = .operating) : (hunt .operator s).operating = true := by
  simp [State.operating, hs]

theorem machine_config_bits : eventBit .config ||| eventBit .machine = eventBit .machine ||| eventBit .config := rfl

/-- R174: a roster entry that changes, of an address that keeps its slots. -/
theorem setRoster_kept (hs : s.mode = .operating) {old new : Option RosterEntry} (hold : s.tables.roster[a] = old)
    (hne : old ≠ new) (hslots : ¬ (old.isNone = true ∧ new.isSome = true)) : setRoster a new (hunt .operator s) =
      (hunt .operator ((s.withTables { s.tables with roster := s.tables.roster.set a new }).setMachine a
        (rosterRecord old new (s.machine a)))).raising (eventBit .machine ||| eventBit .config) := by
  subst hold
  unfold setRoster
  simp only [hunt_tables, if_neg hslots, setTables_hunt]
  refine (if_pos ⟨hunt_operating hs, hne⟩).trans ?_
  rw [modifyMachine_eq, raise_eq_raising, setMachine_raising, raising_raising, setMachine_hunt, machine_config_bits,
    raising_machine, hunt_machine]
  rfl

/-- R20, R174: an address that becomes configured has a record at its power-on values, and no slot left from the round. -/
theorem setRoster_configures (hs : s.mode = .operating) (hold : s.tables.roster[a] = none) (e : RosterEntry) :
    setRoster a (some e) (hunt .operator s) = (hunt .operator (State.setMachine { s with
      tables := { s.tables with roster := s.tables.roster.set a (some e) }, slots := s.slots.filter (· ≠ a),
      slot := if s.slot = some a then none else s.slot } a .initial)).raising (eventBit .machine ||| eventBit .config) := by
  have hdrop : dropSlot a (setTables { s.tables with roster := s.tables.roster.set a (some e) } (hunt .operator s)) =
      (hunt .operator { s with
        tables := { s.tables with roster := s.tables.roster.set a (some e) }, slots := s.slots.filter (· ≠ a),
        slot := if s.slot = some a then none else s.slot }).raising (eventBit .config) := rfl
  unfold setRoster
  simp only [hunt_tables, hold, Option.isNone_none, Option.isSome_some, and_self, if_true, hdrop]
  refine (if_pos ⟨hunt_operating hs, nofun⟩).trans ?_
  rw [modifyMachine_eq, raise_eq_raising, setMachine_raising, raising_raising, setMachine_hunt, machine_config_bits]
  rfl

theorem rosterFree_unconfigured (h : s.tables.roster[a] = none) : rosterFree a s = true := by simp [rosterFree, h]

/-- R174: the entry of a machine with work, or neither ABSENT nor OUT_OF_SERVICE, stands. -/
theorem rosterFree_eq (hs : s.operating = true) {e : RosterEntry} (he : s.tables.roster[a] = some e) : rosterFree a s =
    ((decide ((s.machine a).state = .absent) || decide ((s.machine a).state = .outOfService)) &&
      (s.machine a).payment.isNone && !sessionOn a s && (s.machine a).testRun.isNone) := by
  simp [rosterFree, hs, he]

end

theorem entriesBytes_length (plan : List PlanEntry) : (plan.flatMap entryBytes).length = 7 * plan.length := by
  induction plan with
  | nil => rfl
  | cons e es ih =>
    have hone : (entryBytes e).length = 7 := rfl
    rw [List.flatMap_cons, List.length_append, ih, hone, List.length_cons]
    omega

theorem washBytes_length (n : Nat) (p : WashProfile) : (washBytes n p).length = 4 + 7 * p.plan.length := by
  rw [washBytes, List.length_append, entriesBytes_length]
  rfl

/-- R160: the bytes of a profile that keeps the rules have the length that its own count of entries asks for. -/
theorem washLength {p : WashProfile} (hrule : profileRule p = true) (n : Nat) :
    reqLength (washBytes n p) .setWashProfile = true := by
  have hshort := profileRule_length hrule
  have hcount : at1 (washBytes n p) 3 = p.plan.length := toNat_byte_of_lt (n := p.plan.length) (by omega)
  simp [reqLength, hcount, washBytes_length]

/-- R174: SET_MACHINE as a whole, of a roster entry that may change. -/
theorem exec_setMachine {s t : State} {a : Addr} {x : Byte} {r : Ratings} (hs : s.listens .operator)
    (hstore : s.store.isSome = false) (h : r.clamp = r) (hx : x.toNat ≤ 2) (hfree : rosterFree a (hunt .operator s) = true)
    (hroster : setRoster a ((classOf x.toNat).map (fun c => ⟨c, r⟩)) (hunt .operator s) =
      (hunt .operator t).raising (eventBit .machine ||| eventBit .config)) :
    exec (.setMachine .operator ([byte (addrNum a), x] ++ ratingsBytes r)) s = .next (t.answering .operator
      (replyTo 0x24 .ok ([byte (addrNum a), x] ++ ratingsBytes r)) (eventBit .machine ||| eventBit .config)) := by
  refine exec_raising (r := .setMachine) rfl rfl hs rfl rfl ?_
  rw [ownerDecision, decideMachine_eq (by rwa [hunt_store]) h hx, hfree, hroster]
  rfl

theorem classByte (c : MachineClass) : (byte (classCode c)).toNat ≤ 2 ∧ classOf (byte (classCode c)).toNat = some c := by
  cases c <;> decide

/-- Settles O57: each request by its owner's decision on a payload whose values are in range. -/
theorem configurationRequestsWriteTheTables : Obligations.ConfigurationRequestsWriteTheTables := by
  intro s hs hstore put
  have hidle : (hunt .operator s).store.isSome = false := hunt_store_none hstore
  have htables : (hunt .operator s).tables = s.tables := hunt_tables ..
  have hnone : s.store.isSome = false := by rw [hstore, Option.isSome_none]
  have hfree : ∀ {a : Addr} {e : RosterEntry}, s.tables.roster[a] = some e →
      (s.machine a).state = .absent ∨ (s.machine a).state = .outOfService → (s.machine a).payment = none →
      (s.machine a).testRun = none → (∀ x, s.session = some x → x.machine ≠ a) → rosterFree a (hunt .operator s) = true := by
    intro a e hold hst hpay hrun hses
    have hclosed : sessionOn a (hunt .operator s) = false :=
      Bool.eq_false_iff.mpr fun hon => by
        rw [sessionOn_iff, hunt_session] at hon
        obtain ⟨x, hx, hxa⟩ := hon
        exact hses x hx hxa
    rw [rosterFree_eq (hunt_operating hs.1) (by rwa [htables])]
    rcases hst with hst | hst <;> simp [hst, hpay, hrun, hclosed]
  have hput : ∀ {c : Instr} {r : Req} {payload : List Byte} (t : Tables) (bytes : List Byte), requestOf c = some (r, payload) →
      portOf c = some .operator → reqRight .operator r = true → reqLength payload r = true →
      ownerDecision r .operator payload (hunt .operator s) = ⟨setTables t (hunt .operator s), .ok, bytes⟩ →
      exec c s = put t (reqCode r) bytes := fun t bytes hr hp hright hlength howner => exec_tables hr hp hs hright hlength howner
  refine ⟨fun p h hissuer hew hed hww => ?_, fun n p h hrule => ?_, fun n p h => ?_, fun n => ⟨fun hp => ?_, fun hp => ?_,
    fun hp => ?_, fun hp => ?_⟩, fun n p price hp hprice => ?_, fun n p price hp hbig hmax => ?_,
    fun n p minutes price most hp h1 h30 hprice h10 h180 => ?_, fun a c r h hold => ?_, fun a e r h hold => ⟨fun hst hpay hrun hses =>
    ⟨?_, fun c hne => ?_⟩, fun habsent hout x hx => ?_⟩⟩
  · refine hput (r := .setRoomParam) _ _ rfl rfl rfl rfl ?_
    rw [ownerDecision, decideRoomParam_eq hidle h hissuer (by rwa [htables]) (by rwa [htables]) (by rwa [htables]), htables]
  · refine hput (r := .setWashProfile) _ _ rfl rfl rfl ?_ ?_
    · exact washLength hrule n
    · rw [ownerDecision, decideWashProfile_writes hidle n h hrule, htables]
  · refine hput (r := .setDryProfile) _ _ rfl rfl rfl rfl ?_
    rw [ownerDecision, decideDryProfile_writes hidle n h, htables]
  · refine hput (r := .setWashProfile) _ _ rfl rfl rfl rfl ?_
    rw [ownerDecision, decideWashProfile_removes hidle, htables, if_neg (by simpa using Option.isSome_iff_ne_none.mp hp)]
    rfl
  · refine exec_answered (r := .setWashProfile) rfl rfl hs rfl rfl ?_
    rw [ownerDecision, decideWashProfile_removes hidle, htables, if_pos (by simp [hp])]
    rfl
  · refine hput (r := .setDryProfile) _ _ rfl rfl rfl rfl ?_
    rw [ownerDecision, decideDryProfile_removes hidle, htables, if_neg (by simpa using Option.isSome_iff_ne_none.mp hp)]
    rfl
  · refine exec_answered (r := .setDryProfile) rfl rfl hs rfl rfl ?_
    rw [ownerDecision, decideDryProfile_removes hidle, htables, if_pos (by simp [hp])]
    rfl
  · refine hput (r := .setPrice) _ _ rfl rfl rfl rfl ?_
    rw [ownerDecision, decidePrice_washer hidle n (by rwa [htables]) (by omega), htables, Nat.min_eq_left hprice, if_pos rfl]
  · refine exec_tables (r := .setPrice) rfl rfl hs rfl rfl ?_
    rw [ownerDecision, decidePrice_washer hidle n (by rwa [htables]) hmax, htables, Nat.min_eq_right (by omega), if_neg (by omega)]
  · refine hput (r := .setPrice) _ _ rfl rfl rfl rfl ?_
    rw [ownerDecision, decidePrice_dryer hidle n (by rwa [htables]) h1 h30 hprice h10 h180, htables]
  · refine exec_setMachine hs hnone h (classByte c).1 (rosterFree_unconfigured (by rwa [htables])) ?_
    rw [(classByte c).2]
    exact setRoster_configures hs.1 hold ⟨c, r⟩
  · refine exec_setMachine hs hnone h (by decide) (hfree hold hst hpay hrun hses) ?_
    exact setRoster_kept hs.1 hold nofun (by simp)
  · refine exec_setMachine hs hnone h (classByte c).1 (hfree hold hst hpay hrun hses) ?_
    have hnew : some e ≠ some ⟨c, r⟩ := fun heq => hne (Option.some.inj heq)
    rw [(classByte c).2, Option.map_some, setRoster_kept hs.1 hold hnew (by simp), rosterRecord, if_neg hnew]
    rfl
  · refine exec_answered (r := .setMachine) rfl rfl hs rfl rfl ?_
    have hkept : rosterFree a (hunt .operator s) = false := by
      rw [rosterFree_eq (hunt_operating hs.1) (by rwa [htables])]
      simp [habsent, hout]
    rw [ownerDecision, decideMachine_eq hidle h hx, hkept]
    rfl

end Sys2Proof.Machine

/-! PROOF. The store of the configuration, access by access, and an autoload that reads nothing (R169, R170, R175). -/

namespace Sys2Proof.Machine

/-! ## The pages of a store -/

section
variable {s : State} {job : StoreJob} {page : Nat} {y : LinkAnswers} {x : ReadAnswers}

theorem imageLength_eq (s : State) : imageLength s = (imageOf s).length := by
  rw [imageLength, imageOf, List.length_append]
  rfl

/-- R175: behind pages that stand as the tables lay them out now, the image is that of the tables. -/
theorem layoutAfter_take {k : Nat} (hk : k < (imageOf s).length) : layoutAfter ((imageOf s).take k) s = imageOf s := by
  have hlength : (imageOf s).length = (layout s).length + 2 := (imageLength_eq s).symm
  have hmade : ((imageOf s).take k).take (layout s).length = (layout s).take k := by
    rw [List.take_take, imageOf, List.take_append_of_le_length (min_le_left ..), List.take_eq_take_iff]
    omega
  have hrest : (layout s).drop ((imageOf s).take k).length = (layout s).drop k := by
    rw [List.length_take, min_eq_left hk.le]
  rw [layoutAfter]
  simp only [hmade, hrest, List.take_append_drop]
  rfl

theorem layPage_first (s : State) : layPage 0 [] s = (imageOf s).take 32 := rfl

theorem layPage_next (hmore : 32 * (page + 1) < (imageOf s).length) :
    layPage (page + 1) ((imageOf s).take (32 * (page + 1))) s = (imageOf s).take (32 * (page + 2)) := by
  rw [layPage, layoutAfter_take hmore]

/-! ## The accesses of a store -/

/-- R169: a page has gone through. -/
theorem pageDone_iff : pageDone job y = true ↔
    3 + (storePageBytes job).length ≤ y.bytes.length ∧ (∀ b ∈ y.bytes, b = true) ∧ true ∈ y.polls := by
  rw [pageDone, writeDone_iff, and_assoc]
  rfl

theorem storePageBytes_writing (h : job.step = .writing page) :
    storePageBytes job = ((([0, 0] : List Byte) ++ job.image.drop 2).drop (32 * page)).take 32 := by
  rw [storePageBytes, h]
  rfl

theorem storePageBytes_marking (h : job.step = .marking) : storePageBytes job = job.image.take 32 := by
  rw [storePageBytes, h]
  rfl

theorem endStore_eq (result : StoreResult) (s : State) :
    endStore result s = State.raising { s with store := none, lastStore := some result } (eventBit .config) := rfl

theorem storeDone_eq (s : State) : storeDone s = State.raising { s with
    store := none, lastStore := some .ok, mode := if s.mode = .configFault then .loading else s.mode } (eventBit .config) := by
  have hmode : (endStore .ok s).mode = s.mode := rfl
  rw [storeDone]
  by_cases h : s.mode = .configFault
  · simp only [hmode, if_pos h]
    rfl
  · simp only [hmode, if_neg h]
    rfl

theorem storeAccess_writing (hjob : s.store = some job) (h : job.step = .writing page) :
    storeAccess (.write y) s = if pageDone job y then pageWritten page job.image s else endStore .writeFail s := by
  unfold storeAccess
  simp only [hjob, h]

theorem storeAccess_readingBack (hjob : s.store = some job) (h : job.step = .readingBack) :
    storeAccess (.read x) s = imageReadBack job x s := by
  unfold storeAccess
  simp only [hjob, h]

theorem storeAccess_marking (hjob : s.store = some job) (h : job.step = .marking) :
    storeAccess (.write y) s = if pageDone job y then storeDone s else endStore .writeFail s := by
  unfold storeAccess
  simp only [hjob, h]

/-- R175: a read-back matches when the memory gave every byte of what was written. -/
theorem readBack_iff : bytesRead configMemory x = some (unmarked job.image) ↔
    (4 ≤ x.bytes.length ∧ ∀ b ∈ x.bytes, b = true) ∧ x.data = ([0, 0] : List Byte) ++ job.image.drop 2 :=
  bytesRead_eq_some configMemory x (unmarked job.image)

/-! ## What goes over the config link -/

theorem configAccess_writing (hm : s.mode ≠ .loading) (hjob : s.store = some job) (h : job.step = .writing page) :
    configAccess s = some (.write (32 * page) (storePageBytes job)) := by
  unfold configAccess
  cases hmode : s.mode with
  | loading => exact absurd hmode hm
  | configFault => simp only [hjob, h]
  | operating => simp only [hjob, h]

theorem configAccess_loading (hm : s.mode = .loading) : configAccess s = some (.read 0 8192) := by
  unfold configAccess
  simp only [hm]

/-- R169: a page that the memory acknowledges whole goes out with its device byte and address, and is followed by a poll. -/
theorem traffic_write (offset : Nat) (bytes : List Byte) :
    linkTraffic configMemory (.write offset bytes) ⟨List.replicate (3 + bytes.length) true, [true]⟩ =
      ([.start, .put 0xA0, .put (byte (offset / 256)), .put (byte offset)] : List LinkSymbol) ++ bytes.map .put ++
        ([.stop, .start, .put 0xA0, .stop] : List LinkSymbol) := by
  have hsent : allAcknowledged (3 + bytes.length) (List.replicate (3 + bytes.length) true) = true :=
    (allAcknowledged_iff ..).mpr ⟨(List.length_replicate).ge, fun b hb => List.eq_of_mem_replicate hb⟩
  have hout : acknowledged (([0xA0, byte (offset / 256), byte offset] ++ bytes).map .put ++ [.stop])
      (List.replicate (3 + bytes.length) true) = ([0xA0, byte (offset / 256), byte offset] ++ bytes).map .put ++ [.stop] := by
    have := acknowledged_puts ([0xA0, byte (offset / 256), byte offset] ++ bytes) [.stop] []
    rw [List.append_nil] at this
    rwa [List.length_append, show ([0xA0, byte (offset / 256), byte offset] : List Byte).length = 3 from rfl] at this
  have htraffic : linkTraffic configMemory (.write offset bytes) ⟨List.replicate (3 + bytes.length) true, [true]⟩ =
      .start :: acknowledged (([0xA0, byte (offset / 256), byte offset] ++ bytes).map .put ++ [.stop])
        (List.replicate (3 + bytes.length) true) ++
      (if allAcknowledged (3 + bytes.length) (List.replicate (3 + bytes.length) true) then [.start, .put 0xA0, .stop] else []) := rfl
  rw [htraffic, hout, hsent]
  simp

/-- R169: an unacknowledged device byte is followed by a stop. -/
theorem traffic_write_refused (offset : Nat) (bytes : List Byte) (acks polls : List Bool) :
    linkTraffic configMemory (.write offset bytes) ⟨false :: acks, polls⟩ =
      ([.start, .put 0xA0, .stop] : List LinkSymbol) := by
  have hall : ∀ n, allAcknowledged n (false :: acks) = false := fun n => by simp [allAcknowledged]
  have htraffic : linkTraffic configMemory (.write offset bytes) ⟨false :: acks, polls⟩ =
      ([.start, .put 0xA0, .stop] : List LinkSymbol) ++
        if allAcknowledged (3 + bytes.length) (false :: acks) then pollTraffic configMemory polls else [] := rfl
  rw [htraffic, hall]
  rfl

/-- R169: a read whose device bytes and address bytes are acknowledged takes its bytes. -/
theorem traffic_read (offset count : Nat) (acks polls : List Bool) :
    linkTraffic configMemory (.read offset count) ⟨true :: true :: true :: true :: acks, polls⟩ =
      ([.start, .put 0xA0, .put (byte (offset / 256)), .put (byte offset), .restart, .put 0xA1] : List LinkSymbol) ++
        (takes count ++ [.stop]) := by
  have htraffic : linkTraffic configMemory (.read offset count) ⟨true :: true :: true :: true :: acks, polls⟩ =
      ([.start, .put 0xA0, .put (byte (offset / 256)), .put (byte offset), .restart, .put 0xA1] : List LinkSymbol) ++
        acknowledged (takes count ++ [.stop]) acks ++ [] := rfl
  rw [htraffic, acknowledged_takes, List.append_nil]

/-- R169: the read of the memory from its start. -/
theorem traffic_read_start (n : Nat) (acks polls : List Bool) :
    linkTraffic configMemory (.read 0 (n + 1)) ⟨true :: true :: true :: true :: acks, polls⟩ =
      ([.start, .put 0xA0, .put 0, .put 0, .restart, .put 0xA1] : List LinkSymbol) ++ List.replicate n (.take true) ++
        ([.take false, .stop] : List LinkSymbol) := by
  have htakes : takes (n + 1) = List.replicate n (.take true) ++ [.take false] := rfl
  rw [traffic_read, htakes, List.append_assoc]
  exact (List.append_assoc ..).symm

/-- R169: an unacknowledged address byte is followed by a stop. -/
theorem traffic_read_refused (offset count : Nat) (acks polls : List Bool) :
    linkTraffic configMemory (.read offset count) ⟨true :: false :: acks, polls⟩ =
      ([.start, .put 0xA0, .put (byte (offset / 256)), .stop] : List LinkSymbol) := rfl

end

/-- Settles O58: STORE_CONFIG, each step of the store by the answers of the memory, what goes over the link, and an autoload that
reads nothing. -/
theorem storesAndFailedAutoloads : Obligations.StoresAndFailedAutoloads := by
  intro s wrote read failed
  refine ⟨fun hm hroom hnone => ?_, fun job hjob => ⟨fun page y hstep => ?_, fun y hstep => ?_, fun y hstep => ?_⟩,
    fun hm => ⟨fun y hread => ?_, fun acks polls => ?_⟩⟩
  · refine ⟨_, _, ?_, rfl, rfl⟩
    have howner : ownerDecision .storeConfig .operator [] (hunt .operator s) =
        accepted (hunt .operator { s with store := some ⟨.writing 0, (imageOf s).take 32⟩ }) :=
      if_neg (by rw [hunt_store_none hnone]; decide)
    rw [exec_request (r := .storeConfig) rfl rfl, takeRequest_served hm hroom rfl rfl rfl, howner]
    exact congrArg _ (pushReply_hunt ..)
  · have hbytes : storePageBytes job = _ := storePageBytes_writing hstep
    have hdone : pageDone job y = true ↔ wrote ((([0, 0] ++ job.image.drop 2).drop (32 * page)).take 32) y := by rw [pageDone_iff, hbytes]
    have haccess := storeAccess_writing (y := y) hjob hstep
    refine ⟨fun hfail => ?_, fun hgood hmore himage => ?_, fun hgood hlast => ?_, fun hm acks polls => ?_⟩
    · exact congrArg _ (haccess.trans (if_neg (hdone.not.mpr hfail)))
    · refine congrArg _ ((haccess.trans (if_pos (hdone.mpr hgood))).trans ?_)
      rw [pageWritten, if_pos (by rwa [imageLength_eq]), himage, layPage_next hmore]
    · refine congrArg _ ((haccess.trans (if_pos (hdone.mpr hgood))).trans ?_)
      rw [pageWritten, if_neg (by rw [imageLength_eq]; omega)]
    · simp only [configTraffic, configAccess_writing hm hjob hstep, hbytes]
      exact ⟨traffic_write .., traffic_write_refused ..⟩
  · have haccess := storeAccess_readingBack (x := y) hjob hstep
    refine ⟨fun hgood hsame => ?_, fun hbad => ?_⟩
    · refine congrArg _ (haccess.trans ((if_pos (readBack_iff.mpr ⟨hgood, hsame⟩)).trans ?_))
      rfl
    · refine congrArg _ (haccess.trans (if_neg fun h => ?_))
      obtain ⟨hgood, hsame⟩ := readBack_iff.mp h
      exact hbad.elim (absurd hgood) (absurd hsame)
  · have hdone : pageDone job y = true ↔ wrote (job.image.take 32) y := by rw [pageDone_iff, storePageBytes_marking hstep]
    have haccess := storeAccess_marking (y := y) hjob hstep
    refine ⟨fun hfail => ?_, fun hgood => ?_⟩
    · exact congrArg _ (haccess.trans (if_neg (hdone.not.mpr hfail)))
    · exact congrArg _ ((haccess.trans (if_pos (hdone.mpr hgood))).trans (storeDone_eq s))
  · have hnone : bytesRead configMemory y = none := (bytesRead_eq_none ..).mpr hread
    have hend : exec (.autoloadEnd y) s = .next (endAutoload (bytesRead configMemory y) s) := rfl
    rw [hend, hnone, endAutoload, if_neg (not_not_intro hm)]
    rfl
  · simp only [configTraffic, configAccess_loading hm]
    exact ⟨traffic_read_start 8191 acks polls, traffic_read_refused ..⟩

end Sys2Proof.Machine

/-! PROOF. The image laid out from the loader's tables is judged good and brings the same tables back (9.2, R146, R170). -/

namespace Sys2Proof.Machine

/-! ## A record and its bytes -/

/-- 9.2: a record as it stands in an image. -/
def ImageRecord.raw : ImageRecord → RawRecord
  | .room p => ⟨0x01, paramsBytes p⟩
  | .machine a e locked =>
    ⟨0x02, be1 (addrNum a) ++ be1 (classCode e.cls) ++ ratingsBytes e.ratings ++ be1 (bit locked)⟩
  | .wash n p => ⟨0x03, washBytes n p⟩
  | .dry n p => ⟨0x04, dryBytes n p⟩

/-- The bytes of a record. -/
def ImageRecord.bytes (r : ImageRecord) : List Byte := recordBytes r.raw.kind r.raw.payload

/-- 9.2: a record with its fields in range. -/
def ImageRecord.InRange : ImageRecord → Prop
  | .room p => p.clamp = p ∧ p.issuer < 65536
  | .machine _ e _ => e.ratings.clamp = e.ratings
  | .wash n p => n < Config.programs ∧ p.clamp = p ∧ profileRule p = true
  | .dry n p => n < Config.programs ∧ p.clamp = p

section
variable {r : ImageRecord} {rs : List ImageRecord}

theorem loadRecord_room (p : Params) : loadRecord (ImageRecord.room p).raw = loadRoom (paramsBytes p) := if_pos rfl

theorem loadRecord_machine (a : Addr) (e : RosterEntry) (locked : Bool) : loadRecord (ImageRecord.machine a e locked).raw =
    loadMachine (be1 (addrNum a) ++ be1 (classCode e.cls) ++ ratingsBytes e.ratings ++ be1 (bit locked)) := by
  simp [loadRecord, ImageRecord.raw]

theorem loadRecord_wash (n : Nat) (p : WashProfile) : loadRecord (ImageRecord.wash n p).raw = loadWash (washBytes n p) := by
  simp [loadRecord, ImageRecord.raw]

theorem loadRecord_dry (n : Nat) (p : DryProfile) : loadRecord (ImageRecord.dry n p).raw = loadDry (dryBytes n p) := by
  simp [loadRecord, ImageRecord.raw]

/-- R170: a record in range is read back. -/
theorem loadRecord_raw (h : r.InRange) : loadRecord r.raw = some r := by
  cases r with
  | room p =>
    obtain ⟨hclamp, hissuer⟩ := h
    rw [loadRecord_room, loadRoom, readParams_paramsBytes hclamp hissuer, if_pos hclamp]
  | machine a e locked =>
    have hbytes : be1 (addrNum a) ++ be1 (classCode e.cls) ++ ratingsBytes e.ratings ++ be1 (bit locked) =
        byte (addrNum a) :: byte (classCode e.cls) :: (ratingsBytes e.ratings ++ [byte (bit locked)]) := by simp [be1]
    have hread := readRatings_behind h (byte (addrNum a)) (byte (classCode e.cls)) [byte (bit locked)]
    have hclass : classOf (at1 (byte (addrNum a) :: byte (classCode e.cls) :: (ratingsBytes e.ratings ++ [byte (bit locked)])) 1) =
        some e.cls := (classByte e.cls).2
    have hlock : at1 (byte (addrNum a) :: byte (classCode e.cls) :: (ratingsBytes e.ratings ++ [byte (bit locked)])) 6 =
        bit locked := by cases locked <;> rfl
    have hbit : bit locked ≤ 1 ∧ (bit locked == 1) = locked := by cases locked <;> decide
    rw [loadRecord_machine, hbytes, loadMachine]
    simp only [at1_addrNum, addr?_addrNum, hclass, hread, hlock]
    rw [if_pos ⟨h, hbit.1⟩, hbit.2]
  | wash n p =>
    obtain ⟨hn, hclamp, hrule⟩ := h
    have hat : at1 (washBytes n p) 0 = n := toNat_byte_of_lt (hn.trans (by decide))
    rw [loadRecord_wash, loadWash]
    simp only [readWash_washBytes hclamp hrule, hat]
    rw [if_pos ⟨hn, hrule, hclamp⟩]
  | dry n p =>
    obtain ⟨hn, hclamp⟩ := h
    have hat : at1 (dryBytes n p) 0 = n := toNat_byte_of_lt (hn.trans (by decide))
    rw [loadRecord_dry, loadDry, readDry_dryBytes hclamp, hat, if_pos ⟨hn, hclamp⟩]

theorem loadRecords_raw (h : ∀ r ∈ rs, r.InRange) : loadRecords (rs.map ImageRecord.raw) = some rs := by
  induction rs with
  | nil => rfl
  | cons r rs ih =>
    rw [List.map_cons, loadRecords, loadRecord_raw (h r List.mem_cons_self), ih fun x hx => h x (List.mem_cons_of_mem _ hx)]

/-- 9.2: the payload of a record in range has a length its kind allows, of 88 bytes at most. -/
theorem payload_length (h : r.InRange) : r.raw.payload.length ≤ 88 ∧ r.raw.kind < 256 ∧
    countOk r.raw.kind r.raw.payload.length r.raw.payload = true := by
  have hkind : ∀ r : ImageRecord, r.raw.kind < 256 := fun r => by cases r <;> simp [ImageRecord.raw]
  cases r with
  | room p =>
    have hlength : (ImageRecord.room p).raw.payload.length = 22 := rfl
    exact ⟨hlength.trans_le (by decide), hkind _, rfl⟩
  | machine a e locked =>
    have hlength : (ImageRecord.machine a e locked).raw.payload.length = 7 := rfl
    exact ⟨hlength.trans_le (by decide), hkind _, rfl⟩
  | wash n p =>
    obtain ⟨hn, hclamp, hrule⟩ := h
    have hshort := profileRule_length hrule
    have hcount : at1 (washBytes n p) 3 = p.plan.length := toNat_byte_of_lt (n := p.plan.length) (by omega)
    have hlength := washBytes_length n p
    refine ⟨?_, hkind _, ?_⟩
    · show (washBytes n p).length ≤ 88
      omega
    · show (decide (4 ≤ (washBytes n p).length) && (washBytes n p).length == 4 + 7 * at1 (washBytes n p) 3) = true
      simp [hcount, hlength]
  | dry n p =>
    have hlength : (ImageRecord.dry n p).raw.payload.length = 8 := rfl
    exact ⟨hlength.trans_le (by decide), hkind _, rfl⟩

/-- R170: a record in range is split off the bytes behind it. -/
theorem splitRecords_cons (h : r.InRange) (fuel : Nat) (rest : List Byte) : splitRecords (fuel + 1) (r.bytes ++ rest) =
    (splitRecords fuel rest).map (r.raw :: ·) := by
  obtain ⟨hlength, hkind, hcount⟩ := payload_length h
  have hbytes : r.bytes ++ rest = byte r.raw.kind :: byte r.raw.payload.length :: (r.raw.payload ++ rest) := by
    simp [ImageRecord.bytes, recordBytes, be1]
  have hat0 : at1 (byte r.raw.kind :: byte r.raw.payload.length :: (r.raw.payload ++ rest)) 0 = r.raw.kind := toNat_byte_of_lt hkind
  have hat1 : at1 (byte r.raw.kind :: byte r.raw.payload.length :: (r.raw.payload ++ rest)) 1 = r.raw.payload.length :=
    toNat_byte_of_lt (by omega)
  have hslice : slice (byte r.raw.kind :: byte r.raw.payload.length :: (r.raw.payload ++ rest)) 2 r.raw.payload.length =
      r.raw.payload := by simp [slice]
  have hdrop : (byte r.raw.kind :: byte r.raw.payload.length :: (r.raw.payload ++ rest)).drop (2 + r.raw.payload.length) =
      rest := by simp [Nat.add_comm 2]
  rw [hbytes, splitRecords, if_neg (List.cons_ne_nil _ _)]
  simp only [hat0, hat1, hslice, hdrop]
  rw [if_pos ⟨by simp, trivial, hcount⟩]

theorem splitRecords_bytes (h : ∀ r ∈ rs, r.InRange) : ∀ fuel, rs.length ≤ fuel →
    splitRecords fuel (rs.flatMap ImageRecord.bytes) = some (rs.map ImageRecord.raw) := by
  induction rs with
  | nil => exact fun fuel _ => by cases fuel <;> rfl
  | cons r rs ih =>
    intro fuel hfuel
    obtain ⟨fuel, rfl⟩ : ∃ n, fuel = n + 1 := ⟨fuel - 1, by simp at hfuel; omega⟩
    rw [List.flatMap_cons, splitRecords_cons (h r List.mem_cons_self),
      ih (fun x hx => h x (List.mem_cons_of_mem _ hx)) fuel (by simpa using hfuel)]
    rfl

theorem bytes_length (h : r.InRange) : 2 ≤ r.bytes.length ∧ r.bytes.length ≤ 90 := by
  have hlength : r.bytes.length = 2 + r.raw.payload.length := by simp [ImageRecord.bytes, recordBytes, be1]; omega
  have := (payload_length h).1
  omega

theorem records_length (h : ∀ r ∈ rs, r.InRange) :
    2 * rs.length ≤ (rs.flatMap ImageRecord.bytes).length ∧ (rs.flatMap ImageRecord.bytes).length ≤ 90 * rs.length := by
  induction rs with
  | nil => exact ⟨le_rfl, le_rfl⟩
  | cons r rs ih =>
    obtain ⟨hlow, hhigh⟩ := bytes_length (h r List.mem_cons_self)
    obtain ⟨ihlow, ihhigh⟩ := ih fun x hx => h x (List.mem_cons_of_mem _ hx)
    rw [List.flatMap_cons, List.length_append, List.length_cons]
    omega

/-! ## Records of different keys -/

/-- R170: no two records of a list have one key. -/
def Distinct (rs : List ImageRecord) : Prop := rs.Pairwise fun x y => sameKey x y = false

theorem anyDuplicate_eq_false (h : Distinct rs) : anyDuplicate rs = false := by
  induction rs with
  | nil => rfl
  | cons r rs ih =>
    obtain ⟨hr, hrs⟩ := List.pairwise_cons.mp h
    rw [anyDuplicate, ih hrs, Bool.or_false, List.any_eq_false]
    exact fun x hx => by rw [hr x hx]; decide

/-- R170: records in range with different keys and a ROOM record among them are applied. -/
theorem judgeBody_bytes (hrange : ∀ r ∈ rs, r.InRange) (hkeys : Distinct rs) (hroom : rs.any isRoom = true) :
    judgeBody (rs.flatMap ImageRecord.bytes) = .ok rs := by
  have hfuel : rs.length ≤ (rs.flatMap ImageRecord.bytes).length := by have := (records_length hrange).1; omega
  rw [judgeBody, splitRecords_bytes hrange _ hfuel]
  simp only [loadRecords_raw hrange, anyDuplicate_eq_false hkeys, hroom]
  rfl

end

end Sys2Proof.Machine

/-! PROOF. The records of the loader's tables, and the tables and locks that they bring back (R146, R170, R175). -/

namespace Sys2Proof.Machine

/-! ## What a list of records brings -/

section
variable {rs : List ImageRecord} {t : Tables} {a : Addr} {e : RosterEntry} {locked : Bool}
  {ms : Vector MachineRecord Config.addresses}

theorem tables_roster_kept (h : ∀ e locked, ImageRecord.machine a e locked ∉ rs) :
    (rs.foldl applyRecord t).roster[a] = t.roster[a] := by
  induction rs generalizing t with
  | nil => rfl
  | cons r rs ih =>
    rw [List.foldl_cons, ih fun e locked hm => h e locked (List.mem_cons_of_mem _ hm)]
    cases r with
    | machine b f locked =>
      have hba : b.val ≠ a.val := fun hb => h f locked (by rw [Fin.ext hb]; exact List.mem_cons_self)
      exact Vector.getElem_set_ne b.isLt a.isLt hba
    | room p => rfl
    | wash n p => rfl
    | dry n p => rfl

/-- R170: the roster has the entry of a MACHINE record. -/
theorem tables_roster (hkeys : Distinct rs) (h : ImageRecord.machine a e locked ∈ rs) :
    (rs.foldl applyRecord t).roster[a] = some e := by
  induction rs generalizing t with
  | nil => exact absurd h List.not_mem_nil
  | cons r rs ih =>
    obtain ⟨hr, hrs⟩ := List.pairwise_cons.mp hkeys
    rw [List.foldl_cons]
    rcases List.mem_cons.mp h with hhead | htail
    · subst hhead
      rw [tables_roster_kept fun f l hm => by have := hr _ hm; simp [sameKey] at this]
      exact Vector.getElem_set_self _
    · exact ih hrs htail

theorem tables_wash_kept {n : Fin Config.programs} (h : ∀ p, ImageRecord.wash n p ∉ rs) :
    (rs.foldl applyRecord t).wash[n] = t.wash[n] := by
  induction rs generalizing t with
  | nil => rfl
  | cons r rs ih =>
    rw [List.foldl_cons, ih fun p hm => h p (List.mem_cons_of_mem _ hm)]
    cases r with
    | wash m p =>
      have hmn : m ≠ n.val := fun hm => h p (by rw [hm]; exact List.mem_cons_self)
      exact Vector.getElem_setIfInBounds_ne _ hmn
    | room p => rfl
    | machine b f locked => rfl
    | dry n p => rfl

/-- R170: the program of a WASH_PROFILE record has its profile. -/
theorem tables_wash {n : Fin Config.programs} {p : WashProfile} (hkeys : Distinct rs) (h : ImageRecord.wash n p ∈ rs) :
    (rs.foldl applyRecord t).wash[n] = some p := by
  induction rs generalizing t with
  | nil => exact absurd h List.not_mem_nil
  | cons r rs ih =>
    obtain ⟨hr, hrs⟩ := List.pairwise_cons.mp hkeys
    rw [List.foldl_cons]
    rcases List.mem_cons.mp h with hhead | htail
    · subst hhead
      rw [tables_wash_kept fun q hm => by have := hr _ hm; simp [sameKey] at this]
      exact Vector.getElem_setIfInBounds_self _
    · exact ih hrs htail

theorem tables_dry_kept {n : Fin Config.programs} (h : ∀ p, ImageRecord.dry n p ∉ rs) :
    (rs.foldl applyRecord t).dry[n] = t.dry[n] := by
  induction rs generalizing t with
  | nil => rfl
  | cons r rs ih =>
    rw [List.foldl_cons, ih fun p hm => h p (List.mem_cons_of_mem _ hm)]
    cases r with
    | dry m p =>
      have hmn : m ≠ n.val := fun hm => h p (by rw [hm]; exact List.mem_cons_self)
      exact Vector.getElem_setIfInBounds_ne _ hmn
    | room p => rfl
    | machine b f locked => rfl
    | wash n p => rfl

/-- R170: the program of a DRY_PROFILE record has its profile. -/
theorem tables_dry {n : Fin Config.programs} {p : DryProfile} (hkeys : Distinct rs) (h : ImageRecord.dry n p ∈ rs) :
    (rs.foldl applyRecord t).dry[n] = some p := by
  induction rs generalizing t with
  | nil => exact absurd h List.not_mem_nil
  | cons r rs ih =>
    obtain ⟨hr, hrs⟩ := List.pairwise_cons.mp hkeys
    rw [List.foldl_cons]
    rcases List.mem_cons.mp h with hhead | htail
    · subst hhead
      rw [tables_dry_kept fun q hm => by have := hr _ hm; simp [sameKey] at this]
      exact Vector.getElem_setIfInBounds_self _
    · exact ih hrs htail

theorem tables_params_kept (h : ∀ p, ImageRecord.room p ∉ rs) : (rs.foldl applyRecord t).params = t.params := by
  induction rs generalizing t with
  | nil => rfl
  | cons r rs ih =>
    rw [List.foldl_cons, ih fun p hm => h p (List.mem_cons_of_mem _ hm)]
    cases r with
    | room p => exact absurd List.mem_cons_self (h p)
    | machine b f locked => rfl
    | wash n p => rfl
    | dry n p => rfl

theorem locks_kept (h : ∀ e locked, ImageRecord.machine a e locked ∉ rs) : (applyLocks ms rs)[a] = ms[a] := by
  induction rs generalizing ms with
  | nil => rfl
  | cons r rs ih =>
    have htail : ∀ ms : Vector MachineRecord Config.addresses, (applyLocks ms rs)[a] = ms[a] :=
      fun ms => ih fun e locked hm => h e locked (List.mem_cons_of_mem _ hm)
    cases r with
    | machine b f locked =>
      have hba : b.val ≠ a.val := fun hb => h f locked (by rw [Fin.ext hb]; exact List.mem_cons_self)
      exact (htail _).trans (Vector.getElem_set_ne b.isLt a.isLt hba)
    | room p => exact htail ms
    | wash n p => exact htail ms
    | dry n p => exact htail ms

/-- R146, R170: a MACHINE record brings its lock. -/
theorem locks_of_mem (hkeys : Distinct rs) (h : ImageRecord.machine a e locked ∈ rs) :
    ((applyLocks ms rs)[a]).lock = if locked then .locked else .none := by
  induction rs generalizing ms with
  | nil => exact absurd h List.not_mem_nil
  | cons r rs ih =>
    obtain ⟨hr, hrs⟩ := List.pairwise_cons.mp hkeys
    rcases List.mem_cons.mp h with hhead | htail
    · subst hhead
      rw [applyLocks, locks_kept fun f l hm => by have := hr _ hm; simp [sameKey] at this]
      exact congrArg MachineRecord.lock (Vector.getElem_set_self _)
    · cases r with
      | machine b f l => exact ih hrs htail
      | room p => exact ih hrs htail
      | wash n p => exact ih hrs htail
      | dry n p => exact ih hrs htail

end

/-! ## The records of the loader's tables -/

/-- R175: the MACHINE record of an address, if it has one. -/
def machineRecord (s : State) (a : Addr) : Option ImageRecord :=
  (s.tables.roster[a]).map fun e => .machine a e (decide ((s.machine a).lock ≠ .none))

/-- R175: the WASH_PROFILE record of a program, if it has one. -/
def washRecord (t : Tables) (n : Fin Config.programs) : Option ImageRecord := (t.wash[n]).map (.wash n)

/-- R175: the DRY_PROFILE record of a program, if it has one. -/
def dryRecord (t : Tables) (n : Fin Config.programs) : Option ImageRecord := (t.dry[n]).map (.dry n)

/-- R175: the records of the loader's tables, in their order. -/
def recordsOf (s : State) : List ImageRecord :=
  .room s.tables.params :: (allAddrs.filterMap (machineRecord s) ++
    ((List.finRange Config.programs).filterMap (washRecord s.tables) ++
      (List.finRange Config.programs).filterMap (dryRecord s.tables)))

section
variable {s : State} {a : Addr}

theorem flatMap_filterMap_bytes {α : Type} {f : α → List Byte} {g : α → Option ImageRecord} (xs : List α)
    (h : ∀ x, f x = ((g x).map ImageRecord.bytes).getD []) :
    xs.flatMap f = (xs.filterMap g).flatMap ImageRecord.bytes := by
  induction xs with
  | nil => rfl
  | cons x xs ih =>
    rw [List.flatMap_cons, ih, h x]
    cases hx : g x with
    | none => simp [hx]
    | some r => simp [hx]

theorem layoutBody_eq (s : State) : layoutBody s = (recordsOf s).flatMap ImageRecord.bytes ++ [0xFF, 0x00] := by
  have hmachines := flatMap_filterMap_bytes (f := machineRecordBytes s) (g := machineRecord s) allAddrs fun a => by
    rw [machineRecordBytes, machineRecord]
    cases s.tables.roster[a] <;> rfl
  have hwash := flatMap_filterMap_bytes (f := washRecordBytes s.tables) (g := washRecord s.tables)
    (List.finRange Config.programs) fun n => by
      rw [washRecordBytes, washRecord]
      cases s.tables.wash[n] <;> rfl
  have hdry := flatMap_filterMap_bytes (f := dryRecordBytes s.tables) (g := dryRecord s.tables)
    (List.finRange Config.programs) fun n => by
      rw [dryRecordBytes, dryRecord]
      cases s.tables.dry[n] <;> rfl
  rw [layoutBody, hmachines, hwash, hdry, recordsOf, List.flatMap_cons, List.flatMap_append, List.flatMap_append]
  simp only [List.append_assoc]
  rfl

theorem mem_machineRecords {r : ImageRecord} (h : r ∈ allAddrs.filterMap (machineRecord s)) :
    ∃ a e, s.tables.roster[a] = some e ∧ r = .machine a e (decide ((s.machine a).lock ≠ .none)) := by
  obtain ⟨a, -, ha⟩ := List.mem_filterMap.mp h
  obtain ⟨e, he, rfl⟩ := Option.map_eq_some_iff.mp ha
  exact ⟨a, e, he, rfl⟩

theorem mem_washRecords {t : Tables} {r : ImageRecord} (h : r ∈ (List.finRange Config.programs).filterMap (washRecord t)) :
    ∃ (n : Fin Config.programs) (p : WashProfile), t.wash[n] = some p ∧ r = .wash n p := by
  obtain ⟨n, -, hn⟩ := List.mem_filterMap.mp h
  obtain ⟨p, hp, rfl⟩ := Option.map_eq_some_iff.mp hn
  exact ⟨n, p, hp, rfl⟩

theorem mem_dryRecords {t : Tables} {r : ImageRecord} (h : r ∈ (List.finRange Config.programs).filterMap (dryRecord t)) :
    ∃ (n : Fin Config.programs) (p : DryProfile), t.dry[n] = some p ∧ r = .dry n p := by
  obtain ⟨n, -, hn⟩ := List.mem_filterMap.mp h
  obtain ⟨p, hp, rfl⟩ := Option.map_eq_some_iff.mp hn
  exact ⟨n, p, hp, rfl⟩

/-- The records of the tables by their kinds. -/
theorem mem_recordsOf {r : ImageRecord} : r ∈ recordsOf s ↔ r = .room s.tables.params ∨
    r ∈ allAddrs.filterMap (machineRecord s) ∨ r ∈ (List.finRange Config.programs).filterMap (washRecord s.tables) ∨
    r ∈ (List.finRange Config.programs).filterMap (dryRecord s.tables) := by
  rw [recordsOf, List.mem_cons, List.mem_append, List.mem_append]

theorem machine_mem_recordsOf {e : RosterEntry} (h : s.tables.roster[a] = some e) :
    ImageRecord.machine a e (decide ((s.machine a).lock ≠ .none)) ∈ recordsOf s :=
  mem_recordsOf.mpr (.inr (.inl (List.mem_filterMap.mpr ⟨a, List.mem_finRange a, by rw [machineRecord, h]; rfl⟩)))

theorem wash_mem_recordsOf {n : Fin Config.programs} {p : WashProfile} (h : s.tables.wash[n] = some p) :
    ImageRecord.wash n p ∈ recordsOf s :=
  mem_recordsOf.mpr (.inr (.inr (.inl (List.mem_filterMap.mpr ⟨n, List.mem_finRange n, by rw [washRecord, h]; rfl⟩))))

theorem dry_mem_recordsOf {n : Fin Config.programs} {p : DryProfile} (h : s.tables.dry[n] = some p) :
    ImageRecord.dry n p ∈ recordsOf s :=
  mem_recordsOf.mpr (.inr (.inr (.inr (List.mem_filterMap.mpr ⟨n, List.mem_finRange n, by rw [dryRecord, h]; rfl⟩))))

/-- What each record of the tables says of them. -/
theorem recordsOf_says {r : ImageRecord} (h : r ∈ recordsOf s) : match r with
    | .room p => p = s.tables.params
    | .machine a e _ => s.tables.roster[a] = some e
    | .wash n p => ∃ m : Fin Config.programs, m.val = n ∧ s.tables.wash[m] = some p
    | .dry n p => ∃ m : Fin Config.programs, m.val = n ∧ s.tables.dry[m] = some p := by
  rcases mem_recordsOf.mp h with rfl | h | h | h
  · rfl
  · obtain ⟨a, e, he, rfl⟩ := mem_machineRecords h
    exact he
  · obtain ⟨n, p, hp, rfl⟩ := mem_washRecords h
    exact ⟨n, rfl, hp⟩
  · obtain ⟨n, p, hp, rfl⟩ := mem_dryRecords h
    exact ⟨n, rfl, hp⟩

theorem recordsOf_inRange (h : s.tables.inRange) : ∀ r ∈ recordsOf s, r.InRange := by
  obtain ⟨hparams, hissuer, hroster, hwash, hdry⟩ := h
  intro r hr
  have hsays := recordsOf_says hr
  cases r with
  | room p =>
    obtain rfl : p = s.tables.params := hsays
    exact ⟨hparams, hissuer⟩
  | machine a e locked => exact hroster a e hsays
  | wash n p =>
    obtain ⟨m, rfl, hm⟩ := hsays
    exact ⟨m.isLt, hwash m p hm⟩
  | dry n p =>
    obtain ⟨m, rfl, hm⟩ := hsays
    exact ⟨m.isLt, hdry m p hm⟩

theorem filterMap_distinct {α : Type} {g : α → Option ImageRecord} {xs : List α} (hxs : xs.Nodup)
    (h : ∀ x y r q, x ≠ y → g x = some r → g y = some q → sameKey r q = false) : Distinct (xs.filterMap g) :=
  List.Pairwise.filterMap g (fun x y hxy r hr q hq => h x y r q hxy hr hq) hxs

theorem recordsOf_distinct (s : State) : Distinct (recordsOf s) := by
  have hmachines : Distinct (allAddrs.filterMap (machineRecord s)) :=
    filterMap_distinct (List.nodup_finRange _) fun a b r q hab hr hq => by
      obtain ⟨e, -, rfl⟩ := Option.map_eq_some_iff.mp hr
      obtain ⟨f, -, rfl⟩ := Option.map_eq_some_iff.mp hq
      exact beq_false_of_ne hab
  have hwash : Distinct ((List.finRange Config.programs).filterMap (washRecord s.tables)) :=
    filterMap_distinct (List.nodup_finRange _) fun m n r q hmn hr hq => by
      obtain ⟨e, -, rfl⟩ := Option.map_eq_some_iff.mp hr
      obtain ⟨f, -, rfl⟩ := Option.map_eq_some_iff.mp hq
      exact beq_false_of_ne (Fin.val_ne_of_ne hmn)
  have hdry : Distinct ((List.finRange Config.programs).filterMap (dryRecord s.tables)) :=
    filterMap_distinct (List.nodup_finRange _) fun m n r q hmn hr hq => by
      obtain ⟨e, -, rfl⟩ := Option.map_eq_some_iff.mp hr
      obtain ⟨f, -, rfl⟩ := Option.map_eq_some_iff.mp hq
      exact beq_false_of_ne (Fin.val_ne_of_ne hmn)
  refine List.pairwise_cons.mpr ⟨fun r hr => ?_, List.pairwise_append.mpr ⟨hmachines,
    List.pairwise_append.mpr ⟨hwash, hdry, fun r hr q hq => ?_⟩, fun r hr q hq => ?_⟩⟩
  · rw [List.mem_append, List.mem_append] at hr
    rcases hr with hr | hr | hr
    · obtain ⟨a, e, -, rfl⟩ := mem_machineRecords hr
      rfl
    · obtain ⟨n, p, -, rfl⟩ := mem_washRecords hr
      rfl
    · obtain ⟨n, p, -, rfl⟩ := mem_dryRecords hr
      rfl
  · obtain ⟨n, p, -, rfl⟩ := mem_washRecords hr
    obtain ⟨m, d, -, rfl⟩ := mem_dryRecords hq
    rfl
  · obtain ⟨a, e, -, rfl⟩ := mem_machineRecords hr
    rcases List.mem_append.mp hq with hq | hq
    · obtain ⟨n, p, -, rfl⟩ := mem_washRecords hq
      rfl
    · obtain ⟨n, p, -, rfl⟩ := mem_dryRecords hq
      rfl

theorem recordsOf_length (s : State) : 1 ≤ (recordsOf s).length ∧ (recordsOf s).length ≤ 41 := by
  have hmachines := List.length_filterMap_le (machineRecord s) allAddrs
  have hwash := List.length_filterMap_le (washRecord s.tables) (List.finRange Config.programs)
  have hdry := List.length_filterMap_le (dryRecord s.tables) (List.finRange Config.programs)
  have haddrs : allAddrs.length = 24 := List.length_finRange
  have hprograms : (List.finRange Config.programs).length = 8 := List.length_finRange
  rw [recordsOf, List.length_cons, List.length_append, List.length_append]
  omega

/-- R170: the tables of the records are the tables they were laid out from. -/
theorem tablesOf_recordsOf (s : State) : tablesOf (recordsOf s) = s.tables := by
  have hkeys := recordsOf_distinct s
  have hparams : (tablesOf (recordsOf s)).params = s.tables.params := by
    refine (tables_params_kept (t := applyRecord .initial (.room s.tables.params)) fun p hp => ?_).trans rfl
    have hroom := (List.pairwise_cons.mp hkeys).1 _ hp
    exact absurd hroom (by simp [sameKey])
  have hroster : (tablesOf (recordsOf s)).roster = s.tables.roster := by
    refine Vector.ext fun i hi => ?_
    cases h : s.tables.roster[i] with
    | none =>
      refine (tables_roster_kept (a := ⟨i, hi⟩) fun e locked hm => ?_).trans (Vector.getElem_replicate hi)
      exact absurd (h.symm.trans (recordsOf_says hm)) nofun
    | some e => exact tables_roster (a := ⟨i, hi⟩) hkeys (machine_mem_recordsOf h)
  have hwash : (tablesOf (recordsOf s)).wash = s.tables.wash := by
    refine Vector.ext fun i hi => ?_
    cases h : s.tables.wash[i] with
    | none =>
      refine (tables_wash_kept (n := ⟨i, hi⟩) fun p hm => ?_).trans (Vector.getElem_replicate hi)
      obtain ⟨m, rfl, hp⟩ := recordsOf_says hm
      exact absurd (h.symm.trans hp) nofun
    | some p => exact tables_wash (n := ⟨i, hi⟩) hkeys (wash_mem_recordsOf h)
  have hdry : (tablesOf (recordsOf s)).dry = s.tables.dry := by
    refine Vector.ext fun i hi => ?_
    cases h : s.tables.dry[i] with
    | none =>
      refine (tables_dry_kept (n := ⟨i, hi⟩) fun p hm => ?_).trans (Vector.getElem_replicate hi)
      obtain ⟨m, rfl, hp⟩ := recordsOf_says hm
      exact absurd (h.symm.trans hp) nofun
    | some p => exact tables_dry (n := ⟨i, hi⟩) hkeys (dry_mem_recordsOf h)
  show (⟨(tablesOf (recordsOf s)).params, (tablesOf (recordsOf s)).roster, (tablesOf (recordsOf s)).wash,
    (tablesOf (recordsOf s)).dry⟩ : Tables) = _
  rw [hparams, hroster, hwash, hdry]

/-! ## The image judged -/

/-- R170: an image laid out from tables in range passes, with the records of the tables. -/
theorem judge_imageOf (h : s.tables.inRange) : judge (imageOf s) = .ok (recordsOf s) := by
  have hrange := recordsOf_inRange h
  obtain ⟨hfew, hmany⟩ := recordsOf_length s
  obtain ⟨hlow, hhigh⟩ := records_length hrange
  generalize hbody : (recordsOf s).flatMap ImageRecord.bytes = body at hlow hhigh
  have hlayout : layout s = [0x57, 0x4C] ++ be2 (body.length + 8) ++ (body ++ [0xFF, 0x00]) := by
    rw [layout, layoutBody_eq, hbody, List.length_append]
    rfl
  have hlength : (layout s).length = body.length + 6 := by simp [hlayout, be2]
  have himage : imageOf s = layout s ++ be2 (byteSum (layout s)) := rfl
  have htotal : (imageOf s).length = body.length + 8 := by simp [himage, hlength, be2]
  have hspelt : imageOf s = 0x57 :: 0x4C :: (be2 (body.length + 8) ++ (body ++ [0xFF, 0x00] ++ be2 (byteSum (layout s)))) := by
    rw [himage, hlayout]
    simp [be2]
  have hsize : at2 (imageOf s) 2 = body.length + 8 := by
    rw [hspelt, at2_cons_succ, at2_cons_succ, at2_be2 (by omega)]
  have hcheck : at2 (imageOf s) (body.length + 6) = byteSum (layout s) % 65536 := by
    have hat := at2_append_right (layout s) (be2 (byteSum (layout s))) 0
    rw [hlength, Nat.add_zero] at hat
    rw [himage, hat, at2]
    show (byte (byteSum (layout s) / 256)).toNat * 256 + (byte (byteSum (layout s))).toNat = _
    rw [toNat_byte, toNat_byte]
    omega
  have htake : (imageOf s).take (body.length + 6) = layout s := by
    rw [himage, ← hlength, List.take_left]
  have hbehind : imageOf s = ([0x57, 0x4C] ++ be2 (body.length + 8) ++ body) ++ ([0xFF, 0x00] ++ be2 (byteSum (layout s))) := by
    rw [hspelt]
    simp [be2]
  have hbefore : ([0x57, 0x4C] ++ be2 (body.length + 8) ++ body).length = body.length + 4 := by simp [be2]
  have hend : at1 (imageOf s) (body.length + 4) = 0xFF := by
    have hat := at1_append_right ([0x57, 0x4C] ++ be2 (body.length + 8) ++ body) ([0xFF, 0x00] ++ be2 (byteSum (layout s))) 0
    rw [hbefore, ← hbehind] at hat
    exact hat
  have hcount : at1 (imageOf s) (body.length + 5) = 0 := by
    have hat := at1_append_right ([0x57, 0x4C] ++ be2 (body.length + 8) ++ body) ([0xFF, 0x00] ++ be2 (byteSum (layout s))) 1
    rw [hbefore, ← hbehind] at hat
    exact hat
  have hslice : slice (imageOf s) 4 body.length = body := by
    rw [hbehind]
    simp [slice, be2]
  have hmark : at1 (imageOf s) 0 = 0x57 ∧ at1 (imageOf s) 1 = 0x4C := by
    rw [hspelt]
    exact ⟨rfl, rfl⟩
  have hfour : 4 ≤ body.length := by
    have hroom : (ImageRecord.room s.tables.params).bytes.length = 24 := rfl
    rw [← hbody, recordsOf, List.flatMap_cons, List.length_append, hroom]
    omega
  have h2 : body.length + 8 - 2 = body.length + 6 := by omega
  have h3 : body.length + 8 - 3 = body.length + 5 := by omega
  have h4 : body.length + 8 - 4 = body.length + 4 := by omega
  have h8 : body.length + 8 - 8 = body.length := by omega
  have hroom : (recordsOf s).any isRoom = true := rfl
  rw [judge]
  simp only [hsize, htotal, hmark, h2, h3, h4, h8, hcheck, htake, hend, hcount, hslice]
  rw [if_neg (by omega), if_neg (by decide), if_neg (by omega), if_neg (by omega), if_neg (by simp), if_neg (by decide), ← hbody]
  exact judgeBody_bytes hrange (recordsOf_distinct s) hroom

end

/-- R170: the tables, locks and pools of a passing image, before the cards in the contacts are read. -/
def imageApplied (rs : List ImageRecord) (s : State) : State := { s with
  tables := tablesOf rs, machines := applyLocks s.machines rs, electric := startPool .electric (tablesOf rs).params s.halted,
  water := startPool .water (tablesOf rs).params s.halted, mode := .operating, configReason := none, roundNumber := 0,
  roundsBegun := false, slots := [], slot := none }

theorem imageApplied_tables (rs : List ImageRecord) (s : State) : (imageApplied rs s).tables = tablesOf rs := rfl

/-- R84: the reads that begin at the stations leave the rest of the part as the image set it. -/
theorem touched_reads (rs : List ImageRecord) (s : State) :
    Touches [.flags, .stations] (imageApplied rs s) (raise .config (applyImage rs s)) :=
  (touches_raise (by decide) .config).mpr ((touches_beginReading (by decide) .b).mpr
    ((touches_beginReading (by decide) .a).mpr (Touches.refl _ _)))

/-- Settles O59: the image passes with the records of the tables, and these bring the tables and the locks back. -/
theorem theImageLoadsBackWhole : Obligations.TheImageLoadsBackWhole := by
  intro s u hrange hm
  have hread : bytesRead configMemory ⟨[true, true, true, true], imageOf u⟩ = some (imageOf u) :=
    (bytesRead_eq_some ..).mpr ⟨⟨le_rfl, by simp⟩, rfl⟩
  have hexec : exec (.autoloadEnd ⟨[true, true, true, true], imageOf u⟩) s =
      .next (raise .config (applyImage (recordsOf u) s)) := by
    show Host.Outcome.next (endAutoload (bytesRead configMemory ⟨[true, true, true, true], imageOf u⟩) s) = _
    rw [hread, endAutoload, if_neg (not_not_intro hm)]
    simp only [judge_imageOf hrange]
  have hloader := touched_reads (recordsOf u) s .loader (by decide)
  have hmachines := touched_reads (recordsOf u) s .machines (by decide)
  have hpools := touched_reads (recordsOf u) s .pools (by decide)
  obtain ⟨hmode, hreason, htables, -, -⟩ := hloader
  obtain ⟨helectric, hwater⟩ := hpools
  rw [imageApplied_tables, tablesOf_recordsOf] at htables
  have hparams : (tablesOf (recordsOf u)).params = u.tables.params := by rw [tablesOf_recordsOf]
  refine ⟨_, hexec, hmode, hreason, htables, fun a ha => ?_, ?_, ?_⟩
  · obtain ⟨e, he⟩ := Option.isSome_iff_exists.mp ha
    have hlock := locks_of_mem (ms := s.machines) (recordsOf_distinct u) (machine_mem_recordsOf he)
    have hmachine : (raise .config (applyImage (recordsOf u) s)).machine a = (applyLocks s.machines (recordsOf u))[a] :=
      congrArg (fun ms : Vector MachineRecord Config.addresses => ms[a]) hmachines
    rw [hmachine, hlock]
    by_cases hnone : (u.machine a).lock = .none <;> simp [hnone]
  · exact helectric.trans (by rw [imageApplied, hparams]; rfl)
  · exact hwater.trans (by rw [imageApplied, hparams]; rfl)

end Sys2Proof.Machine

/-! PROOF. What the handing of a fault does to the record of its machine, and to the claim queue of a HELD one (R47, R134, R137,
R141 to R143). -/

namespace Sys2Proof.Machine

/-! ## The record of the machine -/

/-- R141, R142: the record of a machine after the strike of a handing. -/
def strickenRecord (threshold : Nat) (h : Handing) (m : MachineRecord) : MachineRecord :=
  if meetsExemption h m then { m with absenceExemption := false }
  else if effectiveSeverity h = .hard ∧ ¬ underService m then
    if threshold ≤ addUpTo 15 m.strikes 1 then lockedRecord .autoLocked { m with strikes := addUpTo 15 m.strikes 1 }
    else { m with strikes := addUpTo 15 m.strikes 1 }
  else m

/-- R143: the record of a machine after the lock that STOP_TIMEOUT and ROSTER_MISMATCH bring. -/
def forcedRecord (h : Handing) (m : MachineRecord) : MachineRecord :=
  if h.code = faultStopTimeout ∨ h.code = faultRosterMismatch then lockedRecord .autoLocked m else m

section
variable {h : Handing} {a : Addr} {s : State}

theorem strike_machine_self (a : Addr) (h : Handing) (s : State) :
    (strike a h s).machine a = strickenRecord s.params.threshold h (s.machine a) := by
  unfold strike strickenRecord
  dsimp only
  by_cases hexempt : meetsExemption h (s.machine a) = true
  · rw [if_pos hexempt, if_pos hexempt, machine_modifyMachine_self]
  · rw [if_neg hexempt, if_neg hexempt]
    by_cases hhard : effectiveSeverity h = .hard ∧ ¬ underService (s.machine a)
    · rw [if_pos hhard, if_pos hhard]
      have hself : ((raise .machine (modifyMachine a (fun m => { m with strikes := addUpTo 15 m.strikes 1 }) s)).machine a) =
          { s.machine a with strikes := addUpTo 15 (s.machine a).strikes 1 } := by simp
      have hparams : (raise .machine (modifyMachine a (fun m => { m with strikes := addUpTo 15 m.strikes 1 }) s)).params =
          s.params := rfl
      rw [hparams, hself]
      split
      · rw [applyLock_machine_self, hself]
      · exact hself
    · rw [if_neg hhard, if_neg hhard]

theorem forcedLock_machine_self (a : Addr) (h : Handing) (s : State) :
    (forcedLock a h s).machine a = forcedRecord h (s.machine a) := by
  unfold forcedLock forcedRecord
  split
  · exact applyLock_machine_self ..
  · rfl

/-- R137: the record of the machine that a fault is handed over for. -/
theorem handFault_machine_self (ha : h.machine = addrNum a) (s : State) :
    (handFault h s).machine a = forcedRecord h (strickenRecord s.params.threshold h (s.machine a)) := by
  have haddr : addr? h.machine = some a := by rw [ha, addr?_addrNum]
  unfold handFault
  simp only [haddr, forcedLock_machine_self, strike_machine_self]
  rfl

theorem addUpTo_strikes (n : Nat) : addUpTo 15 n 1 = min 15 (n + 1) := rfl

@[simp] theorem lockedRecord_strikes (kind : Lock) (m : MachineRecord) : (lockedRecord kind m).strikes = m.strikes := by
  unfold lockedRecord
  dsimp only
  split <;> rfl

theorem forcedRecord_strikes (h : Handing) (m : MachineRecord) : (forcedRecord h m).strikes = m.strikes := by
  unfold forcedRecord
  split
  · exact lockedRecord_strikes ..
  · rfl

/-- R141: a HARD fault is a strike against a machine that no session and no test has. -/
theorem handFault_strikes (ha : h.machine = addrNum a) (hexempt : meetsExemption h (s.machine a) = false)
    (hfree : underService (s.machine a) = false) : ((handFault h s).machine a).strikes =
      if effectiveSeverity h = .hard then min 15 ((s.machine a).strikes + 1) else (s.machine a).strikes := by
  rw [handFault_machine_self ha, forcedRecord_strikes, strickenRecord, hexempt, hfree]
  by_cases hhard : effectiveSeverity h = .hard
  · simp [hhard, addUpTo_strikes]
    split
    · exact lockedRecord_strikes ..
    · rfl
  · simp [hhard]

/-- R47: a lock takes a machine that stands free, held or out of service there. -/
theorem lockedRecord_state (kind : Lock) {m : MachineRecord}
    (hm : m.state = .idle ∨ m.state = .selected ∨ m.state = .held ∨ m.state = .outOfService) :
    (lockedRecord kind m).state = .outOfService := by
  rcases hm with hm | hm | hm | hm <;> simp [lockedRecord, hm]

/-- R143: STOP_TIMEOUT and ROSTER_MISMATCH take a machine that stands free, held or out of service there. -/
theorem handFault_state (ha : h.machine = addrNum a) (hcode : h.code = faultStopTimeout ∨ h.code = faultRosterMismatch)
    (hm : (s.machine a).state = .idle ∨ (s.machine a).state = .selected ∨ (s.machine a).state = .held ∨
      (s.machine a).state = .outOfService) : ((handFault h s).machine a).state = .outOfService := by
  rw [handFault_machine_self ha, forcedRecord, if_pos hcode]
  refine lockedRecord_state _ ?_
  unfold strickenRecord
  split
  · exact hm
  · split
    · split
      · exact .inr (.inr (.inr (lockedRecord_state _ hm)))
      · exact hm
    · exact hm

/-! ## The claim queues -/

/-- R134: what the claim queues are once the hold of a machine has been handed back. -/
theorem handBack_queue (c : MachineClass) : (handBack a s).queue c =
    if (s.machine a).hold.isSome = true ∧ c = s.classOf a then { s.queue c with
      entries := modifyFirst (holdsMachine a) (fun e => { e with hold := none, paying := false }) (s.queue c).entries }
    else s.queue c := by
  unfold handBack
  by_cases hhold : (s.machine a).hold.isSome = true
  · rw [if_pos hhold]
    by_cases hc : c = s.classOf a
    · subst hc
      rw [if_pos ⟨hhold, rfl⟩]
      simp [changeQueue, modifyMachine]
    · rw [if_neg fun hboth => hc hboth.2]
      simp [changeQueue, modifyMachine, queue_setQueue_other _ _ hc]
  · rw [if_neg hhold, if_neg fun hboth => hhold hboth.1]

/-- R47: a lock leaves the claim queues alone, but for a HELD machine's hold. -/
theorem applyLock_queue (kind : Lock) (c : MachineClass) : (applyLock a kind s).queue c =
    if (s.machine a).state = .held then (handBack a s).queue c else s.queue c := by
  have hset : ∀ d, (setLock a kind s).queue d = s.queue d := fun d => by
    unfold setLock
    split
    · rfl
    · simp [modifyMachine]
  have hclass : (setLock a kind s).classOf a = s.classOf a := by
    unfold setLock
    split
    · rfl
    · simp [modifyMachine]
  have hback : (handBack a (setLock a kind s)).queue c = (handBack a s).queue c := by
    rw [handBack_queue, handBack_queue, setLock_machine_self, hset, hclass]
  have hmoved : ∀ st t, (moveTo a st t).queue c = t.queue c := fun st t => by simp [moveTo, modifyMachine]
  have hpending : ∀ t, (setPending a t).queue c = t.queue c := fun t => by
    unfold setPending
    split
    · rfl
    · simp [modifyMachine]
  unfold applyLock
  dsimp only
  rw [setLock_machine_self]
  cases hstate : (s.machine a).state <;> simp [hstate, hset, hmoved, hpending, hback]

theorem handFault_parts (ha : h.machine = addrNum a) (s : State) : handFault h s =
    forcedLock a h (strike a h (raise .fault { s with faults := recordFault s.now h s.faults })) := by
  have haddr : addr? h.machine = some a := by rw [ha, addr?_addrNum]
  unfold handFault
  simp only [haddr]

theorem forcedLock_queue (c : MachineClass) : (forcedLock a h s).queue c =
    if (h.code = faultStopTimeout ∨ h.code = faultRosterMismatch) ∧ (s.machine a).state = .held then (handBack a s).queue c
    else s.queue c := by
  unfold forcedLock
  by_cases hcode : h.code = faultStopTimeout ∨ h.code = faultRosterMismatch
  · rw [if_pos hcode, applyLock_queue]
    simp [hcode]
  · rw [if_neg hcode, if_neg fun hboth => hcode hboth.1]

/-- R47, R134: what a lock makes of the claim queues. -/
def lockedQueue (a : Addr) (s : State) (c : MachineClass) : ClaimQueue :=
  if (s.machine a).state = .held then (handBack a s).queue c else s.queue c

theorem lockedQueue_congr {t : State} (hq : ∀ c, t.queue c = s.queue c) (hclass : t.classOf a = s.classOf a)
    (hhold : (t.machine a).hold = (s.machine a).hold) (hstate : (t.machine a).state = (s.machine a).state) (c : MachineClass) :
    lockedQueue a t c = lockedQueue a s c := by
  rw [lockedQueue, lockedQueue, hstate, handBack_queue, handBack_queue, hhold, hclass, hq]

theorem lockedQueue_raise (e : Event) (c : MachineClass) : lockedQueue a (raise e s) c = lockedQueue a s c :=
  lockedQueue_congr (fun _ => by simp) (by simp) (by simp) (by simp) c

theorem lockedRecord_not_held (kind : Lock) (m : MachineRecord) : (lockedRecord kind m).state ≠ .held := by
  unfold lockedRecord
  dsimp only
  cases hstate : m.state <;> simp [hstate]

/-- R134, R143: STOP_TIMEOUT and ROSTER_MISMATCH leave the claim queues alone, but for a HELD machine's hold. -/
theorem handFault_queue (ha : h.machine = addrNum a) (hcode : h.code = faultStopTimeout ∨ h.code = faultRosterMismatch)
    (c : MachineClass) : (handFault h s).queue c = lockedQueue a s c := by
  have hforced : ∀ t, (forcedLock a h t).queue c = lockedQueue a t c := fun t => by
    unfold forcedLock
    rw [if_pos hcode, applyLock_queue]
    rfl
  have hrecord : ∀ f : MachineRecord → MachineRecord, (∀ m, (f m).hold = m.hold) → (∀ m, (f m).state = m.state) → ∀ (d : MachineClass) (t : State),
      lockedQueue a (modifyMachine a f t) d = lockedQueue a t d := fun f hhold hstate d t =>
    lockedQueue_congr (fun d => by simp [modifyMachine]) (by simp [modifyMachine]) (by simp [hhold]) (by simp [hstate]) d
  have hstrike : ∀ t, lockedQueue a (strike a h t) c = lockedQueue a t c := fun t => by
    unfold strike
    dsimp only
    split
    · exact hrecord (fun m => { m with absenceExemption := false }) (fun _ => rfl) (fun _ => rfl) c t
    · split
      · refine Eq.trans ?_ ((lockedQueue_raise .machine c).trans (hrecord (fun m => { m with strikes := addUpTo 15 m.strikes 1 }) (fun _ => rfl) (fun _ => rfl) c t))
        split
        · rw [lockedQueue, if_neg (by rw [applyLock_machine_self]; exact lockedRecord_not_held _ _), applyLock_queue]
          rfl
        · rfl
      · rfl
  rw [handFault_parts ha, hforced, hstrike]
  refine lockedQueue_congr (fun d => ?_) ?_ ?_ ?_ c
  · cases d <;> rfl
  · rfl
  · rfl
  · rfl

end

end Sys2Proof.Machine

/-! PROOF. Replies of addresses that are not PRESENT: discovery, joining and the orphan deadline (R11, R15 to R19, R23). -/

namespace Sys2Proof.Machine

/-! ## The reply window closes on a reply -/

section
variable {s : State} {a : Addr} {bytes : List Byte} {echo : Bool} {r : Report}

/-- The part with no reply window open. -/
def State.windowClosed (s : State) : State := { s with slot := none }

@[simp] theorem windowClosed_machine (s : State) (a : Addr) : s.windowClosed.machine a = s.machine a := rfl

@[simp] theorem windowClosed_halted (s : State) : s.windowClosed.halted = s.halted := rfl

@[simp] theorem windowClosed_queue (s : State) (c : MachineClass) : s.windowClosed.queue c = s.queue c := by cases c <;> rfl

@[simp] theorem windowClosed_classOf (s : State) (a : Addr) : s.windowClosed.classOf a = s.classOf a := rfl

theorem setMachine_windowClosed (s : State) (a : Addr) (m : MachineRecord) :
    (s.setMachine a m).windowClosed = s.windowClosed.setMachine a m := rfl

theorem configured_of_roster {e : RosterEntry} (h : s.roster a = some e) : s.configured a = true := by
  rw [State.configured, h]
  rfl

/-- R10, R15, R18: a valid reply is taken by the presence of its address. -/
theorem takeReply_valid (hs : s.slot = some a) (hc : s.configured a = true) (hb : readReply a bytes = some (echo, r)) :
    takeReply bytes s = match (s.machine a).bus.presence with
      | .present => presentFrom a echo r s.windowClosed
      | .joining => joiningFrom a echo r s.windowClosed
      | .absent => discoveryFrom a echo r s.windowClosed := by
  have hc' : s.windowClosed.configured a = true := hc
  unfold takeReply
  simp only [hs]
  rw [if_neg (by rw [show ({ s with slot := none } : State).configured a = true from hc']; decide)]
  simp only [hb]
  rfl

theorem exec_replyValid (bytes : List Byte) (s : State) : exec (.replyValid bytes) s = .next (takeReply bytes s) := rfl

theorem exec_discoveryReply (bytes : List Byte) (s : State) : exec (.discoveryReply bytes) s = .next (takeReply bytes s) := rfl

theorem exec_joiningReply (bytes : List Byte) (s : State) : exec (.joiningReply bytes) s = .next (takeReply bytes s) := rfl

theorem takeReply_absent (hs : s.slot = some a) (hc : s.configured a = true) (hb : readReply a bytes = some (echo, r))
    (hp : (s.machine a).bus.presence = .absent) : takeReply bytes s = discoveryFrom a echo r s.windowClosed := by
  rw [takeReply_valid hs hc hb, hp]

theorem takeReply_joining (hs : s.slot = some a) (hc : s.configured a = true) (hb : readReply a bytes = some (echo, r))
    (hp : (s.machine a).bus.presence = .joining) : takeReply bytes s = joiningFrom a echo r s.windowClosed := by
  rw [takeReply_valid hs hc hb, hp]

theorem takeReply_present (hs : s.slot = some a) (hc : s.configured a = true) (hb : readReply a bytes = some (echo, r))
    (hp : (s.machine a).bus.presence = .present) : takeReply bytes s = presentFrom a echo r s.windowClosed := by
  rw [takeReply_valid hs hc hb, hp]

/-- R14: an identity that is the roster's. -/
theorem identityOk_iff {e : RosterEntry} (h : s.roster a = some e) : identityOk a r s = true ↔ e = ⟨r.cls, r.ratings⟩ := by
  simp only [identityOk, h, Bool.and_eq_true, decide_eq_true_eq]
  constructor
  · rintro ⟨hcls, hratings⟩
    cases e
    simp_all
  · rintro rfl
    exact ⟨rfl, rfl⟩

theorem identityOk_of_roster (h : s.roster a = some ⟨r.cls, r.ratings⟩) : identityOk a r s = true := (identityOk_iff h).mpr rfl

/-- 7.1: the codes that a report may carry, by their severity. -/
theorem severityOf_reported {code : Nat} (h2 : 2 ≤ code) (h10 : code ≤ 10) :
    severityOf code = if code = 3 ∨ code = 4 ∨ code = 7 then .soft else .hard := by
  unfold severityOf
  split
  · rfl
  · rw [if_neg (by omega)]

/-! ## Joins -/

theorem modifyBus_eq (a : Addr) (f : BusFields → BusFields) (s : State) :
    modifyBus a f s = s.setMachine a { s.machine a with bus := f (s.machine a).bus } := rfl

/-- R16, R24: the record of a machine that has joined with a report. -/
def joinedRecord (r : Report) (m : MachineRecord) : MachineRecord := { m with
  door := some r.door, selection := r.selection, absenceExemption := false,
  bus := { m.bus with presence := .present, seen := true } }

/-- The part with a machine joined, before it is released to the room. -/
def State.joining (s : State) (a : Addr) (r : Report) : State := s.setMachine a (joinedRecord r (s.machine a))

@[simp] theorem joining_machine_self (s : State) (a : Addr) (r : Report) :
    (s.joining a r).machine a = joinedRecord r (s.machine a) := machine_setMachine_self ..

theorem joinMachine_eq (a : Addr) (r : Report) (s : State) : joinMachine a r s = raise .machine
    (if r.fault = 0 then releaseToRoom a (s.joining a r)
      else handFault (plainHanding (addrNum a) r.fault) (releaseToRoom a (s.joining a r))) := by
  have hjoined : modifyMachine a (fun m => { m with door := some r.door, selection := r.selection, absenceExemption := false })
      (modifyBus a (fun b => { b with presence := .present, seen := true }) s) = s.joining a r := by
    simp [modifyBus_eq, modifyMachine_eq, State.joining, joinedRecord]
  rw [joinMachine, takeJoin, hjoined]

/-- R16, R23: a locked machine joins into OUT_OF_SERVICE. -/
theorem joinMachine_locked (hfault : r.fault = 0) (hlock : (s.machine a).lock ≠ .none) : joinMachine a r s =
    (s.setMachine a { joinedRecord r (s.machine a) with lockPending := false, state := .outOfService }).raising
      (eventBit .machine) := by
  rw [joinMachine_eq, if_pos hfault, releaseToRoom_locked (by rw [joining_machine_self]; exact hlock)]
  simp [State.joining, raise_eq_raising]

/-- R16, R23: an unlocked machine joins to its door and panel in a halted room, and where no entry waits. -/
theorem joinMachine_resting (hfault : r.fault = 0) (hlock : (s.machine a).lock = .none)
    (hrest : s.halted = true ∨ ∀ e ∈ (s.queue (s.classOf a)).entries, e.hold.isSome = true) : joinMachine a r s =
    (s.setMachine a { joinedRecord r (s.machine a) with
      state := restingState (joinedRecord r (s.machine a)) }).raising (eventBit .machine) := by
  rw [joinMachine_eq, if_pos hfault, releaseToRoom_resting (by rw [joining_machine_self]; exact hlock)
    (by simpa [State.joining] using hrest)]
  simp [State.joining, raise_eq_raising]

/-- R16, R23, R129: an unlocked machine joins in a running room to the oldest entry without a hold. -/
theorem joinMachine_oldest {before rest : List ClaimEntry} {w : ClaimEntry} (hfault : r.fault = 0)
    (hlock : (s.machine a).lock = .none) (hrun : s.halted = false)
    (hq : (s.queue (s.classOf a)).entries = before ++ w :: rest) (hbefore : ∀ e ∈ before, e.hold.isSome = true)
    (hw : w.hold = none) : joinMachine a r s =
      ((s.setQueue (s.classOf a) { s.queue (s.classOf a) with
        entries := before ++ { w with hold := some ⟨a, s.now + s.params.holdWindow⟩, paying := false } :: rest,
        placed := min 65535 ((s.queue (s.classOf a)).placed + 1) }).setMachine a { joinedRecord r (s.machine a) with
          state := .held, hold := some ⟨w.card, s.now + s.params.holdWindow⟩ }).raising (eventBit .machine) := by
  rw [joinMachine_eq, if_pos hfault, releaseToRoom_oldest (before := before) (rest := rest) (w := w)
    (by rw [joining_machine_self]; exact hlock) (by simpa [State.joining] using hrun) (by simpa [State.joining] using hq) hbefore hw]
  simp [State.joining, raise_eq_raising, withHold]

/-- R23: the resting state of a machine that has just joined. -/
theorem restingState_joined (r : Report) (m : MachineRecord) : restingState (joinedRecord r m) =
    if r.selection.isSome = true ∧ r.door ≠ .opened then .selected else .idle := by
  rw [restingState_ite]
  cases hdoor : r.door <;> simp [joinedRecord, hdoor]

/-- R129: the oldest entry without a hold, where there is one. -/
theorem exists_oldest {es : List ClaimEntry} (h : ¬ ∀ e ∈ es, e.hold.isSome = true) :
    ∃ before w rest, es = before ++ w :: rest ∧ (∀ e ∈ before, e.hold.isSome = true) ∧ w.hold = none := by
  obtain ⟨w, hw⟩ : ∃ w, es.find? (fun e => e.hold.isNone) = some w := by
    refine Option.ne_none_iff_exists'.mp fun hnone => h fun e he => ?_
    exact Option.isSome_iff_ne_none.mpr (by simpa using List.find?_eq_none.mp hnone e he)
  obtain ⟨hwait, before, rest, rfl, hbefore⟩ := List.find?_eq_some_iff_append.mp hw
  exact ⟨before, w, rest, rfl, fun e he => by simpa using hbefore e he, by simpa using hwait⟩

/-- R23: where a machine released to the room stands, and what of its record may change. -/
theorem releaseToRoom_machine (a : Addr) (s : State) : ∃ st hold pending, (releaseToRoom a s).machine a =
    { s.machine a with state := st, hold := hold, lockPending := pending } ∧
    (st = .idle ∨ st = .selected ∨ st = .held ∨ st = .outOfService) := by
  by_cases hlock : (s.machine a).lock = .none
  · by_cases hrest : s.halted = true ∨ ∀ e ∈ (s.queue (s.classOf a)).entries, e.hold.isSome = true
    · refine ⟨restingState (s.machine a), (s.machine a).hold, (s.machine a).lockPending,
        by rw [releaseToRoom_resting hlock hrest]; simp, ?_⟩
      rw [restingState_ite]
      split
      · exact .inr (.inl rfl)
      · exact .inl rfl
    · obtain ⟨hrun, hwaits⟩ := not_or.mp hrest
      obtain ⟨before, w, rest, hq, hbefore, hw⟩ := exists_oldest hwaits
      exact ⟨.held, some ⟨w.card, s.now + s.params.holdWindow⟩, (s.machine a).lockPending,
        by rw [releaseToRoom_oldest hlock (by simpa using hrun) hq hbefore hw]; simp, .inr (.inr (.inl rfl))⟩
  · exact ⟨.outOfService, (s.machine a).hold, false, by rw [releaseToRoom_locked hlock]; simp, .inr (.inr (.inr rfl))⟩

/-- R16, R137, R141: a machine that joins with a fault code has it handed over behind the release. -/
theorem joinMachine_faulty (h2 : 2 ≤ r.fault) (h10 : r.fault ≤ 10) : faultLast (addrNum a) r.fault (joinMachine a r s) ∧
    ((joinMachine a r s).machine a).bus = (joinedRecord r (s.machine a)).bus ∧
    ((joinMachine a r s).machine a).strikes =
      if r.fault = 3 ∨ r.fault = 4 ∨ r.fault = 7 then (s.machine a).strikes else min 15 ((s.machine a).strikes + 1) := by
  obtain ⟨st, hold, pending, hreleased, hst⟩ := releaseToRoom_machine a (s.joining a r)
  rw [joining_machine_self] at hreleased
  have hexempt : meetsExemption (plainHanding (addrNum a) r.fault) ((releaseToRoom a (s.joining a r)).machine a) = false := by
    rw [hreleased]
    rfl
  have hfree : underService ((releaseToRoom a (s.joining a r)).machine a) = false := by
    rw [hreleased]
    rcases hst with rfl | rfl | rfl | rfl <;> rfl
  have hbus := (struck_handFault (plainHanding (addrNum a) r.fault) a (releaseToRoom a (s.joining a r))).bus
  have hstrikes := handFault_strikes (h := plainHanding (addrNum a) r.fault) rfl hexempt hfree
  have hlast := faultLast_handFault (plainHanding (addrNum a) r.fault) (releaseToRoom a (s.joining a r))
  rw [joinMachine_eq, if_neg (by omega)]
  refine ⟨hlast.of_touches (touched_of (ps := [.flags]) (by simp)) (by simp) (by simp), ?_, ?_⟩
  · rw [raise_machine, hbus, hreleased]
  · have hseverity : effectiveSeverity (plainHanding (addrNum a) r.fault) =
        if r.fault = 3 ∨ r.fault = 4 ∨ r.fault = 7 then .soft else .hard := severityOf_reported h2 h10
    rw [raise_machine, hstrikes, hseverity, hreleased]
    split <;> rfl

/-! ## Discovery -/

/-- R15: the bus fields that a matching discovery reply leaves before it joins or is stopped. -/
def foundBus (echo : Bool) (r : Report) (b : BusFields) : BusFields :=
  { b with lastTag := echo, missed := 0, mismatch := false, report := some r }

/-- The part with a matching discovery reply noted. -/
def State.finding (s : State) (a : Addr) (echo : Bool) (r : Report) : State :=
  s.setMachine a { s.machine a with bus := foundBus echo r (s.machine a).bus }

@[simp] theorem finding_machine_self (s : State) (a : Addr) (echo : Bool) (r : Report) :
    (s.finding a echo r).machine a = { s.machine a with bus := foundBus echo r (s.machine a).bus } := machine_setMachine_self ..

/-- R15: a matching discovery reply of a machine at rest joins it. -/
theorem discoveryFrom_rest (hid : identityOk a r s = true) (hrest : underWay r.activity = false) :
    discoveryFrom a echo r s = joinMachine a r (s.finding a echo r) := by
  rw [discoveryFrom, if_pos hid]
  simp only [hrest, modifyBus_eq]
  rfl

/-- R15: a matching discovery reply of a machine at work stops it as an orphan. -/
theorem discoveryFrom_work (hid : identityOk a r s = true) (hwork : underWay r.activity = true) :
    discoveryFrom a echo r s = beginOrphan a (s.finding a echo r) := by
  rw [discoveryFrom, if_pos hid]
  simp only [hwork, modifyBus_eq]
  rfl

theorem discoveryFrom_other (hid : identityOk a r s = false) : discoveryFrom a echo r s = recordMismatch a s := by
  rw [discoveryFrom, hid]
  rfl

/-- R15: a mismatch is recorded and handed over once. -/
theorem recordMismatch_eq (h : (s.machine a).bus.mismatch = false) : recordMismatch a s =
    modifyBus a (fun b => { b with mismatch := true }) (handFault (plainHanding (addrNum a) faultRosterMismatch) s) := by
  rw [recordMismatch, h]
  rfl

theorem recordMismatch_known (h : (s.machine a).bus.mismatch = true) : recordMismatch a s = s := by
  rw [recordMismatch, h]
  rfl

/-- R15, R143: what a mismatch that is not known yet leaves. -/
theorem recordMismatch_leaves (h : (s.machine a).bus.mismatch = false) :
    ((recordMismatch a s).machine a).bus = { (s.machine a).bus with mismatch := true } ∧
    ((recordMismatch a s).machine a).lock = (if (s.machine a).lock = .locked then .locked else .autoLocked) ∧
    OtherMachines a s (recordMismatch a s) ∧ faultLast (addrNum a) 0x13 (recordMismatch a s) := by
  have hbus := (struck_handFault (plainHanding (addrNum a) faultRosterMismatch) a s).bus
  have hlock := handFault_lock (h := plainHanding (addrNum a) faultRosterMismatch) (addr?_addrNum a) (.inr rfl) s
  have hlast := faultLast_handFault (plainHanding (addrNum a) faultRosterMismatch) s
  rw [recordMismatch_eq h]
  refine ⟨?_, ?_, fun b hb => ?_, hlast.of_touches (touched_of (ps := [.machines]) (by simp)) (by simp) (by simp)⟩
  · rw [modifyBus_eq, machine_setMachine_self, hbus]
  · rw [modifyBus_eq, machine_setMachine_self]
    exact hlock
  · rw [modifyBus_eq, machine_setMachine_other _ _ hb, handFault_machine_other rfl hb]

end

/-- R137: the fault of an orphan is no more than its record. -/
theorem tells_orphan (machine : Nat) : Tells (plainHanding machine faultOrphanCycle) := by
  simp [Tells, effectiveSeverity, plainHanding, severityOf]

/-- Settles O25: the reply joins by the lock and the queue, stops an orphan, or records a mismatch. -/
theorem aDiscoveryReplyJoinsOrOrphans : Obligations.ADiscoveryReplyJoinsOrOrphans := by
  intro s a bytes echo r hs hb hp m q closed found resting joined
  have hexec : ∀ e, s.roster a = some e → exec (.discoveryReply bytes) s = .next (discoveryFrom a echo r s.windowClosed) :=
    fun e he => congrArg _ (takeReply_absent hs (configured_of_roster he) hb hp)
  refine ⟨fun he hrest hfault => ?_, fun he hrest h2 h10 => ?_, fun he hwork => ?_, fun e he hne => ?_⟩
  · have hfrom := discoveryFrom_rest (s := s.windowClosed) (echo := echo) (identityOk_of_roster he) hrest
    rw [hexec _ he, hfrom]
    refine ⟨fun hlock => ?_, fun hlock hstill => ?_, fun before e behind hlock hrun hq hhold hbefore => ?_⟩
    · rw [joinMachine_locked hfault (by rw [finding_machine_self]; exact hlock), finding_machine_self, State.finding,
        setMachine_setMachine]
      rfl
    · rw [joinMachine_resting hfault (by rw [finding_machine_self]; exact hlock) (by simpa [State.finding] using hstill),
        restingState_joined, finding_machine_self, State.finding, setMachine_setMachine]
      rfl
    · rw [joinMachine_oldest hfault (by rw [finding_machine_self]; exact hlock) (by simpa [State.finding] using hrun)
        (by simpa [State.finding] using hq) hbefore hhold, finding_machine_self, State.finding, ← setMachine_setQueue,
        setMachine_setMachine]
      simp
      rfl
  · have hfrom := discoveryFrom_rest (s := s.windowClosed) (echo := echo) (identityOk_of_roster he) hrest
    obtain ⟨hlast, hbus, hstrikes⟩ := joinMachine_faulty (s := s.windowClosed.finding a echo r) (a := a) h2 h10
    rw [finding_machine_self] at hbus hstrikes
    rw [hexec _ he, hfrom]
    exact ⟨_, rfl, hlast, hbus, hstrikes⟩
  · have hfrom := discoveryFrom_work (s := s.windowClosed) (echo := echo) (identityOk_of_roster he) hwork
    rw [hexec _ he, hfrom, beginOrphan]
    refine ⟨_, rfl, fun b hb => ?_, faultLast_handFault (plainHanding (addrNum a) faultOrphanCycle) _, ?_⟩
    · rw [handFault_machine_other rfl hb, modifyBus_eq, machine_setMachine_other _ _ hb, State.finding,
        machine_setMachine_other _ _ hb]
      rfl
    · rw [(touched_handFault_tells (tells_orphan _) _).machine (by simp), modifyBus_eq, machine_setMachine_self,
        finding_machine_self]
      rfl
  · have hid : identityOk a r s.windowClosed = false := by
      rw [← Bool.not_eq_true, identityOk_iff (s := s.windowClosed) (e := e) he]
      exact hne
    rw [hexec _ he, discoveryFrom_other hid]
    refine ⟨fun hknown => by rw [recordMismatch_known (by exact hknown)]; rfl, fun hnew => ⟨_, rfl, ?_⟩⟩
    obtain ⟨hbus, hlock, -, hlast⟩ := recordMismatch_leaves (s := s.windowClosed) (a := a) (by exact hnew)
    exact ⟨hbus, hlock, hlast⟩

end Sys2Proof.Machine

/-! PROOF. Replies of JOINING addresses, and the orphan deadline (R9, R11, R17 to R19, R143). -/

namespace Sys2Proof.Machine

/-! ## Command slots -/

section
variable {b : BusFields} {f : InFlight} {echo : Bool}

theorem takeEcho_empty (h : b.inFlight = none) : takeEcho echo b = (b, none) := by
  unfold takeEcho
  simp only [h]

/-- R9: an echo of the tag in flight takes the command, and the queued one moves up with the other tag. -/
theorem takeEcho_taken (h : b.inFlight = some f) (htag : f.tag = echo) : takeEcho echo b =
    ({ b with
      lastTag := echo, inFlight := b.queued.map (fun q => { cmd := q.cmd, tag := !echo, poster := q.poster }), queued := none },
      some f.cmd) := by
  unfold takeEcho
  simp only [h, if_pos htag]

theorem takeEcho_last (h : b.inFlight = some f) (htag : f.tag = echo) (hq : b.queued = none) :
    takeEcho echo b = ({ b with lastTag := echo, inFlight := none }, some f.cmd) := by
  rw [takeEcho_taken h htag, hq]
  cases b
  simp_all

theorem takeEcho_other (h : b.inFlight = some f) (htag : f.tag ≠ echo) : takeEcho echo b = (b, none) := by
  unfold takeEcho
  simp only [h, if_neg htag]

theorem missesEcho_empty (h : b.inFlight = none) : missesEcho echo b = false := by
  unfold missesEcho
  simp only [h]

theorem missesEcho_taken (h : b.inFlight = some f) (htag : f.tag = echo) : missesEcho echo b = false := by
  unfold missesEcho
  simp [h, htag]

theorem missesEcho_other (h : b.inFlight = some f) (htag : f.tag ≠ echo) : missesEcho echo b = true := by
  unfold missesEcho
  simp [h, htag]

end

section
variable {s : State} {a : Addr} {echo : Bool} {r : Report}

theorem countSlot_counted (a : Addr) (s : State) : countSlot a false s = modifyBus a (fun b => { b with missed := 0 }) s := rfl

theorem countSlot_missed (a : Addr) (s : State) : countSlot a true s = missedSlot a s := rfl

/-! ## Replies of a JOINING address -/

theorem joiningFrom_fresh (h : r.fresh = true) :
    joiningFrom a echo r s = discoveryFrom a echo r (modifyBus a leaveJoining s) := if_pos h

theorem joiningFrom_other (h : r.fresh = false) (hid : identityOk a r s = false) :
    joiningFrom a echo r s = recordMismatch a (modifyBus a leaveJoining s) := by
  unfold joiningFrom
  simp [h, hid]

/-- R18: the part with a reply of a JOINING address noted. -/
def State.hearing (s : State) (a : Addr) (echo : Bool) (r : Report) : State := s.setMachine a { s.machine a with
  bus := { (takeEcho echo (s.machine a).bus).1 with report := some r } }

theorem joiningFrom_work (h : r.fresh = false) (hid : identityOk a r s = true) (hwork : underWay r.activity = true) :
    joiningFrom a echo r s = countSlot a (missesEcho echo (s.machine a).bus) (s.hearing a echo r) := by
  unfold joiningFrom
  simp only [h, hid, hwork, modifyBus_eq]
  rfl

theorem joiningFrom_rest (h : r.fresh = false) (hid : identityOk a r s = true) (hrest : underWay r.activity = false) :
    joiningFrom a echo r s = countSlot a (missesEcho echo (s.machine a).bus)
      (joinMachine a r (modifyBus a (fun b => { b with orphanDeadline := none }) (s.hearing a echo r))) := by
  unfold joiningFrom
  simp only [h, hid, hrest]
  rfl

@[simp] theorem hearing_machine_self (s : State) (a : Addr) (echo : Bool) (r : Report) : (s.hearing a echo r).machine a =
    { s.machine a with bus := { (takeEcho echo (s.machine a).bus).1 with report := some r } } := machine_setMachine_self ..

/-- R18: the slot of a reply of a JOINING machine at work, by its echo. -/
theorem heard_taken {f : InFlight} (hf : (s.machine a).bus.inFlight = some f) (htag : f.tag = echo)
    (hq : (s.machine a).bus.queued = none) :
    countSlot a (missesEcho echo (s.machine a).bus) (s.hearing a echo r) = s.setMachine a { s.machine a with
      bus := { (s.machine a).bus with lastTag := echo, inFlight := none, missed := 0, report := some r } } := by
  rw [missesEcho_taken hf htag, countSlot_counted, modifyBus_eq, hearing_machine_self, State.hearing, setMachine_setMachine,
    takeEcho_last hf htag hq]

theorem heard_other {f : InFlight} (hf : (s.machine a).bus.inFlight = some f) (htag : f.tag ≠ echo)
    (hp : (s.machine a).bus.presence = .joining) (hm : (s.machine a).bus.missed < 2) :
    countSlot a (missesEcho echo (s.machine a).bus) (s.hearing a echo r) = s.setMachine a { s.machine a with
      bus := { (s.machine a).bus with missed := (s.machine a).bus.missed + 1, report := some r } } := by
  have hself : (s.hearing a echo r).machine a = { s.machine a with bus := { (s.machine a).bus with report := some r } } := by
    rw [hearing_machine_self, takeEcho_other hf htag]
  rw [missesEcho_other hf htag, countSlot_missed, missedSlot_counts (by rw [hself]; exact hp.trans_ne nofun)
    (by rw [hself]; exact hm), hself, State.hearing, setMachine_setMachine]

theorem heard_third {f : InFlight} (hf : (s.machine a).bus.inFlight = some f) (htag : f.tag ≠ echo)
    (hp : (s.machine a).bus.presence = .joining) (hm : 2 ≤ (s.machine a).bus.missed) :
    countSlot a (missesEcho echo (s.machine a).bus) (s.hearing a echo r) = s.setMachine a { s.machine a with
      bus := absentBus (s.machine a).bus } := by
  have hself : (s.hearing a echo r).machine a = { s.machine a with bus := { (s.machine a).bus with report := some r } } := by
    rw [hearing_machine_self, takeEcho_other hf htag]
  rw [missesEcho_other hf htag, countSlot_missed, missedSlot_joining (by rw [hself]; exact hp) (by rw [hself]; exact hm),
    modifyBus_eq, hself, State.hearing, setMachine_setMachine]
  rfl

theorem heard_empty (hf : (s.machine a).bus.inFlight = none) :
    countSlot a (missesEcho echo (s.machine a).bus) (s.hearing a echo r) = s.setMachine a { s.machine a with
      bus := { (s.machine a).bus with missed := 0, report := some r } } := by
  rw [missesEcho_empty hf, countSlot_counted, modifyBus_eq, hearing_machine_self, State.hearing, setMachine_setMachine,
    takeEcho_empty hf]

/-- R18: the part with a reply of a JOINING machine at rest noted, before the machine joins. -/
def State.settling (s : State) (a : Addr) (echo : Bool) (r : Report) : State :=
  modifyBus a (fun b => { b with orphanDeadline := none }) (s.hearing a echo r)

theorem settling_eq (s : State) (a : Addr) (echo : Bool) (r : Report) : s.settling a echo r = s.setMachine a { s.machine a with
    bus := { (takeEcho echo (s.machine a).bus).1 with report := some r, orphanDeadline := none } } := by
  rw [State.settling, modifyBus_eq, hearing_machine_self, State.hearing, setMachine_setMachine]

/-- R18: the record of a machine that joins in its JOINING state with the bus fields given. -/
def settledRecord (r : Report) (b : BusFields) (m : MachineRecord) : MachineRecord :=
  joinedRecord r { m with bus := { b with report := some r, orphanDeadline := none } }

/-- R16, R18, R23: a locked machine at rest joins into OUT_OF_SERVICE. -/
theorem settled_locked (hfault : r.fault = 0) (hlock : (s.machine a).lock ≠ .none) : joinMachine a r (s.settling a echo r) =
    (s.setMachine a { settledRecord r (takeEcho echo (s.machine a).bus).1 (s.machine a) with
      lockPending := false, state := .outOfService }).raising (eventBit .machine) := by
  rw [settling_eq, joinMachine_locked hfault (by rw [machine_setMachine_self]; exact hlock), machine_setMachine_self,
    setMachine_setMachine]
  rfl

theorem settled_resting (hfault : r.fault = 0) (hlock : (s.machine a).lock = .none) (hhalted : s.halted = true) :
    joinMachine a r (s.settling a echo r) =
    (s.setMachine a { settledRecord r (takeEcho echo (s.machine a).bus).1 (s.machine a) with
      state := if r.selection.isSome = true ∧ r.door ≠ .opened then .selected else .idle }).raising (eventBit .machine) := by
  rw [settling_eq, joinMachine_resting hfault (by rw [machine_setMachine_self]; exact hlock)
    (.inl (by rw [setMachine_halted]; exact hhalted)), restingState_joined,
    machine_setMachine_self, setMachine_setMachine]
  rfl

/-- R11: the slot counted behind a join. -/
theorem countSlot_joined (m : MachineRecord) (bits : BitVec 7) : countSlot a false ((s.setMachine a m).raising bits) =
    (s.setMachine a { m with bus := { m.bus with missed := 0 } }).raising bits := by
  rw [countSlot_counted, modifyBus_eq, raising_machine, machine_setMachine_self, setMachine_raising, setMachine_setMachine]

theorem countSlot_joined_missed (m : MachineRecord) (bits : BitVec 7) (hp : m.bus.presence ≠ .absent) (hm : m.bus.missed < 2) :
    countSlot a true ((s.setMachine a m).raising bits) =
      (s.setMachine a { m with bus := { m.bus with missed := m.bus.missed + 1 } }).raising bits := by
  have hself : ((s.setMachine a m).raising bits).machine a = m := by rw [raising_machine, machine_setMachine_self]
  rw [countSlot_missed, missedSlot_counts (by rwa [hself]) (by rwa [hself]), hself, setMachine_raising, setMachine_setMachine]

theorem rest_locked (hfault : r.fault = 0) (hlock : (s.machine a).lock ≠ .none)
    (hmiss : missesEcho echo (s.machine a).bus = false) :
    countSlot a (missesEcho echo (s.machine a).bus) (joinMachine a r (s.settling a echo r)) =
      (s.setMachine a { settledRecord r { (takeEcho echo (s.machine a).bus).1 with missed := 0 } (s.machine a) with
        lockPending := false, state := .outOfService }).raising (eventBit .machine) := by
  rw [hmiss, settled_locked hfault hlock, countSlot_joined]
  rfl

theorem rest_locked_missed (hfault : r.fault = 0) (hlock : (s.machine a).lock ≠ .none)
    (hmiss : missesEcho echo (s.machine a).bus = true) (hm : (takeEcho echo (s.machine a).bus).1.missed < 2) :
    countSlot a (missesEcho echo (s.machine a).bus) (joinMachine a r (s.settling a echo r)) =
      (s.setMachine a { settledRecord r { (takeEcho echo (s.machine a).bus).1 with
        missed := (takeEcho echo (s.machine a).bus).1.missed + 1 } (s.machine a) with
          lockPending := false, state := .outOfService }).raising (eventBit .machine) := by
  rw [hmiss, settled_locked hfault hlock, countSlot_joined_missed _ _ (show Presence.present ≠ .absent by decide) hm]
  rfl

theorem rest_resting (hfault : r.fault = 0) (hlock : (s.machine a).lock = .none) (hhalted : s.halted = true)
    (hmiss : missesEcho echo (s.machine a).bus = false) :
    countSlot a (missesEcho echo (s.machine a).bus) (joinMachine a r (s.settling a echo r)) =
      (s.setMachine a { settledRecord r { (takeEcho echo (s.machine a).bus).1 with missed := 0 } (s.machine a) with
        state := if r.selection.isSome = true ∧ r.door ≠ .opened then .selected else .idle }).raising (eventBit .machine) := by
  rw [hmiss, settled_resting hfault hlock hhalted, countSlot_joined]
  rfl

end

/-- Settles O26: the fresh mark first, then the identity, then whether the machine is at work; each clause by the command in
flight and its echo. -/
theorem aJoiningReplyIsTakenByWhatItShows : Obligations.AJoiningReplyIsTakenByWhatItShows := by
  intro s a bytes echo r hs hb hp m closed absent joined
  have hexec : ∀ e, s.roster a = some e → exec (.joiningReply bytes) s = .next (joiningFrom a echo r s.windowClosed) :=
    fun e he => congrArg _ (takeReply_joining hs (configured_of_roster he) hb hp)
  have hpresence : (s.windowClosed.machine a).bus.presence = .joining := hp
  refine ⟨fun hfresh => ⟨fun hc => ?_, fun he hrest hfault hlock => ?_⟩, fun hfresh he hwork => ?_,
    fun hfresh he hrest hfault => ?_, fun e hfresh he hne hnew => ?_⟩
  · have hleft : takeReply bytes (s.setMachine a { m with bus := absent m.bus }) =
        discoveryFrom a echo r (s.setMachine a { m with bus := absent m.bus }).windowClosed :=
      takeReply_absent hs hc hb (by rw [machine_setMachine_self])
    rw [exec_joiningReply, exec_discoveryReply, takeReply_joining hs hc hb hp, joiningFrom_fresh hfresh, hleft]
    rfl
  · have hfrom := discoveryFrom_rest (s := modifyBus a leaveJoining s.windowClosed) (echo := echo) (identityOk_of_roster he) hrest
    rw [hexec _ he, joiningFrom_fresh hfresh, hfrom, joinMachine_locked hfault (by simpa [modifyBus_eq] using hlock),
      State.finding, modifyBus_eq, setMachine_setMachine, setMachine_setMachine]
    simp
    rfl
  · have hfrom := joiningFrom_work (s := s.windowClosed) (echo := echo) hfresh (identityOk_of_roster he) hwork
    rw [hexec _ he, hfrom]
    refine ⟨fun f hf htag hq => ?_, fun f hf htag hm => ?_, fun f hf htag hm => ?_, fun hf => ?_⟩
    · exact congrArg _ (heard_taken hf htag hq)
    · exact congrArg _ (heard_other hf htag hp hm)
    · exact congrArg _ (heard_third hf htag hp hm)
    · exact congrArg _ (heard_empty hf)
  · have hfrom := joiningFrom_rest (s := s.windowClosed) (echo := echo) hfresh (identityOk_of_roster he) hrest
    rw [hexec _ he, hfrom]
    refine ⟨fun hf hlock => congrArg _ ?_, fun hf hlock hhalted => congrArg _ ?_, fun f hf htag hq hlock => congrArg _ ?_,
      fun f hf htag hm hlock => congrArg _ ?_⟩
    · exact (rest_locked (s := s.windowClosed) hfault hlock (missesEcho_empty hf)).trans (by rw [windowClosed_machine, takeEcho_empty (b := (s.machine a).bus) hf]; rfl)
    · exact (rest_resting (s := s.windowClosed) hfault hlock hhalted (missesEcho_empty hf)).trans (by rw [windowClosed_machine, takeEcho_empty (b := (s.machine a).bus) hf]; rfl)
    · exact (rest_locked (s := s.windowClosed) hfault hlock (missesEcho_taken hf htag)).trans (by rw [windowClosed_machine, takeEcho_last (b := (s.machine a).bus) hf htag hq]; rfl)
    · exact (rest_locked_missed (s := s.windowClosed) hfault hlock (missesEcho_other hf htag)
        (by rw [windowClosed_machine, takeEcho_other (b := (s.machine a).bus) hf htag]; exact hm)).trans (by rw [windowClosed_machine, takeEcho_other (b := (s.machine a).bus) hf htag]; rfl)
  · have hid : identityOk a r s.windowClosed = false := by
      rw [← Bool.not_eq_true, identityOk_iff (s := s.windowClosed) (e := e) he]
      exact hne
    obtain ⟨hbus, hlock, hother, hlast⟩ := recordMismatch_leaves (s := modifyBus a leaveJoining s.windowClosed) (a := a)
      (by simpa [modifyBus_eq, leaveJoining] using hnew)
    rw [hexec _ he, joiningFrom_other hfresh hid]
    refine ⟨_, rfl, ?_, ?_, fun b hb => ?_, hlast⟩
    · rw [hbus, modifyBus_eq, machine_setMachine_self]
      rfl
    · rw [hlock, modifyBus_eq, machine_setMachine_self]
      rfl
    · rw [hother b hb, modifyBus_eq, machine_setMachine_other _ _ hb]
      rfl

end Sys2Proof.Machine

/-! PROOF. The orphan deadline of a JOINING machine, in either order of its lock and its join (R19, R23, R47, R129, R134, R143). -/

namespace Sys2Proof.Machine

section
variable {s : State} {a : Addr} {r : Report}

theorem raising_faults (bits : BitVec 7) (s : State) : (s.raising bits).faults = s.faults := rfl

theorem faultLast.congr {t : State} {machine code : Nat} (h : faultLast machine code s) (hfaults : t.faults = s.faults)
    (hnow : t.now = s.now) : faultLast machine code t := by
  rwa [faultLast, hfaults, hnow]

theorem exec_orphanDeadline (a : Addr) (joinFirst : Bool) (s : State) :
    exec (.orphanDeadline ⟨addrNum a, joinFirst⟩) s = .next (orphanTimeout joinFirst a s) :=
  congrArg _ (atAddress_addrNum a _ s)

/-- R19: the part with the STOP and the deadline of an orphan gone. -/
def State.orphanEnded (s : State) (a : Addr) : State := s.setMachine a { s.machine a with
  bus := { (s.machine a).bus with orphanDeadline := none, inFlight := none } }

@[simp] theorem orphanEnded_machine_self (s : State) (a : Addr) : (s.orphanEnded a).machine a =
    { s.machine a with bus := { (s.machine a).bus with orphanDeadline := none, inFlight := none } } := machine_setMachine_self ..

/-- R143: STOP_TIMEOUT handed over for an orphan. -/
def orphanFault (a : Addr) : Handing := plainHanding (addrNum a) faultStopTimeout

/-- R19: an orphan deadline that is reached, in the order that the command carries. -/
theorem orphanTimeout_due {d : Nat} (hp : (s.machine a).bus.presence = .joining) (hd : (s.machine a).bus.orphanDeadline = some d)
    (hdue : d ≤ s.now) (hr : (s.machine a).bus.report = some r) (joinFirst : Bool) : orphanTimeout joinFirst a s =
      if joinFirst then handFault (orphanFault a) (joinMachine a r (s.orphanEnded a))
      else joinMachine a r ((handFault (orphanFault a) s).orphanEnded a) := by
  have hcond : (s.machine a).bus.presence = .joining ∧ due (s.machine a).bus.orphanDeadline s.now = true :=
    ⟨hp, by simp [hd, due, hdue]⟩
  unfold orphanTimeout
  dsimp only
  rw [if_pos hcond, hr]
  rfl

/-- R16, R23: what a join leaves of a machine, and of the others. -/
theorem joinMachine_machine (hfault : r.fault = 0) : (∃ st hold pending, (joinMachine a r s).machine a =
      { joinedRecord r (s.machine a) with state := st, hold := hold, lockPending := pending } ∧
      (st = .idle ∨ st = .selected ∨ st = .held ∨ st = .outOfService)) ∧
    OtherMachines a s (joinMachine a r s) := by
  obtain ⟨st, hold, pending, hreleased, hst⟩ := releaseToRoom_machine a (s.joining a r)
  rw [joinMachine_eq, if_pos hfault]
  refine ⟨⟨st, hold, pending, ?_, hst⟩, OtherMachines.thenRaise (OtherMachines.thenReleaseToRoom fun b hb => ?_) _⟩
  · rw [raise_machine, hreleased, joining_machine_self]
  · rw [State.joining, machine_setMachine_other _ _ hb]

/-- R47: the hold of a HELD machine that STOP_TIMEOUT locks is handed back. -/
theorem handFault_hold {h : Handing} (ha : h.machine = addrNum a)
    (hcode : h.code = faultStopTimeout ∨ h.code = faultRosterMismatch) (hheld : (s.machine a).state = .held) :
    ((handFault h s).machine a).hold = none := by
  have hlocked : ∀ m : MachineRecord, m.state = .held ∨ m.state = .outOfService ∧ m.hold = none →
      (lockedRecord .autoLocked m).hold = none := fun m hm => by
    rcases hm with hm | ⟨hm, hnone⟩
    · simp [lockedRecord, hm]
    · simp [lockedRecord, hm, hnone]
  rw [handFault_machine_self ha, forcedRecord, if_pos hcode]
  refine hlocked _ ?_
  unfold strickenRecord
  split
  · exact .inl hheld
  · split
    · split
      · exact .inr ⟨lockedRecord_state _ (.inr (.inr (.inl hheld))), hlocked _ (.inl hheld)⟩
      · exact .inl hheld
    · exact .inl hheld

theorem lockedQueue_still (h : (s.machine a).state ≠ .held) (c : MachineClass) : lockedQueue a s c = s.queue c := if_neg h

/-- R23: an orphan that joins without a hold leaves the claim queues to the lock as they were. -/
theorem joined_queue_still (hfault : r.fault = 0) (hstill : s.halted = true ∨ (s.machine a).lock ≠ .none ∨
    ∀ e ∈ (s.queue (s.classOf a)).entries, e.hold.isSome = true) (c : MachineClass) :
    lockedQueue a (joinMachine a r (s.orphanEnded a)) c = s.queue c := by
  have hqueue : ∀ d, (s.orphanEnded a).queue d = s.queue d := fun d => setMachine_queue ..
  by_cases hlock : (s.machine a).lock = .none
  · have hrest : (s.orphanEnded a).halted = true ∨
        ∀ e ∈ ((s.orphanEnded a).queue ((s.orphanEnded a).classOf a)).entries, e.hold.isSome = true := by
      rw [hqueue]
      exact hstill.imp id fun h => h.resolve_left (not_not_intro hlock)
    rw [joinMachine_resting hfault (by rw [orphanEnded_machine_self]; exact hlock) hrest, restingState_joined, lockedQueue_still,
      raising_queue, setMachine_queue, hqueue]
    rw [raising_machine, machine_setMachine_self]
    dsimp only
    split <;> nofun
  · rw [joinMachine_locked hfault (by rw [orphanEnded_machine_self]; exact hlock), lockedQueue_still, raising_queue,
      setMachine_queue, hqueue]
    rw [raising_machine, machine_setMachine_self]
    nofun

/-- R129, R134: an orphan held for the oldest entry hands that hold back at the lock. -/
theorem joined_queue_held {before behind : List ClaimEntry} {e : ClaimEntry} (hfault : r.fault = 0) (hrun : s.halted = false)
    (hnone : (s.machine a).lock = .none) (hq : (s.queue (s.classOf a)).entries = before ++ e :: behind)
    (hbefore : ∀ x ∈ before, x.hold.isSome = true ∧ x.hold.map (·.machine) ≠ some a) (hhold : e.hold = none) :
    ((joinMachine a r (s.orphanEnded a)).machine a).state = .held ∧
    lockedQueue a (joinMachine a r (s.orphanEnded a)) (s.classOf a) = { s.queue (s.classOf a) with
      entries := before ++ { e with paying := false } :: behind, placed := min 65535 ((s.queue (s.classOf a)).placed + 1) } ∧
    ∀ c, c ≠ s.classOf a → lockedQueue a (joinMachine a r (s.orphanEnded a)) c = s.queue c := by
  have hqueue : ∀ d, (s.orphanEnded a).queue d = s.queue d := fun d => setMachine_queue ..
  have hclass : (s.orphanEnded a).classOf a = s.classOf a := setMachine_classOf ..
  have hjoined := joinMachine_oldest (r := r) (s := s.orphanEnded a) hfault (by rw [orphanEnded_machine_self]; exact hnone) hrun
    (by rwa [hclass, hqueue]) (fun x hx => (hbefore x hx).1) hhold
  have hstate : ((joinMachine a r (s.orphanEnded a)).machine a).state = .held := by
    rw [hjoined, raising_machine, machine_setMachine_self]
  have hb : ∀ x ∈ before, holdsMachine a x = false := fun x hx => (holdsMachine_eq_false a x).mpr (hbefore x hx).2
  have hheld : ((joinMachine a r (s.orphanEnded a)).machine a).hold.isSome = true := by
    rw [hjoined, raising_machine, machine_setMachine_self]
    rfl
  have hclass' : (joinMachine a r (s.orphanEnded a)).classOf a = s.classOf a := by
    rw [hjoined, raising_classOf, setMachine_classOf, setQueue_classOf, hclass]
  refine ⟨hstate, ?_, fun c hc => ?_⟩
  · have hentry : holdsMachine a { e with
        hold := some ⟨a, (s.orphanEnded a).now + (s.orphanEnded a).params.holdWindow⟩, paying := false } = true := by
      simp [holdsMachine]
    have hgiven := modifyFirst_split (fun e : ClaimEntry => { e with hold := none, paying := false }) hb hentry (behind := behind)
    rw [lockedQueue, if_pos hstate, handBack_queue, if_pos ⟨hheld, hclass'.symm⟩, hjoined, raising_queue, setMachine_queue, hclass,
      queue_setQueue_self, hqueue, hgiven, ← hhold]
  · rw [lockedQueue, if_pos hstate, handBack_queue, if_neg fun h => hc (h.2.trans hclass'), hjoined, raising_queue, setMachine_queue,
      hclass, queue_setQueue_other _ _ hc, hqueue]

end

/-- Settles O27: locked first, the machine joins into OUT_OF_SERVICE; joined first, the lock takes it there from wherever the room
released it to. -/
theorem orphanDeadlineLocksAndJoins : Obligations.OrphanDeadlineLocksAndJoins := by
  intro s a d r joinFirst habsent hp hd hdue hr hfault q
  have hqueues : ∀ t : State, (∀ c, t.queue c = s.queue c) → t.washers = s.washers ∧ t.dryers = s.dryers :=
    fun t h => ⟨h .washer, h .dryer⟩
  have htimeout := orphanTimeout_due hp hd hdue hr joinFirst
  refine ⟨_, exec_orphanDeadline a joinFirst s, ?_⟩
  rw [htimeout]
  cases joinFirst with
  | false =>
    have hstruck := struck_handFault (orphanFault a) a s
    have hlock := handFault_lock (h := orphanFault a) (addr?_addrNum a) (.inl rfl) s
    have hlocked : (((handFault (orphanFault a) s).orphanEnded a).machine a).lock ≠ .none := by
      rw [orphanEnded_machine_self, hlock]
      split <;> nofun
    rw [if_neg (by decide), joinMachine_locked hfault hlocked, orphanEnded_machine_self]
    refine ⟨?_, ?_, ?_, ?_, ?_, fun b hb => ?_, ?_, fun _ => hqueues _ fun c => ?_, fun _ _ _ h => absurd h (by decide)⟩
    · rw [raising_machine, machine_setMachine_self]
    · rw [raising_machine, machine_setMachine_self]
      exact hlock
    · rw [raising_machine, machine_setMachine_self]
      rfl
    · rw [raising_machine, machine_setMachine_self]
      rfl
    · rw [raising_machine, machine_setMachine_self, hstruck.bus]
      rfl
    · rw [raising_machine, machine_setMachine_other _ _ hb, State.orphanEnded, machine_setMachine_other _ _ hb,
        handFault_machine_other rfl hb]
    · exact (faultLast_handFault (orphanFault a) s).congr
        (by rw [raising_faults, setMachine_faults, State.orphanEnded, setMachine_faults])
        (by rw [raising_now, setMachine_now, State.orphanEnded, setMachine_now])
    · rw [raising_queue, setMachine_queue, State.orphanEnded, setMachine_queue, handFault_queue rfl (.inl rfl),
        lockedQueue_still (habsent.trans_ne nofun)]
  | true =>
    obtain ⟨⟨st, hold, pending, hjoined, hst⟩, hother⟩ := joinMachine_machine (s := s.orphanEnded a) (a := a) hfault
    rw [orphanEnded_machine_self] at hjoined
    have hstruck := struck_handFault (orphanFault a) a (joinMachine a r (s.orphanEnded a))
    have hlock := handFault_lock (h := orphanFault a) (addr?_addrNum a) (.inl rfl) (joinMachine a r (s.orphanEnded a))
    have hstate := handFault_state (h := orphanFault a) (a := a) (s := joinMachine a r (s.orphanEnded a)) rfl (.inl rfl)
      (by rw [hjoined]; exact hst)
    rw [if_pos rfl]
    refine ⟨hstate, ?_, ?_, ?_, ?_, fun b hb => ?_, faultLast_handFault (orphanFault a) _, fun hstill => hqueues _ fun c => ?_,
      fun before e behind _ hrun hnone hq hhold hbefore => ?_⟩
    · rw [hlock, hjoined]
      rfl
    · rw [hstruck.door, hjoined]
      rfl
    · rw [hstruck.selection, hjoined]
      rfl
    · rw [hstruck.bus, hjoined]
      rfl
    · rw [handFault_machine_other rfl hb, hother b hb, State.orphanEnded, machine_setMachine_other _ _ hb]
    · rw [handFault_queue rfl (.inl rfl), joined_queue_still hfault (hstill.resolve_left (by decide))]
    · have hgiven := joined_queue_held hfault hrun hnone hq hbefore hhold
      refine ⟨handFault_hold rfl (.inl rfl) hgiven.1, ?_, fun c hc => ?_⟩
      · rw [handFault_queue rfl (.inl rfl), hgiven.2.1]
      · rw [handFault_queue rfl (.inl rfl), hgiven.2.2 c hc]

end Sys2Proof.Machine

/-! PROOF. A machine that waits for no grant stands by while pools scan, and hands its own grant back (R59, R62, R63). -/

namespace Sys2Proof.Machine

/-- R58: a machine without an entry in either wait list. -/
def Unwaiting (a : Addr) (s : State) : Prop := ∀ k, (s.pool k).hasEntry a = false

section
variable {a : Addr} {s t : State}

theorem unwaiting_iff (a : Addr) (s : State) : Unwaiting a s ↔ s.electric.hasEntry a = false ∧ s.water.hasEntry a = false :=
  ⟨fun h => ⟨h .electric, h .water⟩, fun h k => by cases k; exacts [h.1, h.2]⟩

theorem Unwaiting.touch {ps : List Part} (h : Unwaiting a s) (ht : Touches ps s t) (hp : Part.pools ∉ ps) : Unwaiting a t :=
  fun k => by rw [ht.pool hp k]; exact h k

theorem Unwaiting.scanPool (h : Unwaiting a s) (k : PoolId) : Unwaiting a (scanPool k s) := fun j => scanPool_hasEntry (h j)

/-- A scan leaves only the grants that were there and grants of the entries it scans. -/
theorem scanFrom_grants (now : Nat) (P : Addr → Prop) : ∀ (l : List WaitEntry) (p : Pool) (kept : List WaitEntry),
    (∀ e ∈ l, P e.machine) → (∀ g ∈ p.grants, P g.machine) → ∀ g ∈ (scanFrom now p kept l).pool.grants, P g.machine := by
  intro l
  induction l with
  | nil => exact fun p kept _ hp => hp
  | cons e rest ih =>
    intro p kept hl hp
    obtain ⟨he, hrest⟩ := List.forall_mem_cons.mp hl
    unfold scanFrom
    split
    · next q _ =>
      have hgrown : ∀ g ∈ p.grants ++ [grantOf now e q], P g.machine := by
        simpa [or_imp, forall_and, grantOf] using ⟨hp, he⟩
      dsimp only
      split
      · exact hgrown
      · exact ih _ _ hrest hgrown
    · split
      · exact hp
      · exact ih _ _ hrest hp

theorem hasEntry_eq_false {p : Pool} : p.hasEntry a = false ↔ ∀ e ∈ p.waits, e.machine ≠ a := by
  simp [Pool.hasEntry]

theorem holdsGrant_eq_false {p : Pool} : p.holdsGrant a = false ↔ ∀ g ∈ p.grants, g.machine ≠ a := by
  simp [Pool.holdsGrant]

/-- A scan gives a machine that waits for nothing no grant. -/
theorem scanPool_holdsGrant {j k : PoolId} (h : Unwaiting a s) (hg : (s.pool j).holdsGrant a = false) :
    ((scanPool k s).pool j).holdsGrant a = false := by
  by_cases hj : j = k
  · subst hj
    unfold scanPool
    dsimp only
    split
    · rw [grants_pool, pool_setPool_self]
      exact holdsGrant_eq_false.mpr (scanFrom_grants s.now (· ≠ a) _ _ _ (hasEntry_eq_false.mp (h j)) (holdsGrant_eq_false.mp hg))
    · exact hg
  · rw [scanPool_pool_other hj]
    exact hg

theorem leaveOverLimit_pool (k : PoolId) (s : State) : ∃ b, (leaveOverLimit k s).pool k = { s.pool k with overLimit := b } ∧
    ∀ j, j ≠ k → (leaveOverLimit k s).pool j = s.pool j := by
  unfold leaveOverLimit
  dsimp only
  split
  · exact ⟨false, by simp, fun j hj => by simp [pool_setPool_other _ _ hj]⟩
  · exact ⟨(s.pool k).overLimit, rfl, fun j _ => rfl⟩

/-- R63: the grants of a pool after a release. -/
theorem releaseFrom_pools (h : Unwaiting a s) (k : PoolId) : Unwaiting a (releaseFrom k a s) ∧
    ((releaseFrom k a s).pool k).holdsGrant a = false ∧
    ∀ j, (s.pool j).holdsGrant a = false → ((releaseFrom k a s).pool j).holdsGrant a = false := by
  unfold releaseFrom
  dsimp only
  by_cases hheld : (s.pool k).holdsGrant a = true
  · rw [if_pos hheld]
    obtain ⟨b, hleft, hothers⟩ := leaveOverLimit_pool k (s.setPool k { s.pool k with grants := withoutMachine a (s.pool k).grants })
    rw [pool_setPool_self] at hleft
    have hpool : ∀ j, j ≠ k → (leaveOverLimit k (s.setPool k { s.pool k with
        grants := withoutMachine a (s.pool k).grants })).pool j = s.pool j := fun j hj => by
      rw [hothers j hj, pool_setPool_other _ _ hj]
    have hwaits : Unwaiting a (leaveOverLimit k (s.setPool k { s.pool k with grants := withoutMachine a (s.pool k).grants })) := by
      intro j
      by_cases hj : j = k
      · subst hj
        rw [hleft]
        exact h j
      · rw [hpool j hj]
        exact h j
    have hfreed : ((leaveOverLimit k (s.setPool k { s.pool k with
        grants := withoutMachine a (s.pool k).grants })).pool k).holdsGrant a = false := by
      rw [hleft, holdsGrant_eq_false]
      intro g hg
      simpa [withoutMachine] using (List.mem_filter.mp hg).2
    refine ⟨hwaits.scanPool k, scanPool_holdsGrant hwaits hfreed, fun j hj => scanPool_holdsGrant hwaits ?_⟩
    by_cases hjk : j = k
    · subst hjk
      exact hfreed
    · rw [hpool j hjk]
      exact hj
  · rw [if_neg hheld]
    exact ⟨h, Bool.not_eq_true _ ▸ hheld, fun j hj => hj⟩

/-- R63: a machine that waits for nothing holds nothing once it has handed its grant back. -/
theorem releaseGrant_frees (h : Unwaiting a s) : Unwaiting a (releaseGrant a s) ∧
    ∀ k, ((releaseGrant a s).pool k).holdsGrant a = false := by
  obtain ⟨hunwaiting, hfree, -⟩ := releaseFrom_pools h .electric
  obtain ⟨hunwaiting', hfree', hkept⟩ := releaseFrom_pools hunwaiting .water
  refine ⟨hunwaiting', fun k => ?_⟩
  cases k
  · exact hkept .electric hfree
  · exact hfree'

/-! ## The machine itself -/

theorem sessionOn_eq_map (a : Addr) (s : State) : sessionOn a s = ((sessionOf s).map (fun x => decide (x.1 = a))).getD false := by
  unfold sessionOn sessionOf
  cases s.session <;> rfl

/-- A grant of another machine's work leaves a machine on which no session is open as it was. -/
theorem deliverGrant_bystander {e : WaitEntry} (he : e.machine ≠ a) (hs : sessionOn a s = false) :
    (deliverGrant s e).machine a = s.machine a := by
  have ha : a ≠ e.machine := he.symm
  unfold deliverGrant
  split
  · unfold startPhase
    split
    · rfl
    · split
      · rfl
      · rw [post_machine, if_neg ha, modifyCycle_machine, if_neg ha]
  · rw [resumePhase, post_machine, if_neg ha, modifyCycle_machine, if_neg ha]
  · unfold startServicePhase
    split
    · rfl
    · next x hx =>
      split
      · rfl
      · have hxa : a ≠ x.machine := fun hxa => by
          have : sessionOn a s = true := (sessionOn_iff a s).mpr ⟨x, hx, hxa.symm⟩
          rw [this] at hs
          exact absurd hs (by decide)
        rw [raise_machine, post_machine, if_neg hxa]
        rfl
  · unfold startSubtest
    split
    · rfl
    · rw [post_machine, if_neg ha, modifyRun, raise_machine, machine_modifyMachine_other ha]

theorem sessionOn_deliverGrant (e : WaitEntry) : sessionOn a (deliverGrant s e) = sessionOn a s := by
  rw [sessionOn_eq_map, sessionOn_eq_map, unmoved_sessionOf.deliver]

theorem grants_bystander {l : List WaitEntry} (hl : ∀ e ∈ l, e.machine ≠ a) (hs : sessionOn a s = false) :
    (l.foldl deliverGrant s).machine a = s.machine a := by
  induction l generalizing s with
  | nil => rfl
  | cons e l ih =>
    obtain ⟨he, hrest⟩ := List.forall_mem_cons.mp hl
    rw [List.foldl_cons, ih hrest (by rwa [sessionOn_deliverGrant]), deliverGrant_bystander he hs]

theorem scanPool_bystander (k : PoolId) (h : Unwaiting a s) (hs : sessionOn a s = false) :
    (scanPool k s).machine a = s.machine a := by
  unfold scanPool
  dsimp only
  split
  · rw [grants_bystander _ (by simpa [sessionOn] using hs), setPool_machine]
    exact (scanFrom_sub s.now (· ≠ a) _ _ [] (hasEntry_eq_false.mp (h k)) (by simp)).1
  · rfl

theorem setPool_unwaiting {k : PoolId} {p : Pool} (h : Unwaiting a s) (hp : p.hasEntry a = false) : Unwaiting a (s.setPool k p) := by
  intro j
  by_cases hj : j = k
  · subst hj
    rwa [pool_setPool_self]
  · rw [pool_setPool_other _ _ hj]
    exact h j

theorem releaseFrom_scans {k : PoolId} (h : (s.pool k).holdsGrant a = true) : releaseFrom k a s =
    scanPool k (leaveOverLimit k (s.setPool k { s.pool k with grants := withoutMachine a (s.pool k).grants })) := if_pos h

theorem releaseFrom_without {k : PoolId} (h : ¬ (s.pool k).holdsGrant a = true) : releaseFrom k a s = s := if_neg h

theorem leaveOverLimit_machine (k : PoolId) : (leaveOverLimit k s).machine a = s.machine a := by
  unfold leaveOverLimit
  dsimp only
  split
  · rw [raise_machine, setPool_machine]
  · rfl

theorem leaveOverLimit_unwaiting {k : PoolId} (h : Unwaiting a s) : Unwaiting a (leaveOverLimit k s) := by
  obtain ⟨b, hleft, hothers⟩ := leaveOverLimit_pool k s
  intro j
  by_cases hj : j = k
  · subst hj
    rw [hleft]
    exact h j
  · rw [hothers j hj]
    exact h j

/-- R63: the hand-back of a grant leaves its machine as it was, if that waits for nothing and has no session. -/
theorem releaseGrant_bystander (h : Unwaiting a s) (hs : sessionOn a s = false) : (releaseGrant a s).machine a = s.machine a := by
  have hone : ∀ (k : PoolId) (t : State), Unwaiting a t → sessionOn a t = false → (releaseFrom k a t).machine a = t.machine a := by
    intro k t ht hst
    by_cases hheld : (t.pool k).holdsGrant a = true
    · have hpool : Unwaiting a (t.setPool k { t.pool k with grants := withoutMachine a (t.pool k).grants }) :=
        setPool_unwaiting ht (ht k)
      have hsession : sessionOn a (leaveOverLimit k (t.setPool k { t.pool k with
          grants := withoutMachine a (t.pool k).grants })) = false := by
        rw [sessionOn_eq_map, unmoved_sessionOf.leaveOverLimit, unmoved_sessionOf.pool, ← sessionOn_eq_map, hst]
      rw [releaseFrom_scans hheld, scanPool_bystander k (leaveOverLimit_unwaiting hpool) hsession, leaveOverLimit_machine,
        setPool_machine]
    · rw [releaseFrom_without hheld]
  have hsession : sessionOn a (releaseFrom .electric a s) = false := by
    rw [sessionOn_eq_map, unmoved_sessionOf.releaseFrom, ← sessionOn_eq_map, hs]
  rw [releaseGrant, hone .water _ (releaseFrom_pools h .electric).1 hsession, hone .electric s h hs]

/-- R63: whatever session is open, the cycle and the test run of such a machine stay. -/
theorem releaseGrant_work (h : Unwaiting a s) : Calm (s.machine a) ((releaseGrant a s).machine a) ∧
    ((releaseGrant a s).machine a).cycle = (s.machine a).cycle ∧
    ((releaseGrant a s).machine a).testRun = (s.machine a).testRun := by
  have hone : ∀ (k : PoolId) (t : State), Unwaiting a t → Calm (t.machine a) ((releaseFrom k a t).machine a) ∧
      ((releaseFrom k a t).machine a).cycle = (t.machine a).cycle ∧
      ((releaseFrom k a t).machine a).testRun = (t.machine a).testRun := by
    intro k t ht
    by_cases hheld : (t.pool k).holdsGrant a = true
    · have hpool : Unwaiting a (t.setPool k { t.pool k with grants := withoutMachine a (t.pool k).grants }) :=
        setPool_unwaiting ht (ht k)
      have hmachine : (leaveOverLimit k (t.setPool k { t.pool k with
          grants := withoutMachine a (t.pool k).grants })).machine a = t.machine a := by
        rw [leaveOverLimit_machine, setPool_machine]
      have hcalm := calm_scanPool k a (leaveOverLimit k (t.setPool k { t.pool k with
          grants := withoutMachine a (t.pool k).grants }))
      obtain ⟨hcycle, hrun⟩ := scanPool_other (leaveOverLimit_unwaiting hpool k)
      rw [hmachine] at hcalm hcycle hrun
      rw [releaseFrom_scans hheld]
      exact ⟨hcalm, hcycle, hrun⟩
    · rw [releaseFrom_without hheld]
      exact ⟨Calm.refl _, rfl, rfl⟩
  obtain ⟨hcalm, hcycle, hrun⟩ := hone .electric s h
  obtain ⟨hcalm', hcycle', hrun'⟩ := hone .water _ (releaseFrom_pools h .electric).1
  exact ⟨hcalm.trans hcalm', hcycle'.trans hcycle, hrun'.trans hrun⟩

theorem sessionOn_releaseGrant (a b : Addr) (s : State) : sessionOn a (releaseGrant b s) = sessionOn a s := by
  rw [sessionOn_eq_map, sessionOn_eq_map, unmoved_sessionOf.releaseGrant]

theorem withdrawEntry_unwaiting (h : Unwaiting a s) : withdrawEntry a s = s := by
  have hone : ∀ k, withdrawFrom k a s = s := fun k => by
    unfold withdrawFrom
    simp only [h k]
    rfl
  rw [withdrawEntry, hone, hone]

/-! ## A request for a grant -/

/-- R57, R61: a machine without a grant or an entry in either pool. -/
def Ungranted (a : Addr) (s : State) : Prop := Unwaiting a s ∧ ∀ k, (s.pool k).holdsGrant a = false

/-- A scan grants entries of its list, and loses none. -/
theorem scanFrom_counts (now : Nat) (q : Addr → Bool) : ∀ (l : List WaitEntry) (p : Pool) (kept : List WaitEntry),
    (∀ e ∈ (scanFrom now p kept l).granted, e ∈ l) ∧
    (scanFrom now p kept l).granted.countP (fun e => q e.machine) + (scanFrom now p kept l).waits.countP (fun e => q e.machine) =
      kept.countP (fun e => q e.machine) + l.countP (fun e => q e.machine) := by
  intro l
  induction l with
  | nil => exact fun p kept => ⟨by simp [scanFrom], by simp [scanFrom]⟩
  | cons e rest ih =>
    intro p kept
    have hpassed : ∀ kept : List WaitEntry, (kept.map fun k => { k with passes := k.passes + 1 }).countP (fun e => q e.machine) =
        kept.countP (fun e => q e.machine) := fun kept => by rw [List.countP_map]; rfl
    unfold scanFrom
    split
    · dsimp only
      split
      · refine ⟨by simp, ?_⟩
        rw [List.countP_append, hpassed, List.countP_singleton, List.countP_cons]
        omega
      · obtain ⟨hsub, hcount⟩ := ih { p with grants := p.grants ++ [grantOf now e ‹_›] }
          (kept.map fun k => { k with passes := k.passes + 1 })
        refine ⟨List.forall_mem_cons.mpr ⟨List.mem_cons_self, fun x hx => List.mem_cons_of_mem _ (hsub x hx)⟩, ?_⟩
        rw [hpassed] at hcount
        dsimp only
        rw [List.countP_cons, List.countP_cons]
        omega
    · split
      · refine ⟨by simp, ?_⟩
        rw [List.countP_append, List.countP_nil]
        omega
      · obtain ⟨hsub, hcount⟩ := ih p (kept ++ [e])
        refine ⟨fun x hx => List.mem_cons_of_mem _ (hsub x hx), ?_⟩
        rw [List.countP_append, List.countP_singleton] at hcount
        rw [List.countP_cons]
        omega

/-- The entry that a request places at the tail of its wait list (R61). -/
def requestEntry (a : Addr) (purpose : Purpose) (demand : Nat) (suspendable : Bool) (s : State) : WaitEntry := {
  machine := a, cls := s.classOf a, purpose := purpose, demand := demand, suspendable := suspendable, time := s.now, passes := 0,
  number := none }

theorem countWait_machine (k : PoolId) (b : Addr) : (countWait k b s).machine a = s.machine a := by
  unfold countWait
  split
  · simp [modifyStats]
  · rfl

theorem countWait_hasEntry (j k : PoolId) (b : Addr) : ((countWait k b s).pool j).hasEntry a = (s.pool j).hasEntry a := by
  unfold countWait
  split
  · by_cases hj : j = k
    · subst hj
      simp [modifyStats, Pool.hasEntry]
    · simp [modifyStats, pool_setPool_other _ _ hj]
  · rfl

/-- R61: a request of a machine without grant and entry waits at the tail of the list that is scanned. -/
theorem requestGrant_eq {k : PoolId} {purpose : Purpose} {demand : Nat} {suspendable : Bool} (h : Ungranted a s) (hd : demand ≠ 0) :
    requestGrant k a purpose demand suspendable s = countWait k a (scanPool k (s.setPool k { s.pool k with
      waits := (s.pool k).waits ++ [requestEntry a purpose demand suspendable s] })) := by
  obtain ⟨hw, hg⟩ := h
  have hnone : (s.electric.holdsGrant a || s.electric.hasEntry a || s.water.holdsGrant a || s.water.hasEntry a || demand == 0) =
      false := by
    have h1 : s.electric.holdsGrant a = false := hg .electric
    have h2 : s.electric.hasEntry a = false := hw .electric
    have h3 : s.water.holdsGrant a = false := hg .water
    have h4 : s.water.hasEntry a = false := hw .water
    simp [h1, h2, h3, h4, hd]
  unfold requestGrant
  rw [hnone]
  rfl

/-- R59, R62: the only entry of a machine waits on through a scan, and its machine stands by, or the machine is told of its
grant. -/
theorem scanPool_outcome {k : PoolId} {before behind : List WaitEntry} {e : WaitEntry}
    (hlist : (s.pool k).waits = before ++ e :: behind) (hea : e.machine = a) (hbefore : ∀ x ∈ before, x.machine ≠ a)
    (hbehind : ∀ x ∈ behind, x.machine ≠ a) (hs : sessionOn a s = false) :
    (((scanPool k s).pool k).hasEntry a = true ∧ (scanPool k s).machine a = s.machine a) ∨
    ∃ u : State, u.machine a = s.machine a ∧ u.now = s.now ∧ (scanPool k s).machine a = (deliverGrant u e).machine a := by
  by_cases hscan : (s.pool k).mayScan = true
  · have hone : (s.pool k).waits.countP (fun x => decide (x.machine = a)) = 1 := by
      have hb : before.countP (fun x => decide (x.machine = a)) = 0 :=
        List.countP_eq_zero.mpr fun x hx => by simpa using hbefore x hx
      have hh : behind.countP (fun x => decide (x.machine = a)) = 0 :=
        List.countP_eq_zero.mpr fun x hx => by simpa using hbehind x hx
      rw [hlist, List.countP_append, List.countP_cons, hb, hh, hea]
      simp
    obtain ⟨hsub, hcount⟩ := scanFrom_counts s.now (fun b => decide (b = a)) (s.pool k).waits (s.pool k) []
    have hscanned : scanPool k s = (scanFrom s.now (s.pool k) [] (s.pool k).waits).granted.foldl deliverGrant
        (s.setPool k { (scanFrom s.now (s.pool k) [] (s.pool k).waits).pool with
          waits := (scanFrom s.now (s.pool k) [] (s.pool k).waits).waits }) := by
      unfold scanPool
      simp only [hscan, if_true]
    generalize (scanFrom s.now (s.pool k) [] (s.pool k).waits) = r at hscanned hsub hcount
    rw [hone, List.countP_nil, Nat.zero_add] at hcount
    rw [hscanned, grants_pool, pool_setPool_self]
    by_cases hgranted : r.granted.countP (fun x => decide (x.machine = a)) = 0
    · refine .inl ⟨?_, ?_⟩
      · have hleft : 0 < r.waits.countP (fun x => decide (x.machine = a)) := by omega
        obtain ⟨x, hx, hxa⟩ := List.countP_pos_iff.mp hleft
        exact List.any_eq_true.mpr ⟨x, hx, hxa⟩
      · rw [grants_bystander (fun x hx => by simpa using List.countP_eq_zero.mp hgranted x hx) (by simpa [sessionOn] using hs),
          setPool_machine]
    · obtain ⟨x, hx, hxa⟩ := List.countP_pos_iff.mp (Nat.pos_of_ne_zero hgranted)
      obtain ⟨g1, g2, hsplit⟩ := List.append_of_mem hx
      have hxe : x = e := by
        have hmem := hsub x hx
        rw [hlist] at hmem
        rcases List.mem_append.mp hmem with hold | hnew
        · exact absurd (by simpa using hxa) (hbefore x hold)
        · exact (List.mem_cons.mp hnew).resolve_right fun hlater => hbehind x hlater (by simpa using hxa)
      subst hxe
      rw [hsplit, List.countP_append, List.countP_cons, if_pos hxa] at hcount
      have h1 : ∀ y ∈ g1, y.machine ≠ a := fun y hy => by
        simpa using List.countP_eq_zero.mp (show g1.countP (fun x => decide (x.machine = a)) = 0 by omega) y hy
      have h2 : ∀ y ∈ g2, y.machine ≠ a := fun y hy => by
        simpa using List.countP_eq_zero.mp (show g2.countP (fun x => decide (x.machine = a)) = 0 by omega) y hy
      refine .inr ⟨g1.foldl deliverGrant (s.setPool k { r.pool with waits := r.waits }), ?_, ?_, ?_⟩
      · rw [grants_bystander h1 (by simpa [sessionOn] using hs), setPool_machine]
      · rw [((Touches.foldl (ps := [.machines, .flags, .session]) (fun u e => touched_deliverGrant e u) g1 _).same .clock
          (by simp)).1, setPool_now]
      · have hbefore : sessionOn a (g1.foldl deliverGrant (s.setPool k { r.pool with waits := r.waits })) = false := by
          rw [sessionOn_eq_map, unmoved_sessionOf.grants, unmoved_sessionOf.pool, ← sessionOn_eq_map, hs]
        rw [hsplit, List.foldl_append, List.foldl_cons, grants_bystander h2 (by rwa [sessionOn_deliverGrant])]
  · have hscanned : scanPool k s = s := by
      unfold scanPool
      rw [if_neg hscan]
    rw [hscanned]
    exact .inl ⟨List.any_eq_true.mpr ⟨e, by rw [hlist]; simp, by simpa using hea⟩, rfl⟩

/-- R59, R61, R62: such a request waits on, and its machine stands by, or the machine is told of its grant. -/
theorem requestGrant_outcome {k : PoolId} {purpose : Purpose} {demand : Nat} {suspendable : Bool} (h : Ungranted a s)
    (hs : sessionOn a s = false) (hd : demand ≠ 0) :
    (((requestGrant k a purpose demand suspendable s).pool k).hasEntry a = true ∧
      (requestGrant k a purpose demand suspendable s).machine a = s.machine a) ∨
    ∃ u : State, u.machine a = s.machine a ∧ u.now = s.now ∧
      (requestGrant k a purpose demand suspendable s).machine a =
        (deliverGrant u (requestEntry a purpose demand suspendable s)).machine a := by
  rw [requestGrant_eq h hd, countWait_machine, countWait_hasEntry]
  have hscan := scanPool_outcome (a := a) (k := k) (before := (s.pool k).waits) (behind := [])
    (e := requestEntry a purpose demand suspendable s)
    (s := s.setPool k { s.pool k with waits := (s.pool k).waits ++ [requestEntry a purpose demand suspendable s] })
    (by rw [pool_setPool_self]) rfl (hasEntry_eq_false.mp (h.1 k)) (by simp) (by simpa [sessionOn] using hs)
  rw [setPool_machine, setPool_now] at hscan
  exact hscan

end

end Sys2Proof.Machine

/-! PROOF. A reply of a PRESENT machine: its command slot, the parts that changed, and its work (R9 to R11, R22, R30, R43). -/

namespace Sys2Proof.Machine

/-! ## The frame of a reply -/

/-- What a reply shows whose command slot is settled. -/
def shownOf (echo : Bool) (r : Report) (b : BusFields) : Shown := { taken := (takeEcho echo b).2, report := r }

/-- The part with the command slot of a machine settled by an echo tag. -/
def State.echoed (s : State) (a : Addr) (echo : Bool) : State :=
  s.setMachine a { s.machine a with bus := (takeEcho echo (s.machine a).bus).1 }

/-- The part with a reply become the last status report, and its slot counted as answered. -/
def State.heard (s : State) (a : Addr) (r : Report) : State :=
  s.setMachine a { s.machine a with bus := { (s.machine a).bus with report := some r, missed := 0 } }

section
variable {s t : State} {a : Addr} {bytes : List Byte} {echo : Bool} {r : Report}

@[simp] theorem echoed_machine_self (s : State) (a : Addr) (echo : Bool) :
    (s.echoed a echo).machine a = { s.machine a with bus := (takeEcho echo (s.machine a).bus).1 } := machine_setMachine_self ..

@[simp] theorem heard_machine_self (s : State) (a : Addr) (r : Report) : (s.heard a r).machine a =
    { s.machine a with bus := { (s.machine a).bus with report := some r, missed := 0 } } := machine_setMachine_self ..

theorem touched_heard (s : State) (a : Addr) (r : Report) : Touches [.machines] s (s.heard a r) := by
  rw [State.heard, ← modifyMachine_eq a (fun m => { m with bus := { m.bus with report := some r, missed := 0 } })]
  exact touched_of (by simp)

theorem touched_echoed (s : State) (a : Addr) (echo : Bool) : Touches [.machines] s (s.echoed a echo) := by
  rw [State.echoed, ← modifyMachine_eq a (fun m => { m with bus := (takeEcho echo m.bus).1 })]
  exact touched_of (by simp)

/-- R10, R11: a reply of the right identity that misses no echo. -/
theorem presentFrom_answered (hfresh : r.fresh = false) (hid : identityOk a r s = true)
    (hmiss : missesEcho echo (s.machine a).bus = false) : presentFrom a echo r s =
      (takeOutcome a (shownOf echo r (s.machine a).bus) (changesOf (s.machine a).bus.report r) (s.echoed a echo)).heard a r := by
  unfold presentFrom
  simp only [hfresh, hid, hmiss, countSlot_counted, modifyBus_eq, machine_setMachine_self, setMachine_setMachine]
  rfl

theorem exec_present (hs : s.slot = some a) (hb : readReply a bytes = some (echo, r)) (hp : (s.machine a).bus.presence = .present)
    (hfresh : r.fresh = false) (he : s.roster a = some ⟨r.cls, r.ratings⟩)
    (hmiss : missesEcho echo (s.machine a).bus = false) : exec (.replyValid bytes) s = .next
      ((takeOutcome a (shownOf echo r (s.machine a).bus) (changesOf (s.machine a).bus.report r)
        (s.windowClosed.echoed a echo)).heard a r) := by
  have hid : identityOk a r s.windowClosed = true := identityOk_of_roster (s := s.windowClosed) he
  rw [exec_replyValid, takeReply_present hs (configured_of_roster he) hb hp, presentFrom_answered hfresh hid hmiss]
  rfl

/-! ## The parts of an outcome -/

/-- R22: a changed door and a changed selection, taken in this order. -/
def takeChanges (a : Addr) (r : Report) (d : Changes) (s : State) : State :=
  let s := if d.door then takeDoor a r.door s else s
  if d.selection then takeSelection a r.selection s else s

theorem takeChanges_none {d : Changes} (hdoor : d.door = false) (hselection : d.selection = false) : takeChanges a r d s = s := by
  simp [takeChanges, hdoor, hselection]

theorem noteStop_resting {taken : Option BusCommand} (h : (s.machine a).state ≠ .running) : noteStop a taken s = s := if_neg h

theorem takeCool_resting {taken : Option BusCommand} (h : (s.machine a).state ≠ .running) : takeCool a taken s = s := by
  unfold takeCool
  split
  · exact if_neg fun hboth => h hboth.1
  · rfl

theorem takeCool_none : takeCool a none s = s := by
  unfold takeCool
  split
  · next heq => exact absurd heq nofun
  · rfl

theorem showsOutcome_resting {taken : Option BusCommand} (h : (s.machine a).state ≠ .running) : showsOutcome a taken s = false := by
  unfold showsOutcome
  simp [h]

theorem showsOutcome_none : showsOutcome a none s = false := by
  unfold showsOutcome
  cases (s.machine a).cycle <;> simp

theorem noteStop_none : noteStop a none s = s := by
  unfold noteStop
  split <;> rfl

theorem readsEcho_none {r : Report} : readsEcho a ⟨none, r⟩ s = false := rfl

/-- R22, R34: the outcome of a reply that shows nothing of a phase just begun. -/
theorem takeOutcome_unread {x : Shown} {d : Changes} (hnoted : noteStop a x.taken s = t) (hcool : takeCool a x.taken t = t)
    (hread : showsOutcome a x.taken t = false) : takeOutcome a x d s =
      takeWork a x (d.activity || readsEcho a x (takeChanges a x.report d t)) d.fault (takeChanges a x.report d t) := by
  unfold takeOutcome
  simp only [hnoted, hcool, hread]
  simp [takeChanges]

/-- R10: a machine that has taken no command. -/
theorem takeOutcome_quiet {d : Changes} : takeOutcome a ⟨none, r⟩ d s =
    takeWork a ⟨none, r⟩ d.activity d.fault (takeChanges a r d s) := by
  rw [takeOutcome_unread (t := s) noteStop_none takeCool_none showsOutcome_none, readsEcho_none, Bool.or_false]

/-- R10: a machine that is not RUNNING. -/
theorem takeOutcome_resting {x : Shown} {d : Changes} (h : (s.machine a).state ≠ .running) : takeOutcome a x d s =
    takeWork a x (d.activity || readsEcho a x (takeChanges a x.report d s)) d.fault (takeChanges a x.report d s) :=
  takeOutcome_unread (noteStop_resting h) (takeCool_resting h) (showsOutcome_resting h)

/-- R30: the outcome of a reply that shows the current phase just begun, and no change of door or panel, is read once. -/
theorem takeOutcome_read {x : Shown} {d : Changes} (hcool : takeCool a x.taken (noteStop a x.taken s) = t)
    (hread : showsOutcome a x.taken t = true) (hdoor : d.door = false) (hselection : d.selection = false)
    (hfault : x.report.fault = 0) (hfree : underService ((readOutcome a x.report t).machine a) = false) :
    takeOutcome a x d s = readOutcome a x.report t := by
  unfold takeOutcome
  simp only [hcool, hread, hdoor, hselection]
  simp [takeWork, hfree, hfault]

end

/-! ## A dryer sent to COOL -/

theorem exec_remainingPaidSecondsZero (a : Addr) (s : State) :
    exec (.remainingPaidSecondsZero (addrNum a)) s = .next (postCool a s) := congrArg _ (atAddress_addrNum a _ s)

section
variable {s : State} {a : Addr} {c : Cycle} {b : BusFields} {cmd : BusCommand} {poster : Poster}

/-- R7: a command posted where none is in flight. -/
theorem postBus_free (hp : b.presence = .present) (hf : b.inFlight = none) :
    postBus cmd poster b = { b with inFlight := some ⟨cmd, !b.lastTag, poster⟩ } := by
  unfold postBus
  rw [if_pos hp, hf]

theorem modifyCycle_eq {f : Cycle → Cycle} (hc : (s.machine a).cycle = some c) :
    modifyCycle a f s = s.setMachine a { s.machine a with cycle := some (f c) } := by
  rw [modifyCycle, modifyMachine_eq, hc]
  rfl

theorem post_eq (a : Addr) (cmd : BusCommand) (poster : Poster) (s : State) : post a cmd poster s =
    s.setMachine a { s.machine a with bus := postBus cmd poster (s.machine a).bus } := rfl

theorem postCool_spent (hst : (s.machine a).state = .running) (hc : (s.machine a).cycle = some c) (hspent : drySpent c = true) :
    postCool a s = post a (.startPhase (c.index + 1) .cool 0) .cycleControl
      (modifyCycle a (fun c => { c with coolPosted := true }) s) := by
  unfold postCool
  simp only [hc]
  exact if_pos ⟨hst, hspent⟩

theorem postCool_unspent (hc : (s.machine a).cycle = some c) (hspent : drySpent c = false) : postCool a s = s := by
  unfold postCool
  simp only [hc]
  exact if_neg fun h => by rw [hspent] at h; exact absurd h.2 (by decide)

end

end Sys2Proof.Machine

/-! PROOF. A dryer whose paid seconds are spent is sent to COOL, and takes it (R7, R43). -/

namespace Sys2Proof.Machine

section
variable {s : State} {a : Addr} {c : Cycle} {r : Report}

theorem noteStop_startPhase {i n : Nat} {k : PhaseKind} (hst : (s.machine a).state = .running) :
    noteStop a (some (.startPhase i k n)) s = modifyCycle a (fun c => { c with tookStop := false }) s := if_pos hst

theorem noteStop_stop {cause : StopCause} (hst : (s.machine a).state = .running) :
    noteStop a (some (.stop cause)) s = modifyCycle a (fun c => { c with tookStop := true }) s := if_pos hst

/-- R43: a dryer that takes the START_PHASE for COOL hands its grant back. -/
theorem takeCool_taken {n : Nat} {k : PhaseKind} (hst : (s.machine a).state = .running) (hc : (s.machine a).cycle = some c)
    (hending : dryEnding c = true) : takeCool a (some (.startPhase (c.index + 1) k n)) s =
      modifyCycle a (fun c => { freshPhase c with index := c.index + 1, sub := .starting }) (releaseGrant a s) := by
  unfold takeCool
  simp only [hc]
  simp [hst, hending]

/-- R30: the reply that takes the START_PHASE of a phase in STARTING shows its outcome. -/
theorem showsOutcome_startPhase {n : Nat} {k : PhaseKind} (hst : (s.machine a).state = .running)
    (hc : (s.machine a).cycle = some c) (hsub : c.sub = .starting) :
    showsOutcome a (some (.startPhase c.index k n)) s = true := by
  unfold showsOutcome
  simp [hst, hc, hsub]

/-- R30: the current phase has been seen RUNNING. -/
theorem readOutcome_running (hc : (s.machine a).cycle = some c) (harg : r.arg = c.index) (hr : r.activity = .running) :
    readOutcome a r s = modifyCycle a phaseRuns s := by
  unfold readOutcome
  simp only [hc, harg, hr]
  exact if_neg (not_not_intro rfl)

/-- R30, R31: a phase seen RUNNING for the first time. -/
theorem phaseRuns_starting {k : PhaseKind} (hsub : c.sub = .starting) (hk : c.kind = some k) : phaseRuns c = { c with
    sub := .active, everActive := true, dryBase := if k = .dry then some (c.dryBase.getD c.remaining) else c.dryBase } := by
  simp [phaseRuns, hsub, hk]

theorem underService_running (h : (s.machine a).state = .running) : underService (s.machine a) = false := by
  simp [underService, h]

theorem changesOf_door {o : Report} (h : o.door = r.door) : (changesOf (some o) r).door = false := by simp [changesOf, h]

theorem changesOf_selection {o : Report} (h : o.selection = r.selection) : (changesOf (some o) r).selection = false := by
  simp [changesOf, h]

theorem modifyCycle_self {f : Cycle → Cycle} (hc : (s.machine a).cycle = some c) :
    (modifyCycle a f s).machine a = { s.machine a with cycle := some (f c) } := by
  rw [modifyCycle_eq hc, machine_setMachine_self]

theorem modifyCycle_pool (k : PoolId) (f : Cycle → Cycle) : (modifyCycle a f s).pool k = s.pool k := setMachine_pool ..

theorem Unwaiting.modifyCycle {f : Cycle → Cycle} (h : Unwaiting a s) : Unwaiting a (modifyCycle a f s) :=
  h.touch (ps := [.machines]) (touched_of (by simp)) (by simp)

/-- R30, R43: the reply that takes the START_PHASE for COOL and shows COOL running. -/
theorem takeOutcome_cool {e : PlanEntry} {d : Changes} {k : PhaseKind} {n : Nat} (hst : (s.machine a).state = .running)
    (hc : (s.machine a).cycle = some c) (hending : dryEnding c = true) (hnext : c.plan[c.index + 1]? = some e)
    (hcool : e.kind = .cool) (hw : Unwaiting a s) (hdoor : d.door = false) (hselection : d.selection = false)
    (hr : r.activity = .running) (harg : r.arg = c.index + 1) (hfault : r.fault = 0) :
    ((takeOutcome a ⟨some (.startPhase (c.index + 1) k n), r⟩ d s).machine a).state = .running ∧
    ((takeOutcome a ⟨some (.startPhase (c.index + 1) k n), r⟩ d s).machine a).cycle = some { c with
      index := c.index + 1, sub := .active, everActive := true, retryUsed := false, timeUsed := 0, tookStop := false } ∧
    ∀ k', ((takeOutcome a ⟨some (.startPhase (c.index + 1) k n), r⟩ d s).pool k').holdsGrant a = false := by
  have hnoted := modifyCycle_self (f := fun c => { c with tookStop := false }) hc
  have hnotedWaits : Unwaiting a (modifyCycle a (fun c => { c with tookStop := false }) s) := hw.modifyCycle
  obtain ⟨hcalm, hcycle, -⟩ := releaseGrant_work hnotedWaits
  obtain ⟨-, hfree⟩ := releaseGrant_frees hnotedWaits
  rw [hnoted] at hcycle
  have hrunning : ((releaseGrant a (modifyCycle a (fun c => { c with tookStop := false }) s)).machine a).state = .running := by
    rw [hcalm.state, hnoted, hst]
  have hbegun := modifyCycle_self (f := fun c => { freshPhase c with index := c.index + 1, sub := .starting }) hcycle
  have htaken : takeCool a (some (.startPhase (c.index + 1) k n)) (noteStop a (some (.startPhase (c.index + 1) k n)) s) =
      modifyCycle a (fun c => { freshPhase c with index := c.index + 1, sub := .starting })
        (releaseGrant a (modifyCycle a (fun c => { c with tookStop := false }) s)) := by
    rw [noteStop_startPhase hst]
    exact takeCool_taken (c := { c with tookStop := false }) (by rw [hnoted, hst]) (by rw [hnoted]) hending
  have hpools : ∀ k', ((modifyCycle a (fun c => { freshPhase c with index := c.index + 1, sub := .starting })
      (releaseGrant a (modifyCycle a (fun c => { c with tookStop := false }) s))).pool k').holdsGrant a = false := fun k' => by
    rw [modifyCycle_pool]
    exact hfree k'
  generalize modifyCycle a (fun c => { freshPhase c with index := c.index + 1, sub := .starting })
    (releaseGrant a (modifyCycle a (fun c => { c with tookStop := false }) s)) = u at hbegun htaken hpools
  have hust : (u.machine a).state = .running := by rw [hbegun, hrunning]
  have huc : (u.machine a).cycle = some { freshPhase { c with tookStop := false } with index := c.index + 1, sub := .starting } := by
    rw [hbegun]
  have hread := readOutcome_running (r := r) huc harg hr
  have hruns := modifyCycle_self (f := phaseRuns) huc
  have hkind : Cycle.kind { freshPhase { c with tookStop := false } with index := c.index + 1, sub := .starting } = some .cool := by
    show (c.plan[c.index + 1]?).map (·.kind) = some .cool
    rw [hnext, Option.map_some, hcool]
  have hfinal := takeOutcome_read (x := ⟨some (.startPhase (c.index + 1) k n), r⟩) (d := d) htaken
    (showsOutcome_startPhase hust huc rfl) hdoor hselection hfault
    (by rw [hread, hruns]; exact underService_running (s := u) hust)
  rw [hfinal, hread, hruns]
  refine ⟨hust, ?_, fun k' => ?_⟩
  · rw [phaseRuns_starting rfl hkind]
    rfl
  · rw [modifyCycle_pool]
    exact hpools k'

end

/-- Settles O32: COOL is posted once, and the reply that takes it makes COOL the ACTIVE phase. -/
theorem spentDryerIsSentToCool : Obligations.SpentDryerIsSentToCool := by
  refine ⟨fun s a c hst hc hkind hsub hspent => ⟨fun hposted => ?_, fun hposted hp hf => ?_⟩, ?_⟩
  · rw [exec_remainingPaidSecondsZero, postCool_unspent hc (by simp [drySpent, drying, hposted])]
  · rw [exec_remainingPaidSecondsZero, postCool_spent hst hc (by simp [drySpent, drying, hposted, hkind, hsub, hspent]),
      modifyCycle_eq hc, post_eq, machine_setMachine_self, setMachine_setMachine, postBus_free hp hf]
  · intro s a bytes echo r o c e poster hs hb hp hfresh he m hst hc hkind hposted hnext hcool hf hq hreport hdoor hselection hr harg
      hfault hne hnw
    have htaken := takeEcho_last hf rfl hq
    have hcycle : (s.machine a).cycle = some c := hc
    rw [exec_present hs hb hp hfresh he (missesEcho_taken hf rfl), shownOf, htaken]
    refine ⟨_, rfl, ?_⟩
    have hending : dryEnding c = true := by simp [dryEnding, hkind, hposted]
    have hwaits : Unwaiting a (s.windowClosed.echoed a echo) :=
      Unwaiting.touch (s := s.windowClosed) ((unwaiting_iff ..).mpr ⟨hne, hnw⟩) (touched_echoed _ _ _) (by simp)
    obtain ⟨hstate, hcool', hfree⟩ := takeOutcome_cool (s := s.windowClosed.echoed a echo) (r := r)
      (d := changesOf (s.machine a).bus.report r) (k := .cool) (n := 0) (by rw [echoed_machine_self]; exact hst)
      (by rw [echoed_machine_self]; exact hc) hending hnext hcool hwaits
      (by rw [show (s.machine a).bus.report = some o from hreport]; exact changesOf_door hdoor)
      (by rw [show (s.machine a).bus.report = some o from hreport]; exact changesOf_selection hselection) hr harg hfault
    refine ⟨?_, hfree .electric, hfree .water, ?_⟩
    · rw [heard_machine_self]
      exact hstate
    · rw [heard_machine_self]
      exact hcool'

end Sys2Proof.Machine

/-! PROOF. The end of a stop: its confirmation and its deadline (R38, R39, R42, R47, R110, R115, R143). -/

namespace Sys2Proof.Machine

/-! ## The refund that a confirmation issues -/

section
variable {s : State} {a : Addr} {c : Cycle} {r : Report}

/-- R110, R115: what a placement counts as issued. -/
theorem placeRefund_issued (card amount machine : Nat) (s : State) : (placeRefund card amount machine s).audit.issued =
    if amount = 0 then s.audit.issued else min 999999999999 (s.audit.issued + amount) := by
  have hfault : ∀ h t, (handFault h t).audit = t.audit := fun h t => ((touched_handFault h t).same .money (by simp)).2
  have hunplaced : ∀ n t, (unplaced card n machine t).audit.issued = t.audit.issued := by
    intro n t
    unfold unplaced
    split
    · rfl
    · rw [hfault]
      rfl
  have hmerged : ∀ t, (mergeRefund card amount machine t).audit.issued = t.audit.issued := by
    intro t
    unfold mergeRefund
    split
    · exact hunplaced _ _
    · split
      · exact hunplaced _ _
      · exact hunplaced _ _
  unfold placeRefund
  split
  · rfl
  · rw [tellPlacement_audit, hmerged]
    rfl

/-- R115, R138: a record at the tail of the fault table stays there through a placement, unless it is of REFUND_UNPLACED. -/
theorem mem_faults_placeRefund {f : FaultRecord} (card amount machine : Nat) (hf : s.faults.getLast? = some f)
    (hne : f.code ≠ faultRefundUnplaced) : f ∈ (placeRefund card amount machine s).faults := by
  have hunplaced : ∀ (n : Nat) (t : State), t.faults = s.faults → f ∈ (unplaced card n machine t).faults := by
    intro n t ht
    unfold unplaced
    split
    · rw [ht]
      exact List.mem_of_getLast? hf
    · rw [handFault_faults]
      refine mem_recordFault ?_ hne
      exact (congrArg List.getLast? ht).trans hf
  have hmerged : ∀ t, t.faults = s.faults → f ∈ (mergeRefund card amount machine t).faults := by
    intro t ht
    unfold mergeRefund
    split
    · exact hunplaced _ _ ht
    · split
      · exact hunplaced _ _ ht
      · exact hunplaced _ _ ht
  unfold placeRefund
  split
  · exact List.mem_of_getLast? hf
  · rw [show (tellPlacement card _).faults = _ from touched_tellPlacement card _ .faults (by simp)]
    exact hmerged _ rfl

/-! ## The confirmation of a stop -/

theorem confirmStop_settled (h : ((s.machine a).cycle.bind (·.refund)).isSome = true) : confirmStop a s = s := if_pos h

/-- R38: a first confirmation hands the grant back, and writes down and issues the refund of the recorded cause. -/
theorem confirmStop_first (hc : (s.machine a).cycle = some c) (hrefund : c.refund = none) : confirmStop a s =
    settleRefund a (recordedCause (s.machine a)) (releaseGrant a s) := if_neg (by simp [hc, hrefund])

theorem settleRefund_first {cause : StopCause} (hc : (s.machine a).cycle = some c) (hrefund : c.refund = none) :
    settleRefund a cause s = placeRefund c.payer (refundOf (s.classOf a) c cause) (addrNum a)
      (modifyCycle a (fun d => { d with refund := some (refundOf (s.classOf a) c cause) }) s) := by
  unfold settleRefund
  simp only [hc, hrefund]
  rfl

theorem leaveOverLimit_calm (k : PoolId) : Calm (s.machine a) ((leaveOverLimit k s).machine a) := by
  rw [leaveOverLimit_machine]
  exact Calm.refl _

theorem calm_releaseGrant (a b : Addr) (s : State) : Calm (s.machine b) ((releaseGrant a s).machine b) := by
  have hone : ∀ k t, Calm (t.machine b) ((releaseFrom k a t).machine b) := by
    intro k t
    by_cases hheld : (t.pool k).holdsGrant a = true
    · rw [releaseFrom_scans hheld]
      refine Calm.trans ?_ (calm_scanPool k b _)
      rw [leaveOverLimit_machine, setPool_machine]
      exact Calm.refl _
    · rw [releaseFrom_without hheld]
      exact Calm.refl _
  exact (hone .electric s).trans (hone .water _)

/-- The placement of a refund is of no machine and no pool. -/
theorem placeRefund_machine (card amount machine : Nat) (b : Addr) : (placeRefund card amount machine s).machine b = s.machine b :=
  (touched_placeRefund_money card amount machine s).machine (by simp) b

theorem placeRefund_pool (card amount machine : Nat) (k : PoolId) : (placeRefund card amount machine s).pool k = s.pool k :=
  (touched_placeRefund_money card amount machine s).pool (by simp) k

theorem settleRefund_machine (cause : StopCause) (b : Addr) : ∃ x, (settleRefund a cause s).machine b =
    { s.machine b with cycle := x } := by
  unfold settleRefund
  split
  · exact ⟨_, rfl⟩
  · split
    · exact ⟨_, rfl⟩
    · dsimp only
      rw [placeRefund_machine, modifyCycle_machine]
      split
      · next hb => subst hb; exact ⟨_, rfl⟩
      · exact ⟨_, rfl⟩

/-- R38: a confirmation leaves the state and the lock of its machine. -/
theorem confirmStop_stands (a : Addr) (s : State) : ((confirmStop a s).machine a).state = (s.machine a).state ∧
    ((confirmStop a s).machine a).lock = (s.machine a).lock := by
  unfold confirmStop
  split
  · exact ⟨rfl, rfl⟩
  · obtain ⟨x, hx⟩ := settleRefund_machine (a := a) (s := releaseGrant a s) (recordedCause (s.machine a)) a
    have hcalm := calm_releaseGrant a a s
    rw [hx]
    exact ⟨hcalm.state, hcalm.lock⟩

/-- R38: what a first confirmation leaves, of a machine that waits for no grant. -/
theorem confirmStop_leaves {cause : StopCause} (hw : Unwaiting a s) (hc : (s.machine a).cycle = some c)
    (hcause : c.stopCause = some cause) (hrefund : c.refund = none) :
    ((confirmStop a s).machine a).cycle = some { c with refund := some (refundOf (s.classOf a) c cause) } ∧
    (∀ k, ((confirmStop a s).pool k).holdsGrant a = false) ∧
    (confirmStop a s).audit.issued = (if refundOf (s.classOf a) c cause = 0 then s.audit.issued
      else min 999999999999 (s.audit.issued + refundOf (s.classOf a) c cause)) := by
  obtain ⟨-, hcycle, -⟩ := releaseGrant_work hw
  rw [hc] at hcycle
  have hreleased := touched_releaseGrant a s
  have hrecorded : recordedCause (s.machine a) = cause := by simp [recordedCause, hc, hcause]
  have hclass : (releaseGrant a s).classOf a = s.classOf a := hreleased.classOf (by simp) a
  have haudit : (releaseGrant a s).audit = s.audit := (hreleased.same .money (by simp)).2
  rw [confirmStop_first hc hrefund, settleRefund_first hcycle hrefund, hrecorded, hclass]
  refine ⟨?_, fun k => ?_, ?_⟩
  · rw [placeRefund_machine, modifyCycle_self hcycle]
  · rw [placeRefund_pool, modifyCycle_pool]
    exact (releaseGrant_frees hw).2 k
  · rw [placeRefund_issued]
    show (if _ then (releaseGrant a s).audit.issued else min _ ((releaseGrant a s).audit.issued + _)) = _
    rw [haudit]

/-! ## The stop deadline -/

theorem exec_stopDeadline (a : Addr) (s : State) : exec (.stopDeadline (addrNum a)) s = .next (stopTimeout a s) :=
  congrArg _ (atAddress_addrNum a _ s)

/-- R39: the handing of a stop that is not confirmed in time. -/
def stopFault (a : Addr) (s : State) : Handing := cycleHanding a faultStopTimeout s

theorem stopTimeout_due {d : Nat} (hst : (s.machine a).state = .stopping) (hc : (s.machine a).cycle = some c)
    (hd : c.stopDeadline = some d) (hdue : d ≤ s.now) : stopTimeout a s = moveTo a .outOfService
      (modifyMachine a (fun m => { m with cycle := none, lockPending := false })
        (confirmStop a (handFault (stopFault a s) s))) :=
  if_pos ⟨hst, by simp [hc, hd, due, hdue]⟩

theorem mem_faults_confirmStop {f : FaultRecord} (hf : s.faults.getLast? = some f) (hne : f.code ≠ faultRefundUnplaced) :
    f ∈ (confirmStop a s).faults := by
  have hreleased : (releaseGrant a s).faults = s.faults := touched_releaseGrant a s .faults (by simp)
  unfold confirmStop
  split
  · exact List.mem_of_getLast? hf
  · unfold settleRefund
    split
    · rw [hreleased]
      exact List.mem_of_getLast? hf
    · split
      · rw [hreleased]
        exact List.mem_of_getLast? hf
      · refine mem_faults_placeRefund _ _ _ ?_ hne
        show (releaseGrant a s).faults.getLast? = some f
        rw [hreleased, hf]

/-! ## The reply that confirms a stop -/

/-- A machine record with the door and the selection that a reply shows changed. -/
def facing (r : Report) (d : Changes) (m : MachineRecord) : MachineRecord := { m with
  door := if d.door then some r.door else m.door, selection := if d.selection then r.selection else m.selection }

/-- R22: the states in which a changed door or selection is copied, and nothing else. -/
def KeepsStill (st : MachineState) : Prop := st ≠ .idle ∧ st ≠ .selected ∧ st ≠ .running ∧ st ≠ .finished

theorem followPanel_still (h : KeepsStill (s.machine a).state) : followPanel a s = s := by
  unfold followPanel
  cases hst : (s.machine a).state <;> simp_all [KeepsStill]

theorem takeDoor_still {door : Door} (h : KeepsStill (s.machine a).state) :
    takeDoor a door s = modifyMachine a (fun m => { m with door := some door }) s := by
  unfold takeDoor
  simp only [machine_modifyMachine_self]
  cases hst : (s.machine a).state <;> simp_all [KeepsStill]

theorem takeChanges_still {d : Changes} (h : KeepsStill (s.machine a).state) :
    takeChanges a r d s = s.setMachine a (facing r d (s.machine a)) := by
  have hdoor : (if d.door then takeDoor a r.door s else s) =
      s.setMachine a { s.machine a with door := if d.door then some r.door else (s.machine a).door } := by
    cases d.door
    · exact (setMachine_machine_self s a).symm
    · exact takeDoor_still h
  unfold takeChanges
  rw [hdoor]
  cases hsel : d.selection
  · simp [facing, hsel]
  · rw [if_pos rfl, takeSelection, followPanel_still (by rw [machine_modifyMachine_self, machine_setMachine_self]; exact h),
      modifyMachine_eq, machine_setMachine_self, setMachine_setMachine]
    simp [facing, hsel]

/-- R10, R38: the reply that takes the STOP of a STOPPING machine is read for it. -/
theorem readsEcho_stop {sent : StopCause} (hst : (s.machine a).state = .stopping)
    (hr : r.activity = .stopping ∨ r.activity = .stopped) : readsEcho a ⟨some (.stop sent), r⟩ s = true := by
  unfold readsEcho
  simp [underService, hst, hr]

theorem stoppingActivity_taken (hr : r.activity = .stopping ∨ r.activity = .stopped) (ht : stopTaken a s = true) :
    stoppingActivity a r s = takeConfirmation a r s := if_pos ⟨hr, .inl ht⟩

/-- R38: the reply that takes the STOP of a STOPPING machine confirms it. -/
theorem takeOutcome_stopped {sent : StopCause} {d : Changes} (hst : (s.machine a).state = .stopping)
    (hr : r.activity = .stopping ∨ r.activity = .stopped) (hfault : r.fault = 0) (hfree : (s.machine a).bus.inFlight = none)
    (hq : (s.machine a).bus.queued = none) : takeOutcome a ⟨some (.stop sent), r⟩ d s =
      takeConfirmation a r (s.setMachine a (facing r d (s.machine a))) := by
  rw [takeOutcome_resting (by rw [hst]; decide), takeChanges_still (by rw [hst]; simp [KeepsStill])]
  have hface : ((s.setMachine a (facing r d (s.machine a))).machine a) = facing r d (s.machine a) := machine_setMachine_self ..
  generalize s.setMachine a (facing r d (s.machine a)) = t at hface ⊢
  have htst : (t.machine a).state = .stopping := by rw [hface]; exact hst
  have htaken : stopTaken a t = true := by
    simp [stopTaken, outstanding, hface, facing, hfree, hq]
  rw [readsEcho_stop htst hr, Bool.or_true]
  unfold takeWork
  simp [underService, htst, hfault, takeActivity, stoppingActivity_taken hr htaken]

theorem takeConfirmation_stopping (hr : r.activity = .stopping) : takeConfirmation a r s = confirmStop a s := by
  simp [takeConfirmation, hr]

theorem takeConfirmation_stopped (hr : r.activity = .stopped) : takeConfirmation a r s = enterFinished a (confirmStop a s) :=
  if_pos hr

/-- R42: a machine that enters FINISHED. -/
theorem enterFinished_leaves (a : Addr) (s : State) : ((enterFinished a s).machine a).state = .finished ∧
    ((enterFinished a s).machine a).cycle = none ∧ (∀ k, (enterFinished a s).pool k = s.pool k) ∧
    (enterFinished a s).audit = s.audit := by
  have htouch : Touches [.machines, .flags] s (enterFinished a s) := touched_of (by simp [enterFinished])
  refine ⟨?_, ?_, htouch.pool (by simp), (htouch.same .money (by simp)).2⟩
  · rw [enterFinished, moveTo_machine_self]
  · rw [enterFinished, moveTo_machine_self, machine_modifyMachine_self]

theorem stopTimeout_leaves {d : Nat} (hst : (s.machine a).state = .stopping) (hc : (s.machine a).cycle = some c)
    (hd : c.stopDeadline = some d) (hdue : d ≤ s.now) : ∃ t, stopTimeout a s = t ∧
      Touches [.machines, .flags] (confirmStop a (handFault (stopFault a s) s)) t ∧ t.machine a =
        { (confirmStop a (handFault (stopFault a s) s)).machine a with
          state := .outOfService, cycle := none, lockPending := false } := by
  refine ⟨_, stopTimeout_due hst hc hd hdue, touched_of (by simp), ?_⟩
  rw [moveTo_machine_self, machine_modifyMachine_self]

end

/-- Settles O30: the deadline of an unconfirmed stop, and the reply that takes the STOP. -/
theorem stopDeadlineEndsOutOfService : Obligations.StopDeadlineEndsOutOfService := by
  refine ⟨fun s a c d hst hc hd hdue => ?_, ?_⟩
  · have hlast := faultLast_handFault (stopFault a s) s
    have hlock := handFault_lock (h := stopFault a s) (addr?_addrNum a) (.inl rfl) s
    obtain ⟨-, hstands⟩ := confirmStop_stands a (handFault (stopFault a s) s)
    obtain ⟨t, ht, htouch, hm⟩ := stopTimeout_leaves hst hc hd hdue
    have hcycle : ((handFault (stopFault a s) s).machine a).cycle = some c := (struck_handFault (stopFault a s) a s).cycle.trans hc
    have hmoney := (touched_handFault (stopFault a s) s).same .money (by simp)
    have hfaults : t.faults = _ := htouch .faults (by simp)
    have hnow : (handFault (stopFault a s) s).now = s.now := handFault_now ..
    generalize handFault (stopFault a s) s = u at *
    refine ⟨t, by rw [exec_stopDeadline, ht], by rw [hm], by rw [hm], by rw [hm], ?_, ?_, fun hsettled => ?_⟩
    · rw [hm]
      exact hstands.trans hlock
    · obtain ⟨f, hf, hmachine, hcode, htime⟩ := hlast
      have hne : f.code ≠ faultRefundUnplaced := by
        rw [hcode]
        show faultStopTimeout ≠ faultRefundUnplaced
        decide
      exact ⟨f, by rw [hfaults]; exact mem_faults_confirmStop hf hne, hmachine, hcode, htime.trans hnow⟩
    · rw [confirmStop_settled (by rw [hcycle]; exact hsettled)] at htouch
      have hkept := htouch.same .money (by simp)
      exact ⟨hlast.of_touches htouch (by simp) (by simp), hkept.1.trans hmoney.1, hkept.2.trans hmoney.2⟩
  · intro s a bytes echo r c sent cause poster hs hb hp hfresh he m amount hst hc hcause hrefund hf hq hfault hne hnw
    have htaken := takeEcho_last hf rfl hq
    rw [exec_present hs hb hp hfresh he (missesEcho_taken hf rfl), shownOf, htaken]
    have hecho : (s.windowClosed.echoed a echo).machine a = { s.machine a with bus := (takeEcho echo (s.machine a).bus).1 } :=
      echoed_machine_self ..
    have htouch := touched_echoed s.windowClosed a echo
    have hw : Unwaiting a (s.windowClosed.echoed a echo) :=
      Unwaiting.touch (s := s.windowClosed) ((unwaiting_iff ..).mpr ⟨hne, hnw⟩) htouch (by simp)
    have hclass : (s.windowClosed.echoed a echo).classOf a = s.classOf a := htouch.classOf (by simp) a
    have haudit : (s.windowClosed.echoed a echo).audit = s.audit := (htouch.same .money (by simp)).2
    generalize s.windowClosed.echoed a echo = u at *
    generalize changesOf (s.machine a).bus.report r = d
    rw [htaken] at hecho
    have hust : (u.machine a).state = .stopping := by rw [hecho]; exact hst
    have hface : ((u.setMachine a (facing r d (u.machine a))).machine a) = facing r d (u.machine a) := machine_setMachine_self ..
    have hleaves := confirmStop_leaves (a := a) (s := u.setMachine a (facing r d (u.machine a))) (c := c) (cause := cause)
      (fun k => by rw [setMachine_pool]; exact hw k) (by rw [hface]; show (u.machine a).cycle = _; rw [hecho]; exact hc)
      hcause hrefund
    have hstands := (confirmStop_stands a (u.setMachine a (facing r d (u.machine a)))).1
    rw [hface] at hstands
    rw [setMachine_classOf, setMachine_audit, hclass, haudit] at hleaves
    obtain ⟨hcycle, hgrants, hissued⟩ := hleaves
    refine ⟨fun hr => ⟨_, rfl, ?_⟩, fun hr => ⟨_, rfl, ?_⟩⟩
    · rw [takeOutcome_stopped hust (.inl hr) hfault (by rw [hecho]) (by rw [hecho]; exact hq), takeConfirmation_stopping hr]
      generalize confirmStop a (u.setMachine a (facing r d (u.machine a))) = v at *
      rw [heard_machine_self]
      exact ⟨hstands.trans hust, hcycle, hgrants .electric, hgrants .water, hissued⟩
    · rw [takeOutcome_stopped hust (.inr hr) hfault (by rw [hecho]) (by rw [hecho]; exact hq), takeConfirmation_stopped hr]
      generalize confirmStop a (u.setMachine a (facing r d (u.machine a))) = v at *
      obtain ⟨hfinished, hended, hpools, hkept⟩ := enterFinished_leaves a v
      generalize enterFinished a v = w at *
      rw [heard_machine_self]
      refine ⟨hfinished, hended, ?_, ?_, ?_⟩
      · exact (congrArg (Pool.holdsGrant · a) (hpools .electric)).trans (hgrants .electric)
      · exact (congrArg (Pool.holdsGrant · a) (hpools .water)).trans (hgrants .water)
      · exact (congrArg (·.issued) hkept).trans hissued

end Sys2Proof.Machine

/-! PROOF. Replies of a PRESENT machine that runs no cycle (R9 to R11, R22, R42). -/

namespace Sys2Proof.Machine

section
variable {s : State} {a : Addr} {bytes : List Byte} {echo : Bool} {r o : Report} {d : Changes}

theorem echoed_empty (hf : (s.machine a).bus.inFlight = none) : s.echoed a echo = s := by
  rw [State.echoed, takeEcho_empty hf]
  exact setMachine_machine_self s a

/-- R10: a reply of a machine with no command in flight. -/
theorem exec_quiet (hs : s.slot = some a) (hb : readReply a bytes = some (echo, r)) (hp : (s.machine a).bus.presence = .present)
    (hfresh : r.fresh = false) (he : s.roster a = some ⟨r.cls, r.ratings⟩) (hf : (s.machine a).bus.inFlight = none) :
    exec (.replyValid bytes) s = .next ((takeOutcome a ⟨none, r⟩ (changesOf (s.machine a).bus.report r) s.windowClosed).heard a r) := by
  rw [exec_present hs hb hp hfresh he (missesEcho_empty hf), shownOf, takeEcho_empty hf, echoed_empty (s := s.windowClosed) hf]

/-- R11: a reply that misses the echo of a machine whose reply shows nothing new. -/
theorem presentFrom_missed (hfresh : r.fresh = false) (hid : identityOk a r s = true)
    (hmiss : missesEcho echo (s.machine a).bus = true) : presentFrom a echo r s = missedSlot a
      (modifyBus a (fun b => { b with report := some r })
        (takeOutcome a (shownOf echo r (s.machine a).bus) (changesOf (s.machine a).bus.report r) (s.echoed a echo))) := by
  unfold presentFrom
  simp only [hfresh, hid, hmiss, countSlot_missed]
  rfl

/-- R10: what a machine under no service takes from a reply. -/
theorem takeWork_free {x : Shown} {activity fault : Bool} (h : underService (s.machine a) = false) :
    takeWork a x activity fault s =
      if fault && x.report.fault != 0 then takeFault a x.report (if activity then takeActivity a x s else s)
      else if activity then takeActivity a x s else s := by
  unfold takeWork
  rw [h]
  rfl

theorem takeWork_nothing {x : Shown} (h : underService (s.machine a) = false) : takeWork a x false false s = s := by
  rw [takeWork_free h]
  rfl

theorem changesOf_same (r : Report) : changesOf (some r) r = ⟨false, false, false, false⟩ := by simp [changesOf]

theorem underService_other (h : (s.machine a).state ≠ .testing) (h' : (s.machine a).state ≠ .service) :
    underService (s.machine a) = false := by
  unfold underService
  simp [h, h']

/-- R10: no command of a machine at rest is read for what its reply shows. -/
theorem readsEcho_resting {x : Shown} (hr : (s.machine a).state ≠ .running) (hs : (s.machine a).state ≠ .stopping)
    (hfree : underService (s.machine a) = false) : readsEcho a x s = false := by
  unfold readsEcho
  dsimp only
  rw [hfree]
  cases x.taken with
  | none => rfl
  | some c => cases c <;> simp [hr, hs]

/-- R10: a machine at rest takes nothing from a reply that shows nothing new. -/
theorem takeOutcome_idle {x : Shown} (hr : (s.machine a).state ≠ .running) (hs : (s.machine a).state ≠ .stopping)
    (hfree : underService (s.machine a) = false) : takeOutcome a x ⟨false, false, false, false⟩ s = s := by
  rw [takeOutcome_resting hr, takeChanges_none rfl rfl, readsEcho_resting hr hs hfree]
  exact takeWork_nothing hfree

/-- The three ends of a slot whose reply shows nothing new of a machine at rest. -/
theorem exec_unchanged (hs : s.slot = some a) (hb : readReply a bytes = some (echo, r)) (hp : (s.machine a).bus.presence = .present)
    (hfresh : r.fresh = false) (he : s.roster a = some ⟨r.cls, r.ratings⟩) (hreport : (s.machine a).bus.report = some r)
    (hrun : (s.machine a).state ≠ .running) (hstop : (s.machine a).state ≠ .stopping)
    (hfree : underService (s.machine a) = false) (hmiss : missesEcho echo (s.machine a).bus = false) :
    exec (.replyValid bytes) s = .next (s.windowClosed.setMachine a { s.machine a with
      bus := { (takeEcho echo (s.machine a).bus).1 with report := some r, missed := 0 } }) := by
  have hself : (s.windowClosed.echoed a echo).machine a = { s.machine a with bus := (takeEcho echo (s.machine a).bus).1 } :=
    echoed_machine_self ..
  rw [exec_present hs hb hp hfresh he hmiss, hreport, changesOf_same,
    takeOutcome_idle (by rw [hself]; exact hrun) (by rw [hself]; exact hstop) (by rw [hself]; exact hfree), State.heard, hself,
    State.echoed, setMachine_setMachine]

theorem exec_unechoed {f : InFlight} (hs : s.slot = some a) (hb : readReply a bytes = some (echo, r))
    (hp : (s.machine a).bus.presence = .present)
    (hfresh : r.fresh = false) (he : s.roster a = some ⟨r.cls, r.ratings⟩) (hreport : (s.machine a).bus.report = some r)
    (hrun : (s.machine a).state ≠ .running) (hstop : (s.machine a).state ≠ .stopping)
    (hfree : underService (s.machine a) = false) (hf : (s.machine a).bus.inFlight = some f) (htag : f.tag ≠ echo)
    (hm : (s.machine a).bus.missed < 2) :
    exec (.replyValid bytes) s = .next (s.windowClosed.setMachine a { s.machine a with
      bus := { (s.machine a).bus with report := some r, missed := (s.machine a).bus.missed + 1 } }) := by
  have hechoed : s.windowClosed.echoed a echo = s.windowClosed := by
    rw [State.echoed, takeEcho_other (b := (s.windowClosed.machine a).bus) hf htag]
    exact setMachine_machine_self s.windowClosed a
  rw [exec_replyValid, takeReply_present hs (configured_of_roster he) hb hp,
    presentFrom_missed hfresh (identityOk_of_roster (s := s.windowClosed) he) (missesEcho_other hf htag), hechoed,
    windowClosed_machine, hreport, changesOf_same, takeOutcome_idle (s := s.windowClosed) hrun hstop hfree, modifyBus_eq,
    missedSlot_counts (by rw [machine_setMachine_self]; exact hp.trans_ne nofun) (by rw [machine_setMachine_self]; exact hm),
    machine_setMachine_self, setMachine_setMachine]
  rfl

/-! ## A free machine follows its panel; a FINISHED one is unloaded -/

/-- R22: an IDLE machine whose door and panel change to a closed door and a program. -/
theorem takeChanges_selected (hst : (s.machine a).state = .idle) (hdoor : d.door = true) (hselection : d.selection = true)
    (hclosed : r.door = .closed) (hsome : r.selection.isSome = true) : takeChanges a r d s =
      (s.setMachine a { s.machine a with door := some r.door, selection := r.selection, state := .selected }).raising
        (eventBit .machine) := by
  unfold takeChanges takeDoor takeSelection followPanel
  rw [hdoor, hselection, hclosed]
  by_cases hsel : (s.machine a).selection.isSome = true
  · simp [modifyMachine_eq, moveTo_eq, hst, restingState, doorClosed, hsel, hsome]
  · simp [modifyMachine_eq, moveTo_eq, hst, restingState, doorClosed, hsel, hsome]

/-- R10: a reply of a machine without a command in flight that shows another door or panel only. -/
theorem takeOutcome_changed (ha : d.activity = false) (hf : d.fault = false)
    (hfree : underService ((takeChanges a r d s).machine a) = false) : takeOutcome a ⟨none, r⟩ d s = takeChanges a r d s := by
  rw [takeOutcome_quiet, ha, hf, takeWork_nothing hfree]

theorem takeChanges_door (hdoor : d.door = true) (hselection : d.selection = false) :
    takeChanges a r d s = takeDoor a r.door s := by
  simp [takeChanges, hdoor, hselection]

theorem finishedDoor_unloaded {door : Door} (hopened : (s.machine a).openedSinceFinish = true) (hdoor : door ≠ .opened) :
    finishedDoor a door s = releaseToRoom a (modifyMachine a (fun m => { m with openedSinceFinish := false }) s) := by
  cases door with
  | opened => exact absurd rfl hdoor
  | closed => exact if_pos hopened
  | locked => exact if_pos hopened

/-- R42: the unloading act. -/
theorem takeDoor_unloaded (hst : (s.machine a).state = .finished) (hopened : (s.machine a).openedSinceFinish = true)
    (hdoor : r.door ≠ .opened) : takeDoor a r.door s =
      releaseToRoom a (s.setMachine a { s.machine a with door := some r.door, openedSinceFinish := false }) := by
  have htaken : takeDoor a r.door s = finishedDoor a r.door (modifyMachine a (fun m => { m with door := some r.door }) s) := by
    unfold takeDoor
    simp only [machine_modifyMachine_self, hst]
  rw [htaken, finishedDoor_unloaded (by rw [machine_modifyMachine_self]; exact hopened) hdoor, modifyMachine_eq, modifyMachine_eq,
    machine_setMachine_self, setMachine_setMachine]

theorem takeDoor_unloaded_locked (hst : (s.machine a).state = .finished) (hopened : (s.machine a).openedSinceFinish = true)
    (hdoor : r.door ≠ .opened) (hlock : (s.machine a).lock ≠ .none) : takeDoor a r.door s = (s.setMachine a { s.machine a with
      door := some r.door, openedSinceFinish := false, lockPending := false, state := .outOfService }).raising
        (eventBit .machine) := by
  rw [takeDoor_unloaded hst hopened hdoor, releaseToRoom_locked (by rw [machine_setMachine_self]; exact hlock),
    machine_setMachine_self, setMachine_setMachine]

theorem takeDoor_unloaded_resting (hst : (s.machine a).state = .finished) (hopened : (s.machine a).openedSinceFinish = true)
    (hdoor : r.door ≠ .opened) (hlock : (s.machine a).lock = .none) (hhalted : s.halted = true) :
    takeDoor a r.door s = (s.setMachine a { s.machine a with
      door := some r.door, openedSinceFinish := false,
      state := if (s.machine a).selection.isSome = true then .selected else .idle }).raising (eventBit .machine) := by
  have hclosed : doorClosed (some r.door) = true := by
    cases hd : r.door with
    | opened => exact absurd hd hdoor
    | closed => rfl
    | locked => rfl
  rw [takeDoor_unloaded hst hopened hdoor, releaseToRoom_resting (by rw [machine_setMachine_self]; exact hlock)
    (.inl (by rw [setMachine_halted]; exact hhalted)), machine_setMachine_self, setMachine_setMachine]
  simp [restingState, hclosed]

theorem changesOf_changed (hd : o.door ≠ r.door) : (changesOf (some o) r).door = true := by simp [changesOf, hd]

theorem changesOf_picked (hs : o.selection ≠ r.selection) : (changesOf (some o) r).selection = true := by simp [changesOf, hs]

theorem changesOf_activity (ha : o.activity = r.activity) (harg : o.arg = r.arg) : (changesOf (some o) r).activity = false := by
  simp [changesOf, ha, harg]

theorem changesOf_acts (ha : o.activity ≠ r.activity) : (changesOf (some o) r).activity = true := by simp [changesOf, ha]

theorem changesOf_fault (hf : o.fault = r.fault) : (changesOf (some o) r).fault = false := by simp [changesOf, hf]

theorem changesOf_fails (hf : o.fault ≠ r.fault) : (changesOf (some o) r).fault = true := by simp [changesOf, hf]

/-- The part heard after a machine record was written and events raised. -/
theorem heard_raised (m : MachineRecord) (bits : BitVec 7) : ((s.setMachine a m).raising bits).heard a r =
    (s.setMachine a { m with bus := { m.bus with report := some r, missed := 0 } }).raising bits := by
  rw [State.heard, raising_machine, machine_setMachine_self, setMachine_raising, setMachine_setMachine]

end

/-! ## The clauses of a machine at rest -/

section
variable {s : State} {a : Addr} {bytes : List Byte} {echo : Bool} {r o : Report}

/-- R10, R22: a reply of a machine that shows another door or panel only, and moves to a state of no service. -/
theorem exec_changed {m : MachineRecord} {bits : BitVec 7} (hs : s.slot = some a) (hb : readReply a bytes = some (echo, r))
    (hp : (s.machine a).bus.presence = .present) (hfresh : r.fresh = false) (he : s.roster a = some ⟨r.cls, r.ratings⟩)
    (hreport : (s.machine a).bus.report = some o) (hf : (s.machine a).bus.inFlight = none) (ha : o.activity = r.activity)
    (harg : o.arg = r.arg) (hfault : o.fault = r.fault)
    (hchange : takeChanges a r (changesOf (some o) r) s.windowClosed = (s.windowClosed.setMachine a m).raising bits)
    (hfree : underService m = false) : exec (.replyValid bytes) s = .next ((s.windowClosed.setMachine a { m with
      bus := { m.bus with report := some r, missed := 0 } }).raising bits) := by
  rw [exec_quiet hs hb hp hfresh he hf, hreport, takeOutcome_changed (changesOf_activity ha harg) (changesOf_fault hfault)
    (by rw [hchange, raising_machine, machine_setMachine_self]; exact hfree), hchange, heard_raised]

end

end Sys2Proof.Machine

/-! PROOF. Replies of a RUNNING machine: its phases, its faults, its door and its panel (R22, R30, R32, R34, R35, R37). -/

namespace Sys2Proof.Machine

/-! ## The activity and the fault code of a RUNNING machine -/

section
variable {s : State} {a : Addr} {c : Cycle} {r o : Report} {d : Changes}

/-- R32, R37: a reply without a new fault code, another door or another panel. -/
theorem takeOutcome_acted (hst : (s.machine a).state = .running) (hdoor : d.door = false) (hselection : d.selection = false)
    (hfault : d.fault = false ∨ r.fault = 0) :
    takeOutcome a ⟨none, r⟩ d s = if d.activity then runningActivity a ⟨none, r⟩ s else s := by
  rw [takeOutcome_quiet, takeChanges_none hdoor hselection, takeWork_free (underService_running hst)]
  rcases hfault with hfault | hfault <;> simp [hfault, takeActivity, hst]

theorem runningActivity_faultHold (hr : r.activity = .faultHold) : runningActivity a ⟨none, r⟩ s = s := by
  unfold runningActivity
  split
  · rfl
  · simp [hr]

/-- R34: a FAULT_HOLD with a new fault code. -/
theorem takeOutcome_failed (hst : (s.machine a).state = .running) (hdoor : d.door = false) (hselection : d.selection = false)
    (hr : r.activity = .faultHold) (hnew : d.fault = true) (hfault : r.fault ≠ 0) :
    takeOutcome a ⟨none, r⟩ d s = takeCycleFault a r s := by
  rw [takeOutcome_quiet, takeChanges_none hdoor hselection, takeWork_free (underService_running hst)]
  simp [hnew, hfault, takeActivity, hst, runningActivity_faultHold hr, takeFault]

/-- R37: a STOPPING or STOPPED that follows a STOP of the part. -/
theorem runningActivity_stopTaken (hc : (s.machine a).cycle = some c) (hr : r.activity = .stopping ∨ r.activity = .stopped)
    (htook : c.tookStop = true) (x : Option BusCommand) : runningActivity a ⟨x, r⟩ s = s := by
  unfold runningActivity
  simp only [hc]
  rcases hr with hr | hr <;> simp [hr, htook]

theorem runningActivity_stopping (hc : (s.machine a).cycle = some c) (hr : r.activity = .stopping) (htook : c.tookStop = false) :
    runningActivity a ⟨none, r⟩ s = confirmStop a (panelStop a s) := by
  unfold runningActivity
  simp only [hc, hr, htook]
  exact takeConfirmation_stopping hr

theorem runningActivity_complete (hc : (s.machine a).cycle = some c) (hr : r.activity = .complete) (harg : r.arg = c.index)
    (hsub : c.sub = .active) : runningActivity a ⟨none, r⟩ s = completePhase a s := by
  unfold runningActivity
  simp [hc, hr, harg, hsub]

/-! ## The next phase -/

theorem startPhase_machine {k : PhaseKind} (hc : (s.machine a).cycle = some c) (hk : c.kind = some k) :
    (startPhase a s).machine a = { s.machine a with
      cycle := some { c with sub := .starting },
      bus := postBus (.startPhase c.index k (if k = .dry then c.remaining else 0)) .cycleControl (s.machine a).bus } := by
  unfold startPhase
  simp only [hc, hk]
  rw [post_machine, if_pos rfl, modifyCycle_self hc]

theorem completePhase_last (hc : (s.machine a).cycle = some c) (hdry : dryEnding c = false)
    (hlast : ¬ c.index + 1 < c.plan.length) : completePhase a s = enterFinished a (releaseGrant a s) := by
  unfold completePhase
  simp only [hc, hdry]
  exact if_neg hlast

theorem completePhase_next (hc : (s.machine a).cycle = some c) (hdry : dryEnding c = false)
    (hnext : c.index + 1 < c.plan.length) : completePhase a s =
      enterWaiting a (modifyCycle a (fun c => { c with index := c.index + 1 }) (releaseGrant a s)) := by
  unfold completePhase
  simp only [hc, hdry]
  exact if_pos hnext

theorem Unwaiting.ungranted_releaseGrant (h : Unwaiting a s) : Ungranted a (releaseGrant a s) := releaseGrant_frees h

theorem Ungranted.modifyCycle {f : Cycle → Cycle} (h : Ungranted a s) : Ungranted a (modifyCycle a f s) :=
  ⟨h.1.modifyCycle, fun k => by rw [modifyCycle_pool]; exact h.2 k⟩

theorem sessionOn_modifyCycle {f : Cycle → Cycle} : sessionOn a (modifyCycle a f s) = sessionOn a s := rfl

theorem demandOf_pos {e : PlanEntry} {k : PoolId} {n : Nat} (h : demandOf e = some (k, n)) : n ≠ 0 := by
  unfold demandOf at h
  split at h
  · next hfu => simp only [Option.some.injEq, Prod.mk.injEq] at h; exact h.2 ▸ hfu
  · split at h
    · next hlu => simp only [Option.some.injEq, Prod.mk.injEq] at h; exact h.2 ▸ hlu
    · exact absurd h nofun

/-- R29: the current phase asks for its grant: it waits, or it starts. -/
theorem askPhase_outcome {e : PlanEntry} (hc : (s.machine a).cycle = some c) (he : c.entry = some e) (hfree : Ungranted a s)
    (hs : sessionOn a s = false) :
    ((∃ k, ((askPhase a s).pool k).hasEntry a = true) ∧ (askPhase a s).machine a = s.machine a) ∨
    (askPhase a s).machine a = { s.machine a with
      cycle := some { c with sub := .starting },
      bus := postBus (.startPhase c.index e.kind (if e.kind = .dry then c.remaining else 0)) .cycleControl (s.machine a).bus } := by
  have hkind : c.kind = some e.kind := by rw [Cycle.kind, he]; rfl
  unfold askPhase
  simp only [hc, Option.bind_some, he]
  cases hd : demandOf e with
  | none => exact .inr (startPhase_machine hc hkind)
  | some p =>
    obtain ⟨k, n⟩ := p
    rcases requestGrant_outcome (k := k) (purpose := .cyclePhase) (demand := n) (suspendable := canSuspend e) hfree hs
      (demandOf_pos hd) with ⟨hwaits, hsame⟩ | ⟨u, hu, -, hgranted⟩
    · exact .inl ⟨⟨k, hwaits⟩, hsame⟩
    · refine .inr ?_
      have hdeliver : (deliverGrant u (requestEntry a .cyclePhase n (canSuspend e) s)).machine a = (startPhase a u).machine a := rfl
      show (requestGrant k a .cyclePhase n (canSuspend e) s).machine a = _
      rw [hgranted, hdeliver, startPhase_machine (by rw [hu, hc]) hkind, hu]

/-- R29: a cycle whose next phase enters WAITING. -/
def nextPhase (c : Cycle) : Cycle := { freshPhase c with index := c.index + 1, sub := .waiting }

/-- R29, R32: the phase after one that completed. -/
theorem completePhase_outcome {e : PlanEntry} (hc : (s.machine a).cycle = some c) (hdry : dryEnding c = false)
    (he : c.plan[c.index + 1]? = some e) (hw : Unwaiting a s) (hs : sessionOn a s = false) :
    ((∃ k, ((completePhase a s).pool k).hasEntry a = true) ∧
      (completePhase a s).machine a = { s.machine a with cycle := some (nextPhase c) }) ∨
    (completePhase a s).machine a = { s.machine a with
      cycle := some { nextPhase c with sub := .starting },
      bus := postBus (.startPhase (c.index + 1) e.kind (if e.kind = .dry then c.remaining else 0)) .cycleControl
        (s.machine a).bus } := by
  have hbefore : c.index + 1 < c.plan.length := (List.getElem?_eq_some_iff.mp he).1
  have hreleased : (releaseGrant a s).machine a = s.machine a := releaseGrant_bystander hw hs
  have hcycle : ((releaseGrant a s).machine a).cycle = some c := by rw [hreleased, hc]
  have hmoved := modifyCycle_self (f := fun c => { c with index := c.index + 1 }) hcycle
  have hwaits := modifyCycle_self (a := a) (s := modifyCycle a (fun c => { c with index := c.index + 1 }) (releaseGrant a s))
    (f := fun c => { freshPhase c with sub := .waiting }) (by rw [hmoved])
  have hself : (modifyCycle a (fun c => { freshPhase c with sub := .waiting })
      (modifyCycle a (fun c => { c with index := c.index + 1 }) (releaseGrant a s))).machine a =
        { s.machine a with cycle := some (nextPhase c) } := by
    rw [hwaits, hmoved, hreleased]
    rfl
  have hasked := askPhase_outcome (c := nextPhase c) (by rw [hself]) he (hw.ungranted_releaseGrant.modifyCycle.modifyCycle)
    (by rw [sessionOn_modifyCycle, sessionOn_modifyCycle, sessionOn_releaseGrant, hs])
  rw [completePhase_next hc hdry hbefore, enterWaiting]
  rw [hself] at hasked
  exact hasked

/-! ## The stop at the panel -/

/-- R37, R38: a stop at the panel, confirmed in the same reply. -/
theorem panelStop_confirmed (hw : Unwaiting a s) (hc : (s.machine a).cycle = some c) (hrefund : c.refund = none) :
    ((confirmStop a (panelStop a s)).machine a).state = .stopping ∧
    ((confirmStop a (panelStop a s)).machine a).cycle = some { c with
      stopCause := some .user, stopDeadline := some (s.now + 600), pauseDeadline := none,
      refund := some (refundOf (s.classOf a) c .user) } ∧
    ∀ k, ((confirmStop a (panelStop a s)).pool k).holdsGrant a = false := by
  generalize hstopped : ({ c with
    stopCause := some .user, stopDeadline := some (s.now + 600), pauseDeadline := none } : Cycle) = d
  generalize hu : moveTo a .stopping (modifyCycle a (fun c => { c with
    stopCause := some .user, stopDeadline := some (s.now + 600), pauseDeadline := none }) s) = u
  have htouch : Touches [.machines, .flags] s u := by
    rw [← hu]
    exact touched_of (by simp)
  have hmachine : u.machine a = { s.machine a with state := .stopping, cycle := some d } := by
    rw [← hu, moveTo_machine_self, modifyCycle_self hc, hstopped]
  have hwaits : Unwaiting a u := hw.touch htouch (by simp)
  have hpanel : panelStop a s = u := by
    rw [panelStop, hu, withdrawEntry_unwaiting hwaits]
  obtain ⟨hcycle, hgrants, -⟩ := confirmStop_leaves (cause := .user) hwaits (c := d) (by rw [hmachine]) (by rw [← hstopped])
    (by rw [← hstopped]; exact hrefund)
  rw [hpanel]
  refine ⟨?_, ?_, hgrants⟩
  · rw [(confirmStop_stands a u).1, hmachine]
  · rw [hcycle, htouch.classOf (by simp) a, ← hstopped]
    rfl

/-! ## Fault codes of a cycle -/

theorem takeCycleFault_hard (hc : (s.machine a).cycle = some c) (hsev : severityOf r.fault = .hard) :
    takeCycleFault a r s = stopCycle a .machine (handFault (cycleHanding a r.fault s) s) := by
  unfold takeCycleFault
  simp only [hc, hsev]

theorem takeCycleFault_retry (hc : (s.machine a).cycle = some c) (hsev : severityOf r.fault = .soft)
    (hholds : holdsPhase c r = true) (hretry : c.retryUsed = false) :
    takeCycleFault a r s = retryPhase a (handFault (cycleHanding a r.fault s) s) := by
  unfold takeCycleFault
  simp [hc, hsev, hholds, hretry]

theorem takeCycleFault_again (hc : (s.machine a).cycle = some c) (hsev : severityOf r.fault = .soft)
    (hholds : holdsPhase c r = true) (hretry : c.retryUsed = true) : takeCycleFault a r s =
      stopCycle a .machine (handFault { cycleHanding a r.fault s with asHard := true } s) := by
  unfold takeCycleFault
  simp [hc, hsev, hholds, hretry]

/-- R137, R141, R142: a soft fault strikes no machine. -/
theorem handFault_soft {h : Handing} (ha : h.machine = addrNum a) (hsev : effectiveSeverity h = .soft)
    (hexempt : meetsExemption h (s.machine a) = false) (htimeout : h.code ≠ faultStopTimeout)
    (hroster : h.code ≠ faultRosterMismatch) : (handFault h s).machine a = s.machine a := by
  rw [handFault_machine_self ha, forcedRecord, if_neg (by simp [htimeout, hroster]), strickenRecord, hexempt, hsev]
  simp

theorem meetsExemption_other {h : Handing} {m : MachineRecord} (hreply : h.code ≠ faultNoReply)
    (hroster : h.code ≠ faultRosterMismatch) : meetsExemption h m = false := by
  simp [meetsExemption, hreply, hroster]

theorem calm_stopCycle_strikes {cause : StopCause} : ((stopCycle a cause s).machine a).strikes = (s.machine a).strikes := by
  unfold stopCycle
  split
  · dsimp only
    rw [(calm_post a a _ _ _).strikes, (withdrawEntry_self a _).2.2.1.strikes, moveTo_machine_self]
    show ((modifyCycle a _ s).machine a).strikes = _
    rw [modifyCycle_machine, if_pos rfl]
  · rfl

/-- R34, R36, R141: a fault taken as HARD stops the cycle and strikes the machine. -/
theorem stopCycle_struck {h : Handing} (ha : h.machine = addrNum a) (hst : (s.machine a).state = .running)
    (hsev : effectiveSeverity h = .hard) (hexempt : meetsExemption h (s.machine a) = false) :
    StoppedWith .machine a s (stopCycle a .machine (handFault h s)) ∧
    faultLast (addrNum a) h.code (stopCycle a .machine (handFault h s)) ∧
    ((stopCycle a .machine (handFault h s)).machine a).strikes = min 15 ((s.machine a).strikes + 1) := by
  obtain ⟨hstopped, hlast⟩ := stopCycle_handFault (cause := .machine) h hst
  rw [ha] at hlast
  refine ⟨hstopped, hlast, ?_⟩
  rw [calm_stopCycle_strikes, handFault_strikes ha hexempt (underService_running hst), if_pos hsev]

theorem retryPhase_machine {k : PhaseKind} (hc : (s.machine a).cycle = some c) (hk : c.kind = some k) :
    (retryPhase a s).machine a = { s.machine a with
      cycle := some { c with retryUsed := true, sub := .starting },
      bus := postBus (.startPhase c.index k (if k = .dry then c.remaining else 0)) .cycleControl (s.machine a).bus } := by
  have hused := modifyCycle_self (f := fun c => { c with retryUsed := true }) hc
  rw [retryPhase, startPhase_machine (c := { c with retryUsed := true }) (by rw [hused]) hk, hused]

/-! ## The door of a RUNNING washer -/

/-- The part with a door copied. -/
def State.doored (s : State) (a : Addr) (door : Door) : State := s.setMachine a { s.machine a with door := some door }

@[simp] theorem doored_machine_self (s : State) (a : Addr) (door : Door) :
    (s.doored a door).machine a = { s.machine a with door := some door } := machine_setMachine_self ..

theorem takeDoor_running {door : Door} (hst : (s.machine a).state = .running) :
    takeDoor a door s = runningDoor a (some door) (s.doored a door) := by
  unfold takeDoor
  dsimp only
  rw [machine_modifyMachine_self, hst]
  rfl

theorem runningDoor_washer (hclass : s.classOf a = .washer) : runningDoor a (some .opened) s = washerDoorOpen a s := by
  unfold runningDoor
  rw [hclass]

theorem washerDoorOpen_first (hc : (s.machine a).cycle = some c) (h : c.index = 0 ∧ c.everActive = false) :
    washerDoorOpen a s = stopCycle a .user s := by
  unfold washerDoorOpen
  simp [hc, h]

theorem washerDoorOpen_later (hc : (s.machine a).cycle = some c) (h : c.index ≠ 0 ∨ c.everActive = true) :
    washerDoorOpen a s = stopCycle a .machine (handFault (cycleHanding a faultDoorLock s) s) := by
  unfold washerDoorOpen
  simp only [hc]
  refine if_neg ?_
  rintro ⟨h0, h1⟩
  rcases h with h | h
  · exact h h0
  · exact h1 h

end

end Sys2Proof.Machine

/-! PROOF. A valid reply of a PRESENT machine whose identity is right and which has not restarted (R9 to R11, R22, R30 to R37). -/

namespace Sys2Proof.Machine

/-- A reply in the open slot of a PRESENT machine, of its identity and without the fresh mark. -/
structure TakesReply (s : State) (a : Addr) (bytes : List Byte) (echo : Bool) (r : Report) : Prop where
  slot : s.slot = some a
  reads : readReply a bytes = some (echo, r)
  present : (s.machine a).bus.presence = .present
  fresh : r.fresh = false
  roster : s.roster a = some ⟨r.cls, r.ratings⟩

section
variable {s t : State} {a : Addr} {bytes : List Byte} {echo : Bool} {r o : Report} {c : Cycle} {e : PlanEntry}

theorem TakesReply.quiet (h : TakesReply s a bytes echo r) (hreport : (s.machine a).bus.report = some o)
    (hf : (s.machine a).bus.inFlight = none) (hout : takeOutcome a ⟨none, r⟩ (changesOf (some o) r) s.windowClosed = t) :
    exec (.replyValid bytes) s = .next (t.heard a r) := by
  rw [exec_quiet h.slot h.reads h.present h.fresh h.roster hf, hreport, hout]

/-! ## A machine at rest -/

theorem TakesReply.unchanged (h : TakesReply s a bytes echo r) (hreport : (s.machine a).bus.report = some r)
    (hrun : (s.machine a).state ≠ .running) (hstop : (s.machine a).state ≠ .stopping) (htest : (s.machine a).state ≠ .testing)
    (hservice : (s.machine a).state ≠ .service) :
    ((s.machine a).bus.inFlight = none → exec (.replyValid bytes) s = .next (s.windowClosed.setMachine a { s.machine a with
      bus := { (s.machine a).bus with missed := 0 } })) ∧
    (∀ f, (s.machine a).bus.inFlight = some f → f.tag = echo →
      exec (.replyValid bytes) s = .next (s.windowClosed.setMachine a { s.machine a with bus := { (s.machine a).bus with
        missed := 0, lastTag := echo, queued := none,
        inFlight := (s.machine a).bus.queued.map (fun q => ⟨q.cmd, !echo, q.poster⟩) } })) ∧
    (∀ f, (s.machine a).bus.inFlight = some f → f.tag ≠ echo → (s.machine a).bus.missed < 2 →
      exec (.replyValid bytes) s = .next (s.windowClosed.setMachine a { s.machine a with bus := { (s.machine a).bus with
        missed := (s.machine a).bus.missed + 1 } })) := by
  have hfree := underService_other htest hservice
  have hquiet := exec_unchanged h.slot h.reads h.present h.fresh h.roster hreport hrun hstop hfree
  refine ⟨fun hf => ?_, fun f hf htag => ?_, fun f hf htag hm => ?_⟩
  · rw [hquiet (missesEcho_empty hf), takeEcho_empty hf, ← hreport]
  · rw [hquiet (missesEcho_taken hf htag), takeEcho_taken hf htag, ← hreport]
  · rw [exec_unechoed h.slot h.reads h.present h.fresh h.roster hreport hrun hstop hfree hf htag hm, ← hreport]

/-! ## A RUNNING machine that takes a command -/

/-- R9: the part whose only command in flight has been taken. -/
def State.taking (s : State) (a : Addr) (echo : Bool) : State := s.windowClosed.setMachine a { s.machine a with
  bus := { (s.machine a).bus with lastTag := echo, inFlight := none } }

@[simp] theorem taking_machine_self (s : State) (a : Addr) (echo : Bool) : (s.taking a echo).machine a =
    { s.machine a with bus := { (s.machine a).bus with lastTag := echo, inFlight := none } } := machine_setMachine_self ..

/-- R9, R10: a reply that takes the only command in flight. -/
theorem TakesReply.taken {cmd : BusCommand} {poster : Poster} (h : TakesReply s a bytes echo r)
    (hreport : (s.machine a).bus.report = some o) (hf : (s.machine a).bus.inFlight = some ⟨cmd, echo, poster⟩)
    (hq : (s.machine a).bus.queued = none) : exec (.replyValid bytes) s = .next
      ((takeOutcome a ⟨some cmd, r⟩ (changesOf (some o) r) (s.taking a echo)).heard a r) := by
  have htaken := takeEcho_last hf rfl hq
  have hwhole : s.windowClosed.echoed a echo = s.taking a echo := by
    rw [State.echoed, windowClosed_machine, htaken]
    rfl
  rw [exec_present h.slot h.reads h.present h.fresh h.roster (missesEcho_taken hf rfl), shownOf, htaken, hreport, hwhole]

/-- R30, R43: the reply that takes the START_PHASE of a phase in STARTING and shows it running. -/
theorem TakesReply.starts {third : Nat} {poster : Poster} (h : TakesReply s a bytes echo r)
    (hreport : (s.machine a).bus.report = some o) (hst : (s.machine a).state = .running) (hc : (s.machine a).cycle = some c)
    (he : c.plan[c.index]? = some e) (hselection : o.selection = r.selection) (hdoor : o.door = r.door)
    (hf : (s.machine a).bus.inFlight = some ⟨.startPhase c.index e.kind third, echo, poster⟩)
    (hq : (s.machine a).bus.queued = none) (hsub : c.sub = .starting) (hr : r.activity = .running) (harg : r.arg = c.index)
    (hfault : r.fault = 0) : exec (.replyValid bytes) s = .next (s.windowClosed.setMachine a { s.machine a with
      cycle := some { c with
        sub := .active, everActive := true, tookStop := false,
        dryBase := if e.kind = .dry then some (c.dryBase.getD c.remaining) else c.dryBase },
      bus := { (s.machine a).bus with missed := 0, report := some r, lastTag := echo, inFlight := none } }) := by
  rw [h.taken hreport hf hq]
  have hself := taking_machine_self s a echo
  have hwhole : s.taking a echo = s.windowClosed.setMachine a _ := rfl
  generalize s.taking a echo = u at hself hwhole
  have hust : (u.machine a).state = .running := by rw [hself]; exact hst
  have huc : (u.machine a).cycle = some c := by rw [hself]; exact hc
  have hnoted := modifyCycle_self (f := fun c => { c with tookStop := false }) huc
  have hnotedWhole := modifyCycle_eq (f := fun c => { c with tookStop := false }) huc
  have hcool : takeCool a (some (.startPhase c.index e.kind third)) (noteStop a (some (.startPhase c.index e.kind third)) u) =
      modifyCycle a (fun c => { c with tookStop := false }) u := by
    rw [noteStop_startPhase hust]
    unfold takeCool
    simp [hnoted]
  generalize modifyCycle a (fun c => { c with tookStop := false }) u = v at hnoted hnotedWhole hcool
  have hvst : (v.machine a).state = .running := by rw [hnoted]; exact hust
  have hvc : (v.machine a).cycle = some { c with tookStop := false } := by rw [hnoted]
  have hread := readOutcome_running (r := r) hvc harg hr
  have hruns := modifyCycle_eq (f := phaseRuns) hvc
  rw [takeOutcome_read (x := ⟨some (.startPhase c.index e.kind third), r⟩) hcool
    (showsOutcome_startPhase (c := { c with tookStop := false }) hvst hvc hsub) (changesOf_door hdoor)
    (changesOf_selection hselection) hfault (by rw [hread, modifyCycle_self hvc]; exact underService_running (s := v) hvst),
    hread, hruns, State.heard, machine_setMachine_self, setMachine_setMachine,
    phaseRuns_starting (c := { c with tookStop := false }) (k := e.kind) hsub (by rw [Cycle.kind, Cycle.entry]; show (c.plan[c.index]?).map (·.kind) = _; rw [he]; rfl),
    hnoted, hself, hnotedWhole, hwhole, setMachine_setMachine, setMachine_setMachine]

/-- R37: a STOP left over from earlier work, taken in the middle of a cycle. -/
theorem TakesReply.takesStop {cause : StopCause} {poster : Poster} (h : TakesReply s a bytes echo r)
    (hreport : (s.machine a).bus.report = some o) (hst : (s.machine a).state = .running) (hc : (s.machine a).cycle = some c)
    (hselection : o.selection = r.selection) (hdoor : o.door = r.door)
    (hf : (s.machine a).bus.inFlight = some ⟨.stop cause, echo, poster⟩)
    (hq : (s.machine a).bus.queued = none) (hr : r.activity = .stopping ∨ r.activity = .stopped) (hfault : r.fault = 0) :
    exec (.replyValid bytes) s = .next (s.windowClosed.setMachine a { s.machine a with
      cycle := some { c with tookStop := true },
      bus := { (s.machine a).bus with missed := 0, report := some r, lastTag := echo, inFlight := none } }) := by
  rw [h.taken hreport hf hq]
  have hself := taking_machine_self s a echo
  have hwhole : s.taking a echo = s.windowClosed.setMachine a _ := rfl
  generalize s.taking a echo = u at hself hwhole
  have hust : (u.machine a).state = .running := by rw [hself]; exact hst
  have huc : (u.machine a).cycle = some c := by rw [hself]; exact hc
  have hnoted := modifyCycle_self (f := fun c => { c with tookStop := true }) huc
  have hnotedWhole := modifyCycle_eq (f := fun c => { c with tookStop := true }) huc
  have hnote : noteStop a (some (.stop cause)) u = modifyCycle a (fun c => { c with tookStop := true }) u := noteStop_stop hust
  generalize modifyCycle a (fun c => { c with tookStop := true }) u = v at hnoted hnotedWhole hnote
  have hvst : (v.machine a).state = .running := by rw [hnoted]; exact hust
  have hvc : (v.machine a).cycle = some { c with tookStop := true } := by rw [hnoted]
  have hcool : takeCool a (some (.stop cause)) v = v := by
    unfold takeCool
    simp only [hvc]
  have hread : showsOutcome a (some (.stop cause)) v = false := by
    unfold showsOutcome
    simp [hvc]
  have hunread : readsEcho a ⟨some (.stop cause), r⟩ v = false := by
    unfold readsEcho
    simp [underService_running hvst, hvst]
  rw [takeOutcome_unread (x := ⟨some (.stop cause), r⟩) hnote hcool hread,
    takeChanges_none (changesOf_door hdoor) (changesOf_selection hselection), hunread,
    takeWork_free (underService_running hvst)]
  have hacted : takeActivity a ⟨some (.stop cause), r⟩ v = v := by
    unfold takeActivity
    rw [hvst]
    exact runningActivity_stopTaken hvc hr rfl _
  simp only [hacted, ite_self, hfault, bne_self_eq_false, Bool.and_false, Bool.false_eq_true, if_false]
  rw [State.heard, hnoted, hself, hnotedWhole, hwhole, setMachine_setMachine, setMachine_setMachine]

end

end Sys2Proof.Machine

/-! PROOF. The outcomes of a RUNNING machine's reply, and the statement about replies (R22, R32, R34, R35, R37, R42). -/

namespace Sys2Proof.Machine

section
variable {s t : State} {a : Addr} {bytes : List Byte} {echo : Bool} {r o : Report} {c : Cycle} {e : PlanEntry}

/-- R8, R11: a reply heard changes nothing of a stop. -/
theorem StoppedWith.heard {cause : StopCause} (h : StoppedWith cause a s t) : StoppedWith cause a s (t.heard a r) := by
  obtain ⟨hstate, hcycle, hentries⟩ := h
  exact ⟨by rw [heard_machine_self]; exact hstate, by rw [heard_machine_self]; exact hcycle, hentries⟩

theorem faultLast.heard {m code : Nat} (h : faultLast m code t) : faultLast m code (t.heard a r) :=
  h.of_touches (touched_heard t a r) (by simp) (by simp)

theorem heard_pool (k : PoolId) : (t.heard a r).pool k = t.pool k := (touched_heard t a r).pool (by simp) k

/-! ## A RUNNING machine with no command in flight -/

/-- A reply of a RUNNING machine with no command in flight that shows the panel of the last status report. -/
structure RunsOn (s : State) (a : Addr) (bytes : List Byte) (echo : Bool) (r o : Report) (c : Cycle) : Prop where
  takes : TakesReply s a bytes echo r
  report : (s.machine a).bus.report = some o
  idle : (s.machine a).bus.inFlight = none
  running : (s.machine a).state = .running
  cycle : (s.machine a).cycle = some c
  panel : o.selection = r.selection

/-- R32, R37: a reply without a new fault code and without another door. -/
theorem RunsOn.acts (h : RunsOn s a bytes echo r o c) (hdoor : o.door = r.door) (hfault : o.fault = r.fault ∨ r.fault = 0)
    (hout : (changesOf (some o) r).activity = true → runningActivity a ⟨none, r⟩ s.windowClosed = t)
    (hstill : (changesOf (some o) r).activity = false → s.windowClosed = t) :
    exec (.replyValid bytes) s = .next (t.heard a r) := by
  refine h.takes.quiet h.report h.idle ?_
  rw [takeOutcome_acted (s := s.windowClosed) h.running (changesOf_door hdoor) (changesOf_selection h.panel)
    (hfault.imp_left changesOf_fault)]
  split
  · next ha => exact hout ha
  · next ha => exact hstill (by simpa using ha)

theorem RunsOn.acts_new (h : RunsOn s a bytes echo r o c) (hdoor : o.door = r.door)
    (hfault : o.fault = r.fault ∨ r.fault = 0)
    (hnew : o.activity ≠ r.activity) (hout : runningActivity a ⟨none, r⟩ s.windowClosed = t) :
    exec (.replyValid bytes) s = .next (t.heard a r) :=
  h.acts hdoor hfault (fun _ => hout) (fun ha => absurd ((changesOf_acts hnew).symm.trans ha) nofun)

/-- R32, R42: the last phase completes. -/
theorem RunsOn.finishes (h : RunsOn s a bytes echo r o c) (hdoor : o.door = r.door) (hfault : r.fault = 0)
    (hnew : o.activity ≠ .complete) (hr : r.activity = .complete) (harg : r.arg = c.index) (hsub : c.sub = .active)
    (hdry : dryEnding c = false) (hw : Unwaiting a s) (hs : sessionOn a s = false) (hlast : c.index + 1 = c.plan.length) :
    ∃ t, exec (.replyValid bytes) s = .next t ∧ (∀ k, (t.pool k).holdsGrant a = false) ∧ t.machine a = { s.machine a with
      state := .finished, cycle := none, openedSinceFinish := decide ((s.machine a).door = some .opened),
      bus := { (s.machine a).bus with missed := 0, report := some r } } := by
  have hwaits : Unwaiting a s.windowClosed := (unwaiting_iff ..).mpr ((unwaiting_iff ..).mp hw)
  have hcomplete := (runningActivity_complete (s := s.windowClosed) h.cycle hr harg hsub).trans
    (completePhase_last h.cycle hdry (by omega))
  have hreleased : (releaseGrant a s.windowClosed).machine a = s.machine a := releaseGrant_bystander hwaits hs
  refine ⟨_, h.acts_new hdoor (.inr hfault) (by rw [hr]; exact hnew) hcomplete, fun k => ?_, ?_⟩
  · rw [heard_pool, (enterFinished_leaves a _).2.2.1 k]
    exact (releaseGrant_frees hwaits).2 k
  · rw [heard_machine_self, enterFinished, moveTo_machine_self, machine_modifyMachine_self, hreleased]

/-- R29, R32: a phase completes before the last. -/
theorem RunsOn.movesOn {e : PlanEntry} (h : RunsOn s a bytes echo r o c) (hdoor : o.door = r.door) (hfault : r.fault = 0)
    (hnew : o.activity ≠ .complete) (hr : r.activity = .complete) (harg : r.arg = c.index) (hsub : c.sub = .active)
    (hdry : dryEnding c = false) (hw : Unwaiting a s) (hs : sessionOn a s = false) (he : c.plan[c.index + 1]? = some e) :
    ∃ t d, exec (.replyValid bytes) s = .next t ∧ (t.machine a).state = .running ∧ (t.machine a).cycle = some d ∧
      d = { c with index := c.index + 1, everActive := false, retryUsed := false, timeUsed := 0, sub := d.sub } ∧
      (d.sub = .waiting ∧ (∃ k, (t.pool k).hasEntry a = true) ∨
        d.sub = .starting ∧ (t.machine a).bus = { (s.machine a).bus with
          missed := 0, report := some r,
          inFlight := some ⟨.startPhase (c.index + 1) e.kind (if e.kind = .dry then c.remaining else 0),
            !(s.machine a).bus.lastTag, .cycleControl⟩ }) := by
  have hwaits : Unwaiting a s.windowClosed := (unwaiting_iff ..).mpr ((unwaiting_iff ..).mp hw)
  have hexec := h.acts_new hdoor (.inr hfault) (by rw [hr]; exact hnew) (runningActivity_complete (s := s.windowClosed) h.cycle hr harg hsub)
  rcases completePhase_outcome (s := s.windowClosed) h.cycle hdry he hwaits hs with ⟨⟨k, hk⟩, hm⟩ | hm
  · refine ⟨_, nextPhase c, hexec, ?_, ?_, rfl, .inl ⟨rfl, k, by rw [heard_pool]; exact hk⟩⟩
    · rw [heard_machine_self, hm]
      exact h.running
    · rw [heard_machine_self, hm]
  · refine ⟨_, { nextPhase c with sub := .starting }, hexec, ?_, ?_, rfl, .inr ⟨rfl, ?_⟩⟩
    · rw [heard_machine_self, hm]
      exact h.running
    · rw [heard_machine_self, hm]
    · rw [heard_machine_self, hm, windowClosed_machine, postBus_free h.takes.present h.idle]

/-- R37, R38: the resident stops the machine at its panel. -/
theorem RunsOn.stopsAtPanel (h : RunsOn s a bytes echo r o c) (hdoor : o.door = r.door) (hfault : r.fault = 0)
    (hnew : o.activity ≠ .stopping) (hr : r.activity = .stopping) (hrefund : c.refund = none) (htook : c.tookStop = false)
    (hw : Unwaiting a s) : ∃ t, exec (.replyValid bytes) s = .next t ∧ (t.machine a).state = .stopping ∧
      (∀ k, (t.pool k).holdsGrant a = false) ∧ (t.machine a).cycle = some { c with
        stopCause := some .user, stopDeadline := some (s.now + 600), pauseDeadline := none,
        refund := some (refundOf (s.classOf a) c .user) } := by
  have hwaits : Unwaiting a s.windowClosed := (unwaiting_iff ..).mpr ((unwaiting_iff ..).mp hw)
  obtain ⟨hstate, hcycle, hgrants⟩ := panelStop_confirmed hwaits h.cycle hrefund
  refine ⟨_, h.acts_new hdoor (.inr hfault) (by rw [hr]; exact hnew)
    (runningActivity_stopping (s := s.windowClosed) h.cycle hr htook), ?_, fun k => ?_, ?_⟩
  · rw [heard_machine_self]
    exact hstate
  · rw [heard_pool]
    exact hgrants k
  · rw [heard_machine_self]
    exact hcycle

/-! ## Fault codes -/

theorem RunsOn.fails (h : RunsOn s a bytes echo r o c) (hdoor : o.door = r.door) (hr : r.activity = .faultHold)
    (hnew : o.fault ≠ r.fault) (hfault : r.fault ≠ 0) :
    exec (.replyValid bytes) s = .next ((takeCycleFault a r s.windowClosed).heard a r) :=
  h.takes.quiet h.report h.idle (takeOutcome_failed (s := s.windowClosed) h.running (changesOf_door hdoor)
    (changesOf_selection h.panel) hr (changesOf_fails hnew) hfault)

theorem stopped_heard {x : Handing} (hx : x.machine = addrNum a) (hst : (s.machine a).state = .running)
    (hsev : effectiveSeverity x = .hard) (hreply : x.code ≠ faultNoReply) (hroster : x.code ≠ faultRosterMismatch) :
    StoppedWith .machine a s ((stopCycle a .machine (handFault x s)).heard a r) ∧
    faultLast (addrNum a) x.code ((stopCycle a .machine (handFault x s)).heard a r) ∧
    (((stopCycle a .machine (handFault x s)).heard a r).machine a).strikes = min 15 ((s.machine a).strikes + 1) := by
  obtain ⟨hstopped, hlast, hstrikes⟩ := stopCycle_struck hx hst hsev (meetsExemption_other hreply hroster)
  exact ⟨hstopped.heard, hlast.heard, by rw [heard_machine_self]; exact hstrikes⟩

/-- R34: a SOFT fault in its phase for the first time. -/
theorem retry_heard {x : Handing} {e : PlanEntry} (hx : x.machine = addrNum a) (hsev : effectiveSeverity x = .soft)
    (hreply : x.code ≠ faultNoReply) (hroster : x.code ≠ faultRosterMismatch) (htimeout : x.code ≠ faultStopTimeout)
    (hc : (s.machine a).cycle = some c) (he : c.plan[c.index]? = some e) (hp : (s.machine a).bus.presence = .present)
    (hf : (s.machine a).bus.inFlight = none) :
    faultLast (addrNum a) x.code ((retryPhase a (handFault x s)).heard a r) ∧
    ((retryPhase a (handFault x s)).heard a r).machine a = { s.machine a with
      cycle := some { c with retryUsed := true, sub := .starting },
      bus := { (s.machine a).bus with
        missed := 0, report := some r,
        inFlight := some ⟨.startPhase c.index e.kind (if e.kind = .dry then c.remaining else 0),
          !(s.machine a).bus.lastTag, .cycleControl⟩ } } := by
  have hsame := handFault_soft (s := s) hx hsev (meetsExemption_other hreply hroster) htimeout hroster
  have hkind : c.kind = some e.kind := by
    rw [Cycle.kind, Cycle.entry, he]
    rfl
  have hlast := faultLast_handFault x s
  rw [hx] at hlast
  have htouch : Touches [.machines, .flags] (handFault x s) (retryPhase a (handFault x s)) :=
    touched_of (by simp [retryPhase])
  refine ⟨(hlast.of_touches htouch (by simp) (by simp)).heard, ?_⟩
  rw [heard_machine_self, retryPhase_machine (by rw [hsame]; exact hc) hkind, hsame, postBus_free hp hf]

/-! ## The door of a washer -/

theorem StoppedWith.doored {cause : StopCause} {door : Door} (h : StoppedWith cause a (s.doored a door) t) :
    StoppedWith cause a s t := h.of_eq (by rw [doored_machine_self]) rfl

/-- R22: a RUNNING machine whose door alone changes. -/
theorem RunsOn.doors (h : RunsOn s a bytes echo r o c) (hdoor : o.door ≠ r.door) (ha : o.activity = r.activity)
    (harg : o.arg = r.arg) (hfault : o.fault = r.fault)
    (hout : runningDoor a (some r.door) (s.windowClosed.doored a r.door) = t) (hfree : underService (t.machine a) = false) :
    exec (.replyValid bytes) s = .next (t.heard a r) := by
  have hchange : takeChanges a r (changesOf (some o) r) s.windowClosed = t :=
    (takeChanges_door (changesOf_changed hdoor) (changesOf_selection h.panel)).trans
      ((takeDoor_running (s := s.windowClosed) h.running).trans hout)
  refine h.takes.quiet h.report h.idle ?_
  rw [takeOutcome_changed (changesOf_activity ha harg) (changesOf_fault hfault) (by rw [hchange]; exact hfree), hchange]

/-- R35: a washer whose door opens. -/
theorem RunsOn.opens (h : RunsOn s a bytes echo r o c) (hclass : s.classOf a = .washer) (hdoor : o.door ≠ r.door)
    (hr : r.door = .opened) (ha : o.activity = r.activity) (harg : o.arg = r.arg) (hfault : o.fault = r.fault)
    (hout : washerDoorOpen a (s.windowClosed.doored a .opened) = t) (hst : (t.machine a).state = .stopping) :
    exec (.replyValid bytes) s = .next (t.heard a r) :=
  h.doors hdoor ha harg hfault
    (by rw [hr, runningDoor_washer (s := s.windowClosed.doored a .opened) hclass, hout]) (by simp [underService, hst])

end

theorem severityOf_hold {code : Nat} (hlow : 2 ≤ code) (hhigh : code ≤ 10) :
    (code = 3 ∨ code = 4 ∨ code = 7 → severityOf code = .soft) ∧
    (code ≠ 3 → code ≠ 4 → code ≠ 7 → severityOf code = .hard) := by
  unfold severityOf
  refine ⟨fun h => if_pos h, fun h3 h4 h7 => ?_⟩
  rw [if_neg (by omega), if_neg (by omega)]

/-- Settles O24: a machine at rest by its echo, its panel and its door; a RUNNING one by what its reply shows. -/
theorem aValidReplySettlesTheCommandInFlight : Obligations.AValidReplySettlesTheCommandInFlight := by
  intro s a bytes echo r hs hb hp hfresh he m closed heard
  have htakes : TakesReply s a bytes echo r := ⟨hs, hb, hp, hfresh, he⟩
  refine ⟨fun hreport => htakes.unchanged hreport, ?_, ?_, ?_⟩
  · intro o hreport hst hf hdoor hselection hclosed hsome ha harg hfault
    exact exec_changed hs hb hp hfresh he hreport hf ha harg hfault
      (takeChanges_selected (s := s.windowClosed) hst (changesOf_changed hdoor) (changesOf_picked hselection) hclosed hsome) rfl
  · intro o hreport hst hf hopened hdoor hshut hselection ha harg hfault
    have hchange := takeChanges_door (s := s.windowClosed) (a := a) (r := r) (changesOf_changed hdoor) (changesOf_selection hselection)
    refine ⟨fun hlock => ?_, fun hlock hhalted => ?_⟩
    · exact exec_changed hs hb hp hfresh he hreport hf ha harg hfault
        (hchange.trans (takeDoor_unloaded_locked (s := s.windowClosed) hst hopened hshut hlock)) rfl
    · exact exec_changed hs hb hp hfresh he hreport hf ha harg hfault
        (hchange.trans (takeDoor_unloaded_resting (s := s.windowClosed) hst hopened hshut hlock hhalted))
        (by by_cases hsel : (s.machine a).selection.isSome = true <;> simp [underService, hsel])
  · intro o c e hreport hst hc hentry hselection hne hnw hsession
    have hw : Unwaiting a s := (unwaiting_iff ..).mpr ⟨hne, hnw⟩
    have hsess : sessionOn a s = false := by
      rw [← Bool.not_eq_true, sessionOn_iff]
      rintro ⟨x, hx, hxa⟩
      exact hsession x hx hxa
    refine ⟨fun third poster hdoor hf hq hsub hr harg hfault => ?_, fun cause poster hdoor hf hq hr hfault => ?_, fun hf => ?_⟩
    · exact htakes.starts hreport hst hc hentry hselection hdoor hf hq hsub hr harg hfault
    · exact htakes.takesStop hreport hst hc hselection hdoor hf hq hr hfault
    · have hruns : RunsOn s a bytes echo r o c := ⟨htakes, hreport, hf, hst, hc, hselection⟩
      have hdry : ¬ (e.kind = .dry ∧ c.coolPosted = true) → dryEnding c = false := fun hcool => by
        rw [← Bool.not_eq_true, dryEnding, Cycle.kind, Cycle.entry, hentry]
        simpa using hcool
      refine ⟨fun hdoor hr hfault htook => ?_, fun hdoor hnew hr harg hfault hsub hcool => ⟨fun hlast => ?_, fun next hnext => ?_⟩,
        fun hdoor hnew hr hfault hrefund htook => ?_, fun hdoor hr hnew hlow hhigh => ⟨fun h3 h4 h7 => ?_, fun hsoft harg hsub =>
          ⟨fun hretry => ?_, fun hretry => ?_⟩⟩, fun hclass hdoor hr ha harg hfault => ⟨fun hfirst => ?_, fun hlater => ?_⟩⟩
      · exact hruns.acts hdoor (.inr hfault) (fun _ => runningActivity_stopTaken (s := s.windowClosed) hc hr htook none) (fun _ => rfl)
      · obtain ⟨t, ht, hgrants, hm⟩ := hruns.finishes hdoor hfault hnew hr harg hsub (hdry hcool) hw hsess hlast
        exact ⟨t, ht, hgrants .electric, hgrants .water, hm⟩
      · obtain ⟨t, d, ht, hstate, hcycle, hd, hwaits | hstarts⟩ :=
          hruns.movesOn hdoor hfault hnew hr harg hsub (hdry hcool) hw hsess hnext
        · obtain ⟨hwaiting, k, hk⟩ := hwaits
          refine ⟨t, d, ht, hstate, hcycle, hd, .inl ⟨hwaiting, ?_⟩⟩
          cases k with
          | electric => exact .inl hk
          | water => exact .inr hk
        · exact ⟨t, d, ht, hstate, hcycle, hd, .inr hstarts⟩
      · obtain ⟨t, ht, hstate, hgrants, hcycle⟩ := hruns.stopsAtPanel hdoor hfault hnew hr hrefund htook hw
        exact ⟨t, ht, hstate, hgrants .electric, hgrants .water, hcycle⟩
      · have hsev := (severityOf_hold hlow hhigh).2 h3 h4 h7
        refine ⟨_, (hruns.fails hdoor hr hnew (by omega)).trans
          (by rw [takeCycleFault_hard (s := s.windowClosed) hc hsev]), ?_⟩
        exact stopped_heard (s := s.windowClosed) (x := cycleHanding a r.fault s.windowClosed) rfl hst hsev
          (show r.fault ≠ 1 by omega) (show r.fault ≠ 0x13 by omega)
      · have hholds : holdsPhase c r = true := by simp [holdsPhase, hr, harg, hsub, or_assoc]
        have hsev := (severityOf_hold hlow hhigh).1 hsoft
        refine ⟨_, (hruns.fails hdoor hr hnew (by omega)).trans
          (by rw [takeCycleFault_retry (s := s.windowClosed) hc hsev hholds hretry]), ?_⟩
        exact retry_heard (s := s.windowClosed) (x := cycleHanding a r.fault s.windowClosed) rfl hsev
          (show r.fault ≠ 1 by omega) (show r.fault ≠ 0x13 by omega) (show r.fault ≠ 0x12 by omega) hc hentry hp hf
      · have hholds : holdsPhase c r = true := by simp [holdsPhase, hr, harg, hsub, or_assoc]
        have hsev := (severityOf_hold hlow hhigh).1 hsoft
        refine ⟨_, (hruns.fails hdoor hr hnew (by omega)).trans
          (by rw [takeCycleFault_again (s := s.windowClosed) hc hsev hholds hretry]), ?_⟩
        exact stopped_heard (s := s.windowClosed) (x := { cycleHanding a r.fault s.windowClosed with asHard := true }) rfl hst rfl
          (show r.fault ≠ 1 by omega) (show r.fault ≠ 0x13 by omega)
      · have hstopped := stopCycle_running (cause := .user) (s := s.windowClosed.doored a .opened)
          (by rw [doored_machine_self]; exact hst)
        refine ⟨_, hruns.opens hclass hdoor hr ha harg hfault
          (washerDoorOpen_first (by rw [doored_machine_self]; exact hc) hfirst) hstopped.1,
          StoppedWith.heard (StoppedWith.doored (s := s.windowClosed) hstopped), ?_⟩
        exact (touched_heard _ a r .faults (by simp)).trans (touched_stopCycle a .user _ .faults (by simp))
      · obtain ⟨hstopped, hlast⟩ := stopCycle_handFault (cause := .machine)
          (cycleHanding a faultDoorLock (s.windowClosed.doored a .opened)) (s := s.windowClosed.doored a .opened)
          (by rw [doored_machine_self]; exact hst)
        exact ⟨_, hruns.opens hclass hdoor hr ha harg hfault
          (washerDoorOpen_later (by rw [doored_machine_self]; exact hc) hlater) hstopped.1,
          StoppedWith.heard (StoppedWith.doored (s := s.windowClosed) hstopped), hlast.heard⟩

end Sys2Proof.Machine

/-! PROOF. Suspensions: a dryer's door, their confirmation, and their deadline (R33, R45, R46, R64, R66, R70). -/

namespace Sys2Proof.Machine

/-! ## New grants of a pool -/

/-- A pool has kept its grants, with new ones behind that no suspension has marked. -/
def GrantsMore (k : PoolId) (s t : State) : Prop :=
  ∃ l : List Grant, (t.pool k).grants = (s.pool k).grants ++ l ∧ ∀ g ∈ l, g.deadline = none

section
variable {s t u : State} {a : Addr} {k : PoolId} {c : Cycle}

theorem GrantsMore.of_eq (h : (t.pool k).grants = (s.pool k).grants) : GrantsMore k s t := ⟨[], by simpa using h, by simp⟩

theorem GrantsMore.refl (k : PoolId) (s : State) : GrantsMore k s s := .of_eq rfl

theorem GrantsMore.trans (h : GrantsMore k s t) (h' : GrantsMore k t u) : GrantsMore k s u := by
  obtain ⟨l, hl, hnew⟩ := h
  obtain ⟨m, hm, hnewer⟩ := h'
  refine ⟨l ++ m, by rw [hm, hl, List.append_assoc], fun g hg => ?_⟩
  exact (List.mem_append.mp hg).elim (hnew g) (hnewer g)

theorem GrantsMore.touch {ps : List Part} (h : Touches ps s t) (hp : Part.pools ∉ ps) : GrantsMore k s t :=
  .of_eq (by rw [h.pool hp k])

theorem GrantsMore.mem {g : Grant} (h : GrantsMore k s t) (hg : g ∈ (s.pool k).grants) : g ∈ (t.pool k).grants := by
  obtain ⟨l, hl, -⟩ := h
  rw [hl]
  exact List.mem_append_left _ hg

/-- R70: what holds of a machine's deadlines is kept. -/
theorem GrantsMore.cleared (h : GrantsMore k s t) (hs : ∀ g ∈ (s.pool k).grants, g.machine = a → g.deadline = none) :
    ∀ g ∈ (t.pool k).grants, g.machine = a → g.deadline = none := by
  obtain ⟨l, hl, hnew⟩ := h
  intro g hg hga
  rw [hl] at hg
  exact (List.mem_append.mp hg).elim (fun hold => hs g hold hga) (hnew g)

theorem scanFrom_more (now : Nat) : ∀ (l : List WaitEntry) (p : Pool) (kept : List WaitEntry),
    ∃ m : List Grant, (scanFrom now p kept l).pool.grants = p.grants ++ m ∧ ∀ g ∈ m, g.deadline = none := by
  intro l
  induction l with
  | nil => exact fun p kept => ⟨[], by simp [scanFrom], by simp⟩
  | cons e rest ih =>
    intro p kept
    unfold scanFrom
    split
    · next q _ =>
      dsimp only
      split
      · exact ⟨[grantOf now e q], rfl, by simp [grantOf]⟩
      · obtain ⟨m, hm, hnew⟩ := ih { p with grants := p.grants ++ [grantOf now e q] }
          (kept.map fun k => { k with passes := k.passes + 1 })
        exact ⟨grantOf now e q :: m, by rw [hm, List.append_assoc]; rfl, List.forall_mem_cons.mpr ⟨rfl, hnew⟩⟩
    · split
      · exact ⟨[], by simp, by simp⟩
      · exact ih _ _

theorem GrantsMore.scanPool (j k : PoolId) (s : State) : GrantsMore k s (scanPool j s) := by
  unfold Sys2Proof.Machine.scanPool
  dsimp only
  split
  · unfold GrantsMore
    rw [grants_pool]
    by_cases hj : k = j
    · subst hj
      rw [pool_setPool_self]
      exact scanFrom_more s.now _ _ []
    · rw [pool_setPool_other _ _ hj]
      exact ⟨[], by simp, by simp⟩
  · exact .refl k s

theorem setPool_more {j : PoolId} {p : Pool} (h : p.grants = (s.pool j).grants) : GrantsMore k s (s.setPool j p) := by
  refine .of_eq ?_
  by_cases hj : k = j
  · subst hj
    rw [pool_setPool_self, h]
  · rw [pool_setPool_other _ _ hj]

theorem withdrawFrom_more (j : PoolId) : GrantsMore k s (withdrawFrom j a s) := by
  unfold withdrawFrom
  dsimp only
  split
  · refine GrantsMore.trans ?_ (.scanPool j k _)
    exact setPool_more rfl
  · exact .refl k s

theorem withdrawEntry_more : GrantsMore k s (withdrawEntry a s) :=
  (withdrawFrom_more .electric).trans (withdrawFrom_more .water)

theorem stopCycle_more {cause : StopCause} : GrantsMore k s (stopCycle a cause s) := by
  unfold stopCycle
  split
  · dsimp only
    refine GrantsMore.trans (GrantsMore.trans ?_ withdrawEntry_more) (.touch (touched_post a _ _ _) (by simp))
    exact .touch (ps := [.machines, .flags]) (touched_of (by simp)) (by simp)
  · exact .refl k s

/-! ## The suspend deadline -/

theorem exec_suspendDeadline (a : Addr) (s : State) : exec (.suspendDeadline (addrNum a)) s =
    .next (suspendTimeout .water a (suspendTimeout .electric a s)) := congrArg _ (atAddress_addrNum a _ s)

theorem suspendIgnored_running (hst : (s.machine a).state = .running) (hc : (s.machine a).cycle = some c)
    (hsub : c.sub = .suspending) : suspendIgnored a s = stopCycle a .machine (handFault (cycleHanding a faultSuspendIgnored s) s) :=
  if_pos ⟨hst, by rw [hc, Option.map_some, hsub]⟩

theorem suspendIgnored_stopped (hst : (s.machine a).state ≠ .running) : suspendIgnored a s = s := if_neg fun h => hst h.1

theorem suspendDue_of_mem {g : Grant} {d : Nat} (hg : g ∈ (s.pool k).grants) (ha : g.machine = a) (hp : g.pending = true)
    (hd : g.deadline = some d) (hdue : d ≤ s.now) : suspendDue k a s = true :=
  List.any_eq_true.mpr ⟨g, hg, by simp [ha, hp, hd, due, hdue]⟩

theorem clearSuspendDeadline_cleared : ∀ g ∈ ((clearSuspendDeadline k a s).pool k).grants, g.machine = a → g.deadline = none := by
  intro g hg hga
  rw [clearSuspendDeadline, pool_setPool_self] at hg
  obtain ⟨x, -, rfl⟩ := List.mem_map.mp hg
  by_cases hx : x.machine = a
  · rw [if_pos hx]
  · rw [if_neg hx] at hga
    exact absurd hga hx

theorem clearSuspendDeadline_entry (j : PoolId) (b : Addr) :
    ((clearSuspendDeadline k a s).pool j).hasEntry b = (s.pool j).hasEntry b := by
  by_cases hj : j = k
  · subst hj
    rw [clearSuspendDeadline, pool_setPool_self]
    rfl
  · rw [clearSuspendDeadline, pool_setPool_other _ _ hj]

theorem clearSuspendDeadline_machine (b : Addr) : (clearSuspendDeadline k a s).machine b = s.machine b := setPool_machine ..

/-- R70: the deadline of a SUSPENDING machine stops its cycle. -/
theorem suspendTimeout_stops (hdue : suspendDue k a s = true) (hst : (s.machine a).state = .running)
    (hc : (s.machine a).cycle = some c) (hsub : c.sub = .suspending) : StoppedWith .machine a s (suspendTimeout k a s) ∧
    faultLast (addrNum a) faultSuspendIgnored (suspendTimeout k a s) ∧
    GrantsMore k (clearSuspendDeadline k a s) (suspendTimeout k a s) ∧
    ∀ j, j ≠ k → GrantsMore j s (suspendTimeout k a s) := by
  have hmachine := clearSuspendDeadline_machine (k := k) (a := a) (s := s) a
  have htimeout : suspendTimeout k a s = stopCycle a .machine
      (handFault (cycleHanding a faultSuspendIgnored (clearSuspendDeadline k a s)) (clearSuspendDeadline k a s)) :=
    (if_pos hdue).trans (suspendIgnored_running (by rw [hmachine]; exact hst) (by rw [hmachine]; exact hc) hsub)
  obtain ⟨hstopped, hlast⟩ := stopCycle_handFault (cause := .machine) (a := a)
    (cycleHanding a faultSuspendIgnored (clearSuspendDeadline k a s)) (s := clearSuspendDeadline k a s)
    (by rw [hmachine]; exact hst)
  have hmore : ∀ j, GrantsMore j (clearSuspendDeadline k a s) (suspendTimeout k a s) := fun j => by
    rw [htimeout]
    exact (GrantsMore.touch (touched_handFault _ _) (by simp)).trans stopCycle_more
  rw [← htimeout] at hstopped hlast
  refine ⟨hstopped.of_eq (by rw [hmachine]) (by rw [clearSuspendDeadline, setPool_now]), hlast, hmore k, fun j hj => ?_⟩
  exact GrantsMore.trans (.of_eq (by rw [clearSuspendDeadline, pool_setPool_other _ _ hj])) (hmore j)

/-- R70: nothing is left to stop at a second deadline. -/
theorem suspendTimeout_stopped (hst : (s.machine a).state ≠ .running) :
    suspendTimeout k a s = if suspendDue k a s then clearSuspendDeadline k a s else s := by
  unfold suspendTimeout
  rw [suspendIgnored_stopped (by rw [clearSuspendDeadline_machine]; exact hst)]

theorem StoppedWith.clear {cause : StopCause} (h : StoppedWith cause a s t) :
    StoppedWith cause a s (clearSuspendDeadline k a t) := by
  obtain ⟨hstate, hcycle, helectric, hwater⟩ := h
  refine ⟨by rw [clearSuspendDeadline_machine, hstate], by rw [clearSuspendDeadline_machine, hcycle], ?_, ?_⟩
  · exact (clearSuspendDeadline_entry .electric a).trans helectric
  · exact (clearSuspendDeadline_entry .water a).trans hwater

theorem faultLast.clear {m code : Nat} (h : faultLast m code t) : faultLast m code (clearSuspendDeadline k a t) :=
  h.of_touches (ps := [.pools]) (touched_of (by simp [clearSuspendDeadline])) (by simp) (by simp)

/-! ## The door of a dryer -/

theorem runningDoor_dryer_opened (hclass : s.classOf a = .dryer) : runningDoor a (some .opened) s = dryerDoorOpen a s := by
  unfold runningDoor
  rw [hclass]

theorem runningDoor_dryer_shut {door : Door} (hclass : s.classOf a = .dryer) (hdoor : door ≠ .opened) :
    runningDoor a (some door) s = dryerDoorClosed a s := by
  unfold runningDoor
  rw [hclass]
  cases door with
  | opened => exact absurd rfl hdoor
  | closed => rfl
  | locked => rfl

theorem dryerDoorOpen_drying (hc : (s.machine a).cycle = some c) (hdry : drying c = true)
    (hsub : c.sub = .starting ∨ c.sub = .active ∨ c.sub = .resuming) : dryerDoorOpen a s =
      beginSuspend a (modifyCycle a (fun c => { c with pauseDeadline := some (s.now + s.params.doorPause) }) s) := by
  unfold dryerDoorOpen
  simp only [hc, hdry, if_true]
  rcases hsub with hsub | hsub | hsub <;> rw [hsub]

theorem dryerDoorClosed_paused (hc : (s.machine a).cycle = some c) (hsub : c.sub = .paused) : dryerDoorClosed a s =
    askPhase a (modifyCycle a (fun c => { c with pauseDeadline := none, sub := .waiting }) s) := by
  unfold dryerDoorClosed
  simp only [hc, hsub]

/-- R66: the grants of a machine in one pool are marked. -/
theorem markFrom_pool (j : PoolId) : ((markFrom j a s).pool j).waits = (s.pool j).waits ∧
    (∀ g ∈ ((markFrom j a s).pool j).grants, g.machine = a → g.pending = true) ∧
    ∀ i, i ≠ j → (markFrom j a s).pool i = s.pool i := by
  unfold markFrom
  dsimp only
  split
  · rw [pool_setPool_self]
    refine ⟨rfl, fun g hg hga => ?_, fun i hi => pool_setPool_other _ _ hi⟩
    obtain ⟨x, -, rfl⟩ := List.mem_map.mp hg
    by_cases hx : x.machine = a ∧ ¬ x.pending = true
    · rw [if_pos hx]
    · rw [if_neg hx] at hga ⊢
      by_contra hpending
      exact hx ⟨hga, hpending⟩
  · next hnone =>
    refine ⟨rfl, fun g hg hga => ?_, fun i _ => rfl⟩
    by_contra hpending
    exact hnone (List.any_eq_true.mpr ⟨g, hg, by simpa using ⟨hga, by simpa using hpending⟩⟩)

theorem markFrom_machine (j : PoolId) (b : Addr) : (markFrom j a s).machine b = s.machine b := by
  unfold markFrom
  dsimp only
  split
  · exact setPool_machine ..
  · rfl

theorem markGrant_machine (b : Addr) : (markGrant a s).machine b = s.machine b := by
  rw [markGrant, markFrom_machine, markFrom_machine]

theorem markGrant_pool (k : PoolId) : ((markGrant a s).pool k).waits = (s.pool k).waits ∧
    ∀ g ∈ ((markGrant a s).pool k).grants, g.machine = a → g.pending = true := by
  obtain ⟨helectricWaits, helectricMarked, helectric⟩ := markFrom_pool (a := a) (s := s) .electric
  obtain ⟨hwaterWaits, hwaterMarked, hwater⟩ := markFrom_pool (a := a) (s := markFrom .electric a s) .water
  unfold markGrant
  cases k with
  | electric =>
    rw [hwater .electric nofun]
    exact ⟨helectricWaits, helectricMarked⟩
  | water =>
    rw [hwaterWaits, helectric .water nofun]
    exact ⟨rfl, hwaterMarked⟩

/-- R33, R66: a suspension begun. -/
theorem beginSuspend_leaves (hc : (s.machine a).cycle = some c) : (beginSuspend a s).machine a = { s.machine a with
      cycle := some { c with sub := .suspending }, bus := postBus .suspend .cycleControl (s.machine a).bus } ∧
    ∀ k, ((beginSuspend a s).pool k).waits = (s.pool k).waits ∧
      ∀ g ∈ ((beginSuspend a s).pool k).grants, g.machine = a → g.pending = true := by
  have hposted : ∀ k, (post a .suspend .cycleControl (modifyCycle a (fun c => { c with sub := .suspending }) s)).pool k = s.pool k :=
    fun k => (touched_post a _ _ _).pool (by simp) k |>.trans (modifyCycle_pool k _)
  refine ⟨?_, fun k => ?_⟩
  · rw [beginSuspend, markGrant_machine, post_machine, if_pos rfl, modifyCycle_self hc]
  · have hmarked := markGrant_pool (a := a)
      (s := post a .suspend .cycleControl (modifyCycle a (fun c => { c with sub := .suspending }) s)) k
    rw [hposted] at hmarked
    exact hmarked

/-! ## A suspension confirmed -/

theorem runningActivity_suspended {r : Report} (hc : (s.machine a).cycle = some c) (hr : r.activity = .suspended)
    (harg : r.arg = c.index) (hsub : c.sub = .suspending) (hf : (s.machine a).bus.inFlight = none)
    (hq : (s.machine a).bus.queued = none) : runningActivity a ⟨none, r⟩ s = confirmSuspend a s := by
  have htaken : suspendTaken a s = true := by simp [suspendTaken, outstanding, hf, hq]
  unfold runningActivity
  simp [hc, hr, harg, hsub, htaken]

theorem confirmSuspend_paused {d : Nat} (hc : (s.machine a).cycle = some c) (hd : c.pauseDeadline = some d) :
    confirmSuspend a s = releaseGrant a (modifyCycle a (fun c => { c with sub := .paused }) s) := by
  unfold confirmSuspend
  simp [hc, hd]

theorem confirmSuspend_suspended (hc : (s.machine a).cycle = some c) (hd : c.pauseDeadline = none) :
    confirmSuspend a s = askResume a (modifyCycle a (fun c => { c with sub := .suspended }) s) := by
  unfold confirmSuspend
  simp [hc, hd]

/-- R58: a resume entry stands somewhere among the others. -/
theorem insertResume_split (e : WaitEntry) : ∀ l : List WaitEntry,
    ∃ before behind, insertResume e l = before ++ e :: behind ∧ l = before ++ behind
  | [] => ⟨[], [], rfl, rfl⟩
  | x :: xs => by
    unfold insertResume
    split
    · obtain ⟨before, behind, hinsert, hl⟩ := insertResume_split e xs
      exact ⟨x :: before, behind, by rw [hinsert]; rfl, by rw [hl]; rfl⟩
    · exact ⟨[], x :: xs, rfl, rfl⟩

/-- R64: the machine asks for its grant again, and waits or resumes. -/
theorem resumeFrom_outcome (hheld : (s.pool k).holdsGrant a = true) (hw : Unwaiting a s) (hs : sessionOn a s = false) :
    ((((resumeFrom k a s).pool k).hasEntry a = true ∧ (resumeFrom k a s).machine a = s.machine a)) ∨
    ∃ u : State, u.machine a = s.machine a ∧ (resumeFrom k a s).machine a = (resumePhase a u).machine a := by
  obtain ⟨x, hx, hxa⟩ := List.any_eq_true.mp hheld
  obtain ⟨g, hg⟩ : ∃ g, (s.pool k).grants.find? (fun g => decide (g.machine = a)) = some g :=
    Option.isSome_iff_exists.mp (List.find?_isSome.mpr ⟨x, hx, hxa⟩)
  generalize he : ({
    machine := a, cls := g.cls, purpose := .resume, demand := g.amount, suspendable := g.suspendable,
    time := s.now, passes := 0, number := g.number } : WaitEntry) = e
  have hea : e.machine = a := by rw [← he]
  have hpurpose : e.purpose = .resume := by rw [← he]
  generalize hp : ({ s.pool k with
    grants := withoutMachine a (s.pool k).grants, waits := insertResume e (s.pool k).waits } : Pool) = p
  have heq : resumeFrom k a s = countWait k a (scanPool k (leaveOverLimit k (s.setPool k p))) := by
    unfold resumeFrom
    simp only [hg]
    rw [← hp, ← he]
  have hmachine : (leaveOverLimit k (s.setPool k p)).machine a = s.machine a := by rw [leaveOverLimit_machine, setPool_machine]
  have hsession : sessionOn a (leaveOverLimit k (s.setPool k p)) = false := by
    rw [← hs, sessionOn, sessionOn]
    rw [((touched_leaveOverLimit k _).same .session (by simp) : (leaveOverLimit k (s.setPool k p)).session = _), setPool_session]
  obtain ⟨before, behind, hinsert, hwaits⟩ := insertResume_split e (s.pool k).waits
  have hothers := hasEntry_eq_false.mp (hw k)
  rw [hwaits] at hothers
  obtain ⟨b, hpool, -⟩ := leaveOverLimit_pool k (s.setPool k p)
  rw [heq, countWait_hasEntry, countWait_machine]
  rcases scanPool_outcome (a := a) (k := k) (before := before) (behind := behind) (e := e)
    (s := leaveOverLimit k (s.setPool k p)) (by rw [hpool, pool_setPool_self, ← hp, ← hinsert]) hea
    (fun y hy => hothers y (List.mem_append_left _ hy)) (fun y hy => hothers y (List.mem_append_right _ hy)) hsession with
    ⟨hentry, hsame⟩ | ⟨u, hu, -, hgranted⟩
  · exact .inl ⟨hentry, hsame.trans hmachine⟩
  · refine .inr ⟨u, hu.trans hmachine, hgranted.trans ?_⟩
    unfold deliverGrant
    rw [hpurpose, hea]

theorem resumePhase_machine (hc : (s.machine a).cycle = some c) : (resumePhase a s).machine a = { s.machine a with
    cycle := some { c with sub := .resuming }, bus := postBus .resume .cycleControl (s.machine a).bus } := by
  rw [resumePhase, post_machine, if_pos rfl, modifyCycle_self hc]

end

end Sys2Proof.Machine

/-! PROOF. The statement about suspensions (R33, R45, R46, R64, R66, R70). -/

namespace Sys2Proof.Machine

section
variable {s t : State} {a : Addr} {k : PoolId} {bytes : List Byte} {echo : Bool} {r o : Report} {c : Cycle} {g : Grant} {d : Nat}

/-- R70: the deadlines of a machine in both pools, one of which is due. -/
theorem suspendDeadlines_stop (hg : g ∈ (s.pool k).grants) (ha : g.machine = a) (hp : g.pending = true)
    (hd : g.deadline = some d) (hdue : d ≤ s.now) (hst : (s.machine a).state = .running) (hc : (s.machine a).cycle = some c)
    (hsub : c.sub = .suspending) :
    StoppedWith .machine a s (suspendTimeout .water a (suspendTimeout .electric a s)) ∧
    faultLast (addrNum a) faultSuspendIgnored (suspendTimeout .water a (suspendTimeout .electric a s)) ∧
    ∀ g ∈ ((suspendTimeout .water a (suspendTimeout .electric a s)).pool k).grants, g.machine = a → g.deadline = none := by
  by_cases hfirst : suspendDue .electric a s = true
  · obtain ⟨hstopped, hlast, hmore, hother⟩ := suspendTimeout_stops hfirst hst hc hsub
    have hnow : (suspendTimeout .electric a s).now = s.now := ((touched_suspendTimeout .electric a s).same .clock (by simp)).1
    have hstate : ((suspendTimeout .electric a s).machine a).state ≠ .running := by rw [hstopped.1]; decide
    have hcleared := hmore.cleared clearSuspendDeadline_cleared
    generalize suspendTimeout .electric a s = u at *
    rw [suspendTimeout_stopped hstate]
    cases k with
    | electric =>
      split
      · refine ⟨hstopped.clear, hlast.clear, ?_⟩
        rw [clearSuspendDeadline, pool_setPool_other _ _ (by decide)]
        exact hcleared
      · exact ⟨hstopped, hlast, hcleared⟩
    | water =>
      rw [if_pos (suspendDue_of_mem ((hother .water nofun).mem hg) ha hp hd (hnow ▸ hdue))]
      exact ⟨hstopped.clear, hlast.clear, clearSuspendDeadline_cleared⟩
  · have hsame : suspendTimeout .electric a s = s := if_neg hfirst
    have hsecond := suspendDue_of_mem hg ha hp hd hdue
    cases k with
    | electric => exact absurd hsecond hfirst
    | water =>
      obtain ⟨hstopped, hlast, hmore, -⟩ := suspendTimeout_stops hsecond hst hc hsub
      rw [hsame]
      exact ⟨hstopped, hlast, hmore.cleared clearSuspendDeadline_cleared⟩

theorem dryerDoorOpen_leaves (hc : (s.machine a).cycle = some c) (hdry : drying c = true)
    (hsub : c.sub = .starting ∨ c.sub = .active ∨ c.sub = .resuming) :
    (dryerDoorOpen a s).machine a = { s.machine a with
      cycle := some { c with pauseDeadline := some (s.now + s.params.doorPause), sub := .suspending },
      bus := postBus .suspend .cycleControl (s.machine a).bus } ∧
    ∀ k, ((dryerDoorOpen a s).pool k).waits = (s.pool k).waits ∧
      ∀ g ∈ ((dryerDoorOpen a s).pool k).grants, g.machine = a → g.pending = true := by
  have hpaused := modifyCycle_self (f := fun c => { c with pauseDeadline := some (s.now + s.params.doorPause) }) hc
  obtain ⟨hmachine, hpools⟩ := beginSuspend_leaves (a := a)
    (s := modifyCycle a (fun c => { c with pauseDeadline := some (s.now + s.params.doorPause) }) s)
    (c := { c with pauseDeadline := some (s.now + s.params.doorPause) }) (by rw [hpaused])
  rw [hpaused] at hmachine
  rw [dryerDoorOpen_drying hc hdry hsub]
  refine ⟨hmachine, fun k => ?_⟩
  have hpool := hpools k
  rw [modifyCycle_pool] at hpool
  exact hpool

/-- R45: the door of a dryer opens in DRY. -/
theorem RunsOn.suspends (h : RunsOn s a bytes echo r o c) (hclass : s.classOf a = .dryer) (hdry : drying c = true)
    (hdoor : o.door ≠ r.door) (hr : r.door = .opened) (ha : o.activity = r.activity) (harg : o.arg = r.arg)
    (hfault : o.fault = r.fault) (hsub : c.sub = .starting ∨ c.sub = .active ∨ c.sub = .resuming) :
    ∃ t, exec (.replyValid bytes) s = .next t ∧
      t.machine a = { s.machine a with
        door := some r.door,
        cycle := some { c with pauseDeadline := some (s.now + s.params.doorPause), sub := .suspending },
        bus := { (s.machine a).bus with
          missed := 0, report := some r, inFlight := some ⟨.suspend, !(s.machine a).bus.lastTag, .cycleControl⟩ } } ∧
      ∀ k, (t.pool k).waits = (s.pool k).waits ∧ ∀ g ∈ (t.pool k).grants, g.machine = a → g.pending = true := by
  have hdoored := doored_machine_self s.windowClosed a r.door
  have hpool : ∀ k, (s.windowClosed.doored a r.door).pool k = s.pool k := fun k => by
    rw [State.doored, setMachine_pool]
    cases k <;> rfl
  have hout : runningDoor a (some r.door) (s.windowClosed.doored a r.door) =
      dryerDoorOpen a (s.windowClosed.doored a r.door) := by
    rw [hr]
    exact runningDoor_dryer_opened hclass
  obtain ⟨hmachine, hpools⟩ := dryerDoorOpen_leaves (a := a) (s := s.windowClosed.doored a r.door)
    (by rw [hdoored]; exact h.cycle) hdry hsub
  rw [hdoored] at hmachine
  generalize dryerDoorOpen a (s.windowClosed.doored a r.door) = u at *
  refine ⟨_, h.doors hdoor ha harg hfault hout (underService_running (by rw [hmachine]; exact h.running)), ?_, fun k => ?_⟩
  · rw [heard_machine_self, hmachine, windowClosed_machine, postBus_free h.takes.present h.idle]
    rfl
  · rw [heard_pool, ← hpool k]
    exact hpools k

/-- R46: the door of a PAUSED dryer is closed. -/
theorem RunsOn.unpauses (h : RunsOn s a bytes echo r o c) (hclass : s.classOf a = .dryer) (hkind : c.kind = some .dry)
    (hdoor : o.door ≠ r.door) (hr : r.door ≠ .opened) (ha : o.activity = r.activity) (harg : o.arg = r.arg)
    (hfault : o.fault = r.fault) (hsub : c.sub = .paused) (hfree : Ungranted a s) (hs : sessionOn a s = false) :
    ∃ t d, exec (.replyValid bytes) s = .next t ∧ (t.machine a).cycle = some d ∧
      d = { c with pauseDeadline := none, sub := d.sub } ∧
      (d.sub = .waiting ∧ (∃ k, (t.pool k).hasEntry a = true) ∨
        d.sub = .starting ∧ (t.machine a).bus = { (s.machine a).bus with
          missed := 0, report := some r,
          inFlight := some ⟨.startPhase c.index .dry c.remaining, !(s.machine a).bus.lastTag, .cycleControl⟩ }) := by
  obtain ⟨e, he, hek⟩ : ∃ e, c.entry = some e ∧ e.kind = .dry := by
    simpa [Cycle.kind] using hkind
  have hcycle : ((s.windowClosed.doored a r.door).machine a).cycle = some c := by rw [doored_machine_self]; exact h.cycle
  have hwaits := modifyCycle_self (f := fun c => { c with pauseDeadline := none, sub := .waiting }) hcycle
  have hout := (runningDoor_dryer_shut (s := s.windowClosed.doored a r.door) hclass hr).trans (dryerDoorClosed_paused hcycle hsub)
  have hungranted : Ungranted a (s.windowClosed.doored a r.door) :=
    ⟨fun k => by rw [State.doored, setMachine_pool]; exact (unwaiting_iff ..).mpr ((unwaiting_iff ..).mp hfree.1) k,
      fun k => by rw [State.doored, setMachine_pool]; cases k; exacts [hfree.2 .electric, hfree.2 .water]⟩
  have hasked := askPhase_outcome (c := { c with pauseDeadline := none, sub := .waiting })
    (s := modifyCycle a (fun c => { c with pauseDeadline := none, sub := .waiting }) (s.windowClosed.doored a r.door))
    (by rw [hwaits]) he hungranted.modifyCycle hs
  rw [hwaits, doored_machine_self, windowClosed_machine] at hasked
  generalize askPhase a (modifyCycle a (fun c => { c with pauseDeadline := none, sub := .waiting })
    (s.windowClosed.doored a r.door)) = u at hout hasked
  rcases hasked with ⟨⟨k, hk⟩, hm⟩ | hm
  · have hexec := h.doors hdoor ha harg hfault hout (underService_running (by rw [hm]; exact h.running))
    exact ⟨_, _, hexec, by rw [heard_machine_self, hm], rfl, .inl ⟨rfl, k, by rw [heard_pool]; exact hk⟩⟩
  · have hexec := h.doors hdoor ha harg hfault hout (underService_running (by rw [hm]; exact h.running))
    refine ⟨_, _, hexec, by rw [heard_machine_self, hm], rfl, .inr ⟨rfl, ?_⟩⟩
    rw [heard_machine_self, hm, hek, postBus_free h.takes.present h.idle]
    rfl

/-- R33: a suspension confirmed with a pause deadline. -/
theorem RunsOn.pauses (h : RunsOn s a bytes echo r o c) (hq : (s.machine a).bus.queued = none) (hsub : c.sub = .suspending)
    (hdoor : o.door = r.door) (hfault : o.fault = r.fault) (hnew : o.activity ≠ r.activity) (hr : r.activity = .suspended)
    (harg : r.arg = c.index) (hd : c.pauseDeadline = some d) (hw : Unwaiting a s) (hs : sessionOn a s = false) :
    ∃ t, exec (.replyValid bytes) s = .next t ∧ t.machine a = { s.machine a with
      cycle := some { c with sub := .paused }, bus := { (s.machine a).bus with missed := 0, report := some r } } ∧
      ∀ k, (t.pool k).holdsGrant a = false := by
  have hwaits : Unwaiting a s.windowClosed := (unwaiting_iff ..).mpr ((unwaiting_iff ..).mp hw)
  have hpaused := modifyCycle_self (s := s.windowClosed) (f := fun c => { c with sub := .paused }) h.cycle
  have hout := (runningActivity_suspended (s := s.windowClosed) h.cycle hr harg hsub h.idle hq).trans (confirmSuspend_paused h.cycle hd)
  have hreleased := (releaseGrant_bystander (hwaits.modifyCycle (f := fun c => { c with sub := .paused })) hs).trans hpaused
  have hgrants := (releaseGrant_frees (hwaits.modifyCycle (f := fun c => { c with sub := .paused }))).2
  refine ⟨_, h.acts_new hdoor (.inl hfault) hnew hout, ?_, fun k => ?_⟩
  · rw [heard_machine_self, hreleased]
    rfl
  · rw [heard_pool]
    exact hgrants k

theorem askResume_outcome (hheld : ∃ k, (s.pool k).holdsGrant a = true) (hc : (s.machine a).cycle = some c) (hw : Unwaiting a s)
    (hs : sessionOn a s = false) :
    ((∃ k, ((askResume a s).pool k).hasEntry a = true) ∧ (askResume a s).machine a = s.machine a) ∨
    (askResume a s).machine a = { s.machine a with
      cycle := some { c with sub := .resuming }, bus := postBus .resume .cycleControl (s.machine a).bus } := by
  have hone : ∀ k, (s.pool k).holdsGrant a = true → askResume a s = resumeFrom k a s →
      ((∃ k, ((askResume a s).pool k).hasEntry a = true) ∧ (askResume a s).machine a = s.machine a) ∨
      (askResume a s).machine a = { s.machine a with
        cycle := some { c with sub := .resuming }, bus := postBus .resume .cycleControl (s.machine a).bus } := by
    intro k hk heq
    rw [heq]
    rcases resumeFrom_outcome hk hw hs with ⟨hentry, hm⟩ | ⟨u, hu, hm⟩
    · exact .inl ⟨⟨k, hentry⟩, hm⟩
    · exact .inr (by rw [hm, resumePhase_machine (by rw [hu]; exact hc), hu])
  by_cases he : s.electric.holdsGrant a = true
  · exact hone .electric he (if_pos he)
  · obtain ⟨k, hk⟩ := hheld
    cases k with
    | electric => exact absurd hk he
    | water => exact hone .water hk (if_neg he)

/-- R33, R64: a suspension confirmed without a pause deadline. -/
theorem RunsOn.awaitsResume (h : RunsOn s a bytes echo r o c) (hq : (s.machine a).bus.queued = none) (hsub : c.sub = .suspending)
    (hdoor : o.door = r.door) (hfault : o.fault = r.fault) (hnew : o.activity ≠ r.activity) (hr : r.activity = .suspended)
    (harg : r.arg = c.index) (hd : c.pauseDeadline = none) (hheld : ∃ k, (s.pool k).holdsGrant a = true) (hw : Unwaiting a s)
    (hs : sessionOn a s = false) : ∃ t, exec (.replyValid bytes) s = .next t ∧
      (t.machine a = { s.machine a with
          cycle := some { c with sub := .suspended }, bus := { (s.machine a).bus with missed := 0, report := some r } } ∧
        (∃ k, (t.pool k).hasEntry a = true) ∨
      t.machine a = { s.machine a with
        cycle := some { c with sub := .resuming },
        bus := { (s.machine a).bus with
          missed := 0, report := some r, inFlight := some ⟨.resume, !(s.machine a).bus.lastTag, .cycleControl⟩ } }) := by
  have hwaits : Unwaiting a s.windowClosed := (unwaiting_iff ..).mpr ((unwaiting_iff ..).mp hw)
  have hsuspended := modifyCycle_self (s := s.windowClosed) (f := fun c => { c with sub := .suspended }) h.cycle
  have hout := (runningActivity_suspended (s := s.windowClosed) h.cycle hr harg hsub h.idle hq).trans
    (confirmSuspend_suspended h.cycle hd)
  have hheld' : ∃ k, ((modifyCycle a (fun c => { c with sub := .suspended }) s.windowClosed).pool k).holdsGrant a = true := by
    obtain ⟨k, hk⟩ := hheld
    refine ⟨k, ?_⟩
    rw [modifyCycle_pool]
    cases k
    exacts [hk, hk]
  have hasked := askResume_outcome (c := { c with sub := .suspended })
    (s := modifyCycle a (fun c => { c with sub := .suspended }) s.windowClosed) hheld' (by rw [hsuspended])
    (hwaits.modifyCycle) hs
  rw [hsuspended, windowClosed_machine] at hasked
  refine ⟨_, h.acts_new hdoor (.inl hfault) hnew hout, ?_⟩
  generalize askResume a (modifyCycle a (fun c => { c with sub := .suspended }) s.windowClosed) = u at hasked ⊢
  rcases hasked with ⟨⟨k, hk⟩, hm⟩ | hm
  · exact .inl ⟨by rw [heard_machine_self, hm], k, by rw [heard_pool]; exact hk⟩
  · exact .inr (by rw [heard_machine_self, hm, postBus_free h.takes.present h.idle])

end

theorem exists_hasEntry {a : Addr} {s : State} :
    (∃ k, (s.pool k).hasEntry a = true) ↔ s.electric.hasEntry a = true ∨ s.water.hasEntry a = true := by
  constructor
  · rintro ⟨k, hk⟩
    cases k with
    | electric => exact .inl hk
    | water => exact .inr hk
  · rintro (h | h)
    exacts [⟨.electric, h⟩, ⟨.water, h⟩]

/-- Settles O37: the deadline of a suspension stops the cycle; a reply suspends, ends a pause or confirms a suspension. -/
theorem suspendDeadlineStopsTheCycle : Obligations.SuspendDeadlineStopsTheCycle := by
  refine ⟨fun s a k g d c hg ha hp hd hdue hst hc hsub => ?_, ?_⟩
  · exact ⟨_, exec_suspendDeadline a s, suspendDeadlines_stop hg ha hp hd hdue hst hc hsub⟩
  · intro s a bytes echo r o c hs hb hp hfresh he m heard hst hc hf hq hreport hselection hfault hne hnw hsession
    have hw : Unwaiting a s := (unwaiting_iff ..).mpr ⟨hne, hnw⟩
    have hsess : sessionOn a s = false := by
      rw [← Bool.not_eq_true, sessionOn_iff]
      rintro ⟨x, hx, hxa⟩
      exact hsession x hx hxa
    have hruns : RunsOn s a bytes echo r o c := ⟨⟨hs, hb, hp, hfresh, he⟩, hreport, hf, hst, hc, hselection⟩
    refine ⟨fun hclass hkind hdoor ha harg => ⟨fun hcool hr hsub => ?_, fun hsub hr hnoElectric hnoWater => ?_⟩,
      fun hsub hdoor hnew hr harg => ⟨fun d hd => ?_, fun hd hheld => ?_⟩⟩
    · exact hruns.suspends hclass (by simp [drying, hkind, hcool]) hdoor hr ha harg hfault hsub
    · have hfree : Ungranted a s := ⟨hw, fun k => by cases k; exacts [hnoElectric, hnoWater]⟩
      obtain ⟨t, d, ht, hcycle, hd, hwaits | hstarts⟩ := hruns.unpauses hclass hkind hdoor hr ha harg hfault hsub hfree hsess
      · exact ⟨t, d, ht, hcycle, hd, .inl ⟨hwaits.1, exists_hasEntry.mp hwaits.2⟩⟩
      · exact ⟨t, d, ht, hcycle, hd, .inr hstarts⟩
    · obtain ⟨t, ht, hm, hgrants⟩ := hruns.pauses hq hsub hdoor hfault hnew hr harg hd hw hsess
      exact ⟨t, ht, hm, hgrants .electric, hgrants .water⟩
    · have hheld' : ∃ k, (s.pool k).holdsGrant a = true :=
        hheld.elim (fun h => ⟨.electric, h⟩) (fun h => ⟨.water, h⟩)
      obtain ⟨t, ht, hwaits | hresumes⟩ := hruns.awaitsResume hq hsub hdoor hfault hnew hr harg hd hheld' hw hsess
      · exact ⟨t, ht, .inl ⟨hwaits.1, exists_hasEntry.mp hwaits.2⟩⟩
      · exact ⟨t, ht, .inr hresumes⟩

end Sys2Proof.Machine

/-! PROOF. Service phases and self-tests that need no power begin (R150, R151, R153, R154). -/

namespace Sys2Proof.Machine

/-- The part with another session record. -/
def State.inSession (s : State) (y : Option Session) : State := { s with session := y }

section
variable {s : State} {a : Addr} {x : Session} {run : TestRun}

theorem inSession_raising (bits : BitVec 7) (y : Option Session) : (s.raising bits).inSession y = (s.inSession y).raising bits := rfl

theorem inSession_inSession (y z : Option Session) : (s.inSession y).inSession z = s.inSession z := rfl

theorem inSession_machine (y : Option Session) : (s.inSession y).machine a = s.machine a := rfl

/-- R151: a service phase that enters STARTING. -/
theorem startServicePhase_eq {ph : ServicePhase} (hx : s.session = some x) (hph : x.phase = some ph) : startServicePhase s =
    ((s.inSession (some { x with
        phase := some { ph with sub := .starting }, phasesRun := min 65535 (x.phasesRun + 1) })).setMachine x.machine
      { s.machine x.machine with bus := postBus (.startPhase 255 ph.kind ph.seconds) .faultService (s.machine x.machine).bus }).raising
        (eventBit .test) := by
  unfold startServicePhase
  simp only [hx, hph]
  rfl

/-- R150, R151: DRAIN has no demand. -/
theorem makePhase_drain (hx : s.session = some x) (n : Nat) : makePhase x.machine .drain n s =
    ((s.inSession (some { x with
        phase := some ⟨.drain, n, 0, none, .starting, none, none⟩, phasesRun := min 65535 (x.phasesRun + 1) })).setMachine x.machine
      { s.machine x.machine with bus := postBus (.startPhase 255 .drain n) .faultService (s.machine x.machine).bus }).raising
        (eventBit .test) := by
  have hmade : makePhase x.machine .drain n s = startServicePhase
      ((s.inSession (some { x with phase := some ⟨.drain, n, 0, none, .waiting, none, none⟩ })).raising (eventBit .test)) := by
    unfold makePhase
    simp only [hx]
    rfl
  rw [hmade, startServicePhase_eq rfl rfl, inSession_raising, inSession_inSession, raising_machine, inSession_machine,
    setMachine_raising, raising_raising]
  rfl

/-- R154: a subtest that enters STARTING. -/
theorem startSubtest_eq (hr : (s.machine a).testRun = some run) : startSubtest a s =
    (s.setMachine a { s.machine a with
      testRun := some { run with sub := .starting, reportDeadline := some (s.now + 120) },
      bus := postBus (.test run.subtest) .faultService (s.machine a).bus }).raising (eventBit .test) := by
  unfold startSubtest
  simp only [hr]
  rw [modifyRun, raise_eq_raising, post_eq, raising_machine, machine_modifyMachine_self, hr, modifyMachine_eq, setMachine_raising,
    setMachine_setMachine]
  rfl

theorem subtestDemand_first (cls : MachineClass) (r : Ratings) : subtestDemand cls 1 r = none := by cases cls <;> rfl

theorem beginSubtest_first (hr : (s.machine a).testRun = some run) (hone : run.subtest = 1) : beginSubtest a s = startSubtest a s := by
  unfold beginSubtest
  simp only [hr, hone, subtestDemand_first]

/-- R153, R154: an operator's test begins. -/
theorem operatorTest_begins : makeRun a .operator (moveTo a .testing s) = (s.setMachine a { s.machine a with
    state := .testing,
    testRun := some {
      origin := .operator, subtest := 1, sub := .starting, reportDeadline := some (s.now + 120), windDown := none },
    bus := postBus (.test 1) .faultService (s.machine a).bus }).raising (eventBit .machine ||| eventBit .test) := by
  have hmade : makeRun a .operator (moveTo a .testing s) = beginSubtest a ((s.setMachine a { s.machine a with
      state := .testing,
      testRun := some { origin := .operator, subtest := 1, sub := .waiting, reportDeadline := none, windDown := none } }).raising
        (eventBit .machine ||| eventBit .test)) := by
    unfold makeRun
    dsimp only
    rw [moveTo_eq, modifyMachine_eq, raising_machine, machine_setMachine_self, setMachine_raising, setMachine_setMachine,
      raise_eq_raising, raise_eq_raising, raising_raising, raising_raising]
    rfl
  have hrun : (((s.setMachine a { s.machine a with
      state := .testing,
      testRun := some { origin := .operator, subtest := 1, sub := .waiting, reportDeadline := none, windDown := none } }).raising
        (eventBit .machine ||| eventBit .test)).machine a).testRun =
      some { origin := .operator, subtest := 1, sub := .waiting, reportDeadline := none, windDown := none } := by
    rw [raising_machine, machine_setMachine_self]
  rw [hmade, beginSubtest_first hrun rfl, startSubtest_eq hrun, raising_machine, machine_setMachine_self, setMachine_raising,
    setMachine_setMachine, raising_raising]
  rfl

theorem washerOpen_iff : washerOpen a s = true ↔ s.classOf a = .washer ∧ (s.machine a).door = some .opened := by
  simp [washerOpen]

end

/-- R150, R151: SERVICE_PHASE of DRAIN. -/
theorem exec_servicePhase_drain {s : State} {x : Session} {hi lo : Byte} (hs : s.listens .service) (hx : s.session = some x)
    (hclosing : x.closing = false) (hph : x.phase = none) (hrun : (s.machine x.machine).testRun = none)
    (hp : (s.machine x.machine).bus.presence = .present) (hf : (s.machine x.machine).bus.inFlight = none) :
    let m := s.machine x.machine
    let asked := hi.toNat * 256 + lo.toNat
    let seconds := max 10 (min asked 1800)
    exec (.servicePhase .service [5, hi, lo]) s = .next (State.answering
      (State.setMachine { s with session := some { x with
          phase := some ⟨.drain, seconds, 0, none, .starting, none, none⟩, phasesRun := min 65535 (x.phasesRun + 1) } }
        x.machine { m with bus := { m.bus with
          inFlight := some ⟨.startPhase 255 .drain seconds, !m.bus.lastTag, .faultService⟩ } })
      .service (replyTo 0x72 (if seconds = asked then .accepted else .clamped)
        (if seconds = asked then [] else [byte (seconds / 256), byte seconds])) (eventBit .test)) := by
  intro m asked seconds
  refine exec_raising (r := .servicePhase) rfl rfl hs rfl rfl ?_
  have hsession : (hunt .service s).session = some x := by rw [hunt_session, hx]
  have hmade := makePhase_drain hsession seconds
  rw [hunt_machine, postBus_free hp hf] at hmade
  have hdecision : decidePhase [5, hi, lo] (hunt .service s) = if seconds = asked then accepted (makePhase x.machine .drain seconds (hunt .service s))
      else { state := makePhase x.machine .drain seconds (hunt .service s), status := .clamped, payload := be2 seconds } := by
    have hkind : kindOf (at1 [5, hi, lo] 0) = some .drain := rfl
    unfold decidePhase
    simp only [hsession, hkind, hunt_machine]
    rw [if_neg (by simp [hclosing]), if_neg (by simp [hph, hrun])]
    rfl
  show decidePhase [5, hi, lo] (hunt .service s) = _
  rw [hdecision, hmade]
  by_cases hsame : seconds = asked
  · rw [if_pos hsame, if_pos hsame, if_pos hsame]
    rfl
  · rw [if_neg hsame, if_neg hsame, if_neg hsame]
    rfl

section
variable {s : State} {a : Addr}

/-- R153: SELF_TEST of a washer whose door is OPEN. -/
theorem exec_selfTest_open (hs : s.listens .operator) (hclass : s.classOf a = .washer)
    (hdoor : (s.machine a).door = some .opened) :
    exec (.selfTest .operator [byte (addrNum a)]) s = .next (s.answering .operator (replyTo 0x35 .badState []) 0) := by
  refine exec_answered (r := .selfTest) rfl rfl hs rfl rfl ?_
  have hopen : washerOpen a (hunt .operator s) = true := washerOpen_iff.mpr ⟨hclass, by rw [hunt_machine]; exact hdoor⟩
  show decideTest .operator [byte (addrNum a)] (hunt .operator s) = _
  unfold decideTest
  rw [withAddress_addrNum]
  unfold operatorTest
  simp [hopen]
  rfl

/-- R153, R154: SELF_TEST of a machine that may begin. -/
theorem exec_selfTest_begins (hs : s.listens .operator) (hconf : s.configured a = true) (hhalted : s.halted = false)
    (hst : (s.machine a).state = .idle) (hpay : (s.machine a).payment = none)
    (hshut : s.classOf a = .dryer ∨ (s.machine a).door ≠ some .opened) (hp : (s.machine a).bus.presence = .present)
    (hf : (s.machine a).bus.inFlight = none) :
    exec (.selfTest .operator [byte (addrNum a)]) s = .next (State.answering (s.setMachine a { s.machine a with
        state := .testing,
        testRun := some {
          origin := .operator, subtest := 1, sub := .starting, reportDeadline := some (s.now + 120), windDown := none },
        bus := { (s.machine a).bus with inFlight := some ⟨.test 1, !(s.machine a).bus.lastTag, .faultService⟩ } }) .operator
        (replyTo 0x35 .accepted []) (eventBit .machine ||| eventBit .test)) := by
  refine exec_raising (r := .selfTest) rfl rfl hs rfl rfl ?_
  have hopen : washerOpen a (hunt .operator s) = false := by
    rw [← Bool.not_eq_true, washerOpen_iff, hunt_machine]
    rintro ⟨hwasher, hopened⟩
    rcases hshut with hdryer | hdoor
    · exact absurd (hwasher.symm.trans hdryer) nofun
    · exact hdoor hopened
  have hbegins := operatorTest_begins (a := a) (s := hunt .operator s)
  rw [hunt_machine, postBus_free hp hf] at hbegins
  show decideTest .operator [byte (addrNum a)] (hunt .operator s) = _
  unfold decideTest
  rw [withAddress_addrNum]
  unfold operatorTest
  simp only [hunt_configured .operator s a hconf, hunt_halted, hhalted, hunt_machine, hst, hpay, hopen, hbegins]
  rfl

end

end Sys2Proof.Machine

/-! PROOF. Replies of a machine in TESTING or SERVICE (R137, R151, R152, R154, R155). -/

namespace Sys2Proof.Machine

section
variable {s t : State} {a : Addr} {x : Shown} {r o : Report} {y : Session} {ph : ServicePhase} {run : TestRun} {d : Changes}

/-! ## A reply reaches the unit -/

theorem resting_of_underService (h : underService (s.machine a) = true) : (s.machine a).state ≠ .running := by
  intro hst
  rw [underService_running hst] at h
  exact absurd h (by decide)

/-- R10: a reply of a machine in TESTING or SERVICE that shows no other door or panel. -/
theorem takeOutcome_service (hunder : underService (s.machine a) = true) (hdoor : d.door = false) (hselection : d.selection = false) :
    takeOutcome a x d s = serviceReport a x (d.activity || readsEcho a x s) d.fault s := by
  rw [takeOutcome_resting (resting_of_underService hunder), takeChanges_none hdoor hselection]
  unfold takeWork
  rw [if_pos hunder]

theorem failingTestDone_clean (hr : r.fault = 0) : failingTestDone a r s = false := by
  unfold failingTestDone
  split
  · rfl
  · simp [hr]

/-- R151, R154: the activity of a reply without a fault code. -/
theorem serviceReport_clean {fault : Bool} (hr : x.report.fault = 0) : serviceReport a x true fault s = serviceActivity a x s := by
  unfold serviceReport
  simp [hr, failingTestDone_clean hr]

theorem serviceActivity_phase (hrun : (s.machine a).testRun = none) : serviceActivity a x s = phaseActivity a x s := by
  unfold serviceActivity
  rw [hrun]
  rfl

theorem serviceActivity_test (hrun : (s.machine a).testRun = some run) : serviceActivity a x s = testActivity a x s := by
  unfold serviceActivity
  rw [hrun]
  rfl

/-! ## Service phases -/

theorem phaseOn_session (hy : s.session = some y) (ha : y.machine = a) (hph : y.phase = some ph) : phaseOn a s = some ph := by
  rw [← ha, phaseOn_eq hy, hph]

theorem modifyPhase_eq {f : ServicePhase → ServicePhase} (hy : s.session = some y) (hph : y.phase = some ph) :
    modifyPhase f s = (s.inSession (some { y with phase := some (f ph) })).raising (eventBit .test) := by
  unfold modifyPhase
  simp only [hy, Option.map_some, hph]
  rfl

theorem phaseActivity_starts {i n : Nat} {k : PhaseKind} (hon : phaseOn a s = some ph) (hw : ph.windDown = none)
    (hsub : ph.sub = .starting) (hi : i = 255) (hr : r.activity = .running) (harg : r.arg = 255) :
    phaseActivity a ⟨some (.startPhase i k n), r⟩ s =
      modifyPhase (fun ph => { ph with sub := .active, deadline := some (s.now + ph.seconds + 120) }) s := by
  unfold phaseActivity
  simp [hon, hw, hsub, tookServiceStart, hi, hr, harg]

theorem phaseActivity_complete (hon : phaseOn a s = some ph) (hw : ph.windDown = none) (hsub : ph.sub = .active)
    (hr : x.report.activity = .complete) (harg : x.report.arg = 255) :
    phaseActivity a x s = finishPhase a .complete (releaseGrant a s) := by
  unfold phaseActivity
  simp [hon, hw, hsub, hr, harg]

theorem phaseActivity_other (hon : phaseOn a s = some ph) (hw : ph.windDown = none) (hsub : ph.sub = .active)
    (hr : x.report.activity ≠ .complete) : phaseActivity a x s = s := by
  unfold phaseActivity
  simp [hon, hw, hsub, hr]

/-- R151: a service phase ends in a session that is not CLOSING. -/
theorem finishPhase_open {outcome : PhaseOutcome} (hon : sessionOf s = some (a, false)) :
    ∃ y, (finishPhase a outcome s).session = some y ∧ y.machine = a ∧ y.phase = none ∧ y.lastOutcome = some outcome ∧
      ∀ k, (finishPhase a outcome s).pool k = s.pool k := by
  obtain ⟨z, hz, hkept⟩ := Option.map_eq_some_iff.mp hon
  obtain ⟨hmachine, hopen⟩ := Prod.mk.inj hkept
  have heq : finishPhase a outcome s =
      (s.inSession (some { z with phase := none, lastOutcome := some outcome })).raising (eventBit .test) := by
    unfold finishPhase
    rw [hz]
    exact if_neg (by simp [hopen])
  rw [heq]
  exact ⟨_, rfl, hmachine, rfl, rfl, fun k => by rw [raising_pool]; cases k <;> rfl⟩

/-- R152: a service phase at work is wound down by a STOP. -/
theorem windDownPhase_posts {cause : StopCause} {outcome : PhaseOutcome} (hon : phaseOn a s = some ph) (hsub : ph.sub = .active)
    (hw : ph.windDown = none) : windDownPhase a cause outcome s =
      post a (.stop cause) .faultService (modifyPhase (fun ph => { ph with
        deadline := none, windDown := some { deadline := s.now + 600, confirmed := false, outcome := outcome } }) s) := by
  unfold windDownPhase
  simp only [hon, hw, hsub]

theorem serviceFault_phase (hrun : (s.machine a).testRun = none) (hon : phaseOn a s = some ph) (hsub : ph.sub = .active) :
    serviceFault a r s = windDownPhase a .machine (.fault r.fault) s := by
  unfold serviceFault
  simp only [hrun, hon, hsub]

theorem failingTestDone_none (hrun : (s.machine a).testRun = none) : failingTestDone a r s = false := by
  unfold failingTestDone
  rw [hrun]

/-- R151: a new fault code in the middle of a service phase. -/
theorem serviceReport_phaseFails {activity : Bool} (hrun : (s.machine a).testRun = none) (hy : s.session = some y)
    (ha : y.machine = a) (hph : y.phase = some ph) (hsub : ph.sub = .active) (hw : ph.windDown = none)
    (hr : x.report.activity = .faultHold) (hfault : x.report.fault ≠ 0) :
    serviceReport a x activity true s =
      windDownPhase a .machine (.fault x.report.fault) (handFault (serviceHanding a x.report.fault s) s) := by
  have hstruck := struck_handFault (serviceHanding a x.report.fault s) a s
  have hrun' : ((handFault (serviceHanding a x.report.fault s) s).machine a).testRun = none := hstruck.testRun.trans hrun
  have hon := phaseOn_session ((handFault_session (serviceHanding a x.report.fault s) s).trans hy) ha hph
  unfold serviceReport
  simp only [failingTestDone_none hrun, hfault, bne_iff_ne, ne_eq, not_false_eq_true, Bool.true_and, Bool.and_false, Bool.or_false,
    if_true, decide_true]
  rw [serviceActivity_phase hrun', phaseActivity_other hon hw hsub (by rw [hr]; decide), ite_self, serviceFault_phase hrun' hon hsub]

/-! ## Tests -/

theorem testActivity_starts (hrun : (s.machine a).testRun = some run) (hw : run.windDown = none) (hsub : run.sub = .starting)
    (hr : r.activity = .testing) (harg : r.arg = run.subtest) :
    testActivity a ⟨some (.test run.subtest), r⟩ s = modifyRun a (fun t => { t with sub := .running }) s := by
  unfold testActivity
  simp [hrun, hw, hsub, hr, harg]

theorem testActivity_done (hrun : (s.machine a).testRun = some run) (hw : run.windDown = none) (hsub : run.sub = .running)
    (hr : x.report.activity = .testDone) (harg : x.report.arg = run.subtest) :
    testActivity a x s = subtestDone a x.report.fault s := by
  unfold testActivity
  simp [hrun, hw, hsub, hr, harg]

theorem modifyRun_machine {f : TestRun → TestRun} (hrun : (s.machine a).testRun = some run) :
    (modifyRun a f s).machine a = { s.machine a with testRun := some (f run) } := by
  rw [modifyRun, raise_machine, machine_modifyMachine_self, hrun]
  rfl

theorem modifyRun_eq {f : TestRun → TestRun} (hrun : (s.machine a).testRun = some run) : modifyRun a f s =
    (s.setMachine a { s.machine a with testRun := some (f run) }).raising (eventBit .test) := by
  rw [modifyRun, modifyMachine_eq, hrun]
  rfl

theorem modifyRun_pool {f : TestRun → TestRun} (k : PoolId) : (modifyRun a f s).pool k = s.pool k :=
  (touched_of (ps := [.machines, .flags]) (by simp)).pool (by simp) k

/-- R155: the part with the grant of a subtest handed back and its report deadline gone. -/
def subtestOver (a : Addr) (s : State) : State :=
  modifyRun a (fun r => { r with reportDeadline := none }) (releaseGrant a s)

/-- R155: what is left of a machine whose subtest is over, when it waits for no grant. -/
theorem subtestOver_leaves (hrun : (s.machine a).testRun = some run) (hw : Unwaiting a s) (hs : sessionOn a s = false) :
    (subtestOver a s).machine a = { s.machine a with testRun := some { run with reportDeadline := none } } ∧
    Ungranted a (subtestOver a s) ∧ sessionOn a (subtestOver a s) = false := by
  have hsame := releaseGrant_bystander hw hs
  obtain ⟨hwaits, hfree⟩ := releaseGrant_frees hw
  refine ⟨?_, ⟨fun k => ?_, fun k => ?_⟩, ?_⟩
  · rw [subtestOver, modifyRun_machine (by rw [hsame]; exact hrun), hsame]
  · rw [subtestOver, modifyRun_pool]
    exact hwaits k
  · rw [subtestOver, modifyRun_pool]
    exact hfree k
  · rw [← hs, ← sessionOn_releaseGrant a a s]
    rfl

theorem subtestDone_passes (hrun : (s.machine a).testRun = some run) (hlast : lastSubtest ((subtestOver a s).classOf a) ≤ run.subtest) :
    subtestDone a 0 s = finishTest a .pass 0 (subtestOver a s) := by
  unfold subtestDone
  simp only [hrun]
  exact (if_neg (not_not_intro rfl)).trans (if_pos hlast)

theorem subtestDone_next (hrun : (s.machine a).testRun = some run) (hlast : run.subtest < lastSubtest ((subtestOver a s).classOf a)) :
    subtestDone a 0 s =
      beginSubtest a (modifyRun a (fun r => { r with subtest := r.subtest + 1, sub := .waiting }) (subtestOver a s)) := by
  unfold subtestDone
  simp only [hrun]
  exact (if_neg (not_not_intro rfl)).trans (if_neg (Nat.not_le.mpr hlast))

theorem subtestDone_fails {code : Nat} (hrun : (s.machine a).testRun = some run) (hcode : code ≠ 0) :
    subtestDone a code s = finishTest a .fail code (subtestOver a s) := by
  unfold subtestDone
  simp only [hrun]
  exact if_pos hcode

theorem ratedDemand_pos {k j : PoolId} {rating n : Nat} (h : ratedDemand k rating = some (j, n)) : n ≠ 0 := by
  unfold ratedDemand at h
  split at h
  · exact absurd h nofun
  · next hne => simp only [Option.some.injEq, Prod.mk.injEq] at h; exact h.2 ▸ hne

theorem subtestDemand_pos {cls : MachineClass} {i : Nat} {q : Ratings} {k : PoolId} {n : Nat}
    (h : subtestDemand cls i q = some (k, n)) : n ≠ 0 := by
  unfold subtestDemand at h
  cases cls <;> (dsimp only at h; split_ifs at h) <;> exact ratedDemand_pos h

/-- R154: a subtest asks for its grant: it waits, or it starts. -/
theorem beginSubtest_outcome (hrun : (s.machine a).testRun = some run) (hfree : Ungranted a s) (hs : sessionOn a s = false) :
    ((∃ k, ((beginSubtest a s).pool k).hasEntry a = true) ∧ (beginSubtest a s).machine a = s.machine a) ∨
    (beginSubtest a s).machine a = { s.machine a with
      testRun := some { run with sub := .starting, reportDeadline := some (s.now + 120) },
      bus := postBus (.test run.subtest) .faultService (s.machine a).bus } := by
  have hstarts : ∀ u : State, u.machine a = s.machine a → u.now = s.now → (startSubtest a u).machine a = { s.machine a with
      testRun := some { run with sub := .starting, reportDeadline := some (s.now + 120) },
      bus := postBus (.test run.subtest) .faultService (s.machine a).bus } := by
    intro u hu hnow
    rw [startSubtest_eq (by rw [hu]; exact hrun), raising_machine, machine_setMachine_self, hu, hnow]
  unfold beginSubtest
  simp only [hrun]
  cases hd : subtestDemand (s.classOf a) run.subtest (s.ratings a) with
  | none => exact .inr (hstarts s rfl rfl)
  | some p =>
    obtain ⟨k, n⟩ := p
    rcases requestGrant_outcome (k := k) (purpose := .subtest) (demand := n) (suspendable := false) hfree hs
      (subtestDemand_pos hd) with ⟨hwaits, hsame⟩ | ⟨u, hu, hnow, hgranted⟩
    · exact .inl ⟨⟨k, hwaits⟩, hsame⟩
    · exact .inr (hgranted.trans (hstarts u hu hnow))

theorem moveTo_state (a : Addr) (st : MachineState) (s : State) : ((moveTo a st s).machine a).state = st := by
  rw [moveTo_machine_self]

theorem releaseToRoom_state (a : Addr) (s : State) : ((releaseToRoom a s).machine a).state ≠ .testing := by
  have hrest : ∀ m, restingState m ≠ .testing := fun m => by
    unfold restingState
    split <;> decide
  unfold releaseToRoom
  split
  · rw [moveTo_state]
    decide
  · split
    · rw [moveTo_state]
      exact hrest _
    · unfold offer
      split
      · rw [moveTo_state]
        decide
      · rw [moveTo_state]
        exact hrest _

/-- R155: an operator's test that ends leaves TESTING. -/
theorem afterTest_state (a : Addr) (s : State) : ((afterTest a .operator s).machine a).state ≠ .testing := by
  unfold afterTest
  dsimp only
  split
  · exact releaseToRoom_state a s
  · next h => exact h

end

end Sys2Proof.Machine

/-! PROOF. Service work begins, and replies see it through (R150, R151, R153 to R155). -/

namespace Sys2Proof.Machine

/-- A reply of a machine in TESTING or SERVICE that shows no other door or panel. -/
structure ServesOn (s : State) (a : Addr) (bytes : List Byte) (echo : Bool) (r o : Report) : Prop where
  takes : TakesReply s a bytes echo r
  report : (s.machine a).bus.report = some o
  door : o.door = r.door
  panel : o.selection = r.selection
  last : (s.machine a).bus.queued = none
  waits : Unwaiting a s
  under : underService (s.machine a) = true

section
variable {s t : State} {a : Addr} {bytes : List Byte} {echo : Bool} {r o : Report} {y : Session} {ph : ServicePhase} {run : TestRun}

/-- R151, R154: the reply that takes the command of work in STARTING, without a fault code. -/
theorem ServesOn.takesCommand {cmd : BusCommand} {poster : Poster} (h : ServesOn s a bytes echo r o)
    (hf : (s.machine a).bus.inFlight = some ⟨cmd, echo, poster⟩) (hfault : r.fault = 0)
    (hread : readsEcho a ⟨some cmd, r⟩ (s.taking a echo) = true) : exec (.replyValid bytes) s = .next
      ((serviceActivity a ⟨some cmd, r⟩ (s.taking a echo)).heard a r) := by
  rw [h.takes.taken h.report hf h.last, takeOutcome_service (by rw [taking_machine_self]; exact h.under)
    (changesOf_door h.door) (changesOf_selection h.panel), hread, Bool.or_true, serviceReport_clean hfault]

/-- R10: a reply of a machine under service with no command in flight. -/
theorem ServesOn.quiet (h : ServesOn s a bytes echo r o) (hf : (s.machine a).bus.inFlight = none)
    (hout : serviceReport a ⟨none, r⟩ (changesOf (some o) r).activity (changesOf (some o) r).fault s.windowClosed = t) :
    exec (.replyValid bytes) s = .next (t.heard a r) := by
  refine h.takes.quiet h.report hf ?_
  rw [takeOutcome_service (s := s.windowClosed) h.under (changesOf_door h.door) (changesOf_selection h.panel), readsEcho_none,
    Bool.or_false, hout]

theorem ServesOn.acts (h : ServesOn s a bytes echo r o) (hf : (s.machine a).bus.inFlight = none) (hnew : o.activity ≠ r.activity)
    (hfault : r.fault = 0) (hout : serviceActivity a ⟨none, r⟩ s.windowClosed = t) :
    exec (.replyValid bytes) s = .next (t.heard a r) :=
  h.quiet hf (by rw [changesOf_acts hnew, serviceReport_clean hfault, hout])

/-! ## Service phases -/

theorem taking_inSession (z : Option Session) : (s.taking a echo).inSession z = (s.windowClosed.inSession z).setMachine a
    { s.machine a with bus := { (s.machine a).bus with lastTag := echo, inFlight := none } } := rfl

/-- R151: the reply that takes the START_PHASE of a service phase and shows it running. -/
theorem ServesOn.phaseStarts {kind : PhaseKind} {third : Nat} {poster : Poster} (h : ServesOn s a bytes echo r o)
    (hrun : (s.machine a).testRun = none) (hy : s.session = some y) (ha : y.machine = a) (hph : y.phase = some ph)
    (hw : ph.windDown = none) (hsub : ph.sub = .starting)
    (hf : (s.machine a).bus.inFlight = some ⟨.startPhase 255 kind third, echo, poster⟩) (hr : r.activity = .running)
    (harg : r.arg = 255) (hfault : r.fault = 0) : exec (.replyValid bytes) s = .next
      (((s.windowClosed.inSession (some { y with phase := some { ph with
          sub := .active, deadline := some (s.now + ph.seconds + 120) } })).setMachine a { s.machine a with
        bus := { (s.machine a).bus with
          missed := 0, report := some r, lastTag := echo, inFlight := none } }).raising (eventBit .test)) := by
  have hself := taking_machine_self s a echo
  have hsession : (s.taking a echo).session = some y := hy
  have hon := phaseOn_session hsession ha hph
  have hcalm : windingDown a (s.taking a echo) = false := by
    rw [windingDown, hself, hon]
    simp [hrun, hw]
  have hread : readsEcho a ⟨some (.startPhase 255 kind third), r⟩ (s.taking a echo) = true := by
    have hunder : underService ((s.taking a echo).machine a) = true := by
      rw [hself]
      exact h.under
    unfold readsEcho
    simp [-taking_machine_self, hunder, hon, hcalm, tookServiceStart, hsub]
  rw [h.takesCommand hf hfault hread, serviceActivity_phase (by rw [hself]; exact hrun),
    phaseActivity_starts hon hw hsub rfl hr harg, modifyPhase_eq hsession hph, State.heard, raising_machine, inSession_machine, hself,
    setMachine_raising, taking_inSession, setMachine_setMachine]
  rfl

/-- R151: a service phase is complete. -/
theorem ServesOn.phaseCompletes (h : ServesOn s a bytes echo r o) (hrun : (s.machine a).testRun = none) (hy : s.session = some y)
    (ha : y.machine = a) (hopen : y.closing = false) (hph : y.phase = some ph) (hw : ph.windDown = none) (hsub : ph.sub = .active)
    (hf : (s.machine a).bus.inFlight = none) (hnew : o.activity ≠ .complete) (hr : r.activity = .complete) (harg : r.arg = 255)
    (hfault : r.fault = 0) : ∃ t y, exec (.replyValid bytes) s = .next t ∧ t.session = some y ∧ y.machine = a ∧ y.phase = none ∧
      y.lastOutcome = some .complete ∧ ∀ k, (t.pool k).holdsGrant a = false := by
  have hwaits : Unwaiting a s.windowClosed := (unwaiting_iff ..).mpr ((unwaiting_iff ..).mp h.waits)
  have hon : phaseOn a s.windowClosed = some ph := phaseOn_session (s := s.windowClosed) hy ha hph
  have hout := (serviceActivity_phase (s := s.windowClosed) (x := ⟨none, r⟩) hrun).trans
    (phaseActivity_complete hon hw hsub hr harg)
  have hsession : sessionOf (releaseGrant a s.windowClosed) = some (a, false) := by
    rw [unmoved_sessionOf.releaseGrant]
    show s.session.map _ = _
    rw [hy, Option.map_some, ha, hopen]
  obtain ⟨z, hz, hza, hzph, hzout, hpools⟩ := finishPhase_open (outcome := .complete) hsession
  refine ⟨_, z, h.acts hf (by rw [hr]; exact hnew) hfault hout, ?_, hza, hzph, hzout, fun k => ?_⟩
  · exact hz
  · rw [heard_pool, hpools]
    exact (releaseGrant_frees hwaits).2 k

/-- R151: a service phase meets a fault. -/
theorem ServesOn.phaseFails (h : ServesOn s a bytes echo r o) (hrun : (s.machine a).testRun = none) (hy : s.session = some y)
    (ha : y.machine = a) (hph : y.phase = some ph) (hw : ph.windDown = none) (hsub : ph.sub = .active)
    (hf : (s.machine a).bus.inFlight = none) (hr : r.activity = .faultHold) (hfault : r.fault ≠ 0) (hnew : o.fault ≠ r.fault) :
    ∃ t, exec (.replyValid bytes) s = .next t ∧ faultLast (addrNum a) r.fault t ∧
      t.session = some { y with phase := some { ph with
        deadline := none, windDown := some ⟨s.now + 600, false, .fault r.fault⟩ } } ∧
      (t.machine a).bus = { (s.machine a).bus with
        missed := 0, report := some r, inFlight := some ⟨.stop .machine, !(s.machine a).bus.lastTag, .faultService⟩ } := by
  have hout := serviceReport_phaseFails (s := s.windowClosed) (x := ⟨none, r⟩) (activity := (changesOf (some o) r).activity)
    hrun hy ha hph hsub hw hr hfault
  have hexec := h.quiet hf (by rw [changesOf_fails hnew])
  have hlast := faultLast_handFault (serviceHanding a r.fault s.windowClosed) s.windowClosed
  have hbus := (struck_handFault (serviceHanding a r.fault s.windowClosed) a s.windowClosed).bus
  have hsession := (handFault_session (serviceHanding a r.fault s.windowClosed) s.windowClosed).trans hy
  have hnow := handFault_now (serviceHanding a r.fault s.windowClosed) s.windowClosed
  generalize handFault (serviceHanding a r.fault s.windowClosed) s.windowClosed = u at *
  have hon := phaseOn_session hsession ha hph
  have hkept := hlast.of_touches (touched_windDownPhase a .machine (.fault r.fault) u) (by simp) (by simp)
  rw [windDownPhase_posts hon hsub hw, modifyPhase_eq hsession hph, hnow] at hkept
  rw [hout, windDownPhase_posts hon hsub hw, modifyPhase_eq hsession hph, hnow] at hexec
  refine ⟨_, hexec, hkept.heard, ?_, ?_⟩
  · rfl
  · rw [heard_machine_self, post_machine, if_pos rfl, raising_machine, inSession_machine, hbus, windowClosed_machine,
      postBus_free h.takes.present hf]

/-! ## Tests -/

/-- R154: the reply that takes TEST and shows the subtest running. -/
theorem ServesOn.testStarts {poster : Poster} (h : ServesOn s a bytes echo r o) (hrun : (s.machine a).testRun = some run)
    (hw : run.windDown = none) (hs : sessionOn a s = false) (hsub : run.sub = .starting)
    (hf : (s.machine a).bus.inFlight = some ⟨.test run.subtest, echo, poster⟩) (hr : r.activity = .testing)
    (harg : r.arg = run.subtest) (hfault : r.fault = 0) : exec (.replyValid bytes) s = .next
      ((s.windowClosed.setMachine a { s.machine a with
        testRun := some { run with sub := .running },
        bus := { (s.machine a).bus with
          missed := 0, report := some r, lastTag := echo, inFlight := none } }).raising (eventBit .test)) := by
  have hself := taking_machine_self s a echo
  have hrun' : ((s.taking a echo).machine a).testRun = some run := by rw [hself]; exact hrun
  have hon : phaseOn a (s.taking a echo) = none := by
    unfold phaseOn
    rw [show sessionOn a (s.taking a echo) = false from hs]
    rfl
  have hunder : underService ((s.taking a echo).machine a) = true := by
    rw [hself]
    exact h.under
  have hcalm : windingDown a (s.taking a echo) = false := by
    rw [windingDown, hrun', hon]
    simp [hw]
  have hread : readsEcho a ⟨some (.test run.subtest), r⟩ (s.taking a echo) = true := by
    unfold readsEcho
    simp [-taking_machine_self, hunder, hrun', hcalm, hsub]
  rw [h.takesCommand hf hfault hread, serviceActivity_test hrun', testActivity_starts hrun' hw hsub hr harg, modifyRun_eq hrun',
    heard_raised, hself, State.taking, setMachine_setMachine]

/-- R155: a subtest is done without a code. -/
theorem ServesOn.testDone (h : ServesOn s a bytes echo r o) (hrun : (s.machine a).testRun = some run)
    (hw : run.windDown = none) (hsub : run.sub = .running) (hf : (s.machine a).bus.inFlight = none)
    (hnew : o.activity ≠ .testDone) (hr : r.activity = .testDone) (harg : r.arg = run.subtest) (hfault : r.fault = 0) :
    exec (.replyValid bytes) s = .next ((subtestDone a 0 s.windowClosed).heard a r) := by
  refine h.acts hf (by rw [hr]; exact hnew) hfault ?_
  rw [serviceActivity_test (s := s.windowClosed) hrun, testActivity_done (s := s.windowClosed) (x := ⟨none, r⟩) hrun hw hsub hr harg,
    hfault]

theorem touched_subtestOver (a : Addr) (s : State) : Touches [.machines, .flags, .session, .pools] s (subtestOver a s) := by
  unfold subtestOver
  exact touched_of (by simp)

theorem lastSubtest_eq (cls : MachineClass) : lastSubtest cls = if cls = .washer then 7 else 5 := by cases cls <;> rfl

theorem subtestOver_class : lastSubtest ((subtestOver a s.windowClosed).classOf a) = if s.classOf a = .washer then 7 else 5 := by
  rw [(touched_subtestOver a s.windowClosed).classOf (by simp) a, lastSubtest_eq, windowClosed_classOf]

/-- R155: the last subtest is done. -/
theorem ServesOn.testPasses (h : ServesOn s a bytes echo r o) (hrun : (s.machine a).testRun = some run)
    (horigin : run.origin = .operator) (hw : run.windDown = none) (hs : sessionOn a s = false) (hsub : run.sub = .running)
    (hf : (s.machine a).bus.inFlight = none) (hnew : o.activity ≠ .testDone) (hr : r.activity = .testDone)
    (harg : r.arg = run.subtest) (hfault : r.fault = 0) (hlast : run.subtest = if s.classOf a = .washer then 7 else 5) :
    ∃ t, exec (.replyValid bytes) s = .next t ∧ (t.machine a).testRun = none ∧
      (t.machine a).lastTest = some ⟨.pass, run.subtest, 0⟩ ∧ (t.machine a).state ≠ .testing ∧
      ∀ k, (t.pool k).holdsGrant a = false := by
  have hwaits : Unwaiting a s.windowClosed := (unwaiting_iff ..).mpr ((unwaiting_iff ..).mp h.waits)
  obtain ⟨hself, hfree, -⟩ := subtestOver_leaves (s := s.windowClosed) hrun hwaits hs
  have hover : ((subtestOver a s.windowClosed).machine a).testRun = some { run with reportDeadline := none } := by rw [hself]
  have htest := testOf_finishTest hover .pass 0
  rw [testOf, Prod.mk.injEq, Option.map_eq_none_iff] at htest
  have hfinished := finishTest_eq hover .pass 0
  have hpools := (touched_finishTest a .pass 0 (subtestOver a s.windowClosed)).pool (by simp)
  have hstate := afterTest_state a (testFailed a .pass run.subtest (testEnded a .pass run.subtest 0 (subtestOver a s.windowClosed)))
  refine ⟨_, (h.testDone hrun hw hsub hf hnew hr harg hfault).trans
    (by rw [subtestDone_passes (s := s.windowClosed) hrun (by rw [subtestOver_class, hlast])]), ?_, ?_, ?_, fun k => ?_⟩
  · rw [heard_machine_self]
    exact htest.1
  · rw [heard_machine_self]
    exact htest.2
  · rw [heard_machine_self, hfinished, horigin]
    exact hstate
  · rw [heard_pool, hpools k]
    exact hfree.2 k

/-- R155: the part with the next subtest of a machine in WAITING. -/
def nextSubtest (a : Addr) (s : State) : State := modifyRun a (fun r => { r with subtest := r.subtest + 1, sub := .waiting }) s

theorem nextSubtest_leaves (hrun : (s.machine a).testRun = some run) (hfree : Ungranted a s) (hs : sessionOn a s = false) :
    (nextSubtest a s).machine a = { s.machine a with
      testRun := some { run with subtest := run.subtest + 1, sub := .waiting } } ∧
    Ungranted a (nextSubtest a s) ∧ sessionOn a (nextSubtest a s) = false ∧ (nextSubtest a s).now = s.now :=
  ⟨modifyRun_machine hrun, ⟨fun k => by rw [nextSubtest, modifyRun_pool]; exact hfree.1 k,
    fun k => by rw [nextSubtest, modifyRun_pool]; exact hfree.2 k⟩, hs, rfl⟩

/-- R154, R155: the next subtest. -/
theorem ServesOn.testGoesOn (h : ServesOn s a bytes echo r o) (hrun : (s.machine a).testRun = some run)
    (hw : run.windDown = none) (hs : sessionOn a s = false) (hsub : run.sub = .running)
    (hf : (s.machine a).bus.inFlight = none) (hnew : o.activity ≠ .testDone) (hr : r.activity = .testDone)
    (harg : r.arg = run.subtest) (hfault : r.fault = 0) (hlast : run.subtest < if s.classOf a = .washer then 7 else 5) :
    ∃ t next, exec (.replyValid bytes) s = .next t ∧ (t.machine a).testRun = some next ∧ next.subtest = run.subtest + 1 ∧
      (next.sub = .waiting ∧ (∃ k, (t.pool k).hasEntry a = true) ∨
        next.sub = .starting ∧ next.reportDeadline = some (s.now + 120) ∧
        (t.machine a).bus.inFlight = some ⟨.test (run.subtest + 1), !(s.machine a).bus.lastTag, .faultService⟩) := by
  have hwaits : Unwaiting a s.windowClosed := (unwaiting_iff ..).mpr ((unwaiting_iff ..).mp h.waits)
  have hnow : (subtestOver a s.windowClosed).now = s.now := ((touched_subtestOver a s.windowClosed).same .clock (by simp)).1
  have hdone : subtestDone a 0 s.windowClosed = beginSubtest a (nextSubtest a (subtestOver a s.windowClosed)) :=
    subtestDone_next (s := s.windowClosed) hrun (by rw [subtestOver_class]; exact hlast)
  obtain ⟨hself, hfree, hsession⟩ := subtestOver_leaves (s := s.windowClosed) hrun hwaits hs
  have hexec := h.testDone hrun hw hsub hf hnew hr harg hfault
  rw [hdone] at hexec
  rw [windowClosed_machine] at hself
  generalize subtestOver a s.windowClosed = u at *
  obtain ⟨hnext, hfree, hsession, hnow'⟩ := nextSubtest_leaves (s := u) (run := { run with reportDeadline := none })
    (by rw [hself]) hfree hsession
  rw [hnow] at hnow'
  rw [hself] at hnext
  generalize nextSubtest a u = v at *
  have hbegins := beginSubtest_outcome (a := a) (s := v)
    (run := { run with reportDeadline := none, subtest := run.subtest + 1, sub := .waiting }) (by rw [hnext]) hfree hsession
  rw [hnext, hnow'] at hbegins
  rcases hbegins with ⟨⟨k, hk⟩, hm⟩ | hm
  · exact ⟨_, _, hexec, by rw [heard_machine_self, hm], rfl, .inl ⟨rfl, k, by rw [heard_pool]; exact hk⟩⟩
  · refine ⟨_, _, hexec, by rw [heard_machine_self, hm], rfl, .inr ⟨rfl, rfl, ?_⟩⟩
    rw [heard_machine_self, hm, postBus_free h.takes.present hf]

/-! ## A subtest that fails -/

theorem sessionOn_subtestOver : sessionOn a (subtestOver a s) = sessionOn a s :=
  Eq.trans (b := sessionOn a (releaseGrant a s)) rfl (sessionOn_releaseGrant a a s)

/-- R138: the record at the tail after a handing carries the subtest handed. -/
theorem handFault_tail (h : Handing) (s : State) : ∃ f, (handFault h s).faults.getLast? = some f ∧ f.machine = h.machine ∧
    f.code = h.code ∧ f.lastTime = s.now ∧ f.subtest = h.subtest := by
  rw [handFault_faults]
  unfold recordFault
  cases hfound : s.faults.find? (recordOf h) with
  | none => exact ⟨_, List.getLast?_concat .., rfl, rfl, rfl, rfl⟩
  | some f =>
    have hpair := List.find?_some hfound
    simp only [recordOf, Bool.and_eq_true, beq_iff_eq] at hpair
    exact ⟨_, List.getLast?_concat .., hpair.1, hpair.2, rfl, rfl⟩

theorem finishTest_session {outcome : TestOutcome} {code : Nat} (hrun : (s.machine a).testRun = some run)
    (horigin : run.origin = .operator) : (finishTest a outcome code s).session = s.session := by
  have hafter : ∀ t, (afterTest a .operator t).session = t.session := fun t => by
    unfold afterTest
    dsimp only
    split
    · exact touched_releaseToRoom a t .session (by simp)
    · rfl
  have hfailed : ∀ t, (testFailed a outcome run.subtest t).session = t.session := fun t => by
    unfold testFailed
    split
    · exact handFault_session _ t
    · rfl
  rw [finishTest_eq hrun, horigin, hafter, hfailed]
  rfl

/-- R155: TEST_FAIL is the last fault of a test that ends with FAIL. -/
theorem finishTest_tail {code : Nat} (hrun : (s.machine a).testRun = some run) :
    ∃ f, (finishTest a .fail code s).faults.getLast? = some f ∧ f.machine = addrNum a ∧ f.code = faultTestFail ∧
      f.lastTime = s.now ∧ f.subtest = some run.subtest := by
  have hafter := touched_afterTest a run.origin (testFailed a .fail run.subtest (testEnded a .fail run.subtest code s)) .faults (by simp)
  rw [finishTest_eq hrun, show (afterTest a run.origin _).faults = _ from hafter, testFailed, if_pos rfl]
  exact handFault_tail _ _

/-- R137, R155: a subtest done with a code, which is handed over whether it is new or not. -/
theorem serviceReport_testFails {x : Shown} {fault : Bool} (hrun : (s.machine a).testRun = some run)
    (horigin : run.origin = .operator) (hw : run.windDown = none) (hs : sessionOn a s = false) (hsub : run.sub = .running)
    (hr : x.report.activity = .testDone) (harg : x.report.arg = run.subtest) (hfault : x.report.fault ≠ 0) :
    serviceReport a x true fault s =
      finishTest a .fail x.report.fault (subtestOver a (handFault (serviceHanding a x.report.fault s) s)) := by
  have hfailing : failingTestDone a x.report s = true := by
    unfold failingTestDone
    simp [hrun, hw, hsub, hr, harg, hfault]
  have hstruck := struck_handFault (serviceHanding a x.report.fault s) a s
  have hrun' : ((handFault (serviceHanding a x.report.fault s) s).machine a).testRun = some run := hstruck.testRun.trans hrun
  have hs' : sessionOn a (handFault (serviceHanding a x.report.fault s) s) = false := by
    rw [sessionOn, handFault_session]
    exact hs
  have hacted := (serviceActivity_test (x := x) hrun').trans ((testActivity_done hrun' hw hsub hr harg).trans
    (subtestDone_fails hrun' hfault))
  have hover : ∃ q, ((subtestOver a (handFault (serviceHanding a x.report.fault s) s)).machine a).testRun = some q ∧
      q.origin = .operator := by
    have htest := (unmoved_testOf a).releaseGrant a (handFault (serviceHanding a x.report.fault s) s)
    simp only [testOf, hrun', Option.map_some, Prod.mk.injEq] at htest
    obtain ⟨q, hq, hkept⟩ := Option.map_eq_some_iff.mp htest.1
    exact ⟨{ q with reportDeadline := none }, by rw [subtestOver, modifyRun_machine hq],
      ((Prod.mk.inj hkept).1).trans horigin⟩
  have hsessionOver : sessionOn a (subtestOver a (handFault (serviceHanding a x.report.fault s) s)) = false := by
    rw [sessionOn_subtestOver, hs']
  unfold serviceReport
  simp only [hfailing, Bool.and_true, Bool.or_true, if_true, Bool.true_or]
  rw [hacted]
  generalize subtestOver a (handFault (serviceHanding a x.report.fault s) s) = u at hover hsessionOver ⊢
  obtain ⟨q, hq, hqorigin⟩ := hover
  have hnone : ((finishTest a .fail x.report.fault u).machine a).testRun = none := by
    have htest := testOf_finishTest hq .fail x.report.fault
    rw [testOf, Prod.mk.injEq, Option.map_eq_none_iff] at htest
    exact htest.1
  have hoff : phaseOn a (finishTest a .fail x.report.fault u) = none := by
    rw [phaseOn, sessionOn, finishTest_session hq hqorigin]
    exact if_neg (by rw [show (u.session.map fun x => decide (x.machine = a)).getD false = false from hsessionOver]; decide)
  split
  · unfold serviceFault
    simp only [hnone, hoff]
  · rfl

/-- R155: a subtest is done with a code. -/
theorem ServesOn.testFails (h : ServesOn s a bytes echo r o) (hrun : (s.machine a).testRun = some run)
    (horigin : run.origin = .operator) (hw : run.windDown = none) (hs : sessionOn a s = false) (hsub : run.sub = .running)
    (hf : (s.machine a).bus.inFlight = none) (hnew : o.activity ≠ .testDone) (hr : r.activity = .testDone)
    (harg : r.arg = run.subtest) (hfault : r.fault ≠ 0) :
    ∃ t, exec (.replyValid bytes) s = .next t ∧ (t.machine a).testRun = none ∧
      (t.machine a).lastTest = some ⟨.fail, run.subtest, r.fault⟩ ∧ faultLast (addrNum a) 0x15 t ∧
      ∃ f ∈ t.faults, f.machine = addrNum a ∧ f.code = r.fault ∧ f.lastTime = s.now ∧ f.subtest = some run.subtest := by
  have hwaits : Unwaiting a s.windowClosed := (unwaiting_iff ..).mpr ((unwaiting_iff ..).mp h.waits)
  have hexec := h.quiet hf (by rw [changesOf_acts (by rw [hr]; exact hnew)])
  rw [serviceReport_testFails (s := s.windowClosed) (x := ⟨none, r⟩) hrun horigin hw hs hsub hr harg hfault] at hexec
  have hstruck := struck_handFault (serviceHanding a r.fault s.windowClosed) a s.windowClosed
  have hrun' : ((handFault (serviceHanding a r.fault s.windowClosed) s.windowClosed).machine a).testRun = some run :=
    hstruck.testRun.trans hrun
  have hs' : sessionOn a (handFault (serviceHanding a r.fault s.windowClosed) s.windowClosed) = false := by
    rw [sessionOn, handFault_session]
    exact hs
  have hwaits' : Unwaiting a (handFault (serviceHanding a r.fault s.windowClosed) s.windowClosed) :=
    hwaits.touch (touched_handFault _ _) (by simp)
  obtain ⟨f, hlast, hmachine, hcode, htime, hsubtest⟩ := handFault_tail (serviceHanding a r.fault s.windowClosed) s.windowClosed
  have hnow := handFault_now (serviceHanding a r.fault s.windowClosed) s.windowClosed
  rw [show (serviceHanding a r.fault s.windowClosed).subtest = some run.subtest from congrArg (Option.map _) hrun] at hsubtest
  generalize handFault (serviceHanding a r.fault s.windowClosed) s.windowClosed = u at *
  obtain ⟨hself, -, -⟩ := subtestOver_leaves hrun' hwaits' hs'
  have hover : ((subtestOver a u).machine a).testRun = some { run with reportDeadline := none } := by rw [hself]
  have hkept := touched_subtestOver a u
  have hoverNow : (subtestOver a u).now = u.now := (hkept.same .clock (by simp)).1
  have htail : (subtestOver a u).faults.getLast? = some f := by
    rw [show (subtestOver a u).faults = u.faults from hkept .faults (by simp), hlast]
  generalize subtestOver a u = v at *
  have htest := testOf_finishTest hover .fail r.fault
  rw [testOf, Prod.mk.injEq, Option.map_eq_none_iff] at htest
  obtain ⟨g, hgtail, hgmachine, hgcode, hgtime, hgsubtest⟩ := finishTest_tail (code := r.fault) hover
  have hgmem : g ∈ (finishTest a .fail r.fault v).faults := List.mem_of_getLast? hgtail
  have hfmem : f.code ≠ faultTestFail → f ∈ (finishTest a .fail r.fault v).faults := mem_faults_finishTest hover .fail r.fault htail
  have hend : (finishTest a .fail r.fault v).now = v.now := ((touched_finishTest a .fail r.fault v).same .clock (by simp)).1
  generalize finishTest a .fail r.fault v = w at *
  refine ⟨_, hexec, by rw [heard_machine_self]; exact htest.1, by rw [heard_machine_self]; exact htest.2, ?_, ?_⟩
  · exact faultLast.heard ⟨g, hgtail, hgmachine, hgcode, hgtime.trans hend.symm⟩
  · by_cases hsame : r.fault = faultTestFail
    · exact ⟨g, hgmem, hgmachine, hgcode.trans hsame.symm, hgtime.trans (hoverNow.trans hnow), hgsubtest⟩
    · exact ⟨f, hfmem (by rw [hcode]; exact hsame), hmachine, hcode, htime, hsubtest⟩

end

/-- Settles O55: the two requests post their command; each reply is read by the work it belongs to. -/
theorem serviceWorkBegins : Obligations.ServiceWorkBegins := by
  refine ⟨fun s x hi lo hs hx hclosing hph hrun hp hf => exec_servicePhase_drain hs hx hclosing hph hrun hp hf,
    fun s a hs hconf hhalted hst hpay => ⟨fun hclass hdoor => exec_selfTest_open hs hclass hdoor,
      fun hshut hp hf => exec_selfTest_begins hs hconf hhalted hst hpay hshut hp hf⟩, ?_⟩
  intro s a bytes echo r o hs hb hp hfresh he hreport hdoor hselection hq hne hnw
  have hw : Unwaiting a s := (unwaiting_iff ..).mpr ⟨hne, hnw⟩
  have htakes : TakesReply s a bytes echo r := ⟨hs, hb, hp, hfresh, he⟩
  refine ⟨fun x ph hst hrun hx hxa hopen hph hcalm => ?_, fun run hst hrun horigin hcalm harg hsession => ?_⟩
  · have hserves : ServesOn s a bytes echo r o :=
      ⟨htakes, hreport, hdoor, hselection, hq, hw, by simp [underService, show (s.machine a).state = _ from hst]⟩
    refine ⟨fun kind third poster hsub hf hr harg hfault => ?_, fun hsub hf hnew hr harg hfault => ?_,
      fun hsub hf hr hlow hhigh hnew => ?_⟩
    · exact hserves.phaseStarts hrun hx hxa hph hcalm hsub hf hr harg hfault
    · obtain ⟨t, y, ht, hy, hya, hyph, hout, hgrants⟩ :=
        hserves.phaseCompletes hrun hx hxa hopen hph hcalm hsub hf hnew hr harg hfault
      exact ⟨t, y, ht, hy, hya, hyph, hout, hgrants .electric, hgrants .water⟩
    · exact hserves.phaseFails hrun hx hxa hph hcalm hsub hf hr (by omega) hnew
  · have hserves : ServesOn s a bytes echo r o :=
      ⟨htakes, hreport, hdoor, hselection, hq, hw, by simp [underService, show (s.machine a).state = _ from hst]⟩
    have hoff : sessionOn a s = false := by
      rw [← Bool.not_eq_true, sessionOn_iff]
      rintro ⟨x, hx, hxa⟩
      exact hsession x hx hxa
    refine ⟨fun poster hsub hf hr hfault => ?_, fun hsub hf hnew hr => ⟨fun hfault hlast => ?_, fun hfault hlast => ?_,
      fun hfault => ?_⟩⟩
    · exact hserves.testStarts hrun hcalm hoff hsub hf hr harg hfault
    · obtain ⟨t, ht, hnone, hout, hstate, hgrants⟩ :=
        hserves.testPasses hrun horigin hcalm hoff hsub hf hnew hr harg hfault hlast
      exact ⟨t, ht, hnone, hout, hstate, hgrants .electric, hgrants .water⟩
    · obtain ⟨t, next, ht, hnext, hnumber, hwaits | hstarts⟩ :=
        hserves.testGoesOn hrun hcalm hoff hsub hf hnew hr harg hfault hlast
      · exact ⟨t, next, ht, hnext, hnumber, .inl ⟨hwaits.1, exists_hasEntry.mp hwaits.2⟩⟩
      · exact ⟨t, next, ht, hnext, hnumber, .inr hstarts⟩
    · exact hserves.testFails hrun horigin hcalm hoff hsub hf hnew hr harg hfault

end Sys2Proof.Machine

/-! PROOF. The pay stations: refusals that settle the record, and the claim of a QUEUE (R90, R91, R127). -/

namespace Sys2Proof.Machine

section
variable {s : State} {i : StationId} {card : Nat} {slot : Slot} {m : Message} {e : RefundEntry} {before behind : List RefundEntry}

/-! ## A record that settles -/

/-- R86, R90: a record that stands CARD_READY, with BALANCE shown where it is still due. -/
def readied (s : State) (x : Station) : Station := { x with
  state := .cardReady, request := none, target := none, amount := 0, seconds := 0, minutes := 0, writing := none, begun := false,
  attempt := 1, balanceDue := false,
  display := x.display ++ if x.balanceDue = true then
    [{ plainMessage msgBalance with first := x.pair.value, second := heldReady (x.card.getD 0) s }] else [] }

@[simp] theorem setStation_params (i : StationId) (x : Station) : (s.setStation i x).params = s.params := by cases i <;> rfl

@[simp] theorem setStation_roster (i : StationId) (x : Station) (a : Addr) : (s.setStation i x).roster a = s.roster a := by
  cases i <;> rfl
@[simp] theorem setStation_classOf (i : StationId) (x : Station) (a : Addr) : (s.setStation i x).classOf a = s.classOf a := by
  cases i <;> rfl
@[simp] theorem setStation_configured (i : StationId) (x : Station) (a : Addr) :
    (s.setStation i x).configured a = s.configured a := by cases i <;> rfl

theorem heldReady_setStation (x : Station) : heldReady card (s.setStation i x) = heldReady card s := by
  simp only [heldReady, State.refund, setStation_refunds]

theorem toReady_eq : toReady i s = s.setStation i (readied s (s.station i)) := by
  unfold toReady readied
  by_cases hdue : (s.station i).balanceDue = true
  · simp [hdue, display, modifyStation, heldReady_setStation]
  · simp [hdue]

/-- Nothing of a card waits to be credited at a record (R90). -/
def nothingToCredit (s : State) (i : StationId) (card : Nat) : Prop :=
  ∀ e ∈ s.refunds, e.card = card → e.state ≠ .ready ∨ s.params.ceiling ≤ (s.station i).pair.value

/-- R90: a record with nothing to credit stands ready. -/
theorem settleRecord_stands (hcard : (s.station i).card = some card) (hnone : nothingToCredit s i card) :
    settleRecord i s = toReady i s := by
  unfold settleRecord
  dsimp only
  split
  · next e he =>
    rw [hcard, Option.bind_some, State.refund] at he
    have hfound := List.find?_some he
    simp only [refundFor, beq_iff_eq] at hfound
    rcases hnone e (List.mem_of_find?_eq_some he) hfound with hstate | hceiling
    · exact if_neg fun h => hstate h.1
    · exact if_neg fun h => absurd h.2 (Nat.not_lt.mpr hceiling)
  · rfl

/-! ## Refusals at a ready record -/

/-- The record of a station with the panel message ended and an answer shown. -/
def Station.told (x : Station) (m : Message) : Station := { x with gathered := [], display := x.display ++ [m] }

theorem display_clearPanel_told : display i m (clearPanel i s) = s.setStation i ((s.station i).told m) := display_clearPanel i m s

theorem refusePanel_clearPanel : refusePanel i m (clearPanel i s) = settleRecord i (s.setStation i ((s.station i).told m)) := by
  rw [refusePanel, display_clearPanel_told]

/-- R90: a request refused at a record with nothing to credit. -/
theorem refusePanel_stands (hcard : (s.station i).card = some card) (hnone : nothingToCredit s i card) :
    refusePanel i m (clearPanel i s) = s.setStation i (readied s ((s.station i).told m)) := by
  rw [refusePanel_clearPanel, settleRecord_stands (card := card) (by rw [station_setStation_self]; exact hcard)
    (fun e he hc => by
      rw [setStation_refunds] at he
      have h := hnone e he hc
      simpa [Station.told] using h), toReady_eq, station_setStation_self, setStation_setStation_self]
  simp only [readied, heldReady_setStation]

/-- R90, R91: a request refused at a record whose card has a READY refund below the ceiling. -/
theorem refusePanel_credits (hs : s.refunds = before ++ e :: behind) (he : e.card = card) (hbefore : ∀ y ∈ before, y.card ≠ card)
    (hready : e.state = .ready) (hcard : (s.station i).card = some card) (hslot : (s.station i).slot = some slot)
    (hceiling : (s.station i).pair.value < s.params.ceiling) :
    refusePanel i m (clearPanel i s) = (s.withMoney (before ++ { e with
      inProgress := true, pairs := some ((s.station i).pair, (crediting s i slot e.amount).expectedPair) } :: behind)
        s.audit).setStation i { crediting s i slot e.amount with
          gathered := [], display := (s.station i).display ++ [m] } := by
  have hself : (s.setStation i ((s.station i).told m)).station i = (s.station i).told m := station_setStation_self ..
  rw [refusePanel_clearPanel, settleRecord_credits (slot := slot) (card := card) (before := before) (behind := behind) (e := e)
    (by rw [setStation_refunds, hs]) he hbefore hready (by rw [hself]; exact hcard) (by rw [hself]; exact hslot)
    (by rw [hself, setStation_params]; exact hceiling)]
  simp only [crediting, hself, setStation_params, setStation_audit, withMoney_setStation, setStation_setStation_self]
  rfl

/-! ## QUEUE -/

theorem exec_queue_operating (hs : s.mode = .operating) (c : MachineClass) :
    exec (.queue i (byte (classCode c))) s = .next (decideQueue i c (clearPanel i s)) := by
  have hclass : Sys2Proof.Machine.classOf (byte (classCode c)).toNat = some c := by cases c <;> rfl
  have htaken : exec (.queue i (byte (classCode c))) s = .next (takeQueue i (byte (classCode c)).toNat (clearPanel i s)) := rfl
  rw [htaken, takeQueue, hclass, ← inService_operating ((clearPanel_mode i s).trans hs) i 0 (decideQueue i c)]

theorem freeMachine_iff {c : MachineClass} {a : Addr} : freeMachine c s a = true ↔ s.configured a = true ∧ s.classOf a = c ∧
    ((s.machine a).state = .idle ∨ (s.machine a).state = .selected) ∧ (s.machine a).lock = .none ∧
    (s.machine a).lockPending = false := by
  simp [freeMachine, and_assoc]

/-- R127: no machine of a class is free for a queue. -/
theorem noneFree {c : MachineClass} (h : s.halted = true ∨ ∀ a, s.configured a = true → s.classOf a = c →
    (s.machine a).lock = .none → (s.machine a).lockPending = false →
    (s.machine a).state ≠ .idle ∧ (s.machine a).state ≠ .selected) :
    ¬ (!s.halted && allAddrs.any (freeMachine c s)) = true := by
  rintro hfree
  simp only [Bool.and_eq_true, Bool.not_eq_true', List.any_eq_true, freeMachine_iff] at hfree
  obtain ⟨hrun, a, -, hconf, hclass, hstate, hlock, hpending⟩ := hfree
  rcases h with hhalted | hbusy
  · exact absurd (hhalted.symm.trans hrun) (by decide)
  · obtain ⟨hidle, hselected⟩ := hbusy a hconf hclass hlock hpending
    exact hstate.elim hidle hselected

theorem queue_clearPanel (c : MachineClass) : (clearPanel i s).queue c = s.queue c := setStation_queue ..

theorem freeMachine_clearPanel (c : MachineClass) : freeMachine c (clearPanel i s) = freeMachine c s := by
  funext a
  simp only [freeMachine, clearPanel, modifyStation, setStation_machine, setStation_classOf, setStation_configured]

@[simp] theorem station_setQueue (c : MachineClass) (q : ClaimQueue) (j : StationId) :
    (s.setQueue c q).station j = s.station j := by cases c <;> cases j <;> rfl

theorem display_raising (bits : BitVec 7) : display i m (s.raising bits) = (display i m s).raising bits := by
  simp only [display, modifyStation, raising_station, setStation_raising]

theorem setStation_setQueue (c : MachineClass) (q : ClaimQueue) (x : Station) :
    (s.setQueue c q).setStation i x = (s.setStation i x).setQueue c q := by
  cases c <;> cases i <;> rfl

end

/-- Settles O43: the panel message ends, and the tests of R127 fall through to the one that decides. -/
theorem queueJoinsAtTheTail : Obligations.QueueJoinsAtTheTail := by
  unfold Obligations.QueueJoinsAtTheTail
  intro s i c card
  dsimp only
  intro hs hready hcard hbusy
  have hat : ((clearPanel i s).station i).state = .cardReady := by rw [clearPanel_station]; exact hready
  have hcard' : ((clearPanel i s).station i).card.getD 0 = card := by rw [clearPanel_station]; simp [hcard]
  have hnone : ¬ (!(clearPanel i s).halted && allAddrs.any (freeMachine c (clearPanel i s))) = true := by
    rw [freeMachine_clearPanel, clearPanel, modifyStation, setStation_halted]
    exact noneFree hbusy
  have hqueue : (clearPanel i s).queue c = s.queue c := queue_clearPanel ..
  refine ⟨fun before behind e slot hwaits hslot hrefunds he hbefore hstate hceiling => ?_, fun hnew hroom => ?_⟩
  · rw [exec_queue_operating hs, decideQueue, if_neg (not_not_intro hat), if_neg hnone, hcard', if_pos]
    · exact congrArg _ (refusePanel_credits hrefunds he hbefore hstate hcard hslot hceiling)
    · rw [hqueue, List.any_eq_true]
      obtain ⟨y, hy, hc⟩ := hwaits
      exact ⟨y, hy, beq_iff_eq.mpr hc⟩
  · rw [exec_queue_operating hs, decideQueue, if_neg (not_not_intro hat), if_neg hnone, hcard', if_neg, if_neg]
    · have hchanged : changeQueue c (fun q => { q with entries := q.entries ++ [newClaim card (clearPanel i s).now] })
          (clearPanel i s) = (clearPanel i (s.setQueue c { s.queue c with
            entries := (s.queue c).entries ++ [newClaim card s.now] })).raising (eventBit .machine) := by
        simp only [changeQueue, clearPanel, modifyStation, raise_eq_raising, setStation_queue, setStation_setQueue,
          setStation_now, station_setQueue]
      rw [hchanged]
      dsimp only
      rw [raising_queue, queue_clearPanel, queue_setQueue_self, display_raising, display_clearPanel_told,
        station_setQueue, List.length_append, List.length_singleton]
      rfl
    · rw [hqueue]
      exact Nat.not_le.mpr hroom
    · rw [hqueue, List.any_eq_true]
      rintro ⟨y, hy, hc⟩
      exact hnew y hy (beq_iff_eq.mp hc)

end Sys2Proof.Machine

/-! PROOF. ADD_TIME: the tests of R97 in their order, the top-up pending and its debit (R44, R97, R108, R109). -/

namespace Sys2Proof.Machine

/-! ## What a panel request reads -/

section
variable {s : State} {i : StationId} {a : Addr} {card : Nat} {slot : Slot} {m : Message}

@[simp] theorem setStation_dryProfile (i : StationId) (x : Station) (n : Nat) :
    (s.setStation i x).dryProfile n = s.dryProfile n := by cases i <;> rfl

@[simp] theorem setStation_washProfile (i : StationId) (x : Station) (n : Nat) :
    (s.setStation i x).washProfile n = s.washProfile n := by cases i <;> rfl

@[simp] theorem setStation_discount (i : StationId) (x : Station) : (s.setStation i x).discount = s.discount := by
  cases i <;> rfl

theorem namedMachine_setStation (x : Station) (n : Nat) : namedMachine n (s.setStation i x) = namedMachine n s := by
  simp only [namedMachine, setStation_configured, setStation_machine]

/-- R92, R97: a target byte that names no machine of the room. -/
theorem namedMachine_none {n : Nat} (h : ∀ a, addrNum a = n → s.configured a = false ∨ (s.machine a).state = .absent) :
    namedMachine n s = none := by
  unfold namedMachine
  split
  · rfl
  · next a ha =>
    have hnum : addrNum a = n := by
      unfold addr? at ha
      split at ha
      · next hn =>
        cases ha
        show n - 1 + 1 = n
        omega
      · cases ha
    refine if_neg fun ⟨hconf, hpresent⟩ => ?_
    rcases h a hnum with h | h
    · exact absurd (h.symm.trans hconf) (by decide)
    · exact hpresent h

theorem byte_addrNum_toNat (a : Addr) : (byte (addrNum a)).toNat = addrNum a := at1_addrNum a []

theorem namedMachine_some (hconf : s.configured a = true) (hpresent : (s.machine a).state ≠ .absent) :
    namedMachine (byte (addrNum a)).toNat s = some a := by
  rw [byte_addrNum_toNat, namedMachine, addr?_addrNum]
  exact if_pos ⟨hconf, hpresent⟩

theorem affordable_setStation (x y : Station) (p : Purchase) (got : List Byte) :
    affordable { x with gathered := got } p (s.setStation i y) = affordable x p s := by
  simp only [affordable, setStation_params]

/-- R92, R97: the tests of the value against the charge. -/
theorem affordable_ok {x : Station} {p : Purchase} (henough : p.charge ≤ x.pair.value)
    (hceiling : x.pair.value - p.charge ≤ s.params.ceiling) : affordable x p s = .ok p := by
  rw [affordable, if_neg (Nat.not_lt.mpr henough), if_neg (Nat.not_lt.mpr hceiling)]

theorem affordable_noFunds {x : Station} {p : Purchase} (h : x.pair.value < p.charge) :
    affordable x p s = .error { plainMessage msgNoFunds with first := p.charge, second := x.pair.value } := if_pos h

theorem affordable_overCeiling {x : Station} {p : Purchase} (henough : p.charge ≤ x.pair.value)
    (hceiling : s.params.ceiling < x.pair.value - p.charge) : affordable x p s =
      .error { plainMessage msgOverCeiling with first := x.pair.value - p.charge, second := s.params.ceiling } := by
  rw [affordable, if_neg (Nat.not_lt.mpr henough), if_pos hceiling]

/-! ## A refusal at a ready record -/

/-- The record of a request refused at a card that stands ready, with nothing to credit (R90). -/
def Station.stood (x : Station) (held : Nat) (m : Message) : Station := { x with
  gathered := [], request := none, target := none, amount := 0, seconds := 0, minutes := 0, writing := none, begun := false,
  attempt := 1, balanceDue := false,
  display := x.display ++ m :: (if x.balanceDue = true then
    [{ plainMessage msgBalance with first := x.pair.value, second := held }] else []) }

theorem readied_told {x : Station} (hready : x.state = .cardReady) (hcard : x.card = some card) :
    readied s (x.told m) = x.stood (heldReady card s) m := by
  simp only [readied, Station.told, Station.stood, hready, hcard, Option.getD_some, List.append_assoc, List.singleton_append]

/-- R90: what a request refused at a card that stands ready leaves. -/
theorem refused_settles {o : Host.Outcome State Fault Refusal} (hready : (s.station i).state = .cardReady)
    (hcard : (s.station i).card = some card) (hslot : (s.station i).slot = some slot)
    (h : o = .next (refusePanel i m (clearPanel i s))) :
    (nothingToCredit s i card → o = .next (s.setStation i ((s.station i).stood (heldReady card s) m))) ∧
    ∀ (before behind : List RefundEntry) (e : RefundEntry), s.refunds = before ++ e :: behind → e.card = card →
      (∀ y ∈ before, y.card ≠ card) → e.state = .ready → (s.station i).pair.value < s.params.ceiling →
      o = .next ((s.withMoney (before ++ { e with
        inProgress := true, pairs := some ((s.station i).pair, (crediting s i slot e.amount).expectedPair) } :: behind)
          s.audit).setStation i { crediting s i slot e.amount with
            gathered := [], display := (s.station i).display ++ [m] }) := by
  subst h
  refine ⟨fun hnone => ?_, fun before behind e hs he hbefore hstate hceiling => ?_⟩
  · rw [refusePanel_stands hcard hnone, readied_told hready hcard]
  · rw [refusePanel_credits hs he hbefore hstate hcard hslot hceiling]

/-! ## The end of a panel message behind the records -/

theorem setMachine_clearPanel (a : Addr) (x : MachineRecord) :
    (clearPanel i s).setMachine a x = clearPanel i (s.setMachine a x) := by cases i <;> rfl

theorem withMoney_clearPanel (es : List RefundEntry) (x : Audit) :
    (clearPanel i s).withMoney es x = clearPanel i (s.withMoney es x) := by cases i <;> rfl

theorem raising_clearPanel (bits : BitVec 7) : (clearPanel i s).raising bits = clearPanel i (s.raising bits) := by
  cases i <;> rfl

@[simp] theorem machine_clearPanel (a : Addr) : (clearPanel i s).machine a = s.machine a := setStation_machine ..

theorem audit_clearPanel : (clearPanel i s).audit = s.audit := setStation_audit ..

theorem refunds_clearPanel : (clearPanel i s).refunds = s.refunds := setStation_refunds ..

/-! ## A debit -/

/-- The record of a station whose debit is prepared (R93). -/
def Station.debiting (x : Station) (slot : Slot) (a : Addr) (request : CardRequest) (p : Purchase) : Station := { x with
  gathered := [], state := .debiting, request := some request, target := some a, amount := p.charge, seconds := p.seconds,
  minutes := p.minutes, writing := some (if slot = .a then .b else .a), oldPair := x.pair,
  expectedPair := { sequence := (x.pair.sequence + 1) % 65536, value := x.pair.value - p.charge }, attempt := 1, begun := false }

theorem beginDebit_clearPanel {request : CardRequest} {p : Purchase} (hslot : (s.station i).slot = some slot) :
    beginDebit i a request p (clearPanel i s) = s.setStation i ((s.station i).debiting slot a request p) := by
  rw [beginDebit, modifyStation, clearPanel_station, clearPanel, modifyStation, setStation_setStation_self]
  simp only [Station.debiting, hslot, Option.map_some, otherSlot_ite, nextSequence]

/-- R90: a record whose request has been carried out at once, with nothing to credit. -/
theorem settle_told {bits : BitVec 7} (hready : (s.station i).state = .cardReady) (hcard : (s.station i).card = some card)
    (hnone : nothingToCredit s i card) : settleRecord i (display i m ((clearPanel i s).raising bits)) =
      (s.setStation i ((s.station i).stood (heldReady card s) m)).raising bits := by
  have hnone' : nothingToCredit (s.raising bits) i card := by
    intro e he hc
    rw [raising_station, raising_params]
    exact hnone e he hc
  have hstands := refusePanel_stands (m := m) (s := s.raising bits) (by rw [raising_station]; exact hcard) hnone'
  rw [raising_clearPanel]
  exact hstands.trans (by rw [raising_station, readied_told hready hcard, setStation_raising]; rfl)

/-! ## ADD_TIME -/

theorem exec_addTime_operating (hs : s.mode = .operating) (target steps : Byte) :
    exec (.addTime i target steps) s = .next (decideAddTime i target.toNat steps.toNat (clearPanel i s)) :=
  congrArg Host.Outcome.next (inService_operating ((clearPanel_mode i s).trans hs) i _ _)

/-- R92, R97: a request at a record without an accepted card, or with one in hand. -/
theorem decideAddTime_notReady {n k : Nat} (h : (s.station i).state ≠ .cardReady) : decideAddTime i n k (clearPanel i s) =
    s.setStation i ((s.station i).told (plainMessage (notReady (s.station i)))) := by
  rw [decideAddTime, if_pos (by rw [clearPanel_station]; exact h), display_clearPanel_told, clearPanel_station]
  rfl

theorem decideAddTime_unnamed {n k : Nat} (hready : (s.station i).state = .cardReady) (h : namedMachine n s = none) :
    decideAddTime i n k (clearPanel i s) = refusePanel i { plainMessage msgOutOfOrder with small := n } (clearPanel i s) := by
  have hnamed : namedMachine n (clearPanel i s) = none := (namedMachine_setStation ..).trans h
  rw [decideAddTime, if_neg (by rw [clearPanel_station]; exact not_not_intro hready), hnamed]

/-- R97: the tests after the address do not read the bytes gathered. -/
theorem addTimeTests_clearPanel (a : Addr) (k : Nat) :
    addTimeTests ((clearPanel i s).station i) a k (clearPanel i s) = addTimeTests (s.station i) a k s := by
  rw [clearPanel_station]
  simp only [addTimeTests, dryingMachine, clearPanel, modifyStation, setStation_machine, setStation_classOf,
    setStation_dryProfile, setStation_discount, affordable_setStation]

theorem decideAddTime_named {n k : Nat} (hready : (s.station i).state = .cardReady) (hnamed : namedMachine n s = some a) :
    decideAddTime i n k (clearPanel i s) = match addTimeTests (s.station i) a k s with
      | .error m => refusePanel i m (clearPanel i s)
      | .ok p => addTimeFor i a p (clearPanel i s) := by
  have hnamed' : namedMachine n (clearPanel i s) = some a := (namedMachine_setStation ..).trans hnamed
  rw [decideAddTime, if_neg (by rw [clearPanel_station]; exact not_not_intro hready), hnamed']
  exact congrArg (fun o : Except Message Purchase => match o with
    | .error m => refusePanel i m (clearPanel i s)
    | .ok p => addTimeFor i a p (clearPanel i s)) (addTimeTests_clearPanel a k)

/-- A DRY phase with seconds added to it (R44). -/
def Cycle.lengthened (c : Cycle) (seconds : Nat) : Cycle := { c with
  remaining := c.remaining + seconds, paidTotal := c.paidTotal + seconds, dryBase := c.dryBase.map (· + seconds) }

/-- A dryer RUNNING in DRY with COOL not posted (R44). -/
structure DriesAs (s : State) (a : Addr) (c : Cycle) : Prop where
  running : (s.machine a).state = .running
  dryer : s.classOf a = .dryer
  cycle : (s.machine a).cycle = some c
  dry : c.kind = some .dry
  warm : c.coolPosted = false

theorem addTimeTests_notDrying {x : Station} {k : Nat} (h : (s.machine a).state ≠ .running ∨ s.classOf a ≠ .dryer ∨
    ∀ c, (s.machine a).cycle = some c → c.kind ≠ some .dry ∨ c.coolPosted = true) :
    addTimeTests x a k s = .error { plainMessage msgNotDrying with small := addrNum a } := by
  unfold addTimeTests
  dsimp only
  split
  · rfl
  · next c hc =>
    refine if_pos ?_
    rw [Bool.not_eq_true', Bool.eq_false_iff]
    intro hdrying
    simp only [dryingMachine, hc, Option.map_some, Option.getD_some, drying, Bool.and_eq_true, decide_eq_true_eq, beq_iff_eq,
      Bool.not_eq_true'] at hdrying
    obtain ⟨⟨hrunning, hdryer⟩, hdry, hwarm⟩ := hdrying
    rcases h with h | h | h
    · exact h hrunning
    · exact h hdryer
    · rcases h c hc with h | h
      · exact h hdry
      · exact absurd (h.symm.trans hwarm) (by decide)

section Drying
variable {c : Cycle} (h : DriesAs s a c) {x : Station} {k : Nat}
include h

theorem DriesAs.machine : dryingMachine a s = true := by
  simp [dryingMachine, h.running, h.dryer, h.cycle, drying, h.dry, h.warm]

theorem DriesAs.tests : addTimeTests x a k s =
    if some c.payer ≠ x.card then .error { plainMessage msgNotPayer with small := addrNum a }
    else if c.topUp.isSome then .error { plainMessage msgMachineBusy with small := addrNum a }
    else match (s.dryProfile c.program).bind (fun p => dryerTopUp p c.remaining c.paidTotal k s.discount) with
      | none => .error { plainMessage msgCap with small := addrNum a }
      | some p => affordable x p s := by
  unfold addTimeTests
  rw [h.cycle]
  dsimp only
  rw [h.machine]
  rfl

theorem DriesAs.tests_purchase (hcard : x.card = some card) (hpayer : c.payer = card) (hfree : c.topUp = none) {p : DryProfile}
    (hp : s.dryProfile c.program = some p) : addTimeTests x a k s =
      match dryerTopUp p c.remaining c.paidTotal k s.discount with
      | none => .error { plainMessage msgCap with small := addrNum a }
      | some p => affordable x p s := by
  rw [h.tests, if_neg (by rw [hcard, hpayer]; exact not_not_intro rfl), if_neg (by simp [hfree]), hp]
  rfl

theorem DriesAs.refusal (hpayer : c.payer = card) (hfree : c.topUp = none) : topUpRefusal a card s = none := by
  rw [topUpRefusal, h.cycle]
  dsimp only
  rw [if_neg (by simp [h.machine, hfree]), if_neg (not_not_intro hpayer)]

theorem DriesAs.setStation (i : StationId) (y : Station) : DriesAs (s.setStation i y) a c where
  running := by rw [setStation_machine]; exact h.running
  dryer := by rw [setStation_classOf]; exact h.dryer
  cycle := by rw [setStation_machine]; exact h.cycle
  dry := h.dry
  warm := h.warm

theorem DriesAs.withMoney (es : List RefundEntry) (y : Audit) : DriesAs (s.withMoney es y) a c :=
  ⟨h.running, h.dryer, h.cycle, h.dry, h.warm⟩

/-- R44: the debit of a top-up commits while its machine is still drying. -/
theorem DriesAs.commits {top : TopUp} {amount : Nat} (htop : c.topUp = some top) (hcard : top.card = card) :
    commitTopUp a card amount s = (s.setMachine a { s.machine a with cycle := some { c with
      remaining := c.remaining + top.seconds, paidTotal := c.paidTotal + top.seconds,
      dryBase := c.dryBase.map (· + top.seconds), chargeTotal := c.chargeTotal + amount, topUp := none } }, true) := by
  have hpending : pendingTopUp a card s = some top := by
    rw [pendingTopUp, h.cycle, Option.bind_some, htop]
    exact if_pos hcard
  rw [commitTopUp, hpending]
  dsimp only
  rw [if_pos h.machine, modifyCycle_eq h.cycle]

theorem DriesAs.setMachine {c' : Cycle} (hkind : c'.kind = c.kind) (hcool : c'.coolPosted = c.coolPosted) :
    DriesAs (s.setMachine a { s.machine a with cycle := some c' }) a c' where
  running := by rw [machine_setMachine_self]; exact h.running
  dryer := h.dryer
  cycle := by rw [machine_setMachine_self]
  dry := hkind.trans h.dry
  warm := hcool.trans h.warm

theorem DriesAs.addTimeFor {p : Purchase} (hready : (s.station i).state = .cardReady) (hcard : (s.station i).card = some card)
    (hpayer : c.payer = card) (hfree : c.topUp = none) :
    addTimeFor i a p (clearPanel i s) =
      if p.charge = 0 then settleRecord i (display i { plainMessage msgTimeAdded with
          small := addrNum a, minutes := p.minutes, second := (s.station i).pair.value }
        ((clearPanel i ((s.withMoney s.refunds { s.audit with charged := addTotal s.audit.charged 0 }).setMachine a
          { s.machine a with cycle := some (c.lengthened p.seconds) })).raising (eventBit .payment)))
      else beginDebit i a .addTime p (clearPanel i (s.setMachine a { s.machine a with
        cycle := some { c with topUp := some ⟨card, p.charge, p.seconds⟩ } })) := by
  have hcard' : ((clearPanel i s).station i).card.getD 0 = card := by rw [clearPanel_station]; simp [hcard]
  have hrefusal : topUpRefusal a card (clearPanel i s) = none := (h.setStation ..).refusal hpayer hfree
  have hbegun : beginTopUp a ⟨card, p.charge, p.seconds⟩ (clearPanel i s) = clearPanel i (s.setMachine a { s.machine a with
      cycle := some { c with topUp := some ⟨card, p.charge, p.seconds⟩ } }) := by
    rw [beginTopUp, modifyCycle_eq (by rw [machine_clearPanel]; exact h.cycle), machine_clearPanel, setMachine_clearPanel]
  rw [Machine.addTimeFor]
  dsimp only
  rw [hcard', hrefusal]
  dsimp only
  rw [hbegun]
  by_cases hzero : p.charge = 0
  · rw [if_pos hzero, if_pos hzero, hzero]
    let charged := { s.audit with charged := addTotal s.audit.charged 0 }
    have hcounted (x : MachineRecord) : countCharged 0 (clearPanel i (s.setMachine a x)) =
        clearPanel i ((s.withMoney s.refunds charged).setMachine a x) := by
      rw [countCharged, modifyAudit_eq, withMoney_clearPanel, refunds_clearPanel, audit_clearPanel]
      rfl
    have hdries : DriesAs (clearPanel i ((s.withMoney s.refunds charged).setMachine a { s.machine a with
        cycle := some { c with topUp := some ⟨card, 0, p.seconds⟩ } })) a { c with topUp := some ⟨card, 0, p.seconds⟩ } :=
      ((h.withMoney s.refunds charged).setMachine (c' := { c with topUp := some ⟨card, 0, p.seconds⟩ }) rfl rfl).setStation i _
    rw [hcounted, hdries.commits rfl rfl, machine_clearPanel, machine_setMachine_self, setMachine_clearPanel,
      setMachine_setMachine, raise_eq_raising, clearPanel_station]
    have hcycle : { c with
        remaining := c.remaining + p.seconds, paidTotal := c.paidTotal + p.seconds, dryBase := c.dryBase.map (· + p.seconds),
        chargeTotal := c.chargeTotal + 0, topUp := none } = c.lengthened p.seconds := by rw [Cycle.lengthened, ← hfree]; rfl
    rw [← hcycle]
  · rw [if_neg hzero, if_neg hzero]

end Drying

/-- R104: the discount is the one of the parameters in OFF_PEAK, and none otherwise. -/
theorem discount_eq : s.discount = if s.band = .offPeak then s.params.discount else 0 := by
  unfold State.discount discountOf
  cases s.band <;> rfl

theorem dryerTopUp_none {p : DryProfile} {remaining paid k d : Nat}
    (h : min (max 1 (min k 180)) (min (p.maxMinutes * 60 - remaining) (10800 - paid) / (p.stepMinutes * 60)) = 0) :
    dryerTopUp p remaining paid k d = none := if_pos h

theorem dryerTopUp_some {p : DryProfile} {remaining paid k d : Nat}
    (h : 0 < min (max 1 (min k 180)) (min (p.maxMinutes * 60 - remaining) (10800 - paid) / (p.stepMinutes * 60))) :
    dryerTopUp p remaining paid k d =
      let granted := min (max 1 (min k 180)) (min (p.maxMinutes * 60 - remaining) (10800 - paid) / (p.stepMinutes * 60))
      some ⟨discounted (granted * p.stepPrice) d, granted * p.stepMinutes * 60, granted * p.stepMinutes⟩ :=
  if_neg (Nat.pos_iff_ne_zero.mp h)

end

/-- Settles O42: the tests of R97 are taken in their order, and each refusal settles the record alike. -/
theorem addTimeBeginsTheTopUp : Obligations.AddTimeBeginsTheTopUp := by
  unfold Obligations.AddTimeBeginsTheTopUp
  intro s i target steps hs
  dsimp only
  rw [exec_addTime_operating hs]
  refine ⟨fun hx => ?noCard, fun hx => ?busy, fun card slot hready hcard hslot => ?_⟩
  case noCard =>
    rw [decideAddTime_notReady (by rcases hx with h | h <;> simp [h]), notReady_of_noCard hx]
    rfl
  case busy =>
    rw [decideAddTime_notReady (by rcases hx with h | h | h <;> simp [h]), notReady_of_busy hx]
    rfl
  refine ⟨fun hunnamed => ?_, fun a htarget hconf => ?_⟩
  · exact refused_settles hready hcard hslot (congrArg _ (decideAddTime_unnamed hready (namedMachine_none hunnamed)))
  subst htarget
  have htests (o) (hpresent : (s.machine a).state ≠ .absent) (ho : addTimeTests (s.station i) a steps.toNat s = o) :=
    ho ▸ decideAddTime_named (k := steps.toNat) hready (namedMachine_some hconf hpresent)
  refine ⟨fun hpresent hdrying => ?_, fun c hrunning hdryer hcycle hdry hwarm => ?_⟩
  · exact refused_settles hready hcard hslot (congrArg _ (htests _ hpresent (addTimeTests_notDrying hdrying)))
  have h : DriesAs s a c := ⟨hrunning, hdryer, hcycle, hdry, hwarm⟩
  have hpresent : (s.machine a).state ≠ .absent := by simp [hrunning]
  have hfails (m) (hm : addTimeTests (s.station i) a steps.toNat s = .error m) :=
    refused_settles hready hcard hslot (congrArg _ (htests _ hpresent hm))
  refine ⟨fun hpayer => hfails _ ?_, fun hpayer htop => hfails _ ?_, fun hpayer hfree hprofile => hfails _ ?_,
    fun p hpayer hfree hprofile => ?_⟩
  · rw [h.tests, hcard, if_pos (by simpa using hpayer)]
    rfl
  · rw [h.tests, hcard, hpayer, if_neg (not_not_intro rfl), if_pos (Option.isSome_iff_ne_none.mpr htop)]
    rfl
  · rw [h.tests, hcard, hpayer, if_neg (not_not_intro rfl), hfree, if_neg (by simp), hprofile]
    rfl
  have hpurchase := h.tests_purchase (k := steps.toNat) hcard hpayer hfree hprofile
  rw [← discount_eq]
  refine ⟨fun hnone => hfails _ ?_, fun hsome => ?_⟩
  · rw [hpurchase, dryerTopUp_none hnone]
    rfl
  rw [dryerTopUp_some hsome] at hpurchase
  refine ⟨fun hfew => hfails _ (hpurchase.trans (affordable_noFunds hfew)),
    fun henough hceiling => hfails _ (hpurchase.trans (affordable_overCeiling henough hceiling)),
    fun henough hceiling hcharge => ?_, fun hzero hceiling hnone => ?_⟩
  · have hbegins := (htests _ hpresent (hpurchase.trans (affordable_ok henough hceiling))).trans
      ((h.addTimeFor hready hcard hpayer hfree).trans (if_neg (Nat.pos_iff_ne_zero.mp hcharge)))
    exact congrArg _ (hbegins.trans (beginDebit_clearPanel (by simpa using hslot)))
  · have hadds := (htests _ hpresent (hpurchase.trans
        (affordable_ok (le_of_eq_of_le hzero (Nat.zero_le _)) (Nat.le_trans (Nat.sub_le _ _) hceiling)))).trans
      ((h.addTimeFor hready hcard hpayer hfree).trans (if_pos hzero))
    exact congrArg _ (hadds.trans (settle_told (by simpa using hready) (by simpa using hcard) (by simpa [nothingToCredit] using hnone)))

end Sys2Proof.Machine

/-! PROOF. The commit of a start: what the grants and the claims that follow leave of the new cycle (R26, R28, R132, R133). -/

namespace Sys2Proof.Machine

/-! ## What of a machine no grant moves -/

/-- A machine record but for its bus fields, its test run and the sub-state of its phase, which a grant moves on. -/
def MachineRecord.apart (m : MachineRecord) : MachineRecord := { m with
  bus := MachineRecord.initial.bus, testRun := none, cycle := m.cycle.map fun c => { c with sub := .waiting } }

section
variable {a b : Addr} {s t : State} {c : Cycle}

theorem apart_modifyMachine {f : MachineRecord → MachineRecord} (hf : ∀ m, (f m).apart = m.apart) (a b : Addr) (s : State) :
    ((modifyMachine b f s).machine a).apart = (s.machine a).apart := by
  rw [machine_modifyMachine]
  split
  · next h => subst h; exact hf _
  · rfl

theorem apart_post (a b : Addr) (cmd : BusCommand) (poster : Poster) (s : State) :
    ((post b cmd poster s).machine a).apart = (s.machine a).apart :=
  apart_modifyMachine (f := fun m => { m with bus := postBus cmd poster m.bus }) (fun _ => rfl) a b s

theorem apart_modifySub (a b : Addr) (sub : SubState) (s : State) :
    ((modifyCycle b (fun c => { c with sub := sub }) s).machine a).apart = (s.machine a).apart :=
  apart_modifyMachine (fun m => by simp [MachineRecord.apart, Function.comp_def]) a b s

theorem apart_modifyRun (a b : Addr) (f : TestRun → TestRun) (s : State) :
    ((modifyRun b f s).machine a).apart = (s.machine a).apart :=
  apart_modifyMachine (f := fun m => { m with testRun := m.testRun.map f }) (fun _ => rfl) a b s

theorem unmoved_apart (a : Addr) : Unmoved (fun s => (s.machine a).apart) where
  pool k p s := by rw [setPool_machine]
  raise e s := rfl
  deliver s e := by
    unfold deliverGrant
    split
    · unfold startPhase
      split
      · rfl
      · split
        · rfl
        · exact (apart_post ..).trans (apart_modifySub ..)
    · exact (apart_post ..).trans (apart_modifySub ..)
    · unfold startServicePhase
      split
      · rfl
      · split
        · rfl
        · exact apart_post ..
    · unfold startSubtest
      split
      · rfl
      · exact (apart_post ..).trans (apart_modifyRun ..)

theorem Unmoved.requestGrant {β : Type} {f : State → β} (h : Unmoved f) (k : PoolId) (a : Addr) (purpose : Purpose)
    (demand : Nat) (suspendable : Bool) (s : State) : f (requestGrant k a purpose demand suspendable s) = f s := by
  unfold Machine.requestGrant
  split
  · rfl
  · have hscanned := (h.scanPool k _).trans (h.pool k { s.pool k with waits := (s.pool k).waits ++ [requestEntry a purpose demand suspendable s] } s)
    unfold countWait
    dsimp only
    split
    · exact (h.pool k _ _).trans hscanned
    · exact hscanned

theorem apart_askPhase (a b : Addr) (s : State) : ((askPhase b s).machine a).apart = (s.machine a).apart := by
  unfold askPhase
  split
  · rfl
  · next e he =>
    split
    · exact (unmoved_apart a).deliver s (requestEntry b .cyclePhase 0 false s)
    · exact (unmoved_apart a).requestGrant ..

/-- The cycle record that a record but for its grants shows. -/
theorem apart_cycle {m n : MachineRecord} (h : n.apart = m.apart) (hc : m.cycle = some c) :
    ∃ sub, n.cycle = some { c with sub := sub } := by
  have hcycles := congrArg MachineRecord.cycle h
  simp only [MachineRecord.apart, hc, Option.map_some] at hcycles
  obtain ⟨d, hd, heq⟩ := Option.map_eq_some_iff.mp hcycles
  refine ⟨d.sub, hd.trans (congrArg some ?_)⟩
  have hsub := congrArg (fun x : Cycle => { x with sub := d.sub }) heq
  exact hsub

theorem apart_state {m n : MachineRecord} (h : n.apart = m.apart) : n.state = m.state := by
  simpa only [MachineRecord.apart] using congrArg MachineRecord.state h

theorem apart_payment {m n : MachineRecord} (h : n.apart = m.apart) : n.payment = m.payment := by
  simpa only [MachineRecord.apart] using congrArg MachineRecord.payment h

theorem apart_hold {m n : MachineRecord} (h : n.apart = m.apart) : n.hold = m.hold := by
  simpa only [MachineRecord.apart] using congrArg MachineRecord.hold h

theorem apart_door {m n : MachineRecord} (h : n.apart = m.apart) : n.door = m.door := by
  simpa only [MachineRecord.apart] using congrArg MachineRecord.door h

/-- R46: a closed door moves a cycle without a pause no further than a grant does. -/
theorem apart_runningDoor (hc : (s.machine a).cycle = some c) (hpause : c.pauseDeadline = none) {door : Option Door}
    (hdoor : door = some .closed ∨ door = some .locked) : ((runningDoor a door s).machine a).apart = (s.machine a).apart := by
  have hclosed : ((dryerDoorClosed a s).machine a).apart = (s.machine a).apart := by
    unfold dryerDoorClosed
    simp only [hc]
    have hunpaused (f : Cycle → Cycle) (hf : { f c with sub := .waiting } = ({ c with sub := .waiting } : Cycle)) :
        ((modifyCycle a f s).machine a).apart = (s.machine a).apart := by
      rw [modifyCycle_self hc, MachineRecord.apart, MachineRecord.apart, hc]
      simp only [Option.map_some, hf]
    split
    · exact (apart_askPhase ..).trans (hunpaused _ (by rw [← hpause]))
    · exact hunpaused _ (by rw [← hpause])
    all_goals rfl
  cases hclass : s.classOf a with
  | washer => rcases hdoor with rfl | rfl <;> simp only [runningDoor, hclass]
  | dryer => rcases hdoor with rfl | rfl <;> simpa only [runningDoor, hclass] using hclosed

/-! ## The claim of the card that has paid -/

theorem reoffer_state (h : (s.machine a).state ≠ .held) (b : Addr) : ((reoffer b s).machine a).state = (s.machine a).state := by
  by_cases hb : a = b
  · subst hb
    have hplaced (t : State) (placed : Bool) (hp : placeHold a s = (t, placed)) :
        (t.machine a).state = (s.machine a).state := by
      have hstate : ((placeHold a s).1.machine a).state = (s.machine a).state := by
        unfold placeHold
        dsimp only
        split
        · rfl
        · rw [raise_machine, machine_modifyMachine_self, changeQueue_machine]
      rw [hp] at hstate
      exact hstate
    unfold reoffer
    split
    · next t hp => exact hplaced t true hp
    · next t hp =>
      have hcleared : ((raise .machine (modifyMachine a (fun m => { m with hold := none }) t)).machine a).state =
          (s.machine a).state := by
        rw [raise_machine, machine_modifyMachine_self]
        exact hplaced t false hp
      dsimp only
      rw [if_neg (by rw [hcleared]; exact h)]
      exact hcleared
  · rw [(OtherMachines.refl b s).thenReoffer a hb]

theorem claimServed_state (h : (s.machine a).state ≠ .held) (b : Addr) (card : Nat) :
    ((claimServed b card s).machine a).state = (s.machine a).state := by
  unfold claimServed
  dsimp only
  split
  · rw [raise_machine, machine_modifyMachine]
    split
    · next hb => subst hb; rw [changeQueue_machine]
    · rw [changeQueue_machine]
  · split
    · rfl
    · split
      · rw [changeQueue_machine]
      · rw [reoffer_state (by rw [changeQueue_machine]; exact h), changeQueue_machine]

/-! ## A start that opens -/

/-- R26, R28: the machine of a committed start, RUNNING with its new cycle record. -/
def opened (a : Addr) (p : Payment) (s : State) : State :=
  moveTo a .running (modifyMachine a (fun m => { m with
    payment := none, cycle := some (newCycle s.cycleCounter s.now (s.classOf a) p) }) (takeCycleNumber s))

theorem opened_machine (a : Addr) (p : Payment) (s : State) : (opened a p s).machine a = { s.machine a with
    state := .running, payment := none, cycle := some (newCycle s.cycleCounter s.now (s.classOf a) p) } := by
  simp [opened, takeCycleNumber, State.machine, moveTo, modifyMachine, State.setMachine]

theorem opened_cycleCounter (a : Addr) (p : Payment) (s : State) :
    (opened a p s).cycleCounter = (s.cycleCounter + 1) % 65536 := rfl

theorem openStart_eq (a : Addr) (p : Payment) (s : State) : openStart a p s =
    runningDoor a ((enterWaiting a (claimServed a p.card (opened a p s))).machine a).door
      (enterWaiting a (claimServed a p.card (opened a p s))) := rfl

/-- R28, R29: the first phase of a committed start asks for its grant. -/
theorem waiting_apart (a : Addr) (p : Payment) (s : State) :
    let t := enterWaiting a (claimServed a p.card (opened a p s))
    (t.machine a).apart = ((claimServed a p.card (opened a p s)).machine a).apart ∧
    (∃ sub, (t.machine a).cycle = some { newCycle s.cycleCounter s.now (s.classOf a) p with sub := sub }) ∧
    (t.machine a).door = (s.machine a).door := by
  have hopened := opened_machine a p s
  have hsame := sameButHold_claimServed a a p.card (opened a p s)
  have hcycle : ((claimServed a p.card (opened a p s)).machine a).cycle = some (newCycle s.cycleCounter s.now (s.classOf a) p) := by
    rw [hsame.cycle, hopened]
  have hwaits : ((enterWaiting a (claimServed a p.card (opened a p s))).machine a).apart =
      ((claimServed a p.card (opened a p s)).machine a).apart := by
    rw [enterWaiting, apart_askPhase, modifyCycle_self hcycle, MachineRecord.apart, MachineRecord.apart, hcycle]
    rfl
  obtain ⟨sub, hwaiting⟩ := apart_cycle hwaits hcycle
  have hseen : ((enterWaiting a (claimServed a p.card (opened a p s))).machine a).door = (s.machine a).door := by
    rw [apart_door hwaits, hsame, hopened]
  exact ⟨hwaits, ⟨sub, hwaiting⟩, hseen⟩

/-- R26, R28: the record that a committed start leaves, as far as no grant moves it: the one after the claims are settled. -/
theorem openStart_apart {p : Payment} (hdoor : (s.machine a).door = some .closed ∨ (s.machine a).door = some .locked) :
    ((openStart a p s).machine a).apart = ((claimServed a p.card (opened a p s)).machine a).apart := by
  obtain ⟨hwaits, ⟨sub, hwaiting⟩, hseen⟩ := waiting_apart a p s
  rw [openStart_eq, apart_runningDoor hwaiting rfl (by rw [hseen]; exact hdoor), hwaits]

/-- R26, R28: a start that commits on a machine whose door is closed. -/
theorem openStart_machine {p : Payment} (hdoor : (s.machine a).door = some .closed ∨ (s.machine a).door = some .locked) :
    ((openStart a p s).machine a).state = .running ∧ ((openStart a p s).machine a).payment = none ∧
    ((openStart a p s).machine a).hold = ((claimServed a p.card (opened a p s)).machine a).hold ∧
    ∃ sub, ((openStart a p s).machine a).cycle = some { newCycle s.cycleCounter s.now (s.classOf a) p with sub := sub } := by
  have happart := openStart_apart (p := p) hdoor
  have hopened := opened_machine a p s
  have hsame := sameButHold_claimServed a a p.card (opened a p s)
  refine ⟨?_, ?_, apart_hold happart, apart_cycle happart (by rw [hsame.cycle, hopened])⟩
  · rw [apart_state happart, claimServed_state (by simp [hopened]), hopened]
  · rw [apart_payment happart, hsame.payment, hopened]

theorem Touches.cycleCounter {ps : List Part} (h : Touches ps s t) (hp : Part.counter ∉ ps) : t.cycleCounter = s.cycleCounter :=
  h _ hp

theorem touched_runningDoor_closed {door : Option Door} (hdoor : door = some .closed ∨ door = some .locked) (a : Addr)
    (s : State) : Touches [.machines, .flags, .session, .pools] s (runningDoor a door s) := by
  cases hclass : s.classOf a with
  | washer => rcases hdoor with rfl | rfl <;> simp only [runningDoor, hclass] <;> exact Touches.refl _ s
  | dryer => rcases hdoor with rfl | rfl <;> simp only [runningDoor, hclass] <;> exact touched_dryerDoorClosed a s

/-- R26, R28, R132, R133: the queues and the cycle counter of a committed start. -/
theorem openStart_counts {p : Payment} (hdoor : (s.machine a).door = some .closed ∨ (s.machine a).door = some .locked) :
    (∀ cls, (openStart a p s).queue cls = (claimServed a p.card (opened a p s)).queue cls) ∧
    (openStart a p s).cycleCounter = (s.cycleCounter + 1) % 65536 := by
  obtain ⟨-, -, hdoored⟩ := waiting_apart a p s
  have hclosed : ((enterWaiting a (claimServed a p.card (opened a p s))).machine a).door = some .closed ∨
      ((enterWaiting a (claimServed a p.card (opened a p s))).machine a).door = some .locked := by rw [hdoored]; exact hdoor
  have htouch : Touches [.machines, .flags, .session, .pools] (claimServed a p.card (opened a p s)) (openStart a p s) := by
    rw [openStart_eq]
    exact Touches.trans (touched_enterWaiting a _) (touched_runningDoor_closed hclosed a _)
  have hclaimed := touched_claimServed a p.card (opened a p s)
  have hcounter : (openStart a p s).cycleCounter = (opened a p s).cycleCounter :=
    (Touches.cycleCounter htouch (by simp)).trans (Touches.cycleCounter hclaimed (by simp))
  exact ⟨fun cls => Touches.queue htouch (by simp) cls, hcounter.trans (opened_cycleCounter a p s)⟩

end

end Sys2Proof.Machine

/-! PROOF. PAY: the tests of R92 in their order, the payment begun and its debit, and a start without a charge (R25, R93,
R131). -/

namespace Sys2Proof.Machine

section
variable {s : State} {i : StationId} {a : Addr} {card : Nat} {slot : Slot} {m : Message}

/-! ## The tests of a PAY -/

theorem exec_pay_operating (hs : s.mode = .operating) (target steps : Byte) :
    exec (.pay i target steps) s = .next (decidePay i target.toNat steps.toNat (clearPanel i s)) :=
  congrArg Host.Outcome.next (inService_operating ((clearPanel_mode i s).trans hs) i _ _)

theorem decidePay_notReady {n k : Nat} (h : (s.station i).state ≠ .cardReady) : decidePay i n k (clearPanel i s) =
    s.setStation i ((s.station i).told (plainMessage (notReady (s.station i)))) := by
  rw [decidePay, if_pos (by rw [clearPanel_station]; exact h), display_clearPanel_told, clearPanel_station]
  rfl

theorem clearPanel_halted : (clearPanel i s).halted = s.halted := setStation_halted s i _

theorem clearPanel_band : (clearPanel i s).band = s.band := setStation_band s i _

section Ready
variable {n k : Nat} (hready : (s.station i).state = .cardReady)
include hready

theorem ready_clearPanel : ¬ ((clearPanel i s).station i).state ≠ .cardReady := by
  rw [clearPanel_station]
  exact not_not_intro hready

theorem decidePay_halted (h : s.halted = true) : decidePay i n k (clearPanel i s) =
    s.setStation i ((s.station i).told (plainMessage msgHalted)) := by
  rw [decidePay, if_neg (ready_clearPanel hready), if_pos (clearPanel_halted.trans h), display_clearPanel_told]

omit hready in
theorem open_clearPanel (hopen : s.halted = false) : ¬ (clearPanel i s).halted = true := by
  rw [clearPanel_halted, hopen]
  decide

variable (hopen : s.halted = false)
include hopen

theorem decidePay_quiet (h : s.band = .quiet) : decidePay i n k (clearPanel i s) =
    s.setStation i ((s.station i).told (plainMessage msgQuiet)) := by
  rw [decidePay, if_neg (ready_clearPanel hready), if_neg (open_clearPanel hopen), if_pos (clearPanel_band.trans h), display_clearPanel_told]

variable (hband : s.band ≠ .quiet)
include hband

theorem decidePay_unnamed (h : namedMachine n s = none) : decidePay i n k (clearPanel i s) =
    s.setStation i ((s.station i).told { plainMessage msgOutOfOrder with small := n }) := by
  have hnamed : namedMachine n (clearPanel i s) = none := (namedMachine_setStation ..).trans h
  rw [decidePay, if_neg (ready_clearPanel hready), if_neg (open_clearPanel hopen),
    if_neg (by rw [clearPanel_band]; exact hband), hnamed]
  exact display_clearPanel_told

omit hready hopen hband in
/-- R92: the tests after the address do not read the bytes gathered. -/
theorem payTests_clearPanel (a : Addr) (k : Nat) :
    payTests ((clearPanel i s).station i) a k (clearPanel i s) = payTests (s.station i) a k s := by
  cases i <;> rfl

theorem decidePay_named (hnamed : namedMachine n s = some a) : decidePay i n k (clearPanel i s) =
    match payTests (s.station i) a k s with
    | .error m => s.setStation i ((s.station i).told m)
    | .ok p => payFor i a p (clearPanel i s) := by
  have hnamed' : namedMachine n (clearPanel i s) = some a := (namedMachine_setStation ..).trans hnamed
  rw [decidePay, if_neg (ready_clearPanel hready), if_neg (open_clearPanel hopen),
    if_neg (by rw [clearPanel_band]; exact hband), hnamed']
  dsimp only
  rw [payTests_clearPanel]
  cases payTests (s.station i) a k s with
  | error m => exact display_clearPanel_told
  | ok p => rfl

end Ready

theorem doorClosed_iff {d : Option Door} : doorClosed d = true ↔ d = some .closed ∨ d = some .locked := by
  cases d with
  | none => simp [doorClosed]
  | some d => cases d <;> simp [doorClosed]

/-- Whether a machine is SELECTED, or HELD for a card. -/
def servesCard (card : Nat) (m : MachineRecord) : Prop :=
  m.state = .selected ∨ m.state = .held ∧ m.hold.map (·.card) = some card

theorem machineTest_serves {r : MachineRecord} (h : servesCard card r) :
    machineTest card r = if r.payment.isSome then some msgMachineBusy else none := by
  rcases h with h | ⟨h, hcard⟩
  · simp only [machineTest, h]
  · simp only [machineTest, h]
    rw [if_neg (not_not_intro hcard)]

theorem machineTest_busy {r : MachineRecord} (h : r.state ≠ .idle ∧ r.state ≠ .selected ∧ r.state ≠ .held) :
    machineTest card r = some msgMachineBusy := by
  obtain ⟨hidle, hselected, hheld⟩ := h
  cases hs : r.state with
  | idle => exact absurd hs hidle
  | selected => exact absurd hs hselected
  | held => exact absurd hs hheld
  | _ => simp only [machineTest, hs]

variable {x : Station} {k : Nat}

theorem payTests_refused {code : Nat} (h : machineTest (x.card.getD 0) (s.machine a) = some code) :
    payTests x a k s = .error { plainMessage code with small := addrNum a } := by
  rw [payTests]
  dsimp only
  rw [h]

section Served
variable (hcard : x.card = some card) (hserves : servesCard card (s.machine a)) (hfree : (s.machine a).payment = none)
include hcard hserves hfree

theorem payTests_serves : payTests x a k s =
    if (s.machine a).lock ≠ .none ∨ (s.machine a).lockPending = true then
      .error { plainMessage msgOutOfOrder with small := addrNum a }
    else if !doorClosed (s.machine a).door then .error { plainMessage msgDoorOpen with small := addrNum a }
    else if (selectedPlan a s).isNone then .error { plainMessage msgSelectProgram with small := addrNum a }
    else match startPurchase (s.classOf a) ((s.machine a).selection.getD 0) k s with
      | none => .error { plainMessage msgCap with small := addrNum a }
      | some p => affordable x p s := by
  have htest : machineTest (x.card.getD 0) (s.machine a) = none := by
    rw [hcard]
    exact (machineTest_serves hserves).trans (by rw [hfree]; rfl)
  rw [payTests]
  dsimp only
  rw [htest] <;> rfl

end Served

/-! ## What a PAY buys -/

/-- R28, R106, R107: the purchase and the plan of a start. -/
theorem startPurchase_washer {n : Nat} {p : WashProfile} (hclass : s.classOf a = .washer) (hp : s.washProfile n = some p) :
    startPurchase (s.classOf a) n k s = some ⟨discounted p.price s.discount, 0, 0⟩ ∧
    planFor (s.classOf a) n s = some p.plan := by
  simp [startPurchase, planFor, hclass, hp, washerCharge]

theorem startPurchase_dryer {n granted : Nat} {p : DryProfile} (hclass : s.classOf a = .dryer) (hp : s.dryProfile n = some p)
    (hgranted : min (max 1 (min k 180)) (p.maxMinutes / p.stepMinutes) = granted) (hpos : 0 < granted) :
    startPurchase (s.classOf a) n k s =
      some ⟨discounted (granted * p.stepPrice) s.discount, granted * p.stepMinutes * 60, granted * p.stepMinutes⟩ ∧
    planFor (s.classOf a) n s = some [⟨.dry, 0, p.dryLu, 0, 0, true⟩, ⟨.cool, p.coolSeconds, 0, 0, 0, false⟩] := by
  have hbuys : dryerStart p k s.discount =
      some ⟨discounted (granted * p.stepPrice) s.discount, granted * p.stepMinutes * 60, granted * p.stepMinutes⟩ := by
    rw [dryerStart, clampSteps, hgranted]
    exact if_neg (Nat.pos_iff_ne_zero.mp hpos)
  simp [startPurchase, planFor, hclass, hp, hbuys]

theorem startPurchase_none {n : Nat} {p : DryProfile} (hclass : s.classOf a = .dryer) (hp : s.dryProfile n = some p)
    (hgranted : min (max 1 (min k 180)) (p.maxMinutes / p.stepMinutes) = 0) : startPurchase (s.classOf a) n k s = none := by
  have hbuys : dryerStart p k s.discount = none := if_pos hgranted
  simp [startPurchase, hclass, hp, hbuys]

/-! ## A PAY that begins -/

/-- What the begin of a start asks of its machine and of the room (R25, R92). -/
structure Begins (s : State) (a : Addr) (card n : Nat) (plan : List PlanEntry) : Prop where
  running : s.halted = false
  band : s.band ≠ .quiet
  serves : servesCard card (s.machine a)
  unpaid : (s.machine a).payment = none
  unlocked : (s.machine a).lock = .none
  unpending : (s.machine a).lockPending = false
  closed : (s.machine a).door = some .closed ∨ (s.machine a).door = some .locked
  selects : (s.machine a).selection = some n
  plan : planFor (s.classOf a) n s = some plan

/-- A machine whose payment has begun (R25). -/
def State.paying (s : State) (a : Addr) (y : Payment) : State :=
  (s.setMachine a { s.machine a with state := .paying, payment := some y }).raising (eventBit .machine)

/-- The same, with the claim queue told when the machine was HELD (R131). -/
def begunStart (s : State) (a : Addr) (y : Payment) : State :=
  if (s.machine a).state = .held then holderPays a (s.paying a y) else s.paying a y

theorem paying_machine (y : Payment) :
    (s.paying a y).machine a = { s.machine a with state := .paying, payment := some y } := by
  rw [State.paying, raising_machine, machine_setMachine_self]

theorem paying_queue (y : Payment) (c : MachineClass) : (s.paying a y).queue c = s.queue c := by cases c <;> rfl

section Begins
variable {n : Nat} {plan : List PlanEntry} (h : Begins s a card n plan)
include h

theorem Begins.selectedPlan : selectedPlan a s = some plan := by
  rw [Machine.selectedPlan, h.selects]
  exact h.plan

theorem Begins.tests {p : Purchase} (hcard : x.card = some card) (hp : startPurchase (s.classOf a) n k s = some p) :
    payTests x a k s = affordable x p s := by
  rw [payTests_serves hcard h.serves h.unpaid, if_neg (by simp [h.unlocked, h.unpending]),
    if_neg (by simp [doorClosed_iff.mpr h.closed]), h.selectedPlan, if_neg (by simp), h.selects, Option.getD_some, hp]

theorem Begins.refusal : beginRefusal a card s = none := by
  have hheld : ¬ ((s.machine a).state = .held ∧ (s.machine a).hold.map (·.card) ≠ some card) := by
    rintro ⟨hstate, hcard⟩
    rcases h.serves with hs | ⟨-, hs⟩
    · exact absurd (hs.symm.trans hstate) (by decide)
    · exact hcard hs
  have hstate : ¬ (((s.machine a).state ≠ .selected ∧ (s.machine a).state ≠ .held) ∨ (s.machine a).payment.isSome = true) := by
    rw [h.unpaid]
    rintro (⟨hselected, hstands⟩ | hpaid)
    · rcases h.serves with hs | ⟨hs, -⟩
      · exact hselected hs
      · exact hstands hs
    · exact absurd hpaid (by decide)
  have hpresent : (s.machine a).state ≠ .absent := by
    rcases h.serves with hs | ⟨hs, -⟩ <;> simp [hs]
  rw [beginRefusal]
  rw [if_neg (by simp [h.running]), if_neg h.band, if_neg hpresent, if_neg (by simp [h.unlocked, h.unpending]), if_neg hheld,
    if_neg hstate, h.selectedPlan, if_neg (by simp), if_neg (by simp [doorClosed_iff.mpr h.closed])]

theorem Begins.behindPanel : Begins (clearPanel i s) a card n plan := by
  cases i <;> exact ⟨h.running, h.band, h.serves, h.unpaid, h.unlocked, h.unpending, h.closed, h.selects, h.plan⟩

/-- R25, R131: what an accepted begin leaves before a charge of 0 commits. -/
theorem Begins.begun (p : Purchase) : beginStart a card p s =
    if p.charge = 0 then (commitStart a (begunStart s a ⟨card, n, originOf (s.machine a).state, p.charge, p.seconds, plan⟩)).1
    else begunStart s a ⟨card, n, originOf (s.machine a).state, p.charge, p.seconds, plan⟩ := by
  rw [beginStart, h.selectedPlan, h.selects]
  simp only [moveTo_eq, modifyMachine_eq, machine_setMachine_self, setMachine_setMachine]
  rfl

end Begins

/-- The claim queue told that the holder pays (R131). -/
theorem holderPays_eq {before behind : List ClaimEntry} {e : ClaimEntry}
    (hq : (s.queue (s.classOf a)).entries = before ++ e :: behind) (he : e.hold.map (·.machine) = some a)
    (hbefore : ∀ y ∈ before, y.hold.map (·.machine) ≠ some a) : holderPays a s =
      (s.setQueue (s.classOf a) { s.queue (s.classOf a) with
        entries := before ++ { e with paying := true } :: behind }).raising (eventBit .machine) := by
  rw [holderPays, changeQueue_eq, hq, modifyFirst_split _ (fun y hy => (holdsMachine_eq_false a y).mpr (hbefore y hy))
    ((holdsMachine_iff a e).mpr he)]

theorem begunStart_selected {y : Payment} (h : (s.machine a).state = .selected) : begunStart s a y = s.paying a y :=
  if_neg (by simp [h])

theorem begunStart_held {y : Payment} {before behind : List ClaimEntry} {e : ClaimEntry} (h : (s.machine a).state = .held)
    (hq : (s.queue (s.classOf a)).entries = before ++ e :: behind) (he : e.hold.map (·.machine) = some a)
    (hbefore : ∀ y ∈ before, y.hold.map (·.machine) ≠ some a) : begunStart s a y =
      ((s.setQueue (s.classOf a) { s.queue (s.classOf a) with
        entries := before ++ { e with paying := true } :: behind }).paying a y) := by
  have hpays := holderPays_eq (s := s.paying a y) (a := a) (before := before) (behind := behind) (e := e)
    ((congrArg ClaimQueue.entries (paying_queue ..)).trans hq) he hbefore
  rw [begunStart, if_pos h, hpays]
  simp [State.paying]

/-! ## The begin behind the panel message -/

theorem Touches.station {ps : List Part} {s t : State} (h : Touches ps s t) (hp : Part.stations ∉ ps) (j : StationId) :
    t.station j = s.station j := by
  obtain ⟨ha, hb⟩ := h _ hp
  cases j
  · exact ha
  · exact hb

theorem changeQueue_clearPanel (c : MachineClass) (f : ClaimQueue → ClaimQueue) :
    changeQueue c f (clearPanel i s) = clearPanel i (changeQueue c f s) := by cases c <;> cases i <;> rfl

theorem begunStart_clearPanel (y : Payment) : begunStart (clearPanel i s) a y = clearPanel i (begunStart s a y) := by
  have hpaying : (clearPanel i s).paying a y = clearPanel i (s.paying a y) := by cases i <;> rfl
  have hclass : (clearPanel i (s.paying a y)).classOf a = (s.paying a y).classOf a := setStation_classOf ..
  unfold begunStart
  rw [machine_clearPanel, hpaying]
  split
  · rw [holderPays, hclass, changeQueue_clearPanel]
    rfl
  · rfl

theorem touched_begunStart (y : Payment) : Touches [.machines, .flags, .claims] s (begunStart s a y) := by
  have hpaying : Touches [.machines, .flags, .claims] s (s.paying a y) :=
    (touches_raise (by simp) .machine).mpr ((touches_setMachine (by simp) a _).mpr (Touches.refl _ s))
  unfold begunStart
  split
  · exact Touches.trans hpaying (Touches.mono (touched_holderPays a _) (by simp))
  · exact hpaying

theorem begunStart_machine (y : Payment) :
    (begunStart s a y).machine a = { s.machine a with state := .paying, payment := some y } := by
  unfold begunStart
  split
  · exact (changeQueue_machine ..).trans (paying_machine y)
  · exact paying_machine y

section Pays
variable {n : Nat} {plan : List PlanEntry} (h : Begins s a card n plan) {p : Purchase}
include h

/-- R92, R93: a PAY whose tests have passed begins its payment and its debit. -/
theorem Begins.pays (hcard : (s.station i).card = some card) (hslot : (s.station i).slot = some slot) (hpos : 0 < p.charge) :
    payFor i a p (clearPanel i s) =
      (begunStart s a ⟨card, n, originOf (s.machine a).state, p.charge, p.seconds, plan⟩).setStation i
        ((s.station i).debiting slot a .pay p) := by
  have hcard' : ((clearPanel i s).station i).card.getD 0 = card := by rw [clearPanel_station]; simp [hcard]
  have hstation := Touches.station (touched_begunStart (s := s) (a := a)
    ⟨card, n, originOf (s.machine a).state, p.charge, p.seconds, plan⟩) (by simp) i
  rw [payFor]
  dsimp only
  rw [hcard', h.behindPanel.refusal]
  dsimp only
  rw [if_neg (Nat.pos_iff_ne_zero.mp hpos), h.behindPanel.begun, if_neg (Nat.pos_iff_ne_zero.mp hpos), machine_clearPanel,
    begunStart_clearPanel, beginDebit_clearPanel (by rw [hstation]; exact hslot), hstation]

omit h in
/-- R96: a start that commits while nothing stands against it. -/
theorem commitStart_opens {y : Payment} (hpaid : (s.machine a).payment = some y) (hpaying : (s.machine a).state = .paying)
    (hlock : (s.machine a).lock = .none) (hpending : (s.machine a).lockPending = false) (hrunning : s.halted = false) :
    commitStart a s = (openStart a y s, .started) := by
  have hopen : closesAtCommit s (s.machine a) = false := by simp [closesAtCommit, hrunning, hpaying, hlock, hpending]
  rw [commitStart, hpaid]
  dsimp only
  rw [hopen]
  rfl

/-- R92, R109: a PAY whose tests have passed, with a charge of 0, starts its cycle at once. -/
theorem Begins.starts (hcard : (s.station i).card = some card) (hzero : p.charge = 0) :
    payFor i a p (clearPanel i s) = display i { plainMessage msgPaid with
        small := addrNum a, minutes := p.minutes, second := (s.station i).pair.value }
      (raise .payment (openStart a ⟨card, n, originOf (s.machine a).state, 0, p.seconds, plan⟩ (clearPanel i (begunStart
        (s.withMoney s.refunds { s.audit with charged := addTotal s.audit.charged 0 }) a
          ⟨card, n, originOf (s.machine a).state, 0, p.seconds, plan⟩)))) := by
  have hcard' : ((clearPanel i s).station i).card.getD 0 = card := by rw [clearPanel_station]; simp [hcard]
  let u := s.withMoney s.refunds { s.audit with charged := addTotal s.audit.charged 0 }
  have hcounted : countCharged 0 (clearPanel i s) = clearPanel i u := by
    rw [countCharged, modifyAudit_eq, withMoney_clearPanel, refunds_clearPanel, audit_clearPanel]
  have hu : Begins u a card n plan :=
    ⟨h.running, h.band, h.serves, h.unpaid, h.unlocked, h.unpending, h.closed, h.selects, h.plan⟩
  have hbegun := begunStart_machine (s := u) (a := a) ⟨card, n, originOf (s.machine a).state, 0, p.seconds, plan⟩
  have hrunning := Touches.halted (touched_begunStart (s := u) (a := a)
    ⟨card, n, originOf (s.machine a).state, 0, p.seconds, plan⟩) (by simp)
  have hcommits := commitStart_opens (s := clearPanel i (begunStart u a
      ⟨card, n, originOf (s.machine a).state, 0, p.seconds, plan⟩)) (a := a)
    (y := ⟨card, n, originOf (s.machine a).state, 0, p.seconds, plan⟩)
    (by rw [machine_clearPanel, hbegun]) (by rw [machine_clearPanel, hbegun]) (by rw [machine_clearPanel, hbegun]; exact h.unlocked)
    (by rw [machine_clearPanel, hbegun]; exact h.unpending) (by rw [clearPanel_halted, hrunning]; exact h.running)
  rw [payFor]
  dsimp only
  rw [hcard', h.behindPanel.refusal]
  dsimp only
  rw [if_pos hzero, hcounted, hu.behindPanel.begun, if_pos hzero, machine_clearPanel, begunStart_clearPanel, hzero,
    show u.machine a = s.machine a from rfl, hcommits, clearPanel_station]

end Pays

end

end Sys2Proof.Machine

/-! PROOF. PAY: a start without a charge, and every clause of R92 in its order. -/

namespace Sys2Proof.Machine

section
variable {s : State} {i : StationId} {a : Addr} {card : Nat}

/-! ## The claim of a start -/

/-- R132, R133: a start leaves its machine without a hold, when no entry but its own names the machine. -/
theorem claimServed_hold (h : (s.machine a).hold = none → ∀ e ∈ (s.queue (s.classOf a)).entries, ∀ x, e.hold = some x →
    x.machine ≠ a) : ((claimServed a card s).machine a).hold = none := by
  unfold claimServed
  dsimp only
  split
  · rw [raise_machine, machine_modifyMachine_self]
  · next hnone =>
    have hfree : (s.machine a).hold = none := by simpa using hnone
    split
    · exact hfree
    · next e he =>
      have hmem : e ∈ (s.queue (s.classOf a)).entries := List.mem_of_find?_eq_some he
      split
      · rw [changeQueue_machine]
        exact hfree
      · next x hx =>
        rw [(OtherMachines.refl _ _).thenReoffer a (Ne.symm (h hfree e hmem x hx)), changeQueue_machine]
        exact hfree

/-- R132: the entry that held the machine of a start is served. -/
theorem claimServed_queue {before behind : List ClaimEntry} {e : ClaimEntry} (hheld : (s.machine a).hold.isSome = true)
    (hq : (s.queue (s.classOf a)).entries = before ++ e :: behind) (he : e.hold.map (·.machine) = some a)
    (hbefore : ∀ y ∈ before, y.hold.map (·.machine) ≠ some a) :
    (claimServed a card s).queue (s.classOf a) = { s.queue (s.classOf a) with
      entries := before ++ behind, served := min 65535 ((s.queue (s.classOf a)).served + 1) } := by
  unfold claimServed
  dsimp only
  rw [if_pos hheld, changeQueue_eq, hq, eraseP_split (fun y hy => (holdsMachine_eq_false a y).mpr (hbefore y hy))
    ((holdsMachine_iff a e).mpr he), raise_eq_raising, raising_queue]
  exact queue_setQueue_self ..

/-! ## A start without a charge -/

/-- The state in which a start without a charge commits. -/
def zeroStart (s : State) (i : StationId) (a : Addr) (y : Payment) : State :=
  clearPanel i (begunStart (s.withMoney s.refunds { s.audit with charged := addTotal s.audit.charged 0 }) a y)

theorem zeroStart_machine (y : Payment) :
    (zeroStart s i a y).machine a = { s.machine a with state := .paying, payment := some y } := by
  rw [zeroStart, machine_clearPanel, begunStart_machine]
  rfl

theorem touched_zeroStart (y : Payment) : Touches [.machines, .flags, .claims, .money, .stations] s (zeroStart s i a y) := by
  have hcounted : Touches [.machines, .flags, .claims, .money, .stations] s
      (s.withMoney s.refunds { s.audit with charged := addTotal s.audit.charged 0 }) := by
    intro part hpart
    cases part <;> simp_all [Same, samePort, State.withMoney]
  exact (touches_setStation (by simp) i _).mpr (Touches.trans hcounted (Touches.mono (touched_begunStart y) (by simp)))

theorem zeroStart_audit (y : Payment) : (zeroStart s i a y).audit = { s.audit with charged := addTotal s.audit.charged 0 } := by
  rw [zeroStart, audit_clearPanel, ((touched_begunStart y) .money (by simp)).2]
  rfl

theorem zeroStart_station (y : Payment) : (zeroStart s i a y).station i = { s.station i with gathered := [] } := by
  rw [zeroStart, clearPanel_station, Touches.station (touched_begunStart y) (by simp), withMoney_station]

section Lawful
variable {n : Nat} {plan : List PlanEntry} {y : Payment}

/-- R129 to R134: of the holds only the one for the card that pays can name the machine of a start. -/
theorem zeroStart_free (hl : s.holdsLawful) (hfree : (s.machine a).hold = none) :
    ∀ e ∈ ((zeroStart s i a y).queue (s.classOf a)).entries, ∀ x, e.hold = some x → x.machine ≠ a := by
  have hstands : (s.machine a).state ≠ .held := fun hheld => by
    have hsome := (hl.2 a).1 hheld
    rw [hfree] at hsome
    exact absurd hsome (by decide)
  have hqueue : (zeroStart s i a y).queue (s.classOf a) = s.queue (s.classOf a) := by
    rw [zeroStart, queue_clearPanel, begunStart, if_neg (by exact hstands), paying_queue]
    cases s.classOf a <;> rfl
  rw [hqueue]
  rintro e he x hx rfl
  have hnamed := (hl.1 _ e he x hx).2
  rw [hfree] at hnamed
  exact absurd hnamed nofun

theorem zeroStart_queue {before behind : List ClaimEntry} {e : ClaimEntry} (hheld : (s.machine a).state = .held)
    (hq : (s.queue (s.classOf a)).entries = before ++ e :: behind) (he : e.hold.map (·.machine) = some a)
    (hbefore : ∀ y ∈ before, y.hold.map (·.machine) ≠ some a) :
    (zeroStart s i a y).queue (s.classOf a) = { s.queue (s.classOf a) with
      entries := before ++ { e with paying := true } :: behind } := by
  let u := s.withMoney s.refunds { s.audit with charged := addTotal s.audit.charged 0 }
  have hu : u.queue (s.classOf a) = s.queue (s.classOf a) := by cases s.classOf a <;> rfl
  have hbegun := begunStart_held (s := u) (y := y) (a := a) hheld ((congrArg ClaimQueue.entries hu).trans hq) he hbefore
  rw [zeroStart, queue_clearPanel, hbegun, paying_queue, show u.classOf a = s.classOf a from rfl, queue_setQueue_self, hu]

theorem opened_queue (a : Addr) (y : Payment) (s : State) (c : MachineClass) : (opened a y s).queue c = s.queue c := by
  cases c <;> rfl

theorem opened_classOf (a b : Addr) (y : Payment) (s : State) : (opened a y s).classOf b = s.classOf b := rfl

/-- R26, R28, R92, R132: what a start without a charge leaves. -/
theorem zeroStart_leaves (hl : s.holdsLawful) (hdoor : (s.machine a).door = some .closed ∨ (s.machine a).door = some .locked)
    {m : Message} {t : State} (ht : t = display i m (raise .payment (openStart a y (zeroStart s i a y)))) :
    t.station i = (s.station i).told m ∧ t.audit = { s.audit with charged := addTotal s.audit.charged 0 } ∧
    (t.machine a).state = .running ∧ (t.machine a).payment = none ∧ (t.machine a).hold = none ∧
    t.cycleCounter = (s.cycleCounter + 1) % 65536 ∧
    (∃ sub, (t.machine a).cycle = some { newCycle s.cycleCounter s.now (s.classOf a) y with sub := sub }) ∧
    ∀ (before behind : List ClaimEntry) (e : ClaimEntry), (s.machine a).state = .held →
      (s.queue (s.classOf a)).entries = before ++ e :: behind → e.hold.map (·.machine) = some a →
      (∀ y ∈ before, y.hold.map (·.machine) ≠ some a) →
      t.queue (s.classOf a) = { s.queue (s.classOf a) with
        entries := before ++ behind, served := min 65535 ((s.queue (s.classOf a)).served + 1) } := by
  subst ht
  have hmachine := zeroStart_machine (s := s) (i := i) (a := a) y
  have htouch := touched_zeroStart (s := s) (i := i) (a := a) y
  have hclass : (zeroStart s i a y).classOf a = s.classOf a := Touches.classOf htouch (by simp) a
  have hopen := openStart_machine (s := zeroStart s i a y) (a := a) (p := y) (by rw [hmachine]; exact hdoor)
  have hcounts := openStart_counts (s := zeroStart s i a y) (a := a) (p := y) (by rw [hmachine]; exact hdoor)
  have hstarted := touched_openStart a y (zeroStart s i a y)
  have hstation := (Touches.station hstarted (by simp) i).trans (zeroStart_station y)
  have haudit := (hstarted .money (by simp)).2.trans (zeroStart_audit y)
  generalize hu : openStart a y (zeroStart s i a y) = u at hopen hcounts hstation haudit
  obtain ⟨hstate, hpayment, hhold, hcycle⟩ := hopen
  obtain ⟨hqueues, hcounter⟩ := hcounts
  have hshown := touched_display i m (raise .payment u)
  have hm : (display i m (raise .payment u)).machine a = u.machine a := Touches.machine hshown (by simp) a
  have hq (c) : (display i m (raise .payment u)).queue c = u.queue c := Touches.queue hshown (by simp) c
  rw [hm, hstate, hpayment, hhold]
  have hopened := opened_machine a y (zeroStart s i a y)
  refine ⟨?station, ?audit, rfl, rfl, ?hold, ?counter, ?cycle, fun before behind e hheld hentries he hbefore => ?queue⟩
  case station =>
    rw [display, modifyStation, station_setStation_self, raise_station, hstation]
    rfl
  case audit => exact (hshown .money (by simp)).2.trans haudit
  case counter =>
    exact (Touches.cycleCounter hshown (by simp)).trans (hcounter.trans (by rw [Touches.cycleCounter htouch (by simp)]))
  case hold =>
    refine claimServed_hold ?_
    rw [hopened, hmachine, opened_classOf, hclass, opened_queue]
    exact fun hfree => zeroStart_free hl hfree
  case cycle =>
    rw [Touches.cycleCounter htouch (by simp), Touches.now htouch (by simp), hclass] at hcycle
    exact hcycle
  case queue =>
    have hqueue := zeroStart_queue (s := s) (i := i) (y := y) hheld hentries he hbefore
    have hsome : ((opened a y (zeroStart s i a y)).machine a).hold.isSome = true := by
      rw [hopened, hmachine]
      exact (hl.2 a).1 hheld
    have hserved := claimServed_queue (s := opened a y (zeroStart s i a y)) (a := a) (card := y.card) (before := before)
      (behind := behind) (e := { e with paying := true }) hsome (by rw [opened_queue, opened_classOf, hclass, hqueue]) he hbefore
    rw [opened_classOf, hclass, opened_queue, hqueue] at hserved
    rw [hq, hqueues, hserved]

end Lawful

end

/-- Settles O41: the tests of R92 are taken in their order; a PAY that passes them begins its payment, and one without a charge
opens its cycle at once. -/
theorem payBeginsThePaymentAndTheDebit : Obligations.PayBeginsThePaymentAndTheDebit := by
  unfold Obligations.PayBeginsThePaymentAndTheDebit
  intro s i target steps hs
  dsimp only
  rw [exec_pay_operating hs]
  refine ⟨fun hx => ?noCard, fun hx => ?busy, fun card slot hready hcard hslot => ⟨fun hhalted => ?halted,
    fun hopen hquiet => ?quiet, fun hopen hband => ⟨fun hunnamed => ?unnamed, fun a htarget hconf hpresent => ?_⟩⟩⟩
  case noCard =>
    rw [decidePay_notReady (by rcases hx with h | h <;> simp [h]), notReady_of_noCard hx]
    rfl
  case busy =>
    rw [decidePay_notReady (by rcases hx with h | h | h <;> simp [h]), notReady_of_busy hx]
    rfl
  case halted => exact congrArg _ (decidePay_halted hready hhalted)
  case quiet => exact congrArg _ (decidePay_quiet hready hopen hquiet)
  case unnamed => exact congrArg _ (decidePay_unnamed hready hopen hband (namedMachine_none hunnamed))
  subst htarget
  have hnamed := decidePay_named (k := steps.toNat) hready hopen hband (namedMachine_some hconf hpresent)
  have hfails (m) (hm : payTests (s.station i) a steps.toNat s = .error m) :=
    congrArg (Host.Outcome.next (σ := State) (φ := Fault) (ρ := Refusal)) (hnamed.trans (by rw [hm]))
  have hrefuses {code} (hcode : machineTest card (s.machine a) = some code) :=
    hfails _ (payTests_refused (x := s.station i) (k := steps.toNat) (by rw [hcard]; exact hcode))
  refine ⟨fun hidle => ⟨fun hclosed => hrefuses ?_, fun hclosed => hrefuses ?_⟩, fun hheld hother => hrefuses ?_,
    fun hbusy => hrefuses ?_, fun hserves hfree => ?_⟩
  · simp only [machineTest, hidle]
    exact if_pos (doorClosed_iff.mpr hclosed)
  · simp only [machineTest, hidle]
    exact if_neg (mt doorClosed_iff.mp hclosed)
  · simp only [machineTest, hheld]
    exact if_pos hother
  · rcases hbusy with hbusy | ⟨hserves, hpaid⟩
    · exact machineTest_busy hbusy
    · rw [machineTest_serves hserves, if_pos (Option.isSome_iff_ne_none.mpr hpaid)]
  have hserved := payTests_serves (x := s.station i) (k := steps.toNat) hcard hserves hfree
  refine ⟨fun hlocked => hfails _ ?_, fun hlock hpending => ⟨fun hdoor => hfails _ ?_, fun hdoor =>
    ⟨fun hselection => hfails _ ?_, fun n hselects => ?_⟩⟩⟩
  · rw [hserved, if_pos hlocked]
    rfl
  · rw [hserved, if_neg (by simp [hlock, hpending]), if_pos (by simpa using mt doorClosed_iff.mp hdoor)]
    rfl
  · rw [hserved, if_neg (by simp [hlock, hpending]), if_neg (by simpa using doorClosed_iff.mpr hdoor),
      if_pos (by simp [selectedPlan, hselection])]
    rfl
  have hselected := hserved
  rw [if_neg (by simp [hlock, hpending]), if_neg (by simpa using doorClosed_iff.mpr hdoor)] at hselected
  refine ⟨fun hclass hprofile => hfails _ ?_, fun hclass hprofile => hfails _ ?_,
    fun p hclass hprofile hgranted => hfails _ ?_, fun charge seconds minutes plan hbuys => ?_⟩
  · rw [hselected, if_pos (by simp [selectedPlan, hselects, planFor, hclass, hprofile])]
    rfl
  · rw [hselected, if_pos (by simp [selectedPlan, hselects, planFor, hclass, hprofile])]
    rfl
  · rw [hselected, if_neg (by simp [selectedPlan, hselects, planFor, hclass, hprofile]), hselects, Option.getD_some,
      startPurchase_none hclass hprofile hgranted]
    rfl
  rw [← discount_eq] at hbuys
  have hbought : startPurchase (s.classOf a) n steps.toNat s = some ⟨charge, seconds, minutes⟩ ∧
      planFor (s.classOf a) n s = some plan := by
    rcases hbuys with ⟨hclass, rfl, rfl, p, hp, rfl, rfl⟩ | ⟨hclass, p, hp, hpos, rfl, rfl, rfl, rfl⟩
    · exact startPurchase_washer hclass hp
    · exact startPurchase_dryer hclass hp rfl hpos
  have h : Begins s a card n plan := ⟨hopen, hband, hserves, hfree, hlock, hpending, hdoor, hselects, hbought.2⟩
  have htests := h.tests hcard hbought.1
  refine ⟨fun hfew => hfails _ (htests.trans (affordable_noFunds hfew)),
    fun henough hceiling => hfails _ (htests.trans (affordable_overCeiling henough hceiling)),
    fun henough hceiling hcharge => ?_, fun hl hzero hceiling => ?_⟩
  · have hpays : decidePay i (byte (addrNum a)).toNat steps.toNat (clearPanel i s) = _ :=
      (hnamed.trans (by rw [htests.trans (affordable_ok henough hceiling)])).trans (h.pays hcard hslot hcharge)
    refine ⟨fun hstate => ?_, fun before behind e hstate hq he hbefore => ?_⟩
    · rw [hpays, begunStart_selected hstate, hstate, State.paying, setStation_raising]
      rfl
    · rw [hpays, begunStart_held hstate hq he hbefore, hstate, State.paying, setStation_raising, setQueue_machine]
      rfl
  · subst hzero
    have hstarts := (hnamed.trans (by rw [htests.trans (affordable_ok (Nat.zero_le _) hceiling)])).trans (h.starts hcard rfl)
    obtain ⟨hstation, haudit, hstate, hpayment, hhold, hcounter, ⟨sub, hcycle⟩, hqueue⟩ := zeroStart_leaves hl hdoor hstarts
    have hseconds : (if s.classOf a = .dryer then seconds else 0) = seconds := by
      rcases hbuys with ⟨hclass, rfl, -⟩ | ⟨hclass, -⟩
      · simp
      · exact if_pos hclass
    exact ⟨_, _, rfl, hstation, haudit, hstate, hpayment, hhold, hcounter, hcycle, rfl, rfl, rfl, rfl, rfl, rfl, hseconds,
      hseconds, rfl, hqueue⟩

end Sys2Proof.Machine

/-! PROOF. What a settling record and a placement leave of the stations and of the refund table (R90, R91, R115). -/

namespace Sys2Proof.Machine

section
variable {s t : State} {i : StationId} {card : Nat} {slot : Slot} {e : RefundEntry} {before behind : List RefundEntry}

/-! ## A record that settles -/

/-- R90: a record settles into CARD_READY, or begins the credit of its card's READY entry. -/
theorem settleRecord_cases (i : StationId) (s : State) : settleRecord i s = toReady i s ∨
    ∃ e, (s.station i).card.bind s.refund = some e ∧ e.state = .ready ∧ (s.station i).pair.value < s.params.ceiling ∧
      settleRecord i s = beginCredit i e s := by
  cases hfound : (s.station i).card.bind s.refund with
  | none =>
    left
    unfold settleRecord
    simp only [hfound]
  | some e =>
    have hsettle : settleRecord i s =
        if e.state = .ready ∧ (s.station i).pair.value < s.params.ceiling then beginCredit i e s else toReady i s := by
      unfold settleRecord
      simp only [hfound]
    by_cases h : e.state = .ready ∧ (s.station i).pair.value < s.params.ceiling
    · exact .inr ⟨e, rfl, h.1, h.2, hsettle.trans (if_pos h)⟩
    · exact .inl (hsettle.trans (if_neg h))

theorem beginCredit_station (e : RefundEntry) : (beginCredit i e s).station i = { s.station i with
    state := .crediting, request := some .credit, target := none,
    amount := min e.amount (s.params.ceiling - (s.station i).pair.value), seconds := 0, minutes := 0,
    writing := (s.station i).slot.map otherSlot, oldPair := (s.station i).pair,
    expectedPair := ⟨nextSequence (s.station i).pair.sequence,
      (s.station i).pair.value + min e.amount (s.params.ceiling - (s.station i).pair.value)⟩,
    attempt := 1, begun := false } := by
  cases i <;> rfl

theorem toReady_station : (toReady i s).station i = readied s (s.station i) := by
  rw [toReady_eq, station_setStation_self]

/-- R90: what a settling record keeps of its card, and that the display only grows. -/
structure Settled (x y : Station) : Prop where
  card : y.card = x.card
  slot : y.slot = x.slot
  pair : y.pair = x.pair
  state : y.state = .cardReady ∨ y.state = .crediting
  display : ∃ more, y.display = x.display ++ more

theorem settleRecord_station (i : StationId) (s : State) : Settled (s.station i) ((settleRecord i s).station i) := by
  rcases settleRecord_cases i s with h | ⟨e, -, -, -, h⟩
  · rw [h, toReady_station]
    exact ⟨rfl, rfl, rfl, .inl rfl, _, rfl⟩
  · rw [h, beginCredit_station]
    exact ⟨rfl, rfl, rfl, .inr rfl, [], (List.append_nil _).symm⟩

theorem settleRecord_other {j : StationId} (hj : j ≠ i) (s : State) : (settleRecord i s).station j = s.station j := by
  rcases settleRecord_cases i s with h | ⟨e, -, -, -, h⟩
  · rw [h, toReady_eq, station_setStation_other _ _ hj]
  · rw [h]
    exact station_setStation_other s _ hj

/-- Whether an entry is another but for the mark of its credit (R91, R117). -/
def sameEntry (e f : RefundEntry) : Prop :=
  f.position = e.position ∧ f.card = e.card ∧ f.amount = e.amount ∧ f.state = e.state ∧ f.created = e.created

theorem toReady_refunds (i : StationId) (s : State) : (toReady i s).refunds = s.refunds := by
  rw [toReady_eq, setStation_refunds]

/-- R91, R117: a settling record does no more to the refund table than mark the entry of its card. -/
theorem settleRecord_refunds (hs : s.refunds = before ++ e :: behind) (he : e.card = card)
    (hbefore : ∀ y ∈ before, y.card ≠ card) (hcard : (s.station i).card = some card) :
    ∃ f, (settleRecord i s).refunds = before ++ f :: behind ∧ sameEntry e f := by
  rcases settleRecord_cases i s with h | ⟨x, hx, -, -, h⟩
  · exact ⟨e, by rw [h, toReady_refunds, hs], rfl, rfl, rfl, rfl, rfl⟩
  · have hfound : x = e := by
      rw [hcard, Option.bind_some, refund_eq_some hs he hbefore] at hx
      exact (Option.some.inj hx).symm
    subst hfound
    refine ⟨{ x with inProgress := true, pairs := some ((s.station i).pair,
      ⟨nextSequence (s.station i).pair.sequence,
        (s.station i).pair.value + min x.amount (s.params.ceiling - (s.station i).pair.value)⟩) },
      ?_, rfl, rfl, rfl, rfl, rfl⟩
    have hmarked := modifyFirst_split (fun e : RefundEntry => { e with
        inProgress := true, pairs := some ((s.station i).pair,
          ⟨nextSequence (s.station i).pair.sequence,
            (s.station i).pair.value + min x.amount (s.params.ceiling - (s.station i).pair.value)⟩) })
      (refundFor_before (he ▸ hbefore)) (refundFor_self (e := x) rfl) (behind := behind)
    rw [h, ← hmarked, ← hs]
    cases i <;> rfl

theorem settleRecord_refunds_none (hnone : ∀ e ∈ s.refunds, e.card ≠ card) (hcard : (s.station i).card = some card) :
    (settleRecord i s).refunds = s.refunds := by
  rw [settleRecord_stands hcard (fun e he hc => absurd hc (hnone e he)), toReady_refunds]

/-! ## Placements and the stations -/

/-- R90: a placement settles no record but one that stands CARD_READY. -/
theorem tellPlacement_station (h : (s.station i).state ≠ .cardReady) (card : Nat) :
    (tellPlacement card s).station i = s.station i := by
  have hself (t : State) (ht : (t.station i).state ≠ .cardReady) : settleIfReady i card t = t := if_neg fun hr => ht hr.1
  have hother (j : StationId) (hj : i ≠ j) (t : State) : (settleIfReady j card t).station i = t.station i := by
    unfold settleIfReady
    split
    · exact settleRecord_other hj t
    · rfl
  rw [tellPlacement]
  cases i with
  | a => rw [hself s h, hother .b (by decide)]
  | b => rw [hself _ (by rw [hother .a (by decide)]; exact h), hother .a (by decide)]

theorem placeRefund_station (h : (s.station i).state ≠ .cardReady) (card amount machine : Nat) :
    (placeRefund card amount machine s).station i = s.station i := by
  unfold placeRefund
  split
  · rfl
  · have hmerged := Touches.station (touched_mergeRefund card amount machine
      (modifyAudit (fun t => { t with issued := addTotal t.issued amount }) s)) (by simp) i
    rw [tellPlacement_station (by rw [hmerged]; exact h), hmerged]
    cases i <;> rfl

/-- R26: the commit of a start leaves a record alone that does not stand CARD_READY. -/
theorem commitStart_station (h : (s.station i).state ≠ .cardReady) (a : Addr) :
    ((commitStart a s).1.station i) = s.station i := by
  unfold commitStart
  dsimp only
  split
  · rfl
  · next p hp =>
    split
    · have hplaced := placeRefund_station (s := takeCycleNumber s) (i := i) (by cases i <;> exact h)
      unfold closeStart
      dsimp only
      have hstep (t : State) : (modifyMachine a (fun m => { m with payment := none }) t).station i = t.station i := by
        cases i <;> rfl
      split
      · rw [Touches.station (touched_releaseToRoom a _) (by simp), Touches.station (touched_handBack a _) (by simp), hstep, hplaced]
        cases i <;> rfl
      · rw [hstep, hplaced]
        cases i <;> rfl
    · exact Touches.station (touched_openStart a p s) (by simp) i

theorem commitTopUp_station (h : (s.station i).state ≠ .cardReady) (a : Addr) (card amount : Nat) :
    ((commitTopUp a card amount s).1.station i) = s.station i := by
  have hcycle (f : Cycle → Cycle) (t : State) : (modifyCycle a f t).station i = t.station i := by cases i <;> rfl
  have hcleared : (clearTopUp a card s).station i = s.station i := by
    unfold clearTopUp
    split
    · exact hcycle ..
    · rfl
  unfold commitTopUp
  split
  · split
    · exact hcycle ..
    · rw [placeRefund_station (by rw [hcleared]; exact h), hcleared]
  · exact placeRefund_station h ..

theorem commitDebit_station (h : (s.station i).state ≠ .cardReady) (d : DebitCopy) :
    ((commitDebit d s).1.station i) = s.station i := by
  have hcounted : (countCharged d.amount s).station i = s.station i := by cases i <;> rfl
  unfold commitDebit
  dsimp only
  split
  · rw [raise_station, commitStart_station (by rw [hcounted]; exact h), hcounted]
  · rw [raise_station, commitTopUp_station (by rw [hcounted]; exact h), hcounted]

end

end Sys2Proof.Machine

/-! PROOF. The insertion read: the slots of a card, and what becomes of its doubt and of its refund (R82, R83, R86, R88 to
R90). -/

namespace Sys2Proof.Machine

/-! ## The slots of a card -/

theorem slotBytes_length (p : Pair) (machine amount : Nat) : (slotBytes p machine amount).length = 8 := rfl

theorem slotPair_slotBytes {p : Pair} (hvalue : p.value < 65536) (hsequence : p.sequence < 65536) (machine amount : Nat) :
    slotPair (slotBytes p machine amount) = p := by
  have hv : at2 (slotBytes p machine amount) 0 = p.value := by
    rw [slotBytes, List.append_assoc, List.append_assoc, List.append_assoc, at2_be2 hvalue]
  have hs : at2 (slotBytes p machine amount) 2 = p.sequence := by
    rw [slotBytes, List.append_assoc, List.append_assoc, List.append_assoc]
    exact (at2_append_right (be2 p.value) _ 0).trans (at2_be2 hsequence _)
  rw [slotPair, hv, hs]

theorem slotValid_slotBytes {p : Pair} (hvalue : p.value ≤ 50000) (machine amount : Nat) :
    slotValid (slotBytes p machine amount) = true := by
  have hv : at2 (slotBytes p machine amount) 0 = p.value := by
    rw [slotBytes, List.append_assoc, List.append_assoc, List.append_assoc, at2_be2 (by omega)]
  have hcheck : at1 (slotBytes p machine amount) 7 = byteCheck (slice (slotBytes p machine amount) 0 7) := by
    show (byte (byteCheck _)).toNat = byteCheck _
    rw [toNat_byte]
    exact Nat.mod_eq_of_lt (Nat.lt_of_le_of_lt (Nat.sub_le _ _) (by decide))
  simp [slotValid, slotBytes_length, hcheck, hv, Config.largestValue, hvalue]

theorem laterThan_iff {b a : Nat} : laterThan b a = true ↔ 1 ≤ (b + 65536 - a) % 65536 ∧ (b + 65536 - a) % 65536 ≤ 32767 := by
  simp [laterThan]

/-- R83: of two valid slots the later one is current, in whichever place it stands. -/
theorem currentSlot_later {old new : Pair} (hold : old.value ≤ 50000) (hnew : new.value ≤ 50000) (ho : old.sequence < 65536)
    (hn : new.sequence < 65536) (hlater : laterThan new.sequence old.sequence = true) (ma aa mb ab : Nat) :
    currentSlot (slotBytes old ma aa) (slotBytes new mb ab) = some (.b, new) ∧
    currentSlot (slotBytes new mb ab) (slotBytes old ma aa) = some (.a, new) := by
  have hearlier : laterThan old.sequence new.sequence = false := by
    rw [laterThan_iff] at hlater
    rw [Bool.eq_false_iff]
    intro hboth
    rw [laterThan_iff] at hboth
    omega
  have hpold := slotPair_slotBytes (p := old) (by omega) ho ma aa
  have hpnew := slotPair_slotBytes (p := new) (by omega) hn mb ab
  constructor
  · simp only [currentSlot, slotValid_slotBytes hold, slotValid_slotBytes hnew, hpold, hpnew, hlater, if_true]
  · simp only [currentSlot, slotValid_slotBytes hold, slotValid_slotBytes hnew, hpold, hpnew, hearlier]
    rfl

/-- What stands between two places of a byte string. -/
theorem slice_append {xs ys zs : List Byte} {i n : Nat} (hi : xs.length = i) (hn : ys.length = n) :
    slice (xs ++ (ys ++ zs)) i n = ys := by
  subst hi hn
  simp [slice]

section
variable {s : State} {i : StationId} {card : Nat} {slot : Slot} {pair : Pair}

/-! ## The read -/

/-- R80, R85: an insertion read that the card does not acknowledge has failed. -/
theorem exec_insertionRead_fails {y : ReadAnswers} (h : y.bytes.length < 3 ∨ false ∈ y.bytes) :
    exec (.insertionReadDone i y) s = exec (.insertionReadFail i) s := by
  have hnone : bytesRead purseCard y = none := (bytesRead_eq_none ..).mpr fun ⟨hlength, hall⟩ => by
    rcases h with hshort | hrefused
    · exact absurd hlength (by simpa [purseCard] using hshort)
    · exact absurd (hall false hrefused) (by decide)
  have hread : exec (.insertionReadDone i y) s = .next (readEnds i (bytesRead purseCard y) s) := rfl
  rw [hread, hnone]
  rfl

theorem exec_insertionRead_decides (hx : (s.station i).state = .reading) (bytes : List Byte) :
    exec (.insertionReadDone i ⟨[true, true, true], bytes⟩) s = .next (decideCard i bytes s) := by
  have hread : exec (.insertionReadDone i ⟨[true, true, true], bytes⟩) s = .next (readCompletes i bytes s) := rfl
  rw [hread, readCompletes, if_pos hx]

/-- R82, R86: a card of the issuer with two valid slots is accepted with the later one. -/
theorem decideCard_accepts {rest : List Byte} {old new : Pair} {ma aa mb ab : Nat} {inB : Bool} (hpos : 0 < card)
    (hcard : card < 4294967295) (hissuer : s.params.issuer < 65536) (hrest : rest.length = 10) (hold : old.value ≤ 50000)
    (hnew : new.value ≤ 50000) (ho : old.sequence < 65536) (hn : new.sequence < 65536)
    (hlater : laterThan new.sequence old.sequence = true) (hfree : holdsCard card (s.station (otherStation i)) = false) :
    decideCard i (be4 card ++ be2 s.params.issuer ++ rest ++
      (if inB then slotBytes old ma aa ++ slotBytes new mb ab else slotBytes new mb ab ++ slotBytes old ma aa)) s =
      acceptCard i card (if inB then .b else .a) new s := by
  have hslots : ∀ xs ys : List Byte, xs.length = 8 → ys.length = 8 →
      slice (be4 card ++ be2 s.params.issuer ++ rest ++ (xs ++ ys)) 16 8 = xs ∧
      slice (be4 card ++ be2 s.params.issuer ++ rest ++ (xs ++ ys)) 24 8 = ys := by
    intro xs ys hxs hys
    have hbefore : (be4 card ++ be2 s.params.issuer ++ rest).length = 16 := by
      rw [List.length_append, hrest]
      rfl
    refine ⟨slice_append hbefore hxs, ?_⟩
    have hsecond := slice_append (xs := be4 card ++ be2 s.params.issuer ++ rest ++ xs) (ys := ys) (zs := []) (i := 24)
      (by rw [List.length_append, hbefore, hxs]) hys
    rwa [List.append_nil, List.append_assoc] at hsecond
  have hread : ∀ tail, at4 (be4 card ++ be2 s.params.issuer ++ rest ++ tail) 0 = card ∧
      at2 (be4 card ++ be2 s.params.issuer ++ rest ++ tail) 4 = s.params.issuer := by
    intro tail
    rw [List.append_assoc, List.append_assoc]
    exact ⟨at4_be4 (by omega) _, (at2_append_right (be4 card) _ 0).trans (at2_be2 hissuer _)⟩
  have hvalid : validCard card = true := by simp [validCard]; omega
  have hcurrent := currentSlot_later hold hnew ho hn hlater ma aa mb ab
  obtain ⟨hcardread, hissuerread⟩ := hread
    (if inB then slotBytes old ma aa ++ slotBytes new mb ab else slotBytes new mb ab ++ slotBytes old ma aa)
  rw [decideCard, hcardread, hissuerread, if_neg (not_not_intro rfl), hvalid, if_neg (by simp), hfree, if_neg (by simp)]
  cases inB with
  | true =>
    obtain ⟨ha, hb⟩ := hslots (slotBytes old ma aa) (slotBytes new mb ab) rfl rfl
    rw [if_pos rfl, ha, hb, hcurrent.1]
    rfl
  | false =>
    obtain ⟨ha, hb⟩ := hslots (slotBytes new mb ab) (slotBytes old ma aa) rfl rfl
    rw [if_neg Bool.false_ne_true, ha, hb, hcurrent.2]
    rfl

end

end Sys2Proof.Machine

/-! PROOF. A card that is accepted: its doubt, its IN_DOUBT refund, and the record that settles (R86, R88 to R90). -/

namespace Sys2Proof.Machine

section
variable {s t : State} {i : StationId} {card : Nat} {slot : Slot} {pair : Pair} {e : RefundEntry}
  {before behind : List RefundEntry}

/-- R86: the card in the record, with BALANCE still to be shown. -/
def State.entering (s : State) (i : StationId) (card : Nat) (slot : Slot) (pair : Pair) : State :=
  s.setStation i { s.station i with card := some card, slot := some slot, pair := pair, balanceDue := true }

theorem acceptCard_eq : acceptCard i card slot pair s =
    settleRecord i (resolveCredit i card pair (resolveDoubts i card pair (s.entering i card slot pair))) := rfl

@[simp] theorem entering_station : (s.entering i card slot pair).station i =
    { s.station i with card := some card, slot := some slot, pair := pair, balanceDue := true } := station_setStation_self ..

@[simp] theorem entering_refunds : (s.entering i card slot pair).refunds = s.refunds := setStation_refunds ..
@[simp] theorem entering_doubts : (s.entering i card slot pair).doubts = s.doubts := setStation_doubts ..
@[simp] theorem entering_audit : (s.entering i card slot pair).audit = s.audit := setStation_audit ..
@[simp] theorem entering_params : (s.entering i card slot pair).params = s.params := setStation_params ..

theorem resolveDoubts_none (h : ∀ d ∈ s.doubts, d.debit.card ≠ card) : resolveDoubts i card pair s = s := by
  have hnone : s.doubts.find? (fun d => d.debit.card == card) = none := by simpa using h
  rw [resolveDoubts, hnone]

theorem resolveCredit_none (h : ∀ e ∈ s.refunds, e.card ≠ card) : resolveCredit i card pair s = s := by
  rw [resolveCredit, refund_eq_none h]

/-- R89: an entry that is not IN_DOUBT has nothing to be resolved. -/
theorem resolveCredit_ready (hs : s.refunds = before ++ e :: behind) (he : e.card = card) (hbefore : ∀ y ∈ before, y.card ≠ card)
    (hstate : e.state = .ready) : resolveCredit i card pair s = s := by
  rw [resolveCredit, refund_eq_some hs he hbefore]
  simp only [hstate]

section InDoubt
variable {was expected : Pair} (hs : s.refunds = before ++ e :: behind) (he : e.card = card) (hbefore : ∀ y ∈ before, y.card ≠ card)
  (hstate : e.state = .inDoubt) (hpairs : e.pairs = some (was, expected))
include hs he hbefore hstate hpairs

theorem resolveCredit_inDoubt : resolveCredit i card pair s =
    if pair = expected then
      display i { plainMessage msgRefunded with
        first := expected.value - was.value, second := pair.value,
        third := stillHeld card (creditLanded card (expected.value - was.value) s) }
        (creditLanded card (expected.value - was.value) s)
    else if pair = was then creditVoid card s
    else creditSuspect card s := by
  have hcarried : creditCarried e = expected.value - was.value := by rw [creditCarried, hpairs]
  rw [resolveCredit, refund_eq_some hs he hbefore]
  simp only [hstate, hpairs, hcarried]

end InDoubt

/-- The amount a table still holds for a card. -/
theorem stillHeld_none (h : ∀ e ∈ s.refunds, e.card ≠ card) : stillHeld card s = 0 := by
  rw [stillHeld, refund_eq_none h]
  rfl

theorem stillHeld_some (hs : s.refunds = before ++ e :: behind) (he : e.card = card) (hbefore : ∀ y ∈ before, y.card ≠ card) :
    stillHeld card s = e.amount := by
  rw [stillHeld, refund_eq_some hs he hbefore]
  rfl

/-- R116, R120: what stands in an entry's place when a credit has landed. -/
theorem creditLanded_held {credit : Nat} (hs : s.refunds = before ++ e :: behind) (he : e.card = card)
    (hbefore : ∀ y ∈ before, y.card ≠ card) (hbehind : ∀ y ∈ behind, y.card ≠ card) (hcredit : credit ≤ e.amount) :
    stillHeld card (creditLanded card credit s) = e.amount - credit := by
  rw [creditLanded_found hs he hbefore hcredit]
  by_cases hall : credit = e.amount
  · rw [if_pos hall, stillHeld_none (by simpa using fun y hy => hy.elim (hbefore y) (hbehind y)), hall, Nat.sub_self]
  · rw [if_neg hall, stillHeld_some (e := { e with
      amount := e.amount - credit, state := .ready, inProgress := false, pairs := none }) (before := before) (behind := behind)
      (by simp) he hbefore]

/-! ## A credit that cannot be settled -/

/-- R138: the record at the tail after a handing carries the card handed. -/
theorem handFault_card (h : Handing) (s : State) : ∃ f ∈ (handFault h s).faults, (handFault h s).faults.getLast? = some f ∧
    f.machine = h.machine ∧ f.code = h.code ∧ f.card = h.card := by
  rw [handFault_faults]
  unfold recordFault
  cases hfound : s.faults.find? (recordOf h) with
  | none => exact ⟨_, by simp, List.getLast?_concat .., rfl, rfl, rfl⟩
  | some f =>
    have hpair := List.find?_some hfound
    simp only [recordOf, Bool.and_eq_true, beq_iff_eq] at hpair
    exact ⟨_, by simp, List.getLast?_concat .., hpair.1, hpair.2, rfl⟩

/-- R89, R91: a credit whose outcome cannot be settled leaves its entry SUSPECT, counted and handed over. -/
theorem creditSuspect_leaves (hs : s.refunds = before ++ e :: behind) (he : e.card = card)
    (hbefore : ∀ y ∈ before, y.card ≠ card) :
    (creditSuspect card s).refunds = before ++ { e with state := .suspect, inProgress := false } :: behind ∧
    (creditSuspect card s).audit =
      { s.audit with creditsUnresolved := min 999999999999 (s.audit.creditsUnresolved + 1) } ∧
    faultLast 0 0x21 (creditSuspect card s) ∧
    (∃ f ∈ (creditSuspect card s).faults, f.machine = 0 ∧ f.code = 0x21 ∧ f.card = some card) ∧
    ∀ j, (creditSuspect card s).station j = s.station j := by
  have hmarked := updateRefund_eq (fun e => { e with state := .suspect, inProgress := false }) hs he hbefore
  have htold := touched_handFault_tells (tells_card 0 (some card) (.inr (.inl rfl)))
    (updateRefund card (fun e => { e with state := .suspect, inProgress := false }) s)
  have hmoney := htold .money (by simp)
  have hlast := faultLast_handFault { plainHanding 0 faultCreditUnresolved with card := some card }
    (updateRefund card (fun e => { e with state := .suspect, inProgress := false }) s)
  obtain ⟨f, hf, -, hmachine, hcode, hcard⟩ := handFault_card { plainHanding 0 faultCreditUnresolved with card := some card }
    (updateRefund card (fun e => { e with state := .suspect, inProgress := false }) s)
  refine ⟨hmoney.1.trans (by rw [hmarked]; rfl), ?_, hlast, ⟨f, hf, hmachine, hcode, hcard⟩, fun j => ?_⟩
  · have haudit := hmoney.2.trans (show (updateRefund card _ s).audit = s.audit by rw [hmarked]; rfl)
    exact congrArg (fun y : Audit => { y with creditsUnresolved := addTotal y.creditsUnresolved 1 }) haudit
  · exact Touches.station (touched_creditSuspect card s) (by simp) j

/-! ## An IN_DOUBT refund at the insertion -/

/-- A table without an entry of a card but the one that has settled. -/
theorem settleRecord_resolved {f : RefundEntry} (hs : s.refunds = before ++ (if f.amount = 0 then [] else [f]) ++ behind)
    (hf : f.card = card) (hother : ∀ y ∈ before ++ behind, y.card ≠ card) (hcard : (s.station i).card = some card) :
    ∃ g, (settleRecord i s).refunds = before ++ (if f.amount = 0 then [] else [g]) ++ behind ∧ sameEntry f g := by
  by_cases hzero : f.amount = 0
  · rw [if_pos hzero, List.append_nil] at hs
    refine ⟨f, ?_, rfl, rfl, rfl, rfl, rfl⟩
    rw [settleRecord_refunds_none (by rw [hs]; exact hother) hcard, hs, if_pos hzero, List.append_nil]
  · rw [if_neg hzero, List.append_assoc, List.singleton_append] at hs
    obtain ⟨g, hg, hsame⟩ := settleRecord_refunds hs hf (fun y hy => hother y (List.mem_append_left _ hy)) hcard
    exact ⟨g, by rw [hg, if_neg hzero]; simp, hsame⟩

/-- R89: the credit of an IN_DOUBT entry turns out to have landed. -/
theorem resolveCredit_landed {was expected : Pair} (hs : s.refunds = before ++ e :: behind) (he : e.card = card)
    (hother : ∀ y ∈ before ++ behind, y.card ≠ card) (hstate : e.state = .inDoubt) (hpairs : e.pairs = some (was, expected))
    (hpair : pair = expected) (hcredit : expected.value - was.value ≤ e.amount) :
    resolveCredit i card pair s = ((s.withMoney (before ++ (if e.amount - (expected.value - was.value) = 0 then [] else [{ e with
        amount := e.amount - (expected.value - was.value), state := .ready, inProgress := false, pairs := none }]) ++ behind)
      { s.audit with credited := min 999999999999 (s.audit.credited + (expected.value - was.value)) }).setStation i
        { s.station i with display := (s.station i).display ++ [{ plainMessage msgRefunded with
          first := expected.value - was.value, second := pair.value,
          third := e.amount - (expected.value - was.value) }] }).raising (eventBit .payment) := by
  have hbefore : ∀ y ∈ before, y.card ≠ card := fun y hy => hother y (List.mem_append_left _ hy)
  have hbehind : ∀ y ∈ behind, y.card ≠ card := fun y hy => hother y (List.mem_append_right _ hy)
  have hzero : (expected.value - was.value = e.amount) = (e.amount - (expected.value - was.value) = 0) := by
    apply propext
    omega
  rw [resolveCredit_inDoubt hs he hbefore hstate hpairs, if_pos hpair, creditLanded_held hs he hbefore hbehind hcredit,
    creditLanded_found hs he hbefore hcredit, display_raising, display, modifyStation, withMoney_station]
  simp only [hzero]

end

end Sys2Proof.Machine

/-! PROOF. The doubt of an inserted card, and every clause of the insertion read (R86, R88 to R90). -/

namespace Sys2Proof.Machine

section
variable {s t : State} {i : StationId} {card : Nat} {slot : Slot} {pair : Pair} {e : RefundEntry}
  {before behind : List RefundEntry}

/-! ## What an IN_DOUBT refund leaves alone -/

/-- A record whose card stands and whose display only grows. -/
structure ShownMore (x y : Station) : Prop where
  card : y.card = x.card
  display : ∃ more, y.display = x.display ++ more

theorem ShownMore.of_eq {x y : Station} (h : y = x) : ShownMore x y := ⟨by rw [h], [], by rw [h, List.append_nil]⟩

theorem ShownMore.trans {x y z : Station} (h : ShownMore x y) (k : ShownMore y z) : ShownMore x z := by
  obtain ⟨more, hmore⟩ := h.display
  obtain ⟨rest, hrest⟩ := k.display
  exact ⟨k.card.trans h.card, more ++ rest, by rw [hrest, hmore, List.append_assoc]⟩

theorem Settled.shown {x y : Station} (h : Settled x y) : ShownMore x y := ⟨h.card, h.display⟩

theorem shown_display (m : Message) : ShownMore (s.station i) ((display i m s).station i) := by
  rw [display, modifyStation, station_setStation_self]
  exact ⟨rfl, [m], rfl⟩

/-- R89: the three ends of an IN_DOUBT refund, and no refund in doubt. -/
theorem resolveCredit_cases (i : StationId) (card : Nat) (pair : Pair) (s : State) :
    resolveCredit i card pair s = s ∨ (∃ m credit, resolveCredit i card pair s = display i m (creditLanded card credit s)) ∨
    resolveCredit i card pair s = creditVoid card s ∨ resolveCredit i card pair s = creditSuspect card s := by
  unfold resolveCredit
  split
  · exact .inl rfl
  · dsimp only
    split
    · split
      · exact .inr (.inl ⟨_, _, rfl⟩)
      · split
        · exact .inr (.inr (.inl rfl))
        · exact .inr (.inr (.inr rfl))
    · exact .inl rfl

theorem resolveCredit_shown : ShownMore (s.station i) ((resolveCredit i card pair s).station i) := by
  rcases resolveCredit_cases i card pair s with h | ⟨m, credit, h⟩ | h | h <;> rw [h]
  · exact .of_eq rfl
  · exact (ShownMore.of_eq (Touches.station (touched_creditLanded card credit s) (by simp) i)).trans (shown_display m)
  · exact .of_eq (Touches.station (touched_creditVoid card s) (by simp) i)
  · exact .of_eq (Touches.station (touched_creditSuspect card s) (by simp) i)

theorem creditSuspect_told (card : Nat) (s : State) : creditSuspect card s = countCreditUnresolved (raise .fault {
    updateRefund card (fun e => { e with state := .suspect, inProgress := false }) s with
      faults := recordFault s.now { plainHanding 0 faultCreditUnresolved with card := some card } s.faults }) := by
  rw [creditSuspect, handFault_tells (tells_card 0 (some card) (.inr (.inl rfl)))]
  rfl

/-- R89: the charges and the debits unresolved are none of a refund's. -/
theorem resolveCredit_audit : (resolveCredit i card pair s).audit.charged = s.audit.charged ∧
    (resolveCredit i card pair s).audit.debitsUnresolved = s.audit.debitsUnresolved := by
  rcases resolveCredit_cases i card pair s with h | ⟨m, credit, h⟩ | h | h <;> rw [h]
  · exact ⟨rfl, rfl⟩
  · rw [(touched_display i m (creditLanded card credit s) .money (by simp)).2]
    unfold creditLanded
    split
    · exact ⟨rfl, rfl⟩
    · dsimp only
      split <;> exact ⟨rfl, rfl⟩
  · exact ⟨rfl, rfl⟩
  · rw [creditSuspect_told]
    exact ⟨rfl, rfl⟩

theorem resolveCredit_machine (a : Addr) : (resolveCredit i card pair s).machine a = s.machine a := by
  rcases resolveCredit_cases i card pair s with h | ⟨m, credit, h⟩ | h | h <;> rw [h]
  · rw [Touches.machine (touched_display i m _) (by simp) a, Touches.machine (touched_creditLanded card credit s) (by simp) a]
  · exact Touches.machine (touched_creditVoid card s) (by simp) a
  · rw [creditSuspect_told]
    rfl

/-- R138: a fault just recorded stands in the table behind a refund in doubt. -/
theorem resolveCredit_faults {f : FaultRecord} (hf : s.faults.getLast? = some f) (hcode : f.code ≠ faultCreditUnresolved) :
    f ∈ (resolveCredit i card pair s).faults := by
  have hmem : f ∈ s.faults := List.mem_of_getLast? hf
  rcases resolveCredit_cases i card pair s with h | ⟨m, credit, h⟩ | h | h <;> rw [h]
  · exact hmem
  · rw [touched_display i m _ .faults (by simp), touched_creditLanded card credit s .faults (by simp)]
    exact hmem
  · rw [touched_creditVoid card s .faults (by simp)]
    exact hmem
  · rw [creditSuspect_told]
    exact mem_recordFault hf hcode

/-! ## The commit of a debit and the audit totals -/

theorem placeRefund_charged (card n machine : Nat) (s : State) :
    (placeRefund card n machine s).audit.charged = s.audit.charged := by
  have hunplaced (k : Nat) (t : State) : (unplaced card k machine t).audit.charged = t.audit.charged := by
    unfold unplaced
    split
    · rfl
    · rw [handFault_tells (tells_card _ _ (.inr (.inr rfl)))]
      rfl
  have hmerge (t : State) : (mergeRefund card n machine t).audit.charged = t.audit.charged := by
    unfold mergeRefund
    split
    · exact hunplaced _ _
    · split
      · exact hunplaced _ _
      · exact hunplaced _ t
  unfold placeRefund
  split
  · rfl
  · rw [tellPlacement_audit, hmerge]
    rfl

theorem commitStart_charged (a : Addr) (s : State) : (commitStart a s).1.audit.charged = s.audit.charged := by
  unfold commitStart
  dsimp only
  split
  · rfl
  · next p hp =>
    split
    · have hstep (t : State) : (modifyMachine a (fun m => { m with payment := none }) t).audit = t.audit := rfl
      unfold closeStart
      dsimp only
      split
      · rw [(touched_releaseToRoom a _ .money (by simp)).2, (touched_handBack a _ .money (by simp)).2, hstep, placeRefund_charged]
        rfl
      · rw [hstep, placeRefund_charged]
        rfl
    · exact congrArg Audit.charged (touched_openStart a p s .money (by simp)).2

theorem commitTopUp_charged (a : Addr) (card amount : Nat) (s : State) :
    (commitTopUp a card amount s).1.audit.charged = s.audit.charged := by
  have hcleared : (clearTopUp a card s).audit = s.audit := by
    unfold clearTopUp
    split <;> rfl
  unfold commitTopUp
  split
  · split
    · rfl
    · rw [placeRefund_charged, hcleared]
  · exact placeRefund_charged ..

/-- R109: the commit of a debit counts its amount. -/
theorem commitDebit_charged (d : DebitCopy) (s : State) :
    (commitDebit d s).1.audit.charged = min 999999999999 (s.audit.charged + d.amount) := by
  unfold commitDebit
  dsimp only
  split
  · exact commitStart_charged ..
  · exact commitTopUp_charged ..

/-! ## A doubt at the insertion -/

/-- R88: the message of a doubt, by the pair read. -/
def doubtAnswer (pair : Pair) (d : DebitCopy) : Nat :=
  if pair = d.expectedPair then msgPaymentSettled else if pair = d.oldPair then msgPaymentVoid else msgPaymentUnresolved

theorem resolveDoubt_station (h : (s.station i).state ≠ .cardReady) (d : DebitCopy) :
    (resolveDoubt i pair d s).station i = { s.station i with
      display := (s.station i).display ++ [doubtMessage (doubtAnswer pair d) d] } := by
  unfold resolveDoubt doubtAnswer
  split
  · rw [display, modifyStation, station_setStation_self, commitDebit_station h]
  · split
    · rw [display, modifyStation, station_setStation_self, raise_station,
        Touches.station (touched_abandonDebit d.kind d.machine d.card s) (by simp)]
    · rw [display, modifyStation, station_setStation_self, raise_station, Touches.station (touched_debitUnresolved d s) (by simp)]

theorem resolveDoubt_committed {d : DebitCopy} (h : pair = d.expectedPair) :
    (resolveDoubt i pair d s).audit.charged = min 999999999999 (s.audit.charged + d.amount) := by
  rw [resolveDoubt, if_pos h, (touched_display i _ _ .money (by simp)).2, commitDebit_charged]

/-- R88: a debit that did not commit, or whose outcome cannot be settled. -/
theorem resolveDoubt_failed {d : DebitCopy} (h : pair ≠ d.expectedPair) :
    (resolveDoubt i pair d s).audit.charged = s.audit.charged ∧
    (resolveDoubt i pair d s).audit.debitsUnresolved = (if pair = d.oldPair then s.audit.debitsUnresolved
      else min 999999999999 (s.audit.debitsUnresolved + 1)) ∧
    (d.kind = .start → ((resolveDoubt i pair d s).machine d.machine).payment = none) ∧
    (pair ≠ d.oldPair → ∃ f, (resolveDoubt i pair d s).faults.getLast? = some f ∧ f.machine = addrNum d.machine ∧
      f.code = faultDebitUnresolved ∧ f.card = some d.card) := by
  rw [resolveDoubt, if_neg h]
  by_cases hold : pair = d.oldPair
  · rw [if_pos hold, if_pos hold]
    have hshown := touched_display i (doubtMessage msgPaymentVoid d) (raise .payment (abandonDebit d.kind d.machine d.card s))
    have hmoney : (display i (doubtMessage msgPaymentVoid d) (raise .payment (abandonDebit d.kind d.machine d.card s))).audit =
        s.audit := (hshown .money (by simp)).2.trans (touched_abandonDebit d.kind d.machine d.card s .money (by simp)).2
    refine ⟨by rw [hmoney], by rw [hmoney], fun hkind => ?_, fun hnot => absurd hold hnot⟩
    rw [Touches.machine hshown (by simp), raise_machine, hkind]
    exact abandonStart_payment d.machine s
  · rw [if_neg hold, if_neg hold]
    have hshown := touched_display i (doubtMessage msgPaymentUnresolved d) (raise .payment (debitUnresolved d s))
    obtain ⟨haudit, -, -, hpayment⟩ := debitUnresolved_counts d s
    have hmoney : (display i (doubtMessage msgPaymentUnresolved d) (raise .payment (debitUnresolved d s))).audit =
        { s.audit with debitsUnresolved := addTotal s.audit.debitsUnresolved 1 } := (hshown .money (by simp)).2.trans haudit
    refine ⟨by rw [hmoney], by rw [hmoney]; rfl, fun hkind => ?_, fun _ => ?_⟩
    · rw [Touches.machine hshown (by simp), raise_machine]
      exact hpayment hkind
    · obtain ⟨f, -, hlast, hf⟩ := handFault_card { plainHanding (addrNum d.machine) faultDebitUnresolved with card := some d.card }
        (abandonDebit d.kind d.machine d.card s)
      exact ⟨f, by rw [hshown .faults (by simp)]; exact hlast, hf⟩

theorem resolveDoubts_found {before behind : List Doubt} {d : Doubt} (hd : s.doubts = before ++ d :: behind)
    (hcard : d.debit.card = card) (hbefore : ∀ y ∈ before, y.debit.card ≠ card) :
    resolveDoubts i card pair s = resolveDoubt i pair d.debit { s with doubts := before ++ behind } := by
  have hb : ∀ y ∈ before, (y.debit.card == card) = false := by simpa using hbefore
  have hfound := find?_split (p := fun d : Doubt => d.debit.card == card) (x := d) (behind := behind) hb (by simp [hcard])
  have herased := eraseP_split (p := fun d : Doubt => d.debit.card == card) (x := d) (behind := behind) hb (by simp [hcard])
  rw [resolveDoubts, hd, hfound]
  dsimp only
  rw [herased]

end

/-- Settles O45: the bytes read decide the card; one that is accepted settles its doubt, then its refund, then its record. -/
theorem insertionReadDecidesTheCard : Obligations.InsertionReadDecidesTheCard := by
  unfold Obligations.InsertionReadDecidesTheCard
  intro s i
  dsimp only
  intro hx
  refine ⟨fun y hy => exec_insertionRead_fails hy, fun bytes hforeign => ?foreign, fun card rest old new ma aa mb ab inB hpos hcard
    hissuer hrest hold hnew ho hn hlow hhigh hfree => ?_⟩
  case foreign =>
    rw [exec_insertionRead_decides hx, decideCard, if_pos hforeign, refuseCard, endCard, display, modifyStation, modifyStation,
      station_setStation_self, setStation_setStation_self]
    rfl
  rw [exec_insertionRead_decides hx, decideCard_accepts hpos hcard hissuer hrest hold hnew ho hn (laterThan_iff.mpr ⟨hlow, hhigh⟩)
    hfree, acceptCard_eq]
  generalize hslot : (if inB = true then Slot.b else Slot.a) = slot
  refine ⟨fun hdoubts hrefunds => ?ready, fun before behind e hdoubts hs he hbefore hstate hceiling => ?credit,
    fun before behind e hdoubts hs he hother hstate was expected hpairs => ?inDoubt, fun before behind d hd hdcard hbefore => ?doubt⟩
  all_goals have hdoubted : (s.entering i card slot new).doubts = s.doubts := entering_doubts
  case ready =>
    have hheld : heldReady card (s.entering i card slot new) = 0 := by
      rw [heldReady, refund_eq_none (by simpa using hrefunds)]
    rw [resolveDoubts_none (by simpa using hdoubts), resolveCredit_none (by simpa using hrefunds),
      settleRecord_stands (card := card) (by simp) (fun e he hc => absurd hc (hrefunds e (by simpa using he))), toReady_eq,
      entering_station, State.entering, setStation_setStation_self]
    rw [State.entering] at hheld
    simp only [readied, hheld, Option.getD_some, if_true]
    rfl
  case credit =>
    rw [resolveDoubts_none (by simpa using hdoubts), resolveCredit_ready (by simpa using hs) he hbefore hstate,
      settleRecord_credits (slot := slot) (by simpa using hs) he hbefore hstate (by simp) (by simp) (by simpa using hceiling)]
    subst hslot
    simp only [crediting, entering_station, entering_params, entering_audit, State.entering, withMoney_setStation,
      setStation_setStation_self, setStation_params, setStation_audit, station_setStation_self]
    cases inB <;> rfl
  case inDoubt =>
    have hbefore : ∀ y ∈ before, y.card ≠ card := fun y hy => hother y (List.mem_append_left _ hy)
    have hs1 : (s.entering i card slot new).refunds = before ++ e :: behind := entering_refunds.trans hs
    have hresolved := resolveCredit_inDoubt (i := i) (pair := new) hs1 he hbefore hstate hpairs
    rw [resolveDoubts_none (by simpa using hdoubts)]
    have hshown := resolveCredit_shown (s := s.entering i card slot new) (i := i) (card := card) (pair := new)
    have haccepted : ((resolveCredit i card new (s.entering i card slot new)).station i).card = some card := by
      rw [hshown.card, entering_station]
    have hsettled := settleRecord_station i (resolveCredit i card new (s.entering i card slot new))
    have haudit := settleRecord_audit i (resolveCredit i card new (s.entering i card slot new))
    refine ⟨_, rfl, hsettled.card.trans haccepted, fun hnew hle => ?landed, fun hnot hwas => ?void, fun hnot hwas => ?suspect⟩
    case landed =>
      have hlanded := resolveCredit_landed (i := i) (pair := new) hs1 he hother hstate hpairs hnew hle
      obtain ⟨more, hmore⟩ := hsettled.display
      have hrest : (resolveCredit i card new (s.entering i card slot new)).refunds = before ++
          (if e.amount - (expected.value - was.value) = 0 then [] else [{ e with
            amount := e.amount - (expected.value - was.value), state := .ready, inProgress := false, pairs := none }]) ++ behind := by
        rw [hlanded, raising_refunds, setStation_refunds, withMoney_refunds]
      obtain ⟨g, hg, hsame⟩ := settleRecord_resolved (f := { e with
        amount := e.amount - (expected.value - was.value), state := .ready, inProgress := false, pairs := none })
        hrest he hother haccepted
      refine ⟨by rw [haudit, hlanded]; cases i <;> rfl, ⟨more, ?_⟩, g, hsame.1, hsame.2.1.trans he, hsame.2.2.1, hsame.2.2.2.1, hsame.2.2.2.2, hg⟩
      rw [hmore, hlanded, raising_station, station_setStation_self, entering_station, List.append_assoc]
      rfl
    case void =>
      have hvoid : resolveCredit i card new (s.entering i card slot new) = creditVoid card (s.entering i card slot new) := by
        rw [hresolved, if_neg hnot, if_pos hwas]
      have hreturned := updateRefund_eq (fun e => { e with state := .ready, inProgress := false, pairs := none }) hs1 he hbefore
      have hrest : (resolveCredit i card new (s.entering i card slot new)).refunds = before ++
          { e with state := .ready, inProgress := false, pairs := none } :: behind := by
        rw [hvoid, creditVoid, hreturned]
        rfl
      obtain ⟨g, hg, -, hsame⟩ := settleRecord_refunds hrest he hbefore haccepted
      refine ⟨by rw [haudit, hvoid, creditVoid, hreturned]; exact entering_audit, g, hg, hsame.1.trans he, hsame.2.1, hsame.2.2.1⟩
    case suspect =>
      have hends : resolveCredit i card new (s.entering i card slot new) = creditSuspect card (s.entering i card slot new) := by
        rw [hresolved, if_neg hnot, if_neg hwas]
      obtain ⟨hrefunds, hcounted, hfault, -, -⟩ := creditSuspect_leaves hs1 he hbefore
      have hstands : settleRecord i (resolveCredit i card new (s.entering i card slot new)) =
          toReady i (creditSuspect card (s.entering i card slot new)) := by
        rw [hends] at haccepted ⊢
        refine settleRecord_stands haccepted fun y hy hc => .inl ?_
        rw [hrefunds] at hy
        rcases List.mem_append.mp hy with hy | hy
        · exact absurd hc (hbefore y hy)
        · rcases List.mem_cons.mp hy with rfl | hy
          · exact fun h => nomatch h
          · exact absurd hc (hother y (List.mem_append_right _ hy))
      refine ⟨?_, ?_, ?_⟩
      · rw [hstands]
        exact hfault.of_touches (touched_toReady i _) (by simp) (by simp)
      · rw [hstands, toReady_refunds, hrefunds]
      · rw [haudit, hends, hcounted, entering_audit]
  case doubt =>
    have hreading : (({ s.entering i card slot new with doubts := before ++ behind } : State).station i).state ≠ .cardReady := by
      show ((s.entering i card slot new).station i).state ≠ _
      rw [entering_station]
      exact hx.trans_ne (by decide)
    have hfound := resolveDoubts_found (i := i) (pair := new) (hdoubted.trans hd) hdcard hbefore
    have hresolved := resolveDoubt_station (pair := new) hreading d.debit
    have hkept := touched_resolveDoubt i new d.debit { s.entering i card slot new with doubts := before ++ behind }
    have hfailed := fun hne => resolveDoubt_failed (i := i) (s := { s.entering i card slot new with doubts := before ++ behind })
      (pair := new) (d := d.debit) hne
    have hpaid := fun heq => resolveDoubt_committed (i := i) (s := { s.entering i card slot new with doubts := before ++ behind })
      (pair := new) (d := d.debit) heq
    rw [hfound]
    have hbase : ({ s.entering i card slot new with doubts := before ++ behind } : State).audit = s.audit := entering_audit
    rw [hbase] at hfailed hpaid
    have hdoubtless := (hkept .doubts (by simp)).1
    generalize resolveDoubt i new d.debit { s.entering i card slot new with doubts := before ++ behind } = u at *
    have hshown := (resolveCredit_shown (s := u) (i := i) (card := card) (pair := new)).trans
      (settleRecord_station i (resolveCredit i card new u)).shown
    have hsettled := touched_settleRecord i (resolveCredit i card new u)
    obtain ⟨hcharged, hunresolved⟩ := resolveCredit_audit (s := u) (i := i) (card := card) (pair := new)
    rw [← settleRecord_audit i (resolveCredit i card new u)] at hcharged hunresolved
    obtain ⟨more, hmore⟩ := hshown.display
    have hstation : ({ s.entering i card slot new with doubts := before ++ behind } : State).station i = _ :=
      entering_station
    rw [hstation] at hresolved
    refine ⟨_, rfl, ?_, hshown.card.trans (by rw [hresolved]), ⟨more, ?_⟩, fun heq => hcharged.trans (hpaid heq), fun hne => ?_,
      fun hne hnot => ?_⟩
    · exact (hsettled .doubts (by simp)).1.trans ((touched_resolveCredit i card new u .doubts (by simp)).1.trans hdoubtless)
    · rw [hmore, hresolved, List.append_assoc]
      rfl
    · obtain ⟨hsame, hcount, hpayment, -⟩ := hfailed hne
      refine ⟨hcharged.trans hsame, hunresolved.trans hcount, fun hkind => ?_⟩
      rw [Touches.machine hsettled (by simp), resolveCredit_machine]
      exact hpayment hkind
    · obtain ⟨f, hlast, hmachine, hcode, hfor⟩ := (hfailed hne).2.2.2 hnot
      refine ⟨f, ?_, hmachine, hcode, hfor.trans (by rw [hdcard])⟩
      rw [hsettled .faults (by simp)]
      exact resolveCredit_faults hlast (by rw [hcode]; decide)

end Sys2Proof.Machine

/-! PROOF. The write of a debit or a credit: its traffic, its beginning and its end, and a card withdrawn (R79 to R81, R87, R91,
R94, R95, R99). -/

namespace Sys2Proof.Machine

section
variable {s : State} {i : StationId} {a : Addr} {card : Nat} {slot : Slot} {kind : DoubtKind}

/-! ## The traffic of a card -/

/-- R79, R81: a write of a slot that the card acknowledges, polled until it answers. -/
theorem cardWrite_traffic (offset : Nat) {bytes : List Byte} (hlen : bytes.length = 8) {late : List Bool} (rest : List Bool)
    (hlate : ∀ b ∈ late, b = false) :
    linkTraffic purseCard (.write offset bytes) ⟨List.replicate 10 true, late ++ true :: rest⟩ =
      ([.start, .put 0x6C, .put (byte offset)] : List LinkSymbol) ++ bytes.map .put ++ ([.stop] : List LinkSymbol) ++
      (late ++ [true]).flatMap (fun _ => ([.start, .put 0x6C, .stop] : List LinkSymbol)) := by
  have hacks : allAcknowledged ((LinkAccess.write offset bytes).sent purseCard) (List.replicate 10 true) = true := by
    rw [LinkAccess.sent, hlen]
    decide
  have hputs := acknowledged_puts (0x6C :: byte offset :: bytes) [.stop] []
  have hsent : acknowledged ((LinkAccess.write offset bytes).traffic purseCard) (List.replicate 10 true) =
      ([.start, .put 0x6C, .put (byte offset)] : List LinkSymbol) ++ bytes.map .put ++ ([.stop] : List LinkSymbol) := by
    rw [List.append_nil, List.length_cons, List.length_cons, hlen] at hputs
    exact congrArg (LinkSymbol.start :: ·) hputs
  rw [linkTraffic]
  dsimp only
  rw [hacks, if_pos rfl, hsent, pollTraffic_late purseCard late rest hlate]
  rfl

/-- R79, R80: the read of a slot. -/
theorem cardRead_traffic (offset count : Nat) (acks polls : List Bool) :
    linkTraffic purseCard (.read offset count) ⟨true :: true :: true :: acks, polls⟩ =
      ([.start, .put 0x6C, .put (byte offset), .restart, .put 0x6D] : List LinkSymbol) ++ (takes count ++ [.stop]) := by
  have htraffic : linkTraffic purseCard (.read offset count) ⟨true :: true :: true :: acks, polls⟩ =
      ([.start, .put 0x6C, .put (byte offset), .restart, .put 0x6D] : List LinkSymbol) ++
        acknowledged (takes count ++ [.stop]) acks ++ [] := rfl
  rw [htraffic, acknowledged_takes, List.append_nil]

theorem slotOffset_ite (slot : Slot) : byte (slotOffset slot) = if slot = .a then 16 else 24 := by cases slot <;> rfl

/-! ## The acknowledgements of a write -/

theorem writeOutcome_notBegun (y : LinkAnswers) : writeOutcome y = .notBegun ↔ y.bytes.head? ≠ some true := by
  unfold writeOutcome
  split
  · next h => simp [h]
  · next h => split <;> simp_all

theorem writeOutcome_completed (y : LinkAnswers) :
    writeOutcome y = .completed ↔ 10 ≤ y.bytes.length ∧ (∀ b ∈ y.bytes, b = true) ∧ true ∈ y.polls := by
  have hdone : writeDone purseCard 8 y = true ↔ 10 ≤ y.bytes.length ∧ (∀ b ∈ y.bytes, b = true) ∧ true ∈ y.polls :=
    (writeDone_iff purseCard 8 y).trans and_assoc
  unfold writeOutcome
  split
  · next h =>
    refine ⟨fun hc => (nomatch hc), fun ⟨hlen, hall, _⟩ => absurd ?_ h⟩
    cases hb : y.bytes with
    | nil => rw [hb] at hlen; exact absurd hlen (by decide)
    | cons b bs => rw [List.head?_cons, hall b (by rw [hb]; exact List.mem_cons_self)]
  · split
    · next h => exact ⟨fun _ => hdone.mp h, fun _ => rfl⟩
    · next h => exact ⟨fun hc => (nomatch hc), fun hall => absurd (hdone.mpr hall) h⟩

/-- R79: the eight bits of a byte and the period of its acknowledgement, with data released. -/
theorem put_lines (b : Byte) : ((LinkSymbol.put b).lines.filter (·.clock)).map (·.data) =
    [b.getLsbD 7, b.getLsbD 6, b.getLsbD 5, b.getLsbD 4, b.getLsbD 3, b.getLsbD 2, b.getLsbD 1, b.getLsbD 0, true] := rfl

/-! ## A record that ends -/

theorem endCard_eq (awaiting : Bool) (code : Nat) : endCard i awaiting code s = s.setStation i {
    emptied awaiting (s.station i) with display := (s.station i).display ++ [plainMessage code] } := by
  rw [endCard, display, modifyStation, modifyStation, station_setStation_self, setStation_setStation_self]
  rfl

/-- The card-present switch of a station has opened (R87). -/
def State.unswitched (s : State) (i : StationId) : State := s.setStation i { s.station i with switchClosed := false }

/-- R87: a card withdrawn while its write is in hand. -/
theorem removeCard_writing (hx : ((s.unswitched i).station i).state = .debiting ∨ ((s.unswitched i).station i).state = .crediting) :
    removeCard i s = if ((s.unswitched i).station i).begun then endCard i false msgReinsert (loseWrite i (s.unswitched i))
      else endCard i false (dropMessage ((s.unswitched i).station i) msgNoCard) (dropWrite i (s.unswitched i)) := by
  have hswitch : modifyStation i (fun x => { x with switchClosed := false }) s = s.unswitched i := rfl
  rw [removeCard, hswitch]
  rcases hx with hx | hx <;> rw [hx]

theorem removeCard_verifying (hx : ((s.unswitched i).station i).state = .verifying) :
    removeCard i s = endCard i false msgReinsert (loseWrite i (s.unswitched i)) := by
  have hswitch : modifyStation i (fun x => { x with switchClosed := false }) s = s.unswitched i := rfl
  rw [removeCard, hswitch, hx]

/-! ## A debit in a record -/

/-- A record that writes or verifies the debit of a card on a machine (R93, R99). -/
structure Debits (s : State) (i : StationId) (kind : DoubtKind) (card : Nat) (a : Addr) (slot : Slot) : Prop where
  card : (s.station i).card = some card
  target : (s.station i).target = some a
  writing : (s.station i).writing = some slot
  request : (s.station i).request = some (if kind = .topUp then .addTime else .pay)

/-- The copy of the debit in a record (R99). -/
def debitOf (x : Station) (kind : DoubtKind) (card : Nat) (a : Addr) (slot : Slot) : DebitCopy :=
  ⟨kind, card, a, x.amount, slot, x.oldPair, x.expectedPair⟩

section Debits
variable (h : Debits s i kind card a slot)
include h

theorem Debits.copyOf : copyOf (s.station i) = some (debitOf (s.station i) kind card a slot) := by
  unfold Machine.copyOf debitOf
  simp only [h.card, h.target, h.writing, h.request]
  cases kind <;> rfl

theorem Debits.notCredit : (s.station i).request ≠ some .credit := by
  rw [h.request]
  cases kind <;> decide

theorem Debits.writtenBytes : writtenBytes (s.station i) = slotBytes (s.station i).expectedPair (addrNum a) (s.station i).amount := by
  rw [Machine.writtenBytes, h.target]
  rfl

theorem Debits.keepCopy (hx : (s.station i).state = .debiting) :
    keepCopy i s = s.setDebitCopy i (some (debitOf (s.station i) kind card a slot)) := by
  rw [Machine.keepCopy]
  rw [if_pos hx, h.copyOf]

omit h in
theorem setDebitCopy_station (d : Option DebitCopy) (j : StationId) : (s.setDebitCopy i d).station j = s.station j := by
  cases i <;> cases j <;> rfl

/-- R94: the card acknowledges the device byte of the write of a debit. -/
theorem Debits.writeBegins (hx : (s.station i).state = .debiting) : writeBegins i s =
    (s.setDebitCopy i (some (debitOf (s.station i) kind card a slot))).setStation i { s.station i with begun := true } := by
  rw [Machine.writeBegins, if_pos (by simp [writingCard, hx]), h.keepCopy hx, modifyStation, setDebitCopy_station]

/-- R94: the write of a debit ends. -/
theorem Debits.writeEnds (hx : (s.station i).state = .debiting) {outcome : WriteOutcome} (hbegun : outcome ≠ .notBegun) :
    writeEnds i outcome s = (s.setDebitCopy i (some (debitOf (s.station i) kind card a slot))).setStation i
      { s.station i with state := .verifying, begun := true } := by
  have hends : modifyStation i (fun x => { x with state := .verifying, begun := true }) (Machine.keepCopy i s) =
      (s.setDebitCopy i (some (debitOf (s.station i) kind card a slot))).setStation i
        { s.station i with state := .verifying, begun := true } := by
    rw [h.keepCopy hx, modifyStation, setDebitCopy_station]
  unfold Machine.writeEnds
  dsimp only
  rw [if_neg (by simp [writingCard, hx])]
  cases outcome with
  | notBegun => exact absurd rfl hbegun
  | completed => exact hends
  | faulted => exact hends

/-- R44, R94: the debit of a top-up whose write never began is abandoned. -/
theorem Debits.drops {c : Cycle} {u : TopUp} (hkind : kind = .topUp) (hattempt : (s.station i).attempt = 1)
    (hcycle : (s.machine a).cycle = some c) (htop : c.topUp = some u) (hcard : u.card = card) : dropWrite i s =
      (s.setDebitCopy i none).setMachine a { s.machine a with cycle := some { c with topUp := none } } := by
  have hdropped : dropWrite i s = abandonDebit kind a card (s.setDebitCopy i none) := by
    unfold dropWrite
    simp only [h.copyOf]
    rw [h.request, hkind]
    exact if_pos hattempt
  have hmachine : (s.setDebitCopy i none).machine a = s.machine a := by cases i <;> rfl
  have hpending : pendingTopUp a card (s.setDebitCopy i none) = some u := by
    rw [pendingTopUp, hmachine, hcycle, Option.bind_some, htop]
    exact if_pos hcard
  rw [hdropped, hkind]
  show clearTopUp a card _ = _
  rw [clearTopUp, hpending, if_pos (by simp), modifyCycle_eq (c := c) (by rw [hmachine]; exact hcycle), hmachine]

/-- R99: a debit lost from sight leaves its doubt. -/
theorem Debits.loses : loseWrite i s = makeDoubt i (debitOf (s.station i) kind card a slot) s := by
  unfold loseWrite
  simp only [h.copyOf]
  rw [h.request]
  cases kind <;> rfl

/-- R94, R99: the second attempt of a debit that never began leaves a doubt, too. -/
theorem Debits.dropsAgain (hattempt : (s.station i).attempt ≠ 1) :
    dropWrite i s = makeDoubt i (debitOf (s.station i) kind card a slot) s := by
  unfold dropWrite
  simp only [h.copyOf]
  rw [h.request]
  cases kind <;> exact if_neg hattempt

theorem Debits.unswitched : Debits (s.unswitched i) i kind card a slot where
  card := by rw [State.unswitched, station_setStation_self]; exact h.card
  target := by rw [State.unswitched, station_setStation_self]; exact h.target
  writing := by rw [State.unswitched, station_setStation_self]; exact h.writing
  request := by rw [State.unswitched, station_setStation_self]; exact h.request

/-- R87, R99: a card withdrawn from a write that has begun, or that is the second attempt, or from its verification. -/
theorem Debits.withdrawn (hx : (s.station i).state = .debiting ∧ ((s.station i).begun = true ∨ (s.station i).attempt ≠ 1) ∨
    (s.station i).state = .verifying) : removeCard i s = endCard i false msgReinsert
      (makeDoubt i (debitOf (s.station i) kind card a slot) (s.unswitched i)) := by
  have hd := h.unswitched
  have hself : (s.unswitched i).station i = { s.station i with switchClosed := false } := station_setStation_self ..
  have hcopy : debitOf ((s.unswitched i).station i) kind card a slot = debitOf (s.station i) kind card a slot := by rw [hself]; rfl
  rcases hx with ⟨hx, hbegun⟩ | hx
  · rw [removeCard_writing (by rw [hself]; exact .inl hx)]
    by_cases hb : ((s.unswitched i).station i).begun = true
    · rw [if_pos hb, hd.loses, hcopy]
    · have hattempt : ((s.unswitched i).station i).attempt ≠ 1 := by
        rw [hself] at hb ⊢
        exact hbegun.resolve_left hb
      rw [if_neg hb, hd.dropsAgain hattempt, hcopy, dropMessage, if_neg hattempt]
  · rw [removeCard_verifying (by rw [hself]; exact hx), hd.loses, hcopy]

end Debits

/-- R99: a doubt made while the list has room. -/
theorem makeDoubt_room (d : DebitCopy) (hroom : s.doubts.length < 4) : makeDoubt i d s = State.raising (State.setDebitCopy { s with
    doubts := s.doubts ++ [⟨d, s.now + s.params.doubtWindow⟩] } i none) (eventBit .payment) := by
  have hlist : (s.setDebitCopy i none).doubts = s.doubts := by cases i <;> rfl
  rw [makeDoubt, evictDoubt, if_pos (by rw [hlist]; exact hroom), hlist]
  cases i <;> rfl

/-- R99, R100: a doubt made while the list is full ends the oldest. -/
theorem makeDoubt_full (d : DebitCopy) {old : Doubt} {rest : List Doubt} (hs : s.doubts = old :: rest) (hrest : rest.length = 3) :
    (makeDoubt i d s).doubts = rest ++ [⟨d, s.now + s.params.doubtWindow⟩] ∧
    (∀ j, (makeDoubt i d s).station j = s.station j) ∧ (makeDoubt i d s).debitCopy i = none ∧
    faultLast (addrNum old.debit.machine) 0x20 (makeDoubt i d s) ∧
    (makeDoubt i d s).audit.debitsUnresolved = min 999999999999 (s.audit.debitsUnresolved + 1) := by
  let u := debitUnresolved old.debit { s.setDebitCopy i none with doubts := rest }
  have hlist : (s.setDebitCopy i none).doubts = old :: rest := by cases i <;> exact hs
  have hmade : makeDoubt i d s = raise .payment { raise .payment u with
      doubts := (raise .payment u).doubts ++ [⟨d, (raise .payment u).now + (raise .payment u).params.doubtWindow⟩] } := by
    rw [makeDoubt, evictDoubt, if_neg (by rw [hlist]; simp [Config.doubtRecords, hrest]), hlist]
  have hkept := touched_debitUnresolved old.debit { s.setDebitCopy i none with doubts := rest }
  obtain ⟨haudit, -, hfault, -⟩ := debitUnresolved_counts old.debit { s.setDebitCopy i none with doubts := rest }
  have hnow : u.now = s.now := (Touches.now hkept (by simp)).trans (by cases i <;> rfl)
  have hparams : u.params = s.params := (Touches.params hkept (by simp)).trans (by cases i <;> rfl)
  have hdoubts := hkept .doubts (by simp)
  have htail : Touches [.flags, .doubts] u (makeDoubt i d s) := by
    rw [hmade]
    exact (touches_raise (by simp) _).mpr ((touches_doubts (by simp) _).mpr ((touches_raise (by simp) _).mpr (Touches.refl _ u)))
  refine ⟨?_, fun j => ?_, ?_, hfault.of_touches htail (by simp) (by simp), ?_⟩
  · rw [hmade]
    show u.doubts ++ [⟨d, u.now + u.params.doubtWindow⟩] = _
    rw [hnow, hparams, hdoubts.1]
  · rw [Touches.station htail (by simp), Touches.station hkept (by simp)]
    exact setDebitCopy_station none j
  · rw [hmade]
    cases i
    · exact hdoubts.2.1
    · exact hdoubts.2.2
  · rw [(htail .money (by simp)).2, haudit]
    cases i <;> rfl

/-! ## A credit in a record -/

section Credits
variable {before behind : List RefundEntry} {e : RefundEntry} (hcard : (s.station i).card = some card)
  (hrequest : (s.station i).request = some .credit) (hs : s.refunds = before ++ e :: behind) (he : e.card = card)
  (hbefore : ∀ y ∈ before, y.card ≠ card)
include hcard hrequest

theorem loseWrite_credit : loseWrite i s = raise .payment (creditTorn card s) := by
  unfold loseWrite
  simp only [hrequest, hcard, Option.getD_some]

theorem dropWrite_credit : dropWrite i s =
    if (s.station i).attempt = 1 then creditFailed card s else raise .payment (creditTorn card s) := by
  unfold dropWrite
  simp only [hrequest, hcard, Option.getD_some]

omit hcard hrequest
include hs he hbefore

theorem creditFailed_eq : creditFailed card s =
    s.withMoney (before ++ { e with inProgress := false, pairs := none } :: behind) s.audit := by
  rw [creditFailed, hs, modifyFirst_split _ (refundFor_before hbefore) (refundFor_self he)]
  rfl

theorem creditTorn_eq : raise .payment (creditTorn card s) =
    (s.withMoney (before ++ { e with state := .inDoubt, inProgress := false } :: behind) s.audit).raising (eventBit .payment) := by
  rw [creditTorn, updateRefund_eq _ hs he hbefore, raise_eq_raising, raising_raising]
  rfl

end Credits

end

end Sys2Proof.Machine

/-! PROOF. Every clause of the write of a debit (R79, R81, R87, R91, R94, R95, R99). -/

namespace Sys2Proof.Machine

section
variable {s : State} {i : StationId} {a : Addr} {card : Nat} {slot : Slot} {kind : DoubtKind}

theorem exec_verifyRead_done (bytes : List Byte) : exec (.verifyReadDone i ⟨[true, true, true], bytes⟩) s =
    .next (verifyEnds i (some bytes) s) := rfl

/-- R80, R95: a verify read that the card does not acknowledge has failed. -/
theorem exec_verifyRead_fails {y : ReadAnswers} (h : y.bytes.length < 3 ∨ false ∈ y.bytes) (hx : (s.station i).state = .verifying) :
    exec (.verifyReadDone i y) s = .next (endCard i true msgReinsert (loseWrite i s)) := by
  have hnone : bytesRead purseCard y = none := (bytesRead_eq_none ..).mpr fun ⟨hlength, hall⟩ => by
    rcases h with hshort | hrefused
    · exact absurd hlength (by simpa [purseCard] using hshort)
    · exact absurd (hall false hrefused) (by decide)
  have hread : exec (.verifyReadDone i y) s = .next (verifyEnds i (bytesRead purseCard y) s) := rfl
  rw [hread, hnone, verifyEnds, if_neg (not_not_intro hx)]

theorem cardTraffic_writing (h : Debits s i kind card a slot) (hx : (s.station i).state = .debiting) (answers : LinkAnswers) :
    cardTraffic (s.station i) answers = linkTraffic purseCard (.write (slotOffset slot)
      (slotBytes (s.station i).expectedPair (addrNum a) (s.station i).amount)) answers := by
  rw [cardTraffic, cardAccess, hx]
  dsimp only
  rw [h.writing, h.writtenBytes]
  rfl

theorem cardTraffic_verifying (h : Debits s i kind card a slot) (hx : (s.station i).state = .verifying) (answers : LinkAnswers) :
    cardTraffic (s.station i) answers = linkTraffic purseCard (.read (slotOffset slot) 8) answers := by
  rw [cardTraffic, cardAccess, hx]
  dsimp only
  rw [h.writing]
  rfl

/-- R94: a write that never began has failed. -/
theorem exec_cardWrite_fails {y : LinkAnswers} (hx : (s.station i).state = .debiting) (hbegun : (s.station i).begun = false)
    (hy : y.bytes.head? ≠ some true) : exec (.cardWriteDone i y) s =
      .next (endCard i true (dropMessage (s.station i) msgCardError) (dropWrite i s)) := by
  have hended : exec (.cardWriteDone i y) s = .next (writeEnds i (writeOutcome y) s) := rfl
  rw [hended, (writeOutcome_notBegun y).mpr hy, writeEnds, if_neg (by simp [writingCard, hx]), hbegun]
  rfl

/-- R95: a first mismatch writes the slot once more. -/
theorem verifyEnds_again (h : Debits s i kind card a slot) (hx : (s.station i).state = .verifying)
    (hattempt : (s.station i).attempt = 1) {bytes : List Byte}
    (hbytes : bytes ≠ slotBytes (s.station i).expectedPair (addrNum a) (s.station i).amount) :
    verifyEnds i (some bytes) s = s.setStation i { s.station i with state := .debiting, attempt := 2, begun := false } := by
  have hstate : writingState (s.station i) = .debiting := if_neg h.notCredit
  rw [verifyEnds, if_neg (not_not_intro hx)]
  dsimp only
  rw [h.writtenBytes, if_neg hbytes, if_pos hattempt, rewrite, modifyStation, hstate]

end

/-- Settles O46: the traffic of the link, the write's beginning and its ends, and the card withdrawn, each by its clause. -/
theorem theWriteOfADebitIsSeenThrough : Obligations.TheWriteOfADebitIsSeenThrough := by
  unfold Obligations.TheWriteOfADebitIsSeenThrough
  refine ⟨fun s i card a slot kind => ?debit, fun s i card before behind e => ?credit,
    fun y => ⟨writeOutcome_notBegun y, writeOutcome_completed y⟩, put_lines⟩
  case debit =>
    dsimp only
    intro hcard htarget hwriting hrequest
    have h : Debits s i kind card a slot := ⟨hcard, htarget, hwriting, hrequest⟩
    refine ⟨fun hx => ⟨fun late rest hlate => ?_, ?_, fun y hy => ?_, fun c y hkind hbegun hattempt hcycle hu hy => ?_⟩,
      fun hx => ⟨fun hroom => ?_, fun old rest hs hrest => ?_⟩, fun hx => ⟨fun acks polls => ?_, fun hattempt bytes hbytes => ?_,
      fun y hy hroom => ?_⟩⟩
    · rw [cardTraffic_writing h hx, cardWrite_traffic _ (slotBytes_length ..) rest hlate, slotOffset_ite]
    · exact congrArg _ (h.writeBegins hx)
    · exact congrArg _ (h.writeEnds hx (fun hc => (writeOutcome_notBegun y).mp hc hy))
    · obtain ⟨u, htop, hucard⟩ := hu
      have hunswitched : (s.unswitched i).station i = { s.station i with switchClosed := false } := station_setStation_self ..
      have hmachine : (s.unswitched i).machine a = s.machine a := setStation_machine ..
      refine ⟨?_, ?_⟩
      · rw [exec_cardWrite_fails hx hbegun hy, h.drops hkind hattempt hcycle htop hucard, endCard_eq, dropMessage, if_pos hattempt]
        cases i <;> rfl
      · have hremoved : exec (.cardRemoved i) s = .next (removeCard i s) := rfl
        have hattempt' : ((s.unswitched i).station i).attempt = 1 := by rw [hunswitched]; exact hattempt
        rw [hremoved, removeCard_writing (by rw [hunswitched]; exact .inl hx), if_neg (by rw [hunswitched]; simp [hbegun]),
          h.unswitched.drops hkind hattempt' (by rw [hmachine]; exact hcycle) htop hucard, endCard_eq, dropMessage,
          if_pos hattempt']
        cases i <;> rfl
    · have hremoved : exec (.cardRemoved i) s = .next (removeCard i s) := rfl
      rw [hremoved, h.withdrawn hx, makeDoubt_room _ (by rw [State.unswitched, setStation_doubts]; exact hroom), endCard_eq]
      cases i <;> rfl
    · have hdoubts : (s.unswitched i).doubts = old :: rest := (setStation_doubts ..).trans hs
      have hremoved : exec (.cardRemoved i) s = .next (removeCard i s) := rfl
      obtain ⟨hlist, hstation, hcopy, hfault, haudit⟩ := makeDoubt_full (s := s.unswitched i) (i := i)
        (debitOf (s.station i) kind card a slot) hdoubts hrest
      rw [hremoved, h.withdrawn hx, endCard_eq, hstation]
      generalize makeDoubt i (debitOf (s.station i) kind card a slot) (s.unswitched i) = u at *
      have hunswitched : (s.unswitched i).station i = { s.station i with switchClosed := false } := station_setStation_self ..
      have hnow : (s.unswitched i).now = s.now := setStation_now ..
      have hparams : (s.unswitched i).params = s.params := setStation_params ..
      have haudited : (s.unswitched i).audit = s.audit := setStation_audit ..
      rw [hnow, hparams] at hlist
      rw [haudited] at haudit
      refine ⟨_, rfl, (setStation_doubts ..).trans hlist, (station_setStation_self ..).trans (by rw [hunswitched]; rfl),
        Eq.trans (by cases i <;> rfl) hcopy, hfault.of_touches ((touches_setStation (ps := [.stations]) (by simp) i _).mpr (Touches.refl _ u))
          (by simp) (by simp), ?_⟩
      rw [setStation_audit]
      exact haudit
    · rw [cardTraffic_verifying h hx, cardRead_traffic, slotOffset_ite]
      rfl
    · exact congrArg _ (verifyEnds_again h hx hattempt hbytes)
    · rw [exec_verifyRead_fails hy hx, h.loses, makeDoubt_room _ hroom, endCard_eq]
      cases i <;> rfl
  case credit =>
    dsimp only
    intro hcard hrequest hs he hbefore
    have hunswitched : (s.unswitched i).station i = { s.station i with switchClosed := false } := station_setStation_self ..
    have hremoved : exec (.cardRemoved i) s = .next (removeCard i s) := rfl
    have hlist : (s.unswitched i).refunds = before ++ e :: behind := (setStation_refunds ..).trans hs
    have hcard' : ((s.unswitched i).station i).card = some card := by rw [hunswitched]; exact hcard
    have hrequest' : ((s.unswitched i).station i).request = some .credit := by rw [hunswitched]; exact hrequest
    refine ⟨fun hx hbegun hattempt => ?_, fun hx => ?_⟩
    · have hattempt' : ((s.unswitched i).station i).attempt = 1 := by rw [hunswitched]; exact hattempt
      rw [hremoved, removeCard_writing (by rw [hunswitched]; exact .inr hx), if_neg (by rw [hunswitched]; simp [hbegun]),
        dropWrite_credit hcard' hrequest', if_pos hattempt', creditFailed_eq hlist he hbefore, endCard_eq, dropMessage, if_pos hattempt']
      cases i <;> rfl
    · have hlost : removeCard i s = endCard i false msgReinsert (raise .payment (creditTorn card (s.unswitched i))) := by
        rcases hx with ⟨hx, hbegun⟩ | hx
        · rw [removeCard_writing (by rw [hunswitched]; exact .inr hx)]
          by_cases hb : ((s.unswitched i).station i).begun = true
          · rw [if_pos hb, loseWrite_credit hcard' hrequest']
          · have hattempt : ((s.unswitched i).station i).attempt ≠ 1 := by
              rw [hunswitched] at hb ⊢
              exact hbegun.resolve_left hb
            rw [if_neg hb, dropWrite_credit hcard' hrequest', if_neg hattempt, dropMessage, if_neg hattempt]
        · rw [removeCard_verifying (by rw [hunswitched]; exact hx), loseWrite_credit hcard' hrequest']
      rw [hremoved, hlost, creditTorn_eq hlist he hbefore, endCard_eq]
      cases i <;> rfl

end Sys2Proof.Machine

/-! PROOF. A refund of any amount placed, and the start of a cycle that is closed at its commit (R26, R110 to R112, R115). -/

namespace Sys2Proof.Machine

section
variable {s : State} {i : StationId} {a : Addr} {card amount machine : Nat} {e : RefundEntry} {before behind : List RefundEntry}

/-! ## Placements of any amount -/

theorem sameEntry.trans {e f g : RefundEntry} (h : sameEntry e f) (k : sameEntry f g) : sameEntry e g := by
  obtain ⟨h1, h2, h3, h4, h5⟩ := h
  obtain ⟨k1, k2, k3, k4, k5⟩ := k
  exact ⟨k1.trans h1, k2.trans h2, k3.trans h3, k4.trans h4, k5.trans h5⟩

theorem sameEntry.refl (e : RefundEntry) : sameEntry e e := ⟨rfl, rfl, rfl, rfl, rfl⟩

/-- R90, R115: the stations told of a placement do no more to the table than mark the entry. -/
theorem tellPlacement_refunds (hs : s.refunds = before ++ e :: behind) (he : e.card = card)
    (hbefore : ∀ y ∈ before, y.card ≠ card) : ∃ f, (tellPlacement card s).refunds = before ++ f :: behind ∧ sameEntry e f := by
  have hone (j : StationId) (t : State) (x : RefundEntry) (ht : t.refunds = before ++ x :: behind) (hx : x.card = card) :
      ∃ f, (settleIfReady j card t).refunds = before ++ f :: behind ∧ sameEntry x f := by
    unfold settleIfReady
    split
    · next h => exact settleRecord_refunds ht hx hbefore h.2
    · exact ⟨x, ht, .refl x⟩
  obtain ⟨f, hf, hsame⟩ := hone .a s e hs he
  obtain ⟨g, hg, hagain⟩ := hone .b _ f hf (hsame.2.1.trans he)
  exact ⟨g, hg, hsame.trans hagain⟩

theorem unplaced_pos {n : Nat} (h : 0 < n) : unplaced card n machine s =
    handFault { plainHanding machine faultRefundUnplaced with card := some card }
      (modifyAudit (fun t => { t with unplaced := addTotal t.unplaced n }) s) := if_neg (Nat.pos_iff_ne_zero.mp h)

/-- R115: what could not be placed is counted and handed over, and the table has nothing of it. -/
theorem unplaced_leaves (n : Nat) : (unplaced card n machine s).refunds = s.refunds ∧
    (0 < n → faultLast machine 0x22 (unplaced card n machine s) ∧
      (unplaced card n machine s).audit.unplaced = min 999999999999 (s.audit.unplaced + n)) := by
  rcases Nat.eq_zero_or_pos n with rfl | hpos
  · exact ⟨by rw [unplaced_zero], fun h => absurd h (by decide)⟩
  · have hmoney := touched_handFault_tells (tells_card machine (some card) (.inr (.inr rfl)))
      (modifyAudit (fun t => { t with unplaced := addTotal t.unplaced n }) s) .money (by simp)
    rw [unplaced_pos hpos]
    exact ⟨hmoney.1, fun _ => ⟨faultLast_handFault .., congrArg Audit.unplaced hmoney.2⟩⟩

/-- R115: a placement is a merge with the amount counted, of which the stations are told. -/
theorem placeRefund_eq (hpos : 0 < amount) : placeRefund card amount machine s =
    tellPlacement card (mergeRefund card amount machine (s.withMoney s.refunds (issuing s.audit amount))) := placeRefund_pos hpos

theorem placeRefund_makes (hpos : 0 < amount) (hnone : ∀ e ∈ s.refunds, e.card ≠ card) (hroom : s.refunds.length < 32) :
    (∃ f : RefundEntry, (placeRefund card amount machine s).refunds = s.refunds ++ [f] ∧ f.card = card ∧
      f.amount = min 50000 amount ∧ f.state = .ready) ∧
    (50000 < amount → (placeRefund card amount machine s).audit.unplaced =
      min 999999999999 (s.audit.unplaced + (amount - 50000))) := by
  let u := s.withMoney s.refunds (issuing s.audit amount)
  let f : RefundEntry := ⟨freePosition s.refunds, card, min 50000 amount, .ready, false, none, s.now⟩
  have hmerged : mergeRefund card amount machine u = unplaced card (amount - 50000) machine (modifyRefunds (fun t => t ++ [f]) u) := by
    unfold mergeRefund
    rw [refund_eq_none (s := u) hnone]
    exact if_pos hroom
  obtain ⟨hrefunds, hexcess⟩ := unplaced_leaves (card := card) (machine := machine) (s := modifyRefunds (fun t => t ++ [f]) u)
    (amount - 50000)
  rw [placeRefund_eq hpos, tellPlacement_audit, hmerged]
  refine ⟨?_, fun hbig => (hexcess (by omega)).2⟩
  obtain ⟨g, hg, hsame⟩ := tellPlacement_refunds (card := card) (before := s.refunds) (behind := []) (e := f)
    (s := unplaced card (amount - 50000) machine (modifyRefunds (fun t => t ++ [f]) u)) hrefunds rfl hnone
  exact ⟨g, hg, hsame.2.1, hsame.2.2.1, hsame.2.2.2.1⟩

theorem placeRefund_merges (hpos : 0 < amount) (hs : s.refunds = before ++ e :: behind) (he : e.card = card)
    (hbefore : ∀ y ∈ before, y.card ≠ card) :
    (∃ f : RefundEntry, (placeRefund card amount machine s).refunds = before ++ f :: behind ∧ f.card = card ∧ f.state = e.state ∧
      f.amount = min 50000 (e.amount + amount)) ∧
    (50000 < e.amount + amount → faultLast machine 0x22 (placeRefund card amount machine s) ∧
      (placeRefund card amount machine s).audit.unplaced =
        min 999999999999 (s.audit.unplaced + (e.amount + amount - 50000))) := by
  let u := s.withMoney s.refunds (issuing s.audit amount)
  let f : RefundEntry := { e with amount := min 50000 (e.amount + amount) }
  let v := updateRefund card (fun e => { e with amount := min 50000 (e.amount + amount) }) u
  have hmerged : mergeRefund card amount machine u = unplaced card (e.amount + amount - 50000) machine v := by
    unfold mergeRefund
    rw [refund_eq_some (s := u) hs he hbefore]
  have hv : v.refunds = before ++ f :: behind := by
    exact congrArg State.refunds (updateRefund_eq (s := u) _ hs he hbefore)
  obtain ⟨hrefunds, hexcess⟩ := unplaced_leaves (card := card) (machine := machine) (s := v) (e.amount + amount - 50000)
  rw [placeRefund_eq hpos, tellPlacement_audit, hmerged]
  refine ⟨?_, fun hbig => ⟨?_, (hexcess (by omega)).2⟩⟩
  · obtain ⟨g, hg, hsame⟩ := tellPlacement_refunds (hrefunds.trans hv) he hbefore
    exact ⟨g, hg, hsame.2.1.trans he, hsame.2.2.2.1, hsame.2.2.1⟩
  · exact (hexcess (by omega)).1.of_touches (touched_tellPlacement card _) (by simp) (by simp)

/-! ## The refund of a whole charge -/

/-- R110 to R112: a start closed at its commit gives the whole charge back. -/
theorem refundOf_newCycle {number now : Nat} {p : Payment} {cls : MachineClass} {cause : StopCause} (hcause : cause ≠ .user)
    (hwhole : cls = .washer ∧ 0 < (p.plan.map (·.weight)).sum ∨
      cls = .dryer ∧ 0 < p.paidSeconds ∧ (p.plan[0]?).map (·.kind) = some .dry) :
    refundOf cls (newCycle number now cls p) cause = p.charge := by
  rcases hwhole with ⟨rfl, hweights⟩ | ⟨rfl, hpaid, hdry⟩
  · exact washerRefund_whole _ _ _ ((weightSum_eq_sum p.plan).symm ▸ hweights)
  · have hkind : (newCycle number now .dryer p).kind = some .dry := hdry
    calc refundOf .dryer (newCycle number now .dryer p) cause
      _ = dryerRefund false p.charge p.paidSeconds p.paidSeconds cause := by
        simp only [refundOf, hkind]
        rfl
      _ = p.charge := by
        rw [dryerRefund, if_neg hcause]
        exact Nat.mul_div_cancel _ hpaid

theorem closureCause_ne_user (s : State) (m : MachineRecord) : closureCause s m ≠ .user := by
  unfold closureCause
  split
  · decide
  · split <;> decide

end

end Sys2Proof.Machine

/-! PROOF. A write that verifies: the commit of its debit, and the record that settles behind it (R26, R44, R90, R96). -/

namespace Sys2Proof.Machine

section
variable {s t u : State} {i : StationId} {a : Addr} {card amount : Nat} {slot : Slot} {m : Message} {kind : DoubtKind} {p : Payment}
  {f : RefundEntry} {before behind : List RefundEntry}

/-! ## The record that settles behind an answer -/

/-- R96: what a record shows and keeps when an answer is shown at it and it settles. -/
structure Concluded (i : StationId) (m : Message) (u t : State) : Prop where
  touches : Touches [.stations, .money] u t
  audit : t.audit = u.audit
  card : (t.station i).card = (u.station i).card
  slot : (t.station i).slot = (u.station i).slot
  pair : (t.station i).pair = (u.station i).pair
  state : (t.station i).state = .cardReady ∨ (t.station i).state = .crediting
  display : ∃ more, (t.station i).display = (u.station i).display ++ m :: more

theorem display_station : (display i m u).station i =
    { u.station i with display := (u.station i).display ++ [m] } := station_setStation_self ..

theorem settleRecord_concludes (i : StationId) (m : Message) (u : State) :
    Concluded i m u (settleRecord i (display i m u)) := by
  have hsettled := settleRecord_station i (display i m u)
  have hshown := touched_display i m u
  obtain ⟨more, hmore⟩ := hsettled.display
  rw [display_station] at hsettled hmore
  refine ⟨Touches.trans (Touches.mono hshown (by simp)) (touched_settleRecord i _), ?_, hsettled.card, hsettled.slot,
    hsettled.pair, hsettled.state, more, ?_⟩
  · exact (settleRecord_audit i _).trans (hshown .money (by simp)).2
  · rw [hmore, List.append_assoc]
    rfl

/-- R90: a READY entry of the card is credited at once below the ceiling. -/
theorem settleRecord_concludes_credit (hu : u.refunds = before ++ f :: behind) (hf : f.card = card)
    (hbefore : ∀ y ∈ before, y.card ≠ card) (hready : f.state = .ready) (hcard : (u.station i).card = some card)
    (hslot : (u.station i).slot = some slot) (hceiling : (u.station i).pair.value < u.params.ceiling) :
    let t := settleRecord i (display i m u)
    (t.station i).state = .crediting ∧ (t.station i).amount = min f.amount (u.params.ceiling - (u.station i).pair.value) ∧
      (t.station i).oldPair = (u.station i).pair := by
  have hshown : (display i m u).station i = { u.station i with display := (u.station i).display ++ [m] } := display_station
  have hparams : (display i m u).params = u.params := setStation_params ..
  dsimp only
  rw [settleRecord_credits (s := display i m u) (slot := slot) ((setStation_refunds ..).trans hu) hf hbefore hready (by rw [hshown]; exact hcard)
    (by rw [hshown]; exact hslot) (by rw [hshown, hparams]; exact hceiling), station_setStation_self]
  simp only [crediting, hshown, hparams, and_self]

theorem settleRecord_concludes_refunds (hu : u.refunds = before ++ f :: behind) (hf : f.card = card)
    (hbefore : ∀ y ∈ before, y.card ≠ card) (hcard : (u.station i).card = some card) :
    ∃ g, (settleRecord i (display i m u)).refunds = before ++ g :: behind ∧ sameEntry f g :=
  settleRecord_refunds ((setStation_refunds ..).trans hu) hf hbefore (by rw [display_station]; exact hcard)

/-! ## The commit of a debit at its record -/

/-- The record whose written slot has matched (R96). -/
def Station.landed (x : Station) (slot : Slot) : Station := { x with slot := some slot, pair := x.expectedPair }

/-- The state in which a debit commits: its slot is current, its copy gone, and its amount counted (R96, R109). -/
def State.landing (s : State) (i : StationId) (slot : Slot) : State :=
  countCharged (s.station i).amount ((s.setDebitCopy i none).setStation i ((s.station i).landed slot))

theorem landing_station : (s.landing i slot).station i = (s.station i).landed slot := station_setStation_self ..

theorem landing_debitCopy : (s.landing i slot).debitCopy i = none := by cases i <;> rfl

theorem landing_machine (a : Addr) : (s.landing i slot).machine a = s.machine a := by cases i <;> rfl

theorem landing_classOf (a : Addr) : (s.landing i slot).classOf a = s.classOf a := by cases i <;> rfl

theorem landing_refunds : (s.landing i slot).refunds = s.refunds := by cases i <;> rfl

theorem landing_halted : (s.landing i slot).halted = s.halted := by cases i <;> rfl

theorem landing_audit : (s.landing i slot).audit =
    { s.audit with charged := min 999999999999 (s.audit.charged + (s.station i).amount) } := by cases i <;> rfl

/-- R96: a debit whose written slot has matched is committed, answered and settled. -/
theorem Debits.lands (h : Debits s i kind card a slot) (hx : (s.station i).state = .verifying) :
    exec (.verifyReadDone i ⟨[true, true, true], slotBytes (s.station i).expectedPair (addrNum a) (s.station i).amount⟩) s =
      .next (match kind with
        | .start => settleRecord i (display i
            (commitMessage ((s.station i).landed slot) (.start (commitStart a (s.landing i slot)).2))
            (raise .payment (commitStart a (s.landing i slot)).1))
        | .topUp => settleRecord i (display i
            (commitMessage ((s.station i).landed slot) (.topUp (commitTopUp a card (s.station i).amount (s.landing i slot)).2))
            (raise .payment (commitTopUp a card (s.station i).amount (s.landing i slot)).1))) := by
  have hbegun : (s.setDebitCopy i none).setStation i ((s.station i).landed slot) =
      modifyStation i (fun x => { x with slot := x.writing, pair := x.expectedPair }) (s.setDebitCopy i none) := by
    rw [modifyStation, setDebitCopy_station]
    exact congrArg _ (by simp only [Station.landed, h.writing])
  have hland : verifyEnds i (some (slotBytes (s.station i).expectedPair (addrNum a) (s.station i).amount)) s =
      landDebit i (debitOf (s.station i) kind card a slot) s := by
    unfold verifyEnds
    dsimp only
    rw [if_neg (not_not_intro hx), if_pos h.writtenBytes.symm, h.copyOf, h.request]
    cases kind <;> rfl
  have hstays (d : DebitCopy) : (commitDebit d ((s.setDebitCopy i none).setStation i ((s.station i).landed slot))).1.station i =
      (s.station i).landed slot := by
    rw [commitDebit_station (by rw [station_setStation_self]; exact hx.trans_ne (by decide)), station_setStation_self]
  rw [exec_verifyRead_done, hland, landDebit, ← hbegun, hstays]
  cases kind <;> rfl

theorem commitStart_landing_station (hx : (s.station i).state = .verifying) :
    (commitStart a (s.landing i slot)).1.station i = (s.station i).landed slot := by
  rw [commitStart_station (by rw [landing_station]; exact hx.trans_ne (by decide)), landing_station]

theorem commitTopUp_landing_station (hx : (s.station i).state = .verifying) :
    (commitTopUp a card amount (s.landing i slot)).1.station i = (s.station i).landed slot := by
  rw [commitTopUp_station (by rw [landing_station]; exact hx.trans_ne (by decide)), landing_station]

/-! ## A start that is closed -/

/-- The state in which the refund of a start that is closed has been placed (R26). -/
def refundedStart (a : Addr) (p : Payment) (s : State) : State :=
  placeRefund p.card (refundOf (s.classOf a) (newCycle s.cycleCounter s.now (s.classOf a) p) (closureCause s (s.machine a)))
    (addrNum a) (takeCycleNumber s)

theorem refundedStart_machine (b : Addr) : (refundedStart a p s).machine b = s.machine b :=
  placeRefund_machine _ _ _ b

theorem closeStart_eq (a : Addr) (p : Payment) (s : State) : closeStart a p s =
    if (s.machine a).state = .paying then
      releaseToRoom a (handBack a ((refundedStart a p s).setMachine a { s.machine a with payment := none }))
    else (refundedStart a p s).setMachine a { s.machine a with payment := none } := by
  have hcleared : modifyMachine a (fun m => { m with payment := none }) (refundedStart a p s) =
      (refundedStart a p s).setMachine a { s.machine a with payment := none } := by
    rw [modifyMachine_eq, refundedStart_machine]
  rw [← hcleared]
  rfl

/-- R26: the refund of a start that is closed stands, whatever its machine does then. -/
theorem closeStart_money : (closeStart a p s).refunds = (refundedStart a p s).refunds ∧
    (closeStart a p s).audit = (refundedStart a p s).audit ∧
    (closeStart a p s).cycleCounter = (s.cycleCounter + 1) % 65536 := by
  have hplaced : (refundedStart a p s).cycleCounter = (s.cycleCounter + 1) % 65536 :=
    (touched_placeRefund_money _ _ _ (takeCycleNumber s)).cycleCounter (by simp)
  have hcleared : Touches [.machines, .flags, .claims] (refundedStart a p s)
      ((refundedStart a p s).setMachine a { s.machine a with payment := none }) :=
    (touches_setMachine (by simp) a _).mpr (Touches.refl _ _)
  have hkept : Touches [.machines, .flags, .claims] (refundedStart a p s) (closeStart a p s) := by
    rw [closeStart_eq]
    split
    · exact Touches.trans hcleared (Touches.trans (touched_handBack a _) (touched_releaseToRoom a _))
    · exact hcleared
  have hmoney := hkept .money (by simp)
  exact ⟨hmoney.1, hmoney.2, (hkept.cycleCounter (by simp)).trans hplaced⟩

theorem closeStart_apart (h : (s.machine a).state ≠ .paying) :
    (closeStart a p s).machine a = { s.machine a with payment := none } := by
  rw [closeStart_eq, if_neg h, machine_setMachine_self]

/-- R26, R49, R132: a machine PAYING for a start that is closed gives its hold back, and goes to rest or out of service. -/
theorem closeStart_released (h : (s.machine a).state = .paying) (hroom : s.halted = true ∨ (s.machine a).lock ≠ .none) :
    ∃ pending, (closeStart a p s).machine a = { s.machine a with
      payment := none, hold := none, lockPending := pending, state := if (s.machine a).lock = .none then
        (if (s.machine a).selection.isSome = true ∧ ((s.machine a).door = some .closed ∨ (s.machine a).door = some .locked)
          then .selected else .idle) else .outOfService } := by
  let v := (refundedStart a p s).setMachine a { s.machine a with payment := none }
  have hbacked : (handBack a v).machine a = { s.machine a with payment := none, hold := none } := by
    rw [handBack_machine_self, machine_setMachine_self]
  have hhalted : (handBack a v).halted = s.halted :=
    ((touched_handBack a v) .room (by simp)).1.trans
      ((touched_placeRefund_money _ _ _ (takeCycleNumber s)) .room (by simp)).1
  rw [closeStart_eq, if_pos h]
  by_cases hlock : (s.machine a).lock = .none
  · rw [releaseToRoom_resting (by rw [hbacked]; exact hlock) (.inl (by rw [hhalted]; exact hroom.resolve_right (not_not_intro hlock))),
      raising_machine, machine_setMachine_self, hbacked, restingState_ite, if_pos hlock]
    exact ⟨_, rfl⟩
  · rw [releaseToRoom_locked (by rw [hbacked]; exact hlock), raising_machine, machine_setMachine_self, hbacked, if_neg hlock]
    exact ⟨_, rfl⟩

theorem commitStart_closes (hpaid : (s.machine a).payment = some p)
    (hclosed : s.halted = true ∨ (s.machine a).state ≠ .paying ∨ (s.machine a).lock ≠ .none) :
    commitStart a s = (closeStart a p s, .closed (closureCause s (s.machine a))) := by
  have hcloses : closesAtCommit s (s.machine a) = true := by
    rcases hclosed with h | h | h <;> simp [closesAtCommit, h]
  rw [commitStart, hpaid]
  exact if_pos hcloses

/-- R96: HALTED or OUT_OF_ORDER is shown for a start that is closed. -/
theorem commitMessage_closed {x : Station} (hx : x.target = some a) : commitMessage x (.start (.closed (closureCause s (s.machine a)))) =
    if s.halted = true then plainMessage msgHalted else { plainMessage msgOutOfOrder with small := addrNum a } := by
  by_cases hhalted : s.halted = true
  · rw [if_pos hhalted, show closureCause s (s.machine a) = .room from if_pos hhalted]
    rfl
  · have hcause : closureCause s (s.machine a) = .machine ∨ closureCause s (s.machine a) = .operator := by
      unfold closureCause
      rw [if_neg hhalted]
      split
      · exact .inl rfl
      · exact .inr rfl
    rw [if_neg hhalted]
    rcases hcause with hcause | hcause <;> rw [hcause] <;> simp only [commitMessage, hx, Option.map_some, Option.getD_some]

/-! ## A top-up that comes too late -/

theorem clearTopUp_eq (a : Addr) (card : Nat) (s : State) : clearTopUp a card s = s.setMachine a { s.machine a with
    cycle := (s.machine a).cycle.map fun c => { c with
      topUp := if c.topUp.map (·.card) = some card then none else c.topUp } } := by
  unfold clearTopUp pendingTopUp
  cases hc : (s.machine a).cycle with
  | none =>
    simp only [Option.bind_none, Option.map_none, Option.isSome_none, Bool.false_eq_true, if_false]
    rw [← hc]
    exact (setMachine_machine_self ..).symm
  | some c =>
    cases htop : c.topUp with
    | none =>
      have hsame : ({ c with topUp := none } : Cycle) = c := by rw [← htop]
      simp only [Option.bind_some, htop, Option.isSome_none, Option.map_some, Option.map_none, reduceCtorEq, if_false, hsame]
      rw [← hc]
      exact (setMachine_machine_self ..).symm
    | some top =>
      have hsame : ({ c with topUp := some top } : Cycle) = c := by rw [← htop]
      by_cases hcard : top.card = card
      · simp only [Option.bind_some, htop, hcard, Option.map_some, if_true, Option.isSome_some]
        exact modifyCycle_eq hc
      · simp only [Option.bind_some, htop, hcard, Option.map_some, Option.some.injEq, if_false, Option.isSome_none, hsame,
          Bool.false_eq_true]
        rw [← hc]
        exact (setMachine_machine_self ..).symm

theorem commitTopUp_late (h : (s.machine a).state ≠ .running ∨ s.classOf a ≠ .dryer ∨
      ∀ c, (s.machine a).cycle = some c → c.kind ≠ some .dry ∨ c.coolPosted = true) :
    commitTopUp a card amount s = (placeRefund card amount (addrNum a) (clearTopUp a card s), false) := by
  have hnot : ¬ dryingMachine a s = true := by
    intro hdrying
    simp only [dryingMachine, Bool.and_eq_true, decide_eq_true_eq] at hdrying
    obtain ⟨⟨hrunning, hdryer⟩, hcycle⟩ := hdrying
    cases hc : (s.machine a).cycle with
    | none => exact absurd hcycle (by rw [hc]; decide)
    | some c =>
      rw [hc] at hcycle
      simp only [Option.map_some, Option.getD_some, drying, Bool.and_eq_true, beq_iff_eq, Bool.not_eq_true'] at hcycle
      obtain ⟨hdry, hwarm⟩ := hcycle
      rcases h with h | h | h
      · exact h hrunning
      · exact h hdryer
      · rcases h c hc with h | h
        · exact h hdry
        · exact absurd (h.symm.trans hwarm) (by decide)
  unfold commitTopUp clearTopUp
  cases hpending : pendingTopUp a card s with
  | none => rfl
  | some top => exact if_neg hnot

end

end Sys2Proof.Machine

/-! PROOF. A verify read: what a second mismatch abandons, and every end of a write (R27, R44, R95, R96, R116). -/

namespace Sys2Proof.Machine

section
variable {s : State} {i : StationId} {a : Addr} {card : Nat} {slot : Slot} {kind : DoubtKind} {bytes : List Byte}

/-! ## A start that is abandoned -/

theorem unpaid_machine (a : Addr) (s : State) :
    (modifyMachine a (fun m => { m with payment := none }) s).machine a = { s.machine a with payment := none } :=
  machine_modifyMachine_self ..

theorem abandonStart_apart (h : (s.machine a).state ≠ .paying) :
    (abandonStart a s).machine a = { s.machine a with payment := none } := by
  rw [abandonStart, if_neg h, unpaid_machine]

section Paying
variable (h : (s.machine a).state = .paying)
include h

theorem abandonStart_locked (hlock : (s.machine a).lock ≠ .none) :
    (abandonStart a s).machine a = { s.machine a with payment := none, hold := none, state := .outOfService } := by
  rw [abandonStart, if_pos h, if_pos hlock, moveTo_machine_self, handBack_machine_self, unpaid_machine]

variable (hlock : (s.machine a).lock = .none)
include hlock

theorem abandonStart_unlocked : abandonStart a s =
    let u := modifyMachine a (fun m => { m with payment := none }) s
    if (s.machine a).hold.isSome ∧ (s.machine a).payment.map (·.origin) = some .held then holderStopsPaying a (moveTo a .held u)
    else moveTo a (restingState (s.machine a)) u := by
  rw [abandonStart, if_pos h]
  exact if_neg (not_not_intro hlock)

/-- R27: the holder of a machine whose hold has not expired keeps it. -/
theorem abandonStart_held {x : Hold} {p : Payment} (hhold : (s.machine a).hold = some x) (hpaid : (s.machine a).payment = some p)
    (horigin : p.origin = .held) (hdeadline : s.now < x.deadline) :
    (abandonStart a s).machine a = { s.machine a with payment := none, state := .held } := by
  have hmoved : (moveTo a .held (modifyMachine a (fun m => { m with payment := none }) s)).machine a =
      { s.machine a with payment := none, state := .held } := by rw [moveTo_machine_self, unpaid_machine]
  rw [abandonStart_unlocked h hlock]
  dsimp only
  rw [if_pos (by simp [hhold, hpaid, horigin]), holderStopsPaying]
  rw [if_neg, changeQueue_machine, hmoved]
  rw [changeQueue_machine, hmoved, hhold]
  rw [((touched_changeQueue _ _ _) .clock (by simp)).1]
  simp only [Option.map_some, due, decide_eq_true_eq]
  exact Nat.not_le.mpr hdeadline

theorem abandonStart_rests (hhold : (s.machine a).hold = none) :
    (abandonStart a s).machine a = { s.machine a with payment := none, state := restingState (s.machine a) } := by
  rw [abandonStart_unlocked h hlock]
  dsimp only
  rw [if_neg (by simp [hhold]), moveTo_machine_self, unpaid_machine]

end Paying

theorem abandonStart_cycle (a : Addr) (s : State) : ((abandonStart a s).machine a).cycle = (s.machine a).cycle := by
  have hunpaid : ((modifyMachine a (fun m => { m with payment := none }) s).machine a).cycle = (s.machine a).cycle := by
    rw [unpaid_machine]
  by_cases h : (s.machine a).state = .paying
  · by_cases hlock : (s.machine a).lock = .none
    · rw [abandonStart_unlocked h hlock]
      dsimp only
      split
      · exact (((sameButHold_moveTo a a _ _).trans (sameButHold_holderStopsPaying a a _)).cycle).trans hunpaid
      · exact (sameButHold_moveTo a a _ _).cycle.trans hunpaid
    · rw [abandonStart_locked h hlock]
  · rw [abandonStart_apart h]

/-! ## A second mismatch -/

/-- R27, R44: what the machine of a debit that is not charged is left with. -/
structure Abandoned (s : State) (i : StationId) (kind : DoubtKind) (card : Nat) (a : Addr) (t : State) : Prop where
  copy : t.debitCopy i = none
  machines : t.machines = (abandonDebit kind a card (s.setDebitCopy i none)).machines

theorem secondMismatch_debit (h : Debits s i kind card a slot) (hx : (s.station i).state = .verifying)
    (hbytes : bytes ≠ slotBytes (s.station i).expectedPair (addrNum a) (s.station i).amount) (hattempt : (s.station i).attempt ≠ 1) :
    exec (.verifyReadDone i ⟨[true, true, true], bytes⟩) s = .next (if laterSlot (s.station i) bytes = true then
      display i (doubtMessage msgPaymentUnresolved (debitOf (s.station i) kind card a slot))
        (modifyStation i (emptied true) (debitUnresolved (debitOf (s.station i) kind card a slot) (s.setDebitCopy i none)))
      else endCard i true msgCardError (abandonDebit kind a card (s.setDebitCopy i none))) := by
  have hends : verifyEnds i (some bytes) s = secondMismatch i bytes s := by
    unfold verifyEnds
    dsimp only
    rw [if_neg (not_not_intro hx), if_neg (by rw [h.writtenBytes]; exact hbytes), if_neg hattempt]
  rw [exec_verifyRead_done, hends, secondMismatch, h.request, h.copyOf]
  cases kind <;> rfl

theorem laterSlot_iff {x : Station} : laterSlot x bytes = true ↔
    slotValid bytes = true ∧ laterThan (at2 bytes 2) x.oldPair.sequence = true := by
  rw [laterSlot, Bool.and_eq_true]
  rfl

theorem abandonDebit_station (j : StationId) :
    (abandonDebit kind a card (s.setDebitCopy i none)).station j = s.station j := by
  rw [Touches.station (touched_abandonDebit kind a card _) (by simp), setDebitCopy_station]

/-- R95: a second mismatch with the old slot still current fails the write cleanly. -/
theorem endCard_abandons : let t := endCard i true msgCardError (abandonDebit kind a card (s.setDebitCopy i none))
    Abandoned s i kind card a t ∧ t.station i = { emptied true (s.station i) with
      display := (s.station i).display ++ [plainMessage msgCardError] } ∧ t.audit = s.audit ∧ t.faults = s.faults := by
  have hkept := touched_abandonDebit kind a card (s.setDebitCopy i none)
  dsimp only
  rw [endCard_eq, abandonDebit_station]
  refine ⟨⟨?_, ?_⟩, station_setStation_self .., ?_, ?_⟩
  · have hcopies := hkept .doubts (by simp)
    cases i
    · exact hcopies.2.1
    · exact hcopies.2.2
  · cases i <;> rfl
  · exact (setStation_audit ..).trans ((hkept .money (by simp)).2.trans (by cases i <;> rfl))
  · rw [setStation_faults]
    exact Eq.trans (hkept .faults (by simp)) (by cases i <;> rfl)

/-- R95: a second mismatch with a valid later slot ends the debit unresolved. -/
theorem debitUnresolved_abandons (d : DebitCopy) (hd : d.kind = kind ∧ d.machine = a ∧ d.card = card) :
    let t := display i (doubtMessage msgPaymentUnresolved d) (modifyStation i (emptied true) (debitUnresolved d (s.setDebitCopy i none)))
    Abandoned s i kind card a t ∧ t.station i = { emptied true (s.station i) with
      display := (s.station i).display ++ [doubtMessage msgPaymentUnresolved d] } ∧
      t.audit = { s.audit with debitsUnresolved := min 999999999999 (s.audit.debitsUnresolved + 1) } ∧
      faultLast (addrNum a) 0x20 t ∧ ∃ f ∈ t.faults, f.machine = addrNum a ∧ f.code = 0x20 ∧ f.card = some card := by
  obtain ⟨rfl, rfl, rfl⟩ := hd
  have hkept := touched_debitUnresolved d (s.setDebitCopy i none)
  have hstation : (debitUnresolved d (s.setDebitCopy i none)).station i = s.station i := by
    rw [Touches.station hkept (by simp), setDebitCopy_station]
  have hemptied : display i (doubtMessage msgPaymentUnresolved d) (modifyStation i (emptied true)
      (debitUnresolved d (s.setDebitCopy i none))) = (debitUnresolved d (s.setDebitCopy i none)).setStation i
        { emptied true (s.station i) with display := (s.station i).display ++ [doubtMessage msgPaymentUnresolved d] } := by
    rw [display, modifyStation, modifyStation, station_setStation_self, setStation_setStation_self, hstation]
    rfl
  have htold : Touches [.flags, .faults] (abandonDebit d.kind d.machine d.card (s.setDebitCopy i none))
      (handFault { plainHanding (addrNum d.machine) faultDebitUnresolved with card := some d.card }
        (abandonDebit d.kind d.machine d.card (s.setDebitCopy i none))) :=
    touched_handFault_tells (tells_card _ _ (.inl rfl)) _
  obtain ⟨haudit, -, hlast, -⟩ := debitUnresolved_counts d (s.setDebitCopy i none)
  obtain ⟨f, hf, -, hfault⟩ := handFault_card { plainHanding (addrNum d.machine) faultDebitUnresolved with card := some d.card }
    (abandonDebit d.kind d.machine d.card (s.setDebitCopy i none))
  dsimp only
  rw [hemptied]
  refine ⟨⟨?_, ?_⟩, station_setStation_self .., ?_, ?_, f, ?_, hfault⟩
  · have hcopies := hkept .doubts (by simp)
    cases i
    · exact hcopies.2.1
    · exact hcopies.2.2
  · have hmachines : (debitUnresolved d (s.setDebitCopy i none)).machines = _ := htold .machines (by simp)
    exact (by cases i <;> rfl : _ = _).trans hmachines
  · rw [setStation_audit, haudit]
    cases i <;> rfl
  · exact hlast.of_touches ((touches_setStation (ps := [.stations]) (by simp) i _).mpr (Touches.refl _ _)) (by simp) (by simp)
  · rw [setStation_faults]
    exact hf

end

end Sys2Proof.Machine

/-! PROOF. Every end of a verify read (R26 to R28, R44, R90, R91, R95, R96, R115, R116). -/

namespace Sys2Proof.Machine

section
variable {s : State} {i : StationId} {a : Addr} {card : Nat} {slot : Slot} {kind : DoubtKind} {p : Payment} {c : Cycle}

/-! ## The machine of a debit that is not charged -/

theorem Abandoned.machine {t : State} (h : Abandoned s i kind card a t) (b : Addr) :
    t.machine b = (abandonDebit kind a card (s.setDebitCopy i none)).machine b := by
  rw [State.machine, State.machine, h.machines]

/-- R27: a start that is not charged leaves its machine without the payment, by its lock, its hold and its panel. -/
theorem Abandoned.start {t : State} (h : Abandoned s i .start card a t) :
    (t.machine a).payment = none ∧ (t.machine a).cycle = (s.machine a).cycle ∧
    ((s.machine a).state ≠ .paying → (t.machine a).state = (s.machine a).state ∧ (t.machine a).hold = (s.machine a).hold) ∧
    ((s.machine a).state = .paying → (s.machine a).lock ≠ .none → (t.machine a).state = .outOfService ∧ (t.machine a).hold = none) ∧
    (∀ (x : Hold) (p : Payment), (s.machine a).state = .paying → (s.machine a).lock = .none → (s.machine a).hold = some x →
      (s.machine a).payment = some p → p.origin = .held → s.now < x.deadline →
      (t.machine a).state = .held ∧ (t.machine a).hold = (s.machine a).hold) ∧
    ((s.machine a).state = .paying → (s.machine a).lock = .none → (s.machine a).hold = none → (t.machine a).state =
      if (s.machine a).selection.isSome = true ∧ ((s.machine a).door = some .closed ∨ (s.machine a).door = some .locked)
        then .selected else .idle) := by
  let u := s.setDebitCopy i none
  have hu : u.machine a = s.machine a := by cases i <;> rfl
  have hnow : u.now = s.now := by cases i <;> rfl
  have ht : t.machine a = (abandonStart a u).machine a := h.machine a
  rw [ht, ← hu, ← hnow]
  refine ⟨abandonStart_payment a u, abandonStart_cycle a u, fun hst => ?_, fun hst hlock => ?_,
    fun x p hst hlock hhold hpaid horigin hdeadline => ?_, fun hst hlock hhold => ?_⟩
  · rw [abandonStart_apart hst]
    exact ⟨rfl, rfl⟩
  · rw [abandonStart_locked hst hlock]
    exact ⟨rfl, rfl⟩
  · rw [abandonStart_held hst hlock hhold hpaid horigin hdeadline]
    exact ⟨rfl, rfl⟩
  · rw [abandonStart_rests hst hlock hhold, ← restingState_ite]

theorem Abandoned.topUp {t : State} (h : Abandoned s i .topUp card a t) : t.machines = (s.setMachine a { s.machine a with
    cycle := (s.machine a).cycle.map fun c => { c with
      topUp := if c.topUp.map (·.card) = some card then none else c.topUp } }).machines := by
  have hcleared : t.machines = (clearTopUp a card (s.setDebitCopy i none)).machines := h.machines
  rw [hcleared, clearTopUp_eq]
  cases i <;> rfl

/-! ## The commits of a debit -/

/-- R26, R28: a start that commits at an open machine. -/
theorem landing_opens (hpaying : (s.machine a).state = .paying) (hpaid : (s.machine a).payment = some p)
    (hlock : (s.machine a).lock = .none) (hpending : (s.machine a).lockPending = false) (hopen : s.halted = false) :
    commitStart a (s.landing i slot) = (openStart a p (s.landing i slot), .started) :=
  commitStart_opens (by rw [landing_machine]; exact hpaid) (by rw [landing_machine]; exact hpaying)
    (by rw [landing_machine]; exact hlock) (by rw [landing_machine]; exact hpending) (landing_halted.trans hopen)

/-- R26: a start that is closed at its commit. -/
theorem landing_closes (hpaid : (s.machine a).payment = some p)
    (hclosed : s.halted = true ∨ (s.machine a).state ≠ .paying ∨ (s.machine a).lock ≠ .none) :
    commitStart a (s.landing i slot) =
      (closeStart a p (s.landing i slot), .closed (closureCause (s.landing i slot) ((s.landing i slot).machine a))) :=
  commitStart_closes (by rw [landing_machine]; exact hpaid) (by rw [landing_machine, landing_halted]; exact hclosed)

/-- The state in which a top-up that comes too late is placed as a refund (R44). -/
def lateTopUp (s : State) (i : StationId) (slot : Slot) (a : Addr) (card : Nat) : State := clearTopUp a card (s.landing i slot)

theorem lateTopUp_machine : (lateTopUp s i slot a card).machine a = { s.machine a with
    cycle := (s.machine a).cycle.map fun c => { c with
      topUp := if c.topUp.map (·.card) = some card then none else c.topUp } } := by
  rw [lateTopUp, clearTopUp_eq, machine_setMachine_self, landing_machine]

theorem lateTopUp_money : (lateTopUp s i slot a card).refunds = s.refunds ∧
    (lateTopUp s i slot a card).audit = { s.audit with charged := min 999999999999 (s.audit.charged + (s.station i).amount) } := by
  rw [lateTopUp, clearTopUp_eq]
  exact ⟨landing_refunds, landing_audit⟩

/-! ## The copy, and the record, of a write that has landed -/

/-- R96: what stands when a write has landed: no copy, the slot current, the answer shown, and what the commit left. -/
structure Landed (s : State) (i : StationId) (card : Nat) (slot : Slot) (m : Message) (u t : State) : Prop where
  settles : t = settleRecord i (display i m (raise .payment u))
  current : t.debitCopy i = none ∧ (t.station i).card = some card ∧ (t.station i).slot = some slot ∧
    (t.station i).pair = (s.station i).expectedPair
  tells : ∃ more, (t.station i).display = (s.station i).display ++ m :: more
  ready : (t.station i).state = .cardReady ∨ (t.station i).state = .crediting
  machine : ∀ b, t.machine b = u.machine b
  audit : t.audit = u.audit
  counter : t.cycleCounter = u.cycleCounter
  faults : t.faults = u.faults
  now : t.now = u.now

theorem landed_of {u : State} (m : Message) (hx : (s.station i).card = some card) (hcopies : Same .doubts (s.landing i slot) u)
    (hstation : u.station i = (s.station i).landed slot) :
    Landed s i card slot m u (settleRecord i (display i m (raise .payment u))) := by
  have h := settleRecord_concludes i m (raise .payment u)
  have hkept := Touches.trans ((touches_raise (ps := [.stations, .money, .flags]) (by simp) .payment).mpr (Touches.refl _ u))
    (Touches.mono h.touches (by simp))
  obtain ⟨-, hdebitA, hdebitB⟩ := hkept .doubts (by simp)
  have hcopy : (settleRecord i (display i m (raise .payment u))).debitCopy i = (s.landing i slot).debitCopy i := by
    cases i
    · exact hdebitA.trans hcopies.2.1
    · exact hdebitB.trans hcopies.2.2
  have hcard := h.card
  have hslot := h.slot
  have hpair := h.pair
  have hdisplay := h.display
  rw [raise_station, hstation] at hcard hslot hpair hdisplay
  exact ⟨rfl, ⟨hcopy.trans landing_debitCopy, hcard.trans hx, hslot, hpair⟩, hdisplay, h.state, hkept.machine (by simp), h.audit,
    hkept.cycleCounter (by simp), hkept .faults (by simp), (hkept .clock (by simp)).1⟩

theorem Debits.landsStart (h : Debits s i .start card a slot) (hx : (s.station i).state = .verifying) {u : State}
    {answer : StartAnswer} (hcommit : commitStart a (s.landing i slot) = (u, answer)) :
    ∃ t, exec (.verifyReadDone i ⟨[true, true, true],
        slotBytes (s.station i).expectedPair (addrNum a) (s.station i).amount⟩) s = .next t ∧
      Landed s i card slot (commitMessage ((s.station i).landed slot) (.start answer)) u t := by
  have hlands := h.lands hx
  have hstation := commitStart_landing_station (a := a) (slot := slot) hx
  have hkept := touched_commitStart a (s.landing i slot)
  dsimp only at hlands
  rw [hcommit] at hlands hstation hkept
  exact ⟨_, hlands, landed_of _ h.card (hkept .doubts (by simp)) hstation⟩

theorem Debits.landsTopUp (h : Debits s i .topUp card a slot) (hx : (s.station i).state = .verifying) {u : State} {added : Bool}
    (hcommit : commitTopUp a card (s.station i).amount (s.landing i slot) = (u, added)) :
    ∃ t, exec (.verifyReadDone i ⟨[true, true, true],
        slotBytes (s.station i).expectedPair (addrNum a) (s.station i).amount⟩) s = .next t ∧
      Landed s i card slot (commitMessage ((s.station i).landed slot) (.topUp added)) u t := by
  have hlands := h.lands hx
  have hstation := commitTopUp_landing_station (a := a) (card := card) (amount := (s.station i).amount) (slot := slot) hx
  have hkept := touched_commitTopUp a card (s.station i).amount (s.landing i slot)
  dsimp only at hlands
  rw [hcommit] at hlands hstation hkept
  exact ⟨_, hlands, landed_of _ h.card (hkept .doubts (by simp)) hstation⟩

/-- R90, R115: a refund placed for the card of a write that has landed, in a table that had none for it. -/
theorem Landed.placed {u t : State} {m : Message} {amount : Nat} (h : Landed s i card slot m u t)
    (hstation : u.station i = (s.station i).landed slot) (hx : (s.station i).card = some card) (hparams : u.params = s.params)
    (hnone : ∀ e ∈ s.refunds, e.card ≠ card)
    (hplaced : ∃ f : RefundEntry, u.refunds = s.refunds ++ [f] ∧ f.card = card ∧ f.amount = amount ∧ f.state = .ready) :
    (∃ f : RefundEntry, t.refunds = s.refunds ++ [f] ∧ f.card = card ∧ f.amount = amount ∧ f.state = .ready) ∧
    ((s.station i).expectedPair.value < s.params.ceiling → (t.station i).state = .crediting ∧
      (t.station i).amount = min amount (s.params.ceiling - (s.station i).expectedPair.value) ∧
      (t.station i).oldPair = (s.station i).expectedPair) := by
  obtain ⟨f, hf, hfor, hamount, hready⟩ := hplaced
  have hrecord : (raise .payment u).station i = (s.station i).landed slot := by rw [raise_station, hstation]
  have hcard : ((raise .payment u).station i).card = some card := by rw [hrecord]; exact hx
  rw [h.settles]
  obtain ⟨g, hg, hsame⟩ := settleRecord_concludes_refunds (u := raise .payment u) (m := m) hf hfor hnone hcard
  refine ⟨⟨g, hg, hsame.2.1.trans hfor, hsame.2.2.1.trans hamount, hsame.2.2.2.1.trans hready⟩, fun hceiling => ?_⟩
  have hcredit := settleRecord_concludes_credit (u := raise .payment u) (m := m) (slot := slot) hf hfor hnone hready hcard
    (by rw [hrecord]; rfl) (by rw [hrecord]; exact hceiling.trans_eq (congrArg _ hparams.symm))
  obtain ⟨hstate, hsum, hold⟩ := hcredit
  rw [hrecord, hamount] at hsum
  rw [hrecord] at hold
  exact ⟨hstate, hsum.trans (by rw [← hparams]; rfl), hold⟩

theorem Landed.merged {u t : State} {m : Message} {amount : Nat} {state : RefundState} {before behind : List RefundEntry}
    (h : Landed s i card slot m u t) (hstation : u.station i = (s.station i).landed slot) (hx : (s.station i).card = some card)
    (hbefore : ∀ y ∈ before, y.card ≠ card)
    (hplaced : ∃ f : RefundEntry, u.refunds = before ++ f :: behind ∧ f.card = card ∧ f.state = state ∧ f.amount = amount) :
    ∃ f : RefundEntry, t.refunds = before ++ f :: behind ∧ f.card = card ∧ f.state = state ∧ f.amount = amount := by
  obtain ⟨f, hf, hfor, hstate, hamount⟩ := hplaced
  have hcard : ((raise .payment u).station i).card = some card := by
    rw [raise_station, hstation]
    exact hx
  rw [h.settles]
  obtain ⟨g, hg, hsame⟩ := settleRecord_concludes_refunds (u := raise .payment u) (m := m) hf hfor hbefore hcard
  exact ⟨g, hg, hsame.2.1.trans hfor, hsame.2.2.2.1.trans hstate, hsame.2.2.1.trans hamount⟩

end

end Sys2Proof.Machine

/-! PROOF. The verify read of a credit, and the settling of O47 (R90, R91, R96, R116). -/

namespace Sys2Proof.Machine

section
variable {s : State} {i : StationId} {card : Nat} {slot : Slot} {e : RefundEntry} {before behind : List RefundEntry} {bytes : List Byte}

/-- A record that verifies the credit of a card (R91). -/
structure Credits (s : State) (i : StationId) (card : Nat) (slot : Slot) : Prop where
  verifies : (s.station i).state = .verifying
  card : (s.station i).card = some card
  target : (s.station i).target = none
  writing : (s.station i).writing = some slot
  request : (s.station i).request = some .credit

/-- What stands in an entry's place when a credit of it has landed (R116, R120). -/
def creditedRest (e : RefundEntry) (credit : Nat) : RefundEntry :=
  { e with amount := e.amount - credit, state := .ready, inProgress := false, pairs := none }

/-- The state of a credit that has landed, before its record settles (R96, R116). -/
def State.credited (s : State) (i : StationId) (slot : Slot) (e : RefundEntry) (before behind : List RefundEntry) : State :=
  (State.setStation (s.withMoney
    (before ++ (if e.amount - (s.station i).amount = 0 then [] else [creditedRest e (s.station i).amount]) ++ behind)
    { s.audit with credited := min 999999999999 (s.audit.credited + (s.station i).amount) }) i
      ((s.station i).landed slot)).raising (eventBit .payment)

/-- What is shown for a credit that has landed (R96). -/
def refundedMessage (x : Station) (rest : Nat) : Message := { plainMessage msgRefunded with
  first := x.amount, second := x.expectedPair.value, third := rest }

section Credits
variable (h : Credits s i card slot)
include h

theorem Credits.written : writtenBytes (s.station i) = slotBytes (s.station i).expectedPair 0 (s.station i).amount := by
  rw [writtenBytes, h.target]
  rfl

theorem Credits.lands (hs : s.refunds = before ++ e :: behind) (he : e.card = card)
    (hother : ∀ y ∈ before ++ behind, y.card ≠ card) (hle : (s.station i).amount ≤ e.amount) :
    exec (.verifyReadDone i ⟨[true, true, true], slotBytes (s.station i).expectedPair 0 (s.station i).amount⟩) s =
      .next (settleRecord i (display i (refundedMessage (s.station i) (e.amount - (s.station i).amount))
        (s.credited i slot e before behind))) := by
  have hbefore : ∀ y ∈ before, y.card ≠ card := fun y hy => hother y (List.mem_append_left _ hy)
  have hbehind : ∀ y ∈ behind, y.card ≠ card := fun y hy => hother y (List.mem_append_right _ hy)
  let u := s.setStation i ((s.station i).landed slot)
  have hu : u.refunds = before ++ e :: behind := (setStation_refunds ..).trans hs
  have hland : verifyEnds i (some (slotBytes (s.station i).expectedPair 0 (s.station i).amount)) s = landCredit i s := by
    unfold verifyEnds
    dsimp only
    rw [if_neg (not_not_intro h.verifies), if_pos h.written.symm, h.request]
  have hrecord : ({ s.station i with slot := (s.station i).writing, pair := (s.station i).expectedPair } : Station) =
      (s.station i).landed slot := by simp only [Station.landed, h.writing]
  have hheld : stillHeld card (raise .payment (creditLanded card (s.station i).amount u)) = e.amount - (s.station i).amount :=
    creditLanded_held hu he hbefore hbehind hle
  have hzero : ((s.station i).amount = e.amount) = (e.amount - (s.station i).amount = 0) := by
    apply propext
    omega
  have haudit : u.audit = s.audit := setStation_audit ..
  have hcard : (s.station i).card.getD 0 = card := by rw [h.card, Option.getD_some]
  have hends : landCredit i s = settleRecord i (display i { plainMessage msgRefunded with
      first := (s.station i).amount, second := (s.station i).expectedPair.value,
      third := stillHeld card (raise .payment (creditLanded card (s.station i).amount u)) }
        (raise .payment (creditLanded card (s.station i).amount u))) := by
    rw [show u = s.setStation i { s.station i with slot := (s.station i).writing, pair := (s.station i).expectedPair } from
      congrArg (s.setStation i) hrecord.symm, ← hcard]
    rfl
  rw [exec_verifyRead_done, hland, hends, hheld, creditLanded_found hu he hbefore hle, raise_eq_raising, raising_raising, haudit]
  simp only [hzero]
  cases i <;> rfl

omit h in
theorem credited_station : (s.credited i slot e before behind).station i = (s.station i).landed slot := by
  rw [State.credited, raising_station, station_setStation_self]

omit h in
theorem credited_refunds : (s.credited i slot e before behind).refunds =
    before ++ (if e.amount - (s.station i).amount = 0 then [] else [creditedRest e (s.station i).amount]) ++ behind := by
  rw [State.credited, raising_refunds, setStation_refunds, withMoney_refunds]

theorem Credits.again (hbytes : bytes ≠ slotBytes (s.station i).expectedPair 0 (s.station i).amount)
    (hattempt : (s.station i).attempt ≠ 1) : exec (.verifyReadDone i ⟨[true, true, true], bytes⟩) s =
      .next (if laterSlot (s.station i) bytes = true then
        display i { plainMessage msgPaymentUnresolved with first := (s.station i).amount }
          (modifyStation i (emptied true) (creditSuspect card s))
        else endCard i true msgCardError (creditFailed card s)) := by
  have hends : verifyEnds i (some bytes) s = secondMismatch i bytes s := by
    unfold verifyEnds
    dsimp only
    rw [if_neg (not_not_intro h.verifies), if_neg (by rw [h.written]; exact hbytes), if_neg hattempt]
  rw [exec_verifyRead_done, hends, secondMismatch, h.request, h.card]
  rfl

end Credits

theorem heldReady_none (h : ∀ e ∈ s.refunds, e.card ≠ card) : heldReady card s = 0 := by
  rw [heldReady, refund_eq_none h]

theorem heldReady_rest {credit : Nat} (he : e.card = card) (hother : ∀ y ∈ before ++ behind, y.card ≠ card)
    (hs : s.refunds = before ++ (if e.amount - credit = 0 then [] else [creditedRest e credit]) ++ behind) :
    heldReady card s = e.amount - credit := by
  by_cases hzero : e.amount - credit = 0
  · rw [if_pos hzero, List.append_nil] at hs
    rw [heldReady_none (by rw [hs]; exact hother), hzero]
  · rw [if_neg hzero, List.append_assoc, List.singleton_append] at hs
    rw [heldReady, refund_eq_some hs (by exact he) (fun y hy => hother y (List.mem_append_left _ hy))]
    rfl

/-- The record of a card that stands ready behind an answer (R90). -/
def Station.answered (x : Station) (held : Nat) (m : Message) : Station := { x with
  state := .cardReady, request := none, target := none, amount := 0, seconds := 0, minutes := 0, writing := none, begun := false,
  attempt := 1, balanceDue := false,
  display := x.display ++ m :: (if x.balanceDue = true then
    [{ plainMessage msgBalance with first := x.pair.value, second := held }] else []) }

/-- R90: an answer at a record with nothing to credit. -/
theorem settleRecord_answered {m : Message} (hcard : (s.station i).card = some card) (hnone : nothingToCredit s i card) :
    settleRecord i (display i m s) = s.setStation i ((s.station i).answered (heldReady card s) m) := by
  have hshown : (display i m s).station i = { s.station i with display := (s.station i).display ++ [m] } := display_station
  have hnone' : nothingToCredit (display i m s) i card := by
    intro e he hc
    rw [hshown, show (display i m s).params = s.params from setStation_params ..]
    exact hnone e ((setStation_refunds ..) ▸ he) hc
  rw [settleRecord_stands (card := card) (by rw [hshown]; exact hcard) hnone', toReady_eq, hshown, display, modifyStation,
    setStation_setStation_self]
  simp only [readied, Station.answered, hcard, Option.getD_some, heldReady_setStation, List.append_assoc, List.singleton_append]

theorem landing_params : (s.landing i slot).params = s.params := by cases i <;> rfl

theorem landing_counters : (s.landing i slot).cycleCounter = s.cycleCounter ∧ (s.landing i slot).now = s.now := by
  cases i <;> exact ⟨rfl, rfl⟩

end

/-- Settles O47: a debit that verifies is committed and its record settles; a second mismatch abandons it, and a credit is
taken off its entry. -/
theorem aVerifiedDebitStartsTheCycle : Obligations.AVerifiedDebitStartsTheCycle := by
  unfold Obligations.AVerifiedDebitStartsTheCycle
  intro s i card slot
  dsimp only
  intro hx hcard hwriting
  refine ⟨fun a htarget => ⟨fun p hrequest hpaying hpaid hlock hpending hopen hdoor => ?opens,
      fun p hrequest hpaid hpayer hclosed => ?closed, fun c u hrequest hrunning hdryer hcycle hdry hwarm htop hfor hnone => ?added,
      fun hrequest hpos hlate => ?late, fun bytes hbytes hattempt hrequest => ?mismatch⟩,
    fun before behind e htarget hrequest hs he hother hle => ⟨?stands, ?rest, fun bytes hbytes hattempt => ?unlanded⟩⟩
  case opens =>
    have hdoor' : ((s.landing i slot).machine a).door = some .closed ∨ ((s.landing i slot).machine a).door = some .locked := by
      rw [landing_machine]
      exact hdoor
    obtain ⟨t, hexec, ht⟩ := Debits.landsStart ⟨hcard, htarget, hwriting, hrequest⟩ hx
      (landing_opens hpaying hpaid hlock hpending hopen)
    have hmessage : commitMessage ((s.station i).landed slot) (.start .started) = { plainMessage msgPaid with
        small := addrNum a, minutes := (s.station i).minutes, first := (s.station i).amount,
        second := (s.station i).expectedPair.value } := by
      simp only [commitMessage, Station.landed, htarget, Option.map_some, Option.getD_some]
    rw [hmessage] at ht
    obtain ⟨hstate, hpayment, -, sub, hrun⟩ := openStart_machine (p := p) hdoor'
    have haudit := ht.audit.trans (touched_openStart a p (s.landing i slot) .money (by simp)).2
    refine ⟨t, hexec, by rw [haudit, landing_audit], by rw [ht.machine]; exact hstate, by rw [ht.machine]; exact hpayment, ?_, ?_,
      ht.current, ht.tells, ht.ready⟩
    · rw [ht.machine]
      rw [landing_classOf] at hrun
      exact ⟨_, hrun, landing_counters.1, rfl, rfl, rfl, rfl, rfl, rfl, landing_counters.2, rfl, rfl⟩
    · rw [ht.counter, (openStart_counts (p := p) hdoor').2, landing_counters.1]
  case closed =>
    obtain ⟨t, hexec, ht⟩ := Debits.landsStart ⟨hcard, htarget, hwriting, hrequest⟩ hx (landing_closes hpaid hclosed)
    rw [commitMessage_closed (x := (s.station i).landed slot) htarget, landing_halted] at ht
    obtain ⟨hrefunds, haudit, hcounter⟩ := closeStart_money (a := a) (p := p) (s := s.landing i slot)
    have hat := landing_machine (s := s) (i := i) (slot := slot) a
    have hapart (hst : (s.machine a).state ≠ .paying) : t.machine a = { s.machine a with payment := none } := by
      rw [ht.machine, closeStart_apart (by rw [hat]; exact hst), hat]
    have hreleased (hst : (s.machine a).state = .paying) := closeStart_released (p := p) (s := s.landing i slot) (a := a)
      (by rw [hat]; exact hst) (by
        rw [hat, landing_halted]
        rcases hclosed with h | h | h
        · exact .inl h
        · exact absurd hst h
        · exact .inr h)
    simp only [hat] at hreleased
    have hgone : (t.machine a).payment = none ∧ (t.machine a).cycle = (s.machine a).cycle := by
      by_cases hst : (s.machine a).state = .paying
      · obtain ⟨pending, hm⟩ := hreleased hst
        rw [ht.machine, hm]
        exact ⟨rfl, rfl⟩
      · rw [hapart hst]
        exact ⟨rfl, rfl⟩
    refine ⟨t, hexec, ?_, hgone.1, hgone.2, ?_, ht.current, ?_, fun hst => ?_, fun hst => ?_, fun hwhole hpos => ?_⟩
    · rw [ht.audit, haudit, refundedStart, placeRefund_charged]
      exact congrArg Audit.charged landing_audit
    · rw [ht.counter, hcounter, landing_counters.1]
    · obtain ⟨more, hmore⟩ := ht.tells
      refine ⟨more, hmore.trans ?_⟩
      split <;> rfl
    · rw [hapart hst]
      exact ⟨rfl, rfl⟩
    · obtain ⟨pending, hm⟩ := hreleased hst
      rw [ht.machine, hm]
      exact ⟨rfl, fun hlock => if_neg hlock, fun hlock => if_pos hlock⟩
    · have hrefund := refundOf_newCycle (number := (s.landing i slot).cycleCounter) (now := (s.landing i slot).now)
        (closureCause_ne_user (s.landing i slot) ((s.landing i slot).machine a)) hwhole
      have hplacing : refundedStart a p (s.landing i slot) =
          placeRefund card p.charge (addrNum a) (takeCycleNumber (s.landing i slot)) := by
        rw [refundedStart, landing_classOf, hrefund, hpayer]
      rw [hplacing] at hrefunds haudit
      have hclosing : (closeStart a p (s.landing i slot)).station i = (s.station i).landed slot := by
        rw [← commitStart_landing_station (a := a) hx, landing_closes hpaid hclosed]
      have hissue : (takeCycleNumber (s.landing i slot)).audit.issued = s.audit.issued := by cases i <;> rfl
      have hunplacing : (takeCycleNumber (s.landing i slot)).audit.unplaced = s.audit.unplaced := by cases i <;> rfl
      refine ⟨?_, fun hnone hroom => ?_⟩
      · rw [ht.audit, haudit, placeRefund_issued, if_neg (Nat.pos_iff_ne_zero.mp hpos), hissue]
      · have htable : (takeCycleNumber (s.landing i slot)).refunds = s.refunds := landing_refunds
        obtain ⟨hmakes, hexcess⟩ := placeRefund_makes (s := takeCycleNumber (s.landing i slot)) (card := card)
          (machine := addrNum a) hpos (by rw [htable]; exact hnone) (by rw [htable]; exact hroom)
        rw [← hrefunds, htable] at hmakes
        have hplaced := ht.placed hclosing hcard ((touched_closeStart a p (s.landing i slot)).params (by simp) |>.trans
          landing_params) hnone hmakes
        refine ⟨hplaced.1, hplaced.2, fun hbig => ?_⟩
        rw [ht.audit, haudit, hexcess hbig, hunplacing]
  case added =>
    have hdries : DriesAs (s.landing i slot) a c := by
      have hat := landing_machine (s := s) (i := i) (slot := slot) a
      exact ⟨by rw [hat]; exact hrunning, (landing_classOf a).trans hdryer, by rw [hat]; exact hcycle, hdry, hwarm⟩
    obtain ⟨t, hexec, ht⟩ := Debits.landsTopUp ⟨hcard, htarget, hwriting, hrequest⟩ hx (hdries.commits htop hfor)
    have hmessage : commitMessage ((s.station i).landed slot) (.topUp true) = { plainMessage msgTimeAdded with
        small := addrNum a, minutes := (s.station i).minutes, first := (s.station i).amount,
        second := (s.station i).expectedPair.value } := by
      simp only [commitMessage, Station.landed, htarget, Option.map_some, Option.getD_some]
    rw [hexec, ht.settles, hmessage, landing_machine]
    rw [settleRecord_answered (card := card) (by rw [raise_station, setMachine_station, landing_station]; exact hcard)
      (by
        intro e he hc
        rw [raise_eq_raising, raising_refunds, setMachine_refunds, landing_refunds] at he
        exact absurd hc (hnone e he)), heldReady_none (by
        rw [raise_eq_raising, raising_refunds, setMachine_refunds, landing_refunds]
        exact hnone), raise_station, setMachine_station, landing_station]
    cases i <;> rfl
  case late =>
    have hat := landing_machine (s := s) (i := i) (slot := slot) a
    obtain ⟨t, hexec, ht⟩ := Debits.landsTopUp ⟨hcard, htarget, hwriting, hrequest⟩ hx
      (commitTopUp_late (s := s.landing i slot) (card := card) (amount := (s.station i).amount) (by
        rw [hat, landing_classOf]
        exact hlate))
    have hmessage : commitMessage ((s.station i).landed slot) (.topUp false) =
        { plainMessage msgNotDrying with small := addrNum a } := by
      simp only [commitMessage, Station.landed, htarget, Option.map_some, Option.getD_some]
    rw [hmessage] at ht
    have hlater : clearTopUp a card (s.landing i slot) = lateTopUp s i slot a card := rfl
    rw [hlater] at ht
    obtain ⟨htable, hbooks⟩ := lateTopUp_money (s := s) (i := i) (slot := slot) (a := a) (card := card)
    have hstation : (placeRefund card (s.station i).amount (addrNum a) (lateTopUp s i slot a card)).station i =
        (s.station i).landed slot := by
      have hlanding := commitTopUp_landing_station (a := a) (card := card) (amount := (s.station i).amount) (slot := slot) hx
      rw [commitTopUp_late (by rw [hat, landing_classOf]; exact hlate)] at hlanding
      exact hlanding
    have hmachine : t.machine a = (lateTopUp s i slot a card).machine a := by rw [ht.machine, placeRefund_machine]
    rw [lateTopUp_machine] at hmachine
    have hparams : (placeRefund card (s.station i).amount (addrNum a) (lateTopUp s i slot a card)).params = s.params := by
      rw [(touched_placeRefund_money _ _ _ _).params (by simp), lateTopUp, clearTopUp_eq, setMachine_params, landing_params]
    refine ⟨t, hexec, ?_, ?_, ht.current, by rw [hmachine], by rw [hmachine], ht.tells, fun hnone hroom => ?_,
      fun before behind e hs he hbefore => ?_⟩
    · rw [ht.audit, placeRefund_charged, hbooks]
    · rw [ht.audit, placeRefund_issued, if_neg (Nat.pos_iff_ne_zero.mp hpos), hbooks]
    · obtain ⟨hmakes, hexcess⟩ := placeRefund_makes (s := lateTopUp s i slot a card) (card := card)
        (machine := addrNum a) hpos (by rw [htable]; exact hnone) (by rw [htable]; exact hroom)
      rw [htable] at hmakes
      have hplaced := ht.placed hstation hcard hparams hnone hmakes
      refine ⟨hplaced.1, hplaced.2, fun hbig => ?_⟩
      rw [ht.audit, hexcess hbig, hbooks]
    · obtain ⟨hmerges, hexcess⟩ := placeRefund_merges (s := lateTopUp s i slot a card) (card := card) (machine := addrNum a)
        hpos (htable.trans hs) he hbefore
      refine ⟨ht.merged hstation hcard hbefore hmerges, fun hbig => ?_⟩
      obtain ⟨hlast, hunplaced⟩ := hexcess hbig
      refine ⟨?_, by rw [ht.audit, hunplaced, hbooks]⟩
      obtain ⟨r, hr, hrest⟩ := hlast
      exact ⟨r, by rw [ht.faults]; exact hr, by rw [ht.now]; exact hrest⟩
  case mismatch =>
    have hend (kind : DoubtKind) (h : Debits s i kind card a slot) (ended : State → Prop)
        (hended : ∀ t, Abandoned s i kind card a t → ended t) :
        (slotValid bytes = false ∨ laterThan (at2 bytes 2) (s.station i).oldPair.sequence = false →
          ∃ t, exec (.verifyReadDone i ⟨[true, true, true], bytes⟩) s = .next t ∧ ended t ∧
            t.station i = { emptied true (s.station i) with
              display := (s.station i).display ++ [plainMessage msgCardError] } ∧ t.audit = s.audit ∧ t.faults = s.faults) ∧
        (slotValid bytes = true → laterThan (at2 bytes 2) (s.station i).oldPair.sequence = true →
          ∃ t, exec (.verifyReadDone i ⟨[true, true, true], bytes⟩) s = .next t ∧ ended t ∧
            t.station i = { emptied true (s.station i) with display := (s.station i).display ++
              [doubtMessage msgPaymentUnresolved (debitOf (s.station i) kind card a slot)] } ∧
            t.audit = { s.audit with debitsUnresolved := min 999999999999 (s.audit.debitsUnresolved + 1) } ∧
            faultLast (addrNum a) 0x20 t ∧ ∃ f ∈ t.faults, f.machine = addrNum a ∧ f.code = 0x20 ∧ f.card = some card) := by
      rw [secondMismatch_debit h hx hbytes hattempt]
      refine ⟨fun hold => ?_, fun hvalid hlater => ?_⟩
      · rw [if_neg (by rw [laterSlot_iff]; rcases hold with h | h <;> simp [h])]
        obtain ⟨hends, hkept⟩ := endCard_abandons (s := s) (i := i) (kind := kind) (card := card) (a := a)
        exact ⟨_, rfl, hended _ hends, hkept⟩
      · rw [if_pos (laterSlot_iff.mpr ⟨hvalid, hlater⟩)]
        obtain ⟨hends, hkept⟩ := debitUnresolved_abandons (s := s) (i := i) (debitOf (s.station i) kind card a slot) ⟨rfl, rfl, rfl⟩
        exact ⟨_, rfl, hended _ hends, hkept⟩
    rcases hrequest with hrequest | hrequest
    · refine hend .start ⟨hcard, htarget, hwriting, hrequest⟩ _ fun t ht => ⟨ht.copy, fun _ => ht.start, fun h => ?_⟩
      exact absurd (hrequest.symm.trans h) (by decide)
    · refine hend .topUp ⟨hcard, htarget, hwriting, hrequest⟩ _ fun t ht => ⟨ht.copy, fun h => ?_, fun _ => ht.topUp⟩
      exact absurd (hrequest.symm.trans h) (by decide)
  case stands =>
    intro hends
    have h : Credits s i card slot := ⟨hx, hcard, htarget, hwriting, hrequest⟩
    have htable := credited_refunds (s := s) (i := i) (slot := slot) (e := e) (before := before) (behind := behind)
    have hparams : (s.credited i slot e before behind).params = s.params := by
      rw [State.credited, raising_params, setStation_params, withMoney_params]
    rw [h.lands hs he hother hle, settleRecord_answered (card := card) (by rw [credited_station]; exact hcard) (by
      intro y hy hc
      rw [credited_station, hparams]
      rw [htable] at hy
      rcases hends with hzero | hceiling
      · rw [if_pos hzero, List.append_nil] at hy
        exact absurd hc (hother y hy)
      · exact .inr hceiling), credited_station, heldReady_rest he hother htable]
    cases i <;> rfl
  case rest =>
    intro hpos hceiling
    have h : Credits s i card slot := ⟨hx, hcard, htarget, hwriting, hrequest⟩
    have hbefore : ∀ y ∈ before, y.card ≠ card := fun y hy => hother y (List.mem_append_left _ hy)
    let u := display i (refundedMessage (s.station i) (e.amount - (s.station i).amount)) (s.credited i slot e before behind)
    have hstation : u.station i = { (s.station i).landed slot with
        display := (s.station i).display ++ [refundedMessage (s.station i) (e.amount - (s.station i).amount)] } := by
      rw [display_station, credited_station]
      rfl
    have hparams : u.params = s.params := by
      rw [show u.params = (s.credited i slot e before behind).params from setStation_params .., State.credited, raising_params,
        setStation_params, withMoney_params]
    have htable : u.refunds = before ++ creditedRest e (s.station i).amount :: behind := by
      rw [show u.refunds = (s.credited i slot e before behind).refunds from setStation_refunds .., credited_refunds,
        if_neg (Nat.pos_iff_ne_zero.mp hpos), List.append_assoc, List.singleton_append]
    have haudit : u.audit = { s.audit with credited := min 999999999999 (s.audit.credited + (s.station i).amount) } := by
      rw [show u.audit = (s.credited i slot e before behind).audit from setStation_audit .., State.credited, raising_audit,
        setStation_audit, withMoney_audit]
    have hcredits := settleRecord_credits (s := u) (i := i) (slot := slot) htable (by exact he) hbefore rfl
      (by rw [hstation]; exact hcard) (by rw [hstation]; rfl) (by rw [hstation, hparams]; exact hceiling)
    refine ⟨_, (crediting u i slot (creditedRest e (s.station i).amount).amount).expectedPair, h.lands hs he hother hle, ?_, ?_, ?_⟩
    · exact (settleRecord_audit i u).trans haudit
    · rw [hcredits, setStation_refunds, withMoney_refunds, hstation]
      rfl
    · rw [hcredits, station_setStation_self]
      unfold crediting
      rw [hstation, hparams]
      exact ⟨⟨rfl, rfl, rfl⟩, rfl, rfl, rfl, [], rfl⟩
  case unlanded =>
    have h : Credits s i card slot := ⟨hx, hcard, htarget, hwriting, hrequest⟩
    have hbefore : ∀ y ∈ before, y.card ≠ card := fun y hy => hother y (List.mem_append_left _ hy)
    rw [h.again hbytes hattempt]
    refine ⟨fun hold => ?_, fun hvalid hlater => ?_⟩
    · rw [if_neg (by rw [laterSlot_iff]; rcases hold with h | h <;> simp [h]), creditFailed_eq hs he hbefore, endCard_eq]
      cases i <;> rfl
    · rw [if_pos (laterSlot_iff.mpr ⟨hvalid, hlater⟩)]
      obtain ⟨hrefunds, haudit, hlast, ⟨f, hf, hfault⟩, hstation⟩ := creditSuspect_leaves hs he hbefore
      have hemptied : display i { plainMessage msgPaymentUnresolved with first := (s.station i).amount }
          (modifyStation i (emptied true) (creditSuspect card s)) = (creditSuspect card s).setStation i
            { emptied true (s.station i) with display := (s.station i).display ++
              [{ plainMessage msgPaymentUnresolved with first := (s.station i).amount }] } := by
        rw [display, modifyStation, modifyStation, station_setStation_self, setStation_setStation_self, hstation]
        rfl
      rw [hemptied]
      refine ⟨_, rfl, station_setStation_self .., (setStation_refunds ..).trans hrefunds, (setStation_audit ..).trans haudit, ?_, f,
        ?_, hfault⟩
      · exact hlast.of_touches ((touches_setStation (ps := [.stations]) (by simp) i _).mpr (Touches.refl _ _)) (by simp) (by simp)
      · rw [setStation_faults]
        exact hf

end Sys2Proof.Machine

/-! PROOF. A shed as a list of grants: which are taken, with which numbers, and what becomes of their machines (R33, R66 to
R68). -/

namespace Sys2Proof.Machine

/-! ## The grants a shed takes -/

/-- A grant marked suspension pending (R66). -/
def Grant.marked (g : Grant) (now number : Nat) : Grant :=
  { g with pending := true, deadline := some (now + 10), number := some number }

/-- The amounts of some grants. -/
def sumOf (gs : List Grant) : Nat := (gs.map (·.amount)).sum

theorem grantSum_eq (p : Grant → Bool) (gs : List Grant) : grantSum p gs = sumOf (gs.filter p) := by
  induction gs with
  | nil => rfl
  | cons g gs ih =>
    cases h : p g <;> simp [grantSum, sumOf, h, ih, List.filter_cons]

section Lists
variable (y : Grant → Bool) (shared total eff now first : Nat) (c : MachineClass)

/-- Whether the shared portion's shed takes a grant, by the grants that are more recent (R67). -/
def takesShared (g : Grant) (gs : List Grant) : Bool :=
  isShared g && y g && decide (shared + sumOf (gs.filter fun h => isShared h && y h) < total)

/-- The shed of the shared portion, the most recent grant first: the grants as it leaves them, and the machines taken, the last
one first (R66, R67). -/
def shedShared : List Grant → List Grant × List Addr
  | [] => ([], [])
  | g :: gs =>
    let r := shedShared gs
    if takesShared y shared total g gs then (g.marked now (first + r.2.length) :: r.1, g.machine :: r.2) else (g :: r.1, r.2)

/-- Whether the shed of a reserve takes a grant (R68). -/
def takesReserve (g : Grant) : Bool := isReserveOf c g && (y g && decide (eff < g.amount))

/-- The shed of a reserve (R66, R68). -/
def shedReserve (gs : List Grant) : List Grant := gs.map fun g => if takesReserve y eff c g then g.marked now first else g

/-- The machines that the shed of a reserve takes. -/
def shedMachines (gs : List Grant) : List Addr := (gs.filter (takesReserve y eff c)).map (·.machine)

variable {y shared total eff now first c}

@[simp] theorem marked_machine (g : Grant) : (g.marked now first).machine = g.machine := rfl
@[simp] theorem marked_portion (g : Grant) : (g.marked now first).portion = g.portion := rfl

theorem shedShared_machines (gs : List Grant) :
    (shedShared y shared total now first gs).1.map (·.machine) = gs.map (·.machine) := by
  induction gs with
  | nil => rfl
  | cons g gs ih =>
    unfold shedShared
    dsimp only
    split <;> simp [ih]

theorem shedShared_portions (gs : List Grant) :
    (shedShared y shared total now first gs).1.map (·.portion) = gs.map (·.portion) := by
  induction gs with
  | nil => rfl
  | cons g gs ih =>
    unfold shedShared
    dsimp only
    split <;> simp [ih]

theorem shedShared_taken (gs : List Grant) :
    ∀ b ∈ (shedShared y shared total now first gs).2, ∃ g ∈ gs, isShared g = true ∧ g.machine = b := by
  induction gs with
  | nil => simp [shedShared]
  | cons g gs ih =>
    unfold shedShared
    dsimp only
    intro b hb
    split at hb
    · next htakes =>
      rcases List.mem_cons.mp hb with rfl | hb
      · simp only [takesShared, Bool.and_eq_true] at htakes
        exact ⟨g, List.mem_cons_self .., htakes.1.1, rfl⟩
      · obtain ⟨h, hh, hrest⟩ := ih b hb
        exact ⟨h, List.mem_cons_of_mem _ hh, hrest⟩
    · obtain ⟨h, hh, hrest⟩ := ih b hb
      exact ⟨h, List.mem_cons_of_mem _ hh, hrest⟩

/-- R67: the grants of the other portions stand as they were. -/
theorem shedShared_filter {q : Grant → Bool} (hq : ∀ g, isShared g = true → q g = false) (gs : List Grant) :
    (shedShared y shared total now first gs).1.filter q = gs.filter q := by
  induction gs with
  | nil => rfl
  | cons g gs ih =>
    unfold shedShared
    dsimp only
    split
    · next htakes =>
      simp only [takesShared, Bool.and_eq_true] at htakes
      have hmarked : isShared (g.marked now (first + (shedShared y shared total now first gs).2.length)) = true := htakes.1.1
      rw [List.filter_cons, List.filter_cons, hq _ hmarked, hq _ htakes.1.1, ih]
      rfl
    · rw [List.filter_cons, List.filter_cons, ih]

theorem shedReserve_filter {q : Grant → Bool} (hq : ∀ g, isReserveOf c g = true → q g = false) (gs : List Grant) :
    (shedReserve y eff now first c gs).filter q = gs.filter q := by
  induction gs with
  | nil => rfl
  | cons g gs ih =>
    have hcons : shedReserve y eff now first c (g :: gs) =
        (if takesReserve y eff c g then g.marked now first else g) :: shedReserve y eff now first c gs := rfl
    rw [hcons, List.filter_cons, List.filter_cons, ih]
    by_cases htakes : takesReserve y eff c g = true
    · have hreserve : isReserveOf c g = true := by
        simp only [takesReserve, Bool.and_eq_true] at htakes
        exact htakes.1
      rw [if_pos htakes, hq _ hreserve, hq (g.marked now first) hreserve]
      rfl
    · rw [if_neg htakes]

theorem shedReserve_machines (gs : List Grant) :
    (shedReserve y eff now first c gs).map (·.machine) = gs.map (·.machine) := by
  rw [shedReserve, List.map_map]
  refine List.map_congr_left fun g _ => ?_
  dsimp only [Function.comp]
  split <;> rfl

theorem shedReserve_portions (gs : List Grant) :
    (shedReserve y eff now first c gs).map (·.portion) = gs.map (·.portion) := by
  rw [shedReserve, List.map_map]
  refine List.map_congr_left fun g _ => ?_
  dsimp only [Function.comp]
  split <;> rfl

/-- What a shed has left unmarked of some grants (R67). -/
def sharedLeft (gs : List Grant) : Nat := sumOf (gs.filter fun g => isShared g && !g.pending)

theorem sharedLeft_append (gs hs : List Grant) : sharedLeft (gs ++ hs) = sharedLeft gs + sharedLeft hs := by
  simp [sharedLeft, sumOf]

/-- R67: what a shed has marked of some grants is all that can be suspended, or relieves the pool. -/
theorem sharedLeft_shedShared (hy : ∀ g, y g = true → g.pending = false) (gs : List Grant) :
    ∃ n, sharedLeft gs = sharedLeft (shedShared y shared total now first gs).1 + n ∧
      (n = sumOf (gs.filter fun h => isShared h && y h) ∨
        n ≤ sumOf (gs.filter fun h => isShared h && y h) ∧ total ≤ shared + n) := by
  induction gs with
  | nil => exact ⟨0, rfl, .inl rfl⟩
  | cons g gs ih =>
    obtain ⟨n, hn, hall⟩ := ih
    have hsplit (hs : List Grant) (h : Grant) : sharedLeft (h :: hs) = sharedLeft [h] + sharedLeft hs := sharedLeft_append [h] hs
    by_cases hyields : (isShared g && y g) = true
    · have hsum : sumOf ((g :: gs).filter fun h => isShared h && y h) =
          g.amount + sumOf (gs.filter fun h => isShared h && y h) := by
        rw [List.filter_cons, if_pos hyields]
        rfl
      simp only [Bool.and_eq_true] at hyields
      have hself : sharedLeft [g] = g.amount := by simp [sharedLeft, sumOf, hyields.1, hy g hyields.2]
      rw [hsum]
      unfold shedShared
      dsimp only
      by_cases htakes : takesShared y shared total g gs = true
      · rw [if_pos htakes]
        have hgone : sharedLeft [g.marked now (first + (shedShared y shared total now first gs).2.length)] = 0 := by
          simp [sharedLeft, sumOf, Grant.marked]
        have hbelow : shared + sumOf (gs.filter fun h => isShared h && y h) < total := by
          simp only [takesShared, Bool.and_eq_true, decide_eq_true_eq] at htakes
          exact htakes.2
        have hbefore := hsplit gs g
        have hafter := hsplit (shedShared y shared total now first gs).1
          (g.marked now (first + (shedShared y shared total now first gs).2.length))
        exact ⟨g.amount + n, by dsimp only; omega, .inl (by omega)⟩
      · rw [if_neg htakes]
        have hnot : total ≤ shared + sumOf (gs.filter fun h => isShared h && y h) := by
          simp only [takesShared, hyields.1, hyields.2, Bool.and_self, Bool.true_and, decide_eq_true_eq] at htakes
          omega
        have hbefore := hsplit gs g
        have hafter := hsplit (shedShared y shared total now first gs).1 g
        exact ⟨n, by dsimp only; omega, .inr (by omega)⟩
    · have hstays : takesShared y shared total g gs = false := by
        rw [takesShared, Bool.eq_false_iff.mpr hyields]
        rfl
      refine ⟨n, ?_, ?_⟩
      · unfold shedShared
        simp only [hstays, Bool.false_eq_true, if_false]
        have hbefore := hsplit gs g
        have hafter := hsplit (shedShared y shared total now first gs).1 g
        omega
      · rw [List.filter_cons, if_neg hyields]
        exact hall

/-- R67: a grant that can be suspended is taken exactly while the working excess is above 0. -/
theorem takesShared_iff (hy : ∀ g, y g = true → g.pending = false) {before : List Grant} {g : Grant} {gs : List Grant}
    (htotal : total = sharedLeft (before ++ g :: gs)) (hg : isShared g = true) (hyields : y g = true) :
    takesShared y shared total g gs = true ↔
      shared < sharedLeft (before ++ g :: (shedShared y shared total now first gs).1) := by
  obtain ⟨n, hn, hall⟩ := sharedLeft_shedShared (y := y) (shared := shared) (total := total) (now := now) (first := first) hy gs
  have hsplit (hs : List Grant) : sharedLeft (before ++ g :: hs) = sharedLeft (before ++ [g]) + sharedLeft hs := by
    rw [← sharedLeft_append, List.append_assoc]
    rfl
  rw [hsplit] at htotal ⊢
  simp only [takesShared, hg, hyields, Bool.and_self, Bool.true_and, decide_eq_true_eq]
  omega

end Lists

end Sys2Proof.Machine

/-! PROOF. A shed of a pool whose grants are lawful takes the grants of the lists of P68, one suspension each (R33, R66 to R68). -/

namespace Sys2Proof.Machine

section
variable {k : PoolId} {s t : State} {g : Grant} {before behind gs : List Grant} {taken : List Addr}

/-! ## One suspension -/

/-- A machine whose suspension a pool has begun (R33). -/
def MachineRecord.suspending (m : MachineRecord) : MachineRecord := { m with
  cycle := m.cycle.map fun c => { c with sub := .suspending }, bus := postBus .suspend .cycleControl m.bus }

/-- A pool after some sheds: its grants as the sheds leave them, the suspension numbers given, and the sheds counted (R66,
R67). -/
def Pool.afterSheds (p : Pool) (gs : List Grant) (n : Nat) : Pool := { p with
  grants := gs, suspCounter := p.suspCounter + n,
  stats := { p.stats with sheds := if n = 0 then p.stats.sheds else min 4294967295 (p.stats.sheds + n) } }

/-- What some sheds of a pool leave: the pool's grants, the machines taken suspending, and everything else as it was. -/
structure Shed (k : PoolId) (s : State) (gs : List Grant) (taken : List Addr) (t : State) : Prop where
  pool : t.pool k = (s.pool k).afterSheds gs taken.length
  others : ∀ j, j ≠ k → t.pool j = s.pool j
  touches : Touches [.machines, .pools] s t
  stays : ∀ b, b ∉ taken → t.machine b = s.machine b
  suspends : ∀ b ∈ taken, t.machine b = (s.machine b).suspending

theorem Shed.start (k : PoolId) (s : State) : Shed k s (s.pool k).grants [] s :=
  ⟨rfl, fun _ _ => rfl, Touches.refl _ s, fun _ _ => rfl, nofun⟩

/-- Whether a pool's request to suspend the machine of a grant is carried out, the grant not being marked (R33, R67). -/
def yields (s : State) (g : Grant) : Bool := !g.pending && g.suspendable && suspendAllowed (s.machine g.machine)

theorem yields_pending (h : yields s g = true) : g.pending = false := by
  simp only [yields, Bool.and_eq_true, Bool.not_eq_true'] at h
  exact h.1.1

theorem markFrom_none {j : PoolId} {a : Addr} (h : ∀ g ∈ (s.pool j).grants, g.machine ≠ a) : markFrom j a s = s := by
  refine if_neg fun hany => ?_
  obtain ⟨g, hg, hmachine⟩ := List.any_eq_true.mp hany
  simp only [decide_eq_true_eq] at hmachine
  exact h g hg hmachine.1

/-- R66: a pool with one grant of a machine marks it. -/
theorem markFrom_one (hs : (s.pool k).grants = before ++ g :: behind) (hg : g.pending = false)
    (hother : ∀ h ∈ before ++ behind, h.machine ≠ g.machine) : markFrom k g.machine s = s.setPool k { s.pool k with
      grants := before ++ g.marked s.now (s.pool k).suspCounter :: behind, suspCounter := (s.pool k).suspCounter + 1 } := by
  have hstays (hs : List Grant) (hhs : ∀ h ∈ hs, h.machine ≠ g.machine) :
      markGrants g.machine s.now (s.pool k).suspCounter hs = hs := by
    refine (List.map_congr_left fun h hh => ?_).trans (List.map_id hs)
    exact if_neg fun hm => hhs h hh hm.1
  have hmarks : markGrants g.machine s.now (s.pool k).suspCounter (before ++ g :: behind) =
      before ++ g.marked s.now (s.pool k).suspCounter :: behind := by
    have hsplit : markGrants g.machine s.now (s.pool k).suspCounter (before ++ g :: behind) =
        markGrants g.machine s.now (s.pool k).suspCounter before ++
          (if g.machine = g.machine ∧ ¬ g.pending = true then g.marked s.now (s.pool k).suspCounter else g) ::
            markGrants g.machine s.now (s.pool k).suspCounter behind := by
      rw [markGrants, List.map_append, List.map_cons]
      rfl
    rw [hsplit, hstays before fun h hh => hother h (List.mem_append_left _ hh),
      hstays behind fun h hh => hother h (List.mem_append_right _ hh), if_pos ⟨rfl, by simp [hg]⟩]
  have hany : (s.pool k).grants.any (fun h => decide (h.machine = g.machine ∧ ¬ h.pending = true)) = true :=
    List.any_eq_true.mpr ⟨g, by rw [hs]; simp, by simp [hg]⟩
  unfold markFrom
  dsimp only
  rw [if_pos hany, hs, hmarks]

/-- R66: the grant a machine holds in one pool is marked, and the other pool has none of it. -/
theorem markGrant_one (hs : (s.pool k).grants = before ++ g :: behind) (hg : g.pending = false)
    (hother : ∀ h ∈ before ++ behind, h.machine ≠ g.machine)
    (hpools : ∀ j, j ≠ k → ∀ h ∈ (s.pool j).grants, h.machine ≠ g.machine) :
    markGrant g.machine s = s.setPool k { s.pool k with
      grants := before ++ g.marked s.now (s.pool k).suspCounter :: behind, suspCounter := (s.pool k).suspCounter + 1 } := by
  unfold markGrant
  cases k with
  | electric =>
    rw [markFrom_one hs hg hother]
    refine markFrom_none fun h hh => hpools .water (by decide) h ?_
    rwa [pool_setPool_other _ _ (by decide)] at hh
  | water => rw [markFrom_none (hpools .electric (by decide)), markFrom_one hs hg hother]

/-- R33: the machine of a suspension that is begun, before its grant is marked. -/
theorem suspending_posted (hallowed : suspendAllowed (s.machine g.machine) = true) :
    (post g.machine .suspend .cycleControl (modifyCycle g.machine (fun c => { c with sub := .suspending }) s)).machine g.machine =
      (s.machine g.machine).suspending := by
  cases hc : (s.machine g.machine).cycle with
  | none => exact absurd hallowed (by simp [suspendAllowed, hc])
  | some c =>
    rw [post_machine, if_pos rfl, modifyCycle_self hc, MachineRecord.suspending, hc]
    rfl

/-- R33, R66, R67: a grant that can be suspended is taken. -/
theorem Shed.offer (h : Shed k s (before ++ g :: behind) taken t)
    (hother : ∀ h ∈ before ++ behind, h.machine ≠ g.machine)
    (hpools : ∀ j, j ≠ k → ∀ h ∈ (s.pool j).grants, h.machine ≠ g.machine) (hnew : g.machine ∉ taken) (hy : yields s g = true) :
    Shed k s (before ++ g.marked s.now ((s.pool k).suspCounter + taken.length) :: behind) (g.machine :: taken)
      (offerSuspension k g t) := by
  have hmachine := h.stays _ hnew
  have hallowed : suspendAllowed (t.machine g.machine) = true := by
    rw [hmachine]
    simp only [yields, Bool.and_eq_true] at hy
    exact hy.2
  have hsuspendable : g.suspendable = true := by
    simp only [yields, Bool.and_eq_true] at hy
    exact hy.1.2
  let u := post g.machine .suspend .cycleControl (modifyCycle g.machine (fun c => { c with sub := .suspending }) t)
  have hposted : Touches [.machines] t u := touched_of (by simp [u])
  have hpool (j : PoolId) : u.pool j = t.pool j := hposted.pool (by simp) j
  have hnow : u.now = s.now := ((Touches.trans h.touches (Touches.mono hposted (by simp))) .clock (by simp)).1
  have hgrants : (u.pool k).grants = before ++ g :: behind := by rw [hpool, h.pool]; rfl
  have hcounter : (u.pool k).suspCounter = (s.pool k).suspCounter + taken.length := by rw [hpool, h.pool]; rfl
  have hmarked := markGrant_one hgrants (yields_pending hy) hother (fun j hj => by rw [hpool, h.others j hj]; exact hpools j hj)
  rw [hnow, hcounter] at hmarked
  have hbegun : beginSuspend g.machine t = markGrant g.machine u := rfl
  have hoffered : offerSuspension k g t = modifyStats k (fun x => { x with sheds := addUpTo Config.largestCount x.sheds 1 })
      (markGrant g.machine u) := by
    rw [offerSuspension, if_pos (by rw [hsuspendable, hallowed]; rfl), hbegun]
  have hmachines (b : Addr) : (offerSuspension k g t).machine b = u.machine b := by
    rw [hoffered, hmarked, modifyStats, setPool_machine, setPool_machine]
  refine ⟨?_, fun j hj => ?_, Touches.trans h.touches (touched_offerSuspension k g t), fun b hb => ?_, fun b hb => ?_⟩
  · rw [hoffered, hmarked, modifyStats, pool_setPool_self, pool_setPool_self, hpool, h.pool]
    simp only [Pool.afterSheds, List.length_cons, addUpTo, Config.largestCount, Pool.mk.injEq, PoolStats.mk.injEq, and_true, true_and]
    refine ⟨by omega, ?_⟩
    rw [if_neg (Nat.succ_ne_zero _)]
    split <;> omega
  · rw [hoffered, hmarked, modifyStats, pool_setPool_other _ _ hj, pool_setPool_other _ _ hj, hpool, h.others j hj]
  · obtain ⟨hne, hold⟩ := not_or.mp (List.mem_cons.not.mp hb)
    rw [hmachines, ← h.stays b hold]
    have hposts : u.machine b = (modifyCycle g.machine (fun c => { c with sub := .suspending }) t).machine b := by
      rw [post_machine, if_neg hne]
    rw [hposts]
    exact machine_modifyMachine_other hne _ t
  · rw [hmachines]
    rcases List.mem_cons.mp hb with rfl | hold
    · rw [suspending_posted hallowed, hmachine]
    · have hne : b ≠ g.machine := fun heq => hnew (heq ▸ hold)
      rw [← h.suspends b hold]
      have hposts : u.machine b = (modifyCycle g.machine (fun c => { c with sub := .suspending }) t).machine b := by
        rw [post_machine, if_neg hne]
      rw [hposts]
      exact machine_modifyMachine_other hne _ t

/-- R67: a grant whose machine cannot be suspended stays. -/
theorem Shed.refused (h : Shed k s gs taken t) (hpending : g.pending = false) (hnew : g.machine ∉ taken) (hy : ¬ yields s g = true) :
    offerSuspension k g t = t := by
  refine if_neg fun hoffer => hy ?_
  rw [h.stays _ hnew] at hoffer
  simp only [Bool.and_eq_true] at hoffer
  simp only [yields, hpending, hoffer.1, hoffer.2, Bool.not_false, Bool.and_self]

end

end Sys2Proof.Machine

/-! PROOF. The three parts of a shed, one after the other, and the grants and machines it leaves (R66 to R69). -/

namespace Sys2Proof.Machine

section
variable {k : PoolId} {s t : State} {g : Grant} {before behind gs : List Grant} {taken : List Addr} {c : MachineClass}

/-! ## The shared portion -/

/-- One grant of the shared portion, while there is a working excess (R67). -/
def relieveOne (k : PoolId) (s : State) (g : Grant) : State :=
  if (s.pool k).sharedPortion < (s.pool k).sharedUnmarked then offerSuspension k g s else s

/-- R67: a relief that has nothing left to do leaves the remaining grants alone. -/
theorem relieveShared_fold (k : PoolId) (gs : List Grant) (s : State) : relieveShared k gs s = gs.foldl (relieveOne k) s := by
  induction gs generalizing s with
  | nil => rfl
  | cons g gs ih =>
    rw [relieveShared, List.foldl_cons]
    by_cases hexcess : (s.pool k).sharedPortion < (s.pool k).sharedUnmarked
    · rw [if_pos hexcess, ih, relieveOne, if_pos hexcess]
    · have hdone : ∀ hs : List Grant, hs.foldl (relieveOne k) s = s := by
        intro hs
        induction hs with
        | nil => rfl
        | cons h hs ih => rw [List.foldl_cons, relieveOne, if_neg hexcess, ih]
      rw [if_neg hexcess, relieveOne, if_neg hexcess, hdone]

theorem sharedUnmarked_eq (p : Pool) : p.sharedUnmarked = sharedLeft p.grants := grantSum_eq ..

/-- A pool whose grants are of machines that are all different, none of which has a grant in the other pool (R61). -/
structure OneEach (s : State) (k : PoolId) : Prop where
  nodup : ((s.pool k).grants.map (·.machine)).Nodup
  apart : ∀ j, j ≠ k → ∀ h ∈ (s.pool j).grants, ∀ g ∈ (s.pool k).grants, h.machine ≠ g.machine

theorem OneEach.other (h : OneEach s k) {xs ys : List Grant} (hmachines : (xs ++ g :: ys).map (·.machine) =
    (s.pool k).grants.map (·.machine)) : ∀ x ∈ xs ++ ys, x.machine ≠ g.machine := by
  have hnodup := h.nodup
  rw [← hmachines, List.map_append, List.map_cons, List.nodup_middle, ← List.map_append] at hnodup
  intro x hx heq
  exact (List.nodup_cons.mp hnodup).1 (heq ▸ List.mem_map_of_mem hx)

/-- The shed of a pool's shared portion (R66, R67). -/
def State.shedShared (s : State) (k : PoolId) (gs : List Grant) : List Grant × List Addr :=
  Machine.shedShared (yields s) (s.pool k).sharedPortion (sharedLeft (s.pool k).grants) s.now (s.pool k).suspCounter gs

theorem relieveShared_sheds (h : OneEach s k) : ∀ (gs before : List Grant), (s.pool k).grants = before ++ gs →
    Shed k s (before ++ (s.shedShared k gs).1) (s.shedShared k gs).2
      ((gs.filter fun g => isShared g && !g.pending).reverse.foldl (relieveOne k) s) := by
  intro gs
  induction gs with
  | nil =>
    intro before hs
    have hstart := Shed.start k s
    rwa [hs] at hstart
  | cons g gs ih =>
    intro before hs
    have hshed := ih (before ++ [g]) (by rw [hs, List.append_assoc]; rfl)
    generalize hu : (gs.filter fun g => isShared g && !g.pending).reverse.foldl (relieveOne k) s = u at hshed
    rw [List.append_assoc, List.singleton_append] at hshed
    have hmachines : (before ++ g :: (s.shedShared k gs).1).map (·.machine) = (s.pool k).grants.map (·.machine) := by
      rw [hs, List.map_append, List.map_cons, List.map_append, List.map_cons]
      exact congrArg (fun x => before.map (·.machine) ++ g.machine :: x) (shedShared_machines gs)
    have hcons : s.shedShared k (g :: gs) =
        if takesShared (yields s) (s.pool k).sharedPortion (sharedLeft (s.pool k).grants) g gs then
          (g.marked s.now ((s.pool k).suspCounter + (s.shedShared k gs).2.length) :: (s.shedShared k gs).1,
            g.machine :: (s.shedShared k gs).2)
        else (g :: (s.shedShared k gs).1, (s.shedShared k gs).2) := rfl
    have hnew : g.machine ∉ (s.shedShared k gs).2 := by
      intro hmem
      obtain ⟨x, hx, -, heq⟩ := shedShared_taken gs _ hmem
      exact h.other (xs := before) (ys := gs) (by rw [hs]) x (List.mem_append_right _ hx) heq
    rw [hcons]
    by_cases hopen : (isShared g && !g.pending) = true
    · rw [List.filter_cons, if_pos hopen, List.reverse_cons, List.foldl_append, hu, List.foldl_cons, List.foldl_nil]
      simp only [Bool.and_eq_true, Bool.not_eq_true'] at hopen
      by_cases hyields : yields s g = true
      · have hiff := takesShared_iff (now := s.now) (first := (s.pool k).suspCounter) (fun _ => yields_pending)
          (congrArg sharedLeft hs) hopen.1 hyields (shared := (s.pool k).sharedPortion)
        have hexcess : ((u.pool k).sharedPortion < (u.pool k).sharedUnmarked) =
            ((s.pool k).sharedPortion < sharedLeft (before ++ g :: (s.shedShared k gs).1)) := by
          rw [sharedUnmarked_eq, hshed.pool]
          rfl
        unfold relieveOne
        by_cases htakes : takesShared (yields s) (s.pool k).sharedPortion (sharedLeft (s.pool k).grants) g gs = true
        · rw [if_pos htakes, if_pos (by rw [hexcess]; exact hiff.mp htakes)]
          exact hshed.offer (h.other hmachines) (fun j hj x hx => h.apart j hj x hx g (by rw [hs]; simp)) hnew hyields
        · rw [if_neg htakes, if_neg (by rw [hexcess]; exact fun hlt => htakes (hiff.mpr hlt))]
          exact hshed
      · have hstays : takesShared (yields s) (s.pool k).sharedPortion (sharedLeft (s.pool k).grants) g gs = false := by
          rw [takesShared, Bool.eq_false_iff.mpr hyields, Bool.and_false]
          rfl
        have hsame : relieveOne k u g = u := by
          unfold relieveOne
          split
          · exact hshed.refused hopen.2 hnew hyields
          · rfl
        rw [hstays, hsame]
        exact hshed
    · have hstays : takesShared (yields s) (s.pool k).sharedPortion (sharedLeft (s.pool k).grants) g gs = false := by
        refine Bool.eq_false_iff.mpr fun htakes => hopen ?_
        simp only [takesShared, Bool.and_eq_true] at htakes
        rw [htakes.1.1, yields_pending htakes.1.2]
        rfl
      rw [List.filter_cons, if_neg hopen, hu, hstays]
      exact hshed

/-! ## The reserves -/

theorem filter_split_length {q : Grant → Bool} (hone : ((before ++ g :: behind).filter q).length ≤ 1) (hg : q g = true) :
    ∀ x ∈ before ++ behind, q x = false := by
  rw [List.filter_append, List.filter_cons, if_pos hg, List.length_append, List.length_cons] at hone
  have hnone : (before.filter q).length = 0 ∧ (behind.filter q).length = 0 := by omega
  simp only [List.length_eq_zero_iff, List.filter_eq_nil_iff, Bool.not_eq_true] at hnone
  exact fun x hx => (List.mem_append.mp hx).elim (hnone.1 x) (hnone.2 x)

theorem shedReserve_none {y : Grant → Bool} {eff now first : Nat} (hnone : ∀ x ∈ gs, isReserveOf c x = false) :
    shedReserve y eff now first c gs = gs ∧ shedMachines y eff c gs = [] := by
  have hnot : ∀ x ∈ gs, takesReserve y eff c x = false := fun x hx => by rw [takesReserve, hnone x hx, Bool.false_and]
  refine ⟨?_, ?_⟩
  · refine (List.map_congr_left fun x hx => ?_).trans (List.map_id gs)
    rw [hnot x hx]
    rfl
  · rw [shedMachines, List.filter_eq_nil_iff.mpr fun x hx => by rw [hnot x hx]; decide]
    rfl

theorem shedReserve_one {y : Grant → Bool} {eff now first : Nat} (hother : ∀ x ∈ before ++ behind, isReserveOf c x = false) :
    shedReserve y eff now first c (before ++ g :: behind) =
      before ++ (if takesReserve y eff c g then g.marked now first else g) :: behind ∧
    shedMachines y eff c (before ++ g :: behind) = if takesReserve y eff c g then [g.machine] else [] := by
  obtain ⟨hbefore, hnoBefore⟩ := shedReserve_none (y := y) (eff := eff) (now := now) (first := first)
    fun x hx => hother x (List.mem_append_left behind hx)
  obtain ⟨hbehind, hnoBehind⟩ := shedReserve_none (y := y) (eff := eff) (now := now) (first := first)
    fun x hx => hother x (List.mem_append_right before hx)
  rw [shedReserve] at hbefore hbehind
  rw [shedMachines] at hnoBefore hnoBehind
  refine ⟨?_, ?_⟩
  · rw [shedReserve, List.map_append, List.map_cons, hbefore, hbehind]
  · rw [shedMachines, List.filter_append, List.map_append, hnoBefore, List.filter_cons]
    split <;> simp [hnoBehind]

/-- R66, R68: the shed of a reserve takes its grant where it is larger than the reserve. -/
theorem Shed.reserve (h : Shed k s gs taken t) (hone : OneEach s k) (hmachines : gs.map (·.machine) = (s.pool k).grants.map (·.machine))
    (hreserve : (gs.filter (isReserveOf c)).length ≤ 1) (hnew : ∀ g ∈ gs, isReserveOf c g = true → g.machine ∉ taken) :
    Shed k s (shedReserve (yields s) ((s.pool k).effReserve c) s.now ((s.pool k).suspCounter + taken.length) c gs)
      (shedMachines (yields s) ((s.pool k).effReserve c) c gs ++ taken) (relieveReserve k c t) := by
  have hgrants : (t.pool k).grants = gs := by rw [h.pool]; rfl
  have heff : (t.pool k).effReserve c = (s.pool k).effReserve c := by
    rw [h.pool]
    cases c <;> rfl
  unfold relieveReserve Pool.reserveGrant
  rw [hgrants]
  cases hfound : gs.find? (isReserveOf c) with
  | none =>
    obtain ⟨hsame, hnone⟩ := shedReserve_none (gs := gs) (c := c) (y := yields s) (eff := (s.pool k).effReserve c) (now := s.now)
      (first := (s.pool k).suspCounter + taken.length) (by simpa using hfound)
    rw [hsame, hnone]
    exact h
  | some g =>
    obtain ⟨hg, before, behind, rfl, hbefore⟩ := List.find?_eq_some_iff_append.mp hfound
    obtain ⟨hshed, htaken⟩ := shedReserve_one (g := g) (c := c) (y := yields s) (eff := (s.pool k).effReserve c) (now := s.now)
      (first := (s.pool k).suspCounter + taken.length) (filter_split_length hreserve hg)
    have hgone : g.machine ∉ taken := hnew g (by simp) hg
    have hmem : g.machine ∈ (s.pool k).grants.map (·.machine) := by
      rw [← hmachines]
      exact List.mem_map_of_mem (by simp)
    obtain ⟨x, hx, hxg⟩ := List.mem_map.mp hmem
    dsimp only
    rw [hshed, htaken, heff]
    by_cases htakes : takesReserve (yields s) ((s.pool k).effReserve c) c g = true
    · rw [if_pos htakes, if_pos htakes]
      simp only [takesReserve, Bool.and_eq_true, decide_eq_true_eq] at htakes
      obtain ⟨-, hyields, hbig⟩ := htakes
      rw [if_pos ⟨by rw [yields_pending hyields]; rfl, hbig⟩]
      exact h.offer (hone.other hmachines) (fun j hj y hy => hxg ▸ hone.apart j hj y hy x hx) hgone hyields
    · rw [if_neg htakes, if_neg htakes]
      simp only [takesReserve, hg, Bool.true_and, Bool.and_eq_true, decide_eq_true_eq, not_and] at htakes
      split
      · next hoffer =>
        rw [h.refused (by simpa using hoffer.1) hgone fun hyields => htakes hyields hoffer.2]
        exact h
      · exact h

end

end Sys2Proof.Machine

/-! PROOF. The grants of a shed, counted and placed by their positions (R66 to R68). -/

namespace Sys2Proof.Machine

section
variable {k : PoolId} {s : State} {g : Grant} {gs : List Grant}

/-! ## Positions and counts -/

theorem shedShared_cons {y : Grant → Bool} {shared total now first : Nat} (g : Grant) (gs : List Grant) :
    shedShared y shared total now first (g :: gs) = if takesShared y shared total g gs then
      (g.marked now (first + (shedShared y shared total now first gs).2.length) :: (shedShared y shared total now first gs).1,
        g.machine :: (shedShared y shared total now first gs).2)
      else (g :: (shedShared y shared total now first gs).1, (shedShared y shared total now first gs).2) := rfl

/-- R66, R67: each grant as the shed of the shared portion leaves it. -/
theorem shedShared_getElem? {y : Grant → Bool} {shared total now first : Nat} (gs : List Grant) (i : Nat) :
    (shedShared y shared total now first gs).1[i]? = gs[i]?.map fun g =>
      if takesShared y shared total g (gs.drop (i + 1)) then
        g.marked now (first + (shedShared y shared total now first (gs.drop (i + 1))).2.length) else g := by
  induction gs generalizing i with
  | nil => rfl
  | cons g gs ih =>
    cases i with
    | zero =>
      rw [shedShared_cons, List.getElem?_cons_zero, Option.map_some, List.drop_succ_cons, List.drop_zero]
      split <;> rfl
    | succ i =>
      have htail : (shedShared y shared total now first (g :: gs)).1[i + 1]? = (shedShared y shared total now first gs).1[i]? := by
        rw [shedShared_cons]
        split <;> rfl
      rw [htail, ih]
      rfl

/-- R66 to R68: whether a shed of a pool takes the grant at a position. -/
def sheddable (s : State) (k : PoolId) (i : Nat) (g : Grant) : Bool := yields s g && (match g.portion with
  | .shared => decide ((s.pool k).sharedPortion + sumOf (((s.pool k).grants.drop (i + 1)).filter fun h => isShared h && yields s h) <
      sharedLeft (s.pool k).grants)
  | .washerReserve => decide ((s.pool k).effWasher < g.amount)
  | .dryerReserve => decide ((s.pool k).effDryer < g.amount))

/-- The grants that a shed of a pool takes, among those of a kind. -/
def shedCount (s : State) (k : PoolId) (among : Nat → Grant → Bool) : Nat :=
  (s.pool k).grants.zipIdx.countP fun x => sheddable s k x.2 x.1 && among x.2 x.1

/-- R66: the place of a grant among the suspensions of a shed. -/
def shedRank (s : State) (k : PoolId) (i : Nat) (g : Grant) : Nat :=
  match g.portion with
  | .shared => shedCount s k fun j h => isShared h && decide (i < j)
  | .washerReserve => shedCount s k fun _ h => isShared h
  | .dryerReserve => shedCount s k fun _ h => decide (h.portion ≠ .dryerReserve)

theorem sheddable_shared (i : Nat) (g : Grant) : (sheddable s k i g && isShared g) =
    takesShared (yields s) (s.pool k).sharedPortion (sharedLeft (s.pool k).grants) g ((s.pool k).grants.drop (i + 1)) := by
  unfold sheddable takesShared isShared
  cases g.portion <;> simp [Bool.and_comm]

theorem sheddable_reserve (c : MachineClass) (i : Nat) (g : Grant) : (sheddable s k i g && isReserveOf c g) =
    takesReserve (yields s) ((s.pool k).effReserve c) c g := by
  unfold sheddable takesReserve isReserveOf
  cases c <;> cases g.portion <;> simp [reservePortion, Pool.effReserve] <;> rfl

theorem countP_split {α : Type} {p q r : α → Bool} (l : List α) (h : ∀ x, p x = (q x || r x)) (hapart : ∀ x, (q x && r x) = false) :
    l.countP p = l.countP q + l.countP r := by
  induction l with
  | nil => rfl
  | cons x l ih =>
    have hx := h x
    have hxa := hapart x
    rw [List.countP_cons, List.countP_cons, List.countP_cons, ih, hx]
    cases hq : q x <;> cases hr : r x <;> simp_all <;> omega

/-- R67: the shared grants taken behind a position. -/
theorem shedShared_length : ∀ (gs : List Grant) (n : Nat), (s.pool k).grants.drop n = gs →
    (gs.zipIdx n).countP (fun x => sheddable s k x.2 x.1 && isShared x.1) = (s.shedShared k gs).2.length := by
  intro gs
  induction gs with
  | nil => exact fun n _ => rfl
  | cons g gs ih =>
    intro n hn
    have htail : (s.pool k).grants.drop (n + 1) = gs := by rw [← List.drop_drop, hn]; rfl
    have htakes := sheddable_shared (s := s) (k := k) n g
    rw [htail] at htakes
    rw [List.zipIdx_cons, List.countP_cons, ih (n + 1) htail, htakes]
    have hcons : (s.shedShared k (g :: gs)).2 =
        if takesShared (yields s) (s.pool k).sharedPortion (sharedLeft (s.pool k).grants) g gs then
          g.machine :: (s.shedShared k gs).2 else (s.shedShared k gs).2 := by
      rw [State.shedShared, shedShared_cons]
      split <;> rfl
    rw [hcons]
    split <;> rfl

theorem countP_zipIdx_drop (q : Grant × Nat → Bool) (gs : List Grant) {n : Nat} (hn : n ≤ gs.length) :
    gs.zipIdx.countP (fun x => q x && decide (n ≤ x.2)) = ((gs.drop n).zipIdx n).countP q := by
  have hzip : gs.zipIdx = (gs.take n).zipIdx ++ (gs.drop n).zipIdx n := by
    conv_lhs => rw [← List.take_append_drop n gs]
    rw [List.zipIdx_append, List.length_take, Nat.min_eq_left hn, Nat.zero_add]
  have hlow : (gs.take n).zipIdx.countP (fun x => q x && decide (n ≤ x.2)) = 0 := by
    refine List.countP_eq_zero.mpr fun x hx => ?_
    have hlt := List.snd_lt_of_mem_zipIdx hx
    rw [List.length_take, Nat.min_eq_left hn] at hlt
    simp
    omega
  have hhigh : ((gs.drop n).zipIdx n).countP (fun x => q x && decide (n ≤ x.2)) = ((gs.drop n).zipIdx n).countP q := by
    refine List.countP_congr fun x hx => ?_
    have hle := List.le_snd_of_mem_zipIdx hx
    simp [hle]
  rw [hzip, List.countP_append, hlow, hhigh, Nat.zero_add]

theorem countP_zipIdx_fst (q : Grant → Bool) (gs : List Grant) : gs.zipIdx.countP (fun x => q x.1) = gs.countP q := by
  have hmap := List.countP_map (p := q) (f := Prod.fst) (l := gs.zipIdx)
  rw [List.zipIdx_map_fst] at hmap
  exact hmap.symm

/-- R66: the place of a shared grant is the number of shared grants taken behind it. -/
theorem shedCount_behind {i : Nat} (hi : i < (s.pool k).grants.length) :
    shedCount s k (fun j h => isShared h && decide (i < j)) = (s.shedShared k ((s.pool k).grants.drop (i + 1))).2.length := by
  rw [← shedShared_length _ _ rfl, ← countP_zipIdx_drop _ _ hi]
  exact List.countP_congr fun x _ => by rw [Bool.and_assoc]; rfl

theorem shedCount_shared : shedCount s k (fun _ h => isShared h) = (s.shedShared k (s.pool k).grants).2.length :=
  shedShared_length _ 0 rfl

theorem shedCount_reserve (c : MachineClass) : shedCount s k (fun _ h => isReserveOf c h) =
    ((s.pool k).grants.filter (takesReserve (yields s) ((s.pool k).effReserve c) c)).length := by
  rw [← List.countP_eq_length_filter, ← countP_zipIdx_fst]
  exact List.countP_congr fun x _ => by rw [sheddable_reserve]

theorem shedCount_notDryer : shedCount s k (fun _ h => decide (h.portion ≠ .dryerReserve)) =
    shedCount s k (fun _ h => isReserveOf .washer h) + shedCount s k (fun _ h => isShared h) := by
  refine countP_split _ (fun x => ?_) fun x => ?_
  · cases hp : x.1.portion <;> simp [isReserveOf, isShared, reservePortion, hp]
  · cases hp : x.1.portion <;> simp [isReserveOf, isShared, reservePortion, hp]

theorem shedCount_all : shedCount s k (fun _ _ => true) = shedCount s k (fun _ h => isReserveOf .dryer h) +
    shedCount s k (fun _ h => decide (h.portion ≠ .dryerReserve)) := by
  refine countP_split _ (fun x => ?_) fun x => ?_
  · cases hp : x.1.portion <;> simp [isReserveOf, reservePortion, hp]
  · cases hp : x.1.portion <;> simp [isReserveOf, reservePortion, hp]

end

end Sys2Proof.Machine

/-! PROOF. A whole shed, and the limit requests (R55, R66 to R69). -/

namespace Sys2Proof.Machine

section
variable {k : PoolId} {s : State} {g : Grant}

/-! ## A whole shed -/

theorem isReserveOf_iff {c : MachineClass} : isReserveOf c g = true ↔ g.portion = reservePortion c := decide_eq_true_iff

theorem isReserveOf_dryer_of_washer (h : isReserveOf .washer g = true) : isReserveOf .dryer g = false := by
  rw [Bool.eq_false_iff, Ne, isReserveOf_iff, isReserveOf_iff.mp h]
  decide

theorem isReserveOf_of_shared (h : isShared g = true) (c : MachineClass) : isReserveOf c g = false := by
  have hp : g.portion = .shared := of_decide_eq_true h
  rw [Bool.eq_false_iff, Ne, isReserveOf_iff, hp]
  cases c <;> decide

/-- The grants of a pool as a shed leaves them (R66 to R68). -/
def shedGrants (s : State) (k : PoolId) : List Grant := (s.pool k).grants.zipIdx.map fun x =>
  if sheddable s k x.2 x.1 then x.1.marked s.now ((s.pool k).suspCounter + shedRank s k x.2 x.1) else x.1

/-- The reserves of a pool are each held by at most one grant (R57). -/
def OneReserve (s : State) (k : PoolId) : Prop := ∀ c, ((s.pool k).grants.filter (isReserveOf c)).length ≤ 1

/-- The washer's reserve after the shared portion (R68). -/
def State.shedWasher (s : State) (k : PoolId) : List Grant :=
  shedReserve (yields s) ((s.pool k).effReserve .washer) s.now
    ((s.pool k).suspCounter + shedCount s k fun _ h => isShared h) .washer (s.shedShared k (s.pool k).grants).1

/-- The dryer's reserve after the washer's (R68). -/
def State.shedDryer (s : State) (k : PoolId) : List Grant :=
  shedReserve (yields s) ((s.pool k).effReserve .dryer) s.now
    ((s.pool k).suspCounter + shedCount s k fun _ h => decide (h.portion ≠ .dryerReserve)) .dryer (s.shedWasher k)

/-- The machines that a shed takes from the reserve of a class (R68). -/
def State.takenOf (s : State) (k : PoolId) (c : MachineClass) : List Addr :=
  shedMachines (yields s) ((s.pool k).effReserve c) c (s.pool k).grants

theorem takenOf_length (c : MachineClass) : (s.takenOf k c).length = shedCount s k fun _ h => isReserveOf c h := by
  rw [State.takenOf, shedMachines, List.length_map, shedCount_reserve]

theorem shedWasher_machines (c : MachineClass) :
    shedMachines (yields s) ((s.pool k).effReserve c) c (s.shedShared k (s.pool k).grants).1 = s.takenOf k c := by
  refine congrArg (List.map _) (shedShared_filter (fun g hg => ?_) _)
  rw [takesReserve, isReserveOf_of_shared hg, Bool.false_and]

theorem shedDryer_machines :
    shedMachines (yields s) ((s.pool k).effReserve .dryer) .dryer (s.shedWasher k) = s.takenOf k .dryer := by
  rw [← shedWasher_machines]
  refine congrArg (List.map _) (shedReserve_filter (fun g hg => ?_) _)
  rw [takesReserve, isReserveOf_dryer_of_washer hg, Bool.false_and]

theorem shedShared_reserve (c : MachineClass) : (s.shedShared k (s.pool k).grants).1.filter (isReserveOf c) =
    (s.pool k).grants.filter (isReserveOf c) := by
  exact shedShared_filter (fun g hg => isReserveOf_of_shared hg c) _

theorem shedWasher_reserve : (s.shedWasher k).filter (isReserveOf .dryer) = (s.pool k).grants.filter (isReserveOf .dryer) := by
  rw [← shedShared_reserve]
  exact shedReserve_filter (fun g hg => isReserveOf_dryer_of_washer hg) _

theorem OneEach.eq_of_machine (h : OneEach s k) {x y : Grant} (hx : x ∈ (s.pool k).grants) (hy : y ∈ (s.pool k).grants)
    (hm : x.machine = y.machine) : x = y := List.inj_on_of_nodup_map h.nodup hx hy hm

/-- R61: a machine taken for another portion is not the machine of a reserve's grant. -/
theorem OneEach.notTaken (h : OneEach s k) {c : MachineClass} {gs : List Grant} {taken : List Addr}
    (hgs : gs.filter (isReserveOf c) = (s.pool k).grants.filter (isReserveOf c))
    (htaken : ∀ b ∈ taken, ∃ x ∈ (s.pool k).grants, isReserveOf c x = false ∧ x.machine = b) :
    ∀ g ∈ gs, isReserveOf c g = true → g.machine ∉ taken := by
  intro g hg hreserve hmem
  obtain ⟨x, hx, hnot, hxg⟩ := htaken _ hmem
  have hin : g ∈ gs.filter (isReserveOf c) := List.mem_filter.mpr ⟨hg, hreserve⟩
  rw [hgs] at hin
  have heq := h.eq_of_machine hx (List.mem_filter.mp hin).1 hxg
  rw [heq, hreserve] at hnot
  exact absurd hnot (by decide)

/-- R66 to R68: the three parts of a shed, one after the other. -/
theorem sheds (h : OneEach s k) (hreserve : OneReserve s k) : Shed k s (s.shedDryer k)
    (s.takenOf k .dryer ++ (s.takenOf k .washer ++ (s.shedShared k (s.pool k).grants).2))
    (relieveReserve k .dryer (relieveReserve k .washer (relieveShared k
      ((s.pool k).grants.filter fun g => isShared g && !g.pending).reverse s))) := by
  have hsharedTaken (c : MachineClass) : ∀ b ∈ (s.shedShared k (s.pool k).grants).2,
      ∃ x ∈ (s.pool k).grants, isReserveOf c x = false ∧ x.machine = b := by
    intro b hb
    obtain ⟨x, hx, hshared, hxb⟩ := shedShared_taken _ b hb
    exact ⟨x, hx, isReserveOf_of_shared hshared c, hxb⟩
  have hwasherTaken : ∀ b ∈ s.takenOf k .washer, ∃ x ∈ (s.pool k).grants, isReserveOf .dryer x = false ∧ x.machine = b := by
    intro b hb
    obtain ⟨x, hx, hxb⟩ := List.mem_map.mp hb
    obtain ⟨hmem, htakes⟩ := List.mem_filter.mp hx
    rw [takesReserve, Bool.and_eq_true] at htakes
    exact ⟨x, hmem, isReserveOf_dryer_of_washer htakes.1, hxb⟩
  have hshared := relieveShared_sheds h (s.pool k).grants [] rfl
  rw [← relieveShared_fold, List.nil_append] at hshared
  have hwasher := hshared.reserve (c := .washer) h (shedShared_machines _)
    (by rw [shedShared_reserve]; exact hreserve .washer) (h.notTaken (shedShared_reserve .washer) (hsharedTaken .washer))
  rw [shedWasher_machines, ← shedCount_shared] at hwasher
  have hdryer := hwasher.reserve (c := .dryer) h ((shedReserve_machines _).trans (shedShared_machines _))
    (by exact (congrArg List.length shedWasher_reserve).trans_le (hreserve .dryer))
    (h.notTaken shedWasher_reserve fun b hb => (List.mem_append.mp hb).elim (hwasherTaken b) (hsharedTaken .dryer b))
  have hcount : (s.takenOf k .washer ++ (s.shedShared k (s.pool k).grants).2).length =
      shedCount s k fun _ h => decide (h.portion ≠ .dryerReserve) := by
    rw [List.length_append, takenOf_length, shedCount_notDryer, shedCount_shared]
  rw [hcount] at hdryer
  have hmachines : shedMachines (yields s) ((s.pool k).effReserve .dryer) .dryer (shedReserve (yields s)
      ((s.pool k).effReserve .washer) s.now ((s.pool k).suspCounter + shedCount s k fun _ h => isShared h) .washer
        (s.shedShared k (s.pool k).grants).1) = s.takenOf k .dryer := shedDryer_machines
  rw [hmachines] at hdryer
  exact hdryer

/-- R67: the number of suspensions of a shed. -/
theorem taken_length : (s.takenOf k .dryer ++ (s.takenOf k .washer ++ (s.shedShared k (s.pool k).grants).2)).length =
    shedCount s k fun _ _ => true := by
  rw [List.length_append, List.length_append, takenOf_length, takenOf_length, shedCount_all, shedCount_notDryer, shedCount_shared]

/-- R66 to R68: the grants a shed leaves, by their positions. -/
theorem shedDryer_eq : s.shedDryer k = shedGrants s k := by
  refine List.ext_getElem? fun i => ?_
  rw [shedGrants, List.getElem?_map, List.getElem?_zipIdx, State.shedDryer, shedReserve, List.getElem?_map, State.shedWasher, shedReserve,
    List.getElem?_map, State.shedShared, shedShared_getElem?]
  rcases hg : (s.pool k).grants[i]? with _ | g
  · rfl
  have hi : i < (s.pool k).grants.length := (List.getElem?_eq_some_iff.mp hg).1
  have hshared := sheddable_shared (s := s) (k := k) i g
  have hwasher := sheddable_reserve (s := s) (k := k) .washer i g
  have hdryer := sheddable_reserve (s := s) (k := k) .dryer i g
  have hother (c : MachineClass) (h : g.portion ≠ reservePortion c) (x : Grant) (hx : x.portion = g.portion) :
      takesReserve (yields s) ((s.pool k).effReserve c) c x = false := by
    have hnot : isReserveOf c x = false := Bool.eq_false_iff.mpr fun hr => h (hx.symm.trans (isReserveOf_iff.mp hr))
    rw [takesReserve, hnot, Bool.false_and]
  simp only [Option.map_some, Nat.zero_add, Option.some.injEq]
  rw [← hshared]
  have hcases : isShared g = true ∨ isReserveOf .washer g = true ∨ isReserveOf .dryer g = true := by
    cases hp : g.portion
    · exact .inl (decide_eq_true hp)
    · exact .inr (.inl (isReserveOf_iff.mpr hp))
    · exact .inr (.inr (isReserveOf_iff.mpr hp))
  rcases hcases with hp | hp | hp
  · have hportion : g.portion = .shared := of_decide_eq_true hp
    have hrank : shedRank s k i g = (s.shedShared k ((s.pool k).grants.drop (i + 1))).2.length := by
      rw [shedRank, hportion, ← shedCount_behind hi]
    rw [hp, Bool.and_true, hrank]
    split
    · have hmarked (c : MachineClass) (n : Nat) := hother c (by rw [hportion]; cases c <;> decide) (g.marked s.now n) rfl
      simp only [hmarked, Bool.false_eq_true, if_false]
      rfl
    · have hself (c : MachineClass) := hother c (by rw [hportion]; cases c <;> decide) g rfl
      simp only [hself, Bool.false_eq_true, if_false]
  · have hportion := isReserveOf_iff.mp hp
    have hrank : shedRank s k i g = shedCount s k fun _ h => isShared h := by rw [shedRank, hportion]; rfl
    have hnot : isShared g = false := by rw [isShared, hportion]; rfl
    rw [hp, Bool.and_true] at hwasher
    have hmarked (n : Nat) := hother .dryer (by rw [hportion]; decide) (g.marked s.now n) rfl
    have hself := hother .dryer (by rw [hportion]; decide) g rfl
    simp only [hnot, Bool.and_false, Bool.false_eq_true, if_false, ← hwasher, hrank]
    split
    · simp only [hmarked, Bool.false_eq_true, if_false]
    · simp only [hself, Bool.false_eq_true, if_false]
  · have hportion := isReserveOf_iff.mp hp
    have hrank : shedRank s k i g = shedCount s k fun _ h => decide (h.portion ≠ .dryerReserve) := by rw [shedRank, hportion]; rfl
    have hnot : isShared g = false := by rw [isShared, hportion]; rfl
    rw [hp, Bool.and_true] at hdryer
    have hself := hother .washer (by rw [hportion]; decide) g rfl
    simp only [hnot, Bool.and_false, hself, Bool.false_eq_true, if_false, ← hdryer, hrank]

/-- R67: the machine of a grant that a shed takes is among those taken. -/
theorem mem_taken {i : Nat} (hg : (s.pool k).grants[i]? = some g) (htakes : sheddable s k i g = true) :
    g.machine ∈ s.takenOf k .dryer ++ (s.takenOf k .washer ++ (s.shedShared k (s.pool k).grants).2) := by
  have hmem : g ∈ (s.pool k).grants := List.mem_of_getElem? hg
  have hreserve (c : MachineClass) (hc : isReserveOf c g = true) : g.machine ∈ s.takenOf k c := by
    refine List.mem_map_of_mem (List.mem_filter.mpr ⟨hmem, ?_⟩)
    rw [← sheddable_reserve (s := s) (k := k) c i g, htakes, hc]
    rfl
  cases hp : g.portion
  · have hshared : isShared g = true := decide_eq_true hp
    have hin : ∀ (gs : List Grant) (n : Nat), (s.pool k).grants.drop n = gs → n ≤ i → g.machine ∈ (s.shedShared k gs).2 := by
      intro gs
      induction gs with
      | nil =>
        intro n hn hle
        have hlen := (List.getElem?_eq_some_iff.mp hg).1
        have hshort := List.drop_eq_nil_iff.mp hn
        omega
      | cons x xs ih =>
        intro n hn hle
        have htail : (s.pool k).grants.drop (n + 1) = xs := by rw [← List.drop_drop, hn]; rfl
        rw [State.shedShared, shedShared_cons]
        rcases Nat.lt_or_eq_of_le hle with hlt | heq
        · have hrest := ih (n + 1) htail hlt
          split
          · exact List.mem_cons_of_mem _ hrest
          · exact hrest
        · subst heq
          have hx : x = g := by
            have hhead := congrArg (·[0]?) hn
            simp only [List.getElem?_drop, Nat.add_zero, hg, List.getElem?_cons_zero, Option.some.injEq] at hhead
            exact hhead.symm
          have hfirst := sheddable_shared (s := s) (k := k) n g
          rw [htail, htakes, hshared] at hfirst
          rw [hx, ← hfirst]
          exact List.mem_cons_self ..
    exact List.mem_append_right _ (List.mem_append_right _ (hin _ 0 rfl (Nat.zero_le i)))
  · exact List.mem_append_right _ (List.mem_append_left _ (hreserve .washer (isReserveOf_iff.mpr hp)))
  · exact List.mem_append_left _ (hreserve .dryer (isReserveOf_iff.mpr hp))

end

end Sys2Proof.Machine

/-! PROOF. The limit requests (R55, R66 to R69). -/

namespace Sys2Proof.Machine

section
variable {k : PoolId} {s : State} {g : Grant}

/-! ## What a shed leaves -/

theorem setOverLimit_leaves (k : PoolId) (s : State) : ((setOverLimit k s).pool k).grants = (s.pool k).grants ∧
    ((setOverLimit k s).pool k).stats = (s.pool k).stats ∧ Touches [.pools, .flags] s (setOverLimit k s) ∧
    ∀ j b, (s.pool j).hasEntry b = false → ((setOverLimit k s).pool j).hasEntry b = false := by
  unfold setOverLimit
  dsimp only
  split
  · exact ⟨rfl, rfl, Touches.refl _ s, fun _ _ => id⟩
  · refine ⟨by rw [raise_pool, pool_setPool_self], by rw [raise_pool, pool_setPool_self], touched_of (by simp), fun j b hj => ?_⟩
    rw [raise_pool]
    by_cases hjk : j = k
    · subst hjk
      rw [pool_setPool_self]
      exact hj
    · rw [pool_setPool_other _ _ hjk]
      exact hj

/-- R33, R66 to R69: the sheds of a pool counted, its grants, and the machines of those taken. -/
theorem shed_leaves (hone : OneEach s k) (hreserve : OneReserve s k)
    (hwaits : ∀ g ∈ (s.pool k).grants, Unwaiting g.machine s) :
    ((shed k s).pool k).stats.sheds = (if shedCount s k (fun _ _ => true) = 0 then (s.pool k).stats.sheds
      else min 4294967295 ((s.pool k).stats.sheds + shedCount s k fun _ _ => true)) ∧
    (∃ more, ((shed k s).pool k).grants = shedGrants s k ++ more) ∧
    ∀ i g, (s.pool k).grants[i]? = some g → sheddable s k i g = true →
      ((shed k s).machine g.machine).cycle = (s.machine g.machine).cycle.map (fun c => { c with sub := .suspending }) ∧
      (s.session = none → (shed k s).machine g.machine = (s.machine g.machine).suspending) := by
  have hsheds := sheds hone hreserve
  have hrelieved : relieved k s = setOverLimit k (relieveReserve k .dryer (relieveReserve k .washer (relieveShared k
      ((s.pool k).grants.filter fun g => isShared g && !g.pending).reverse s))) := rfl
  generalize relieveReserve k .dryer (relieveReserve k .washer (relieveShared k
    ((s.pool k).grants.filter fun g => isShared g && !g.pending).reverse s)) = v at hsheds hrelieved
  obtain ⟨hgrants, hstats, htouch, hentries⟩ := setOverLimit_leaves k v
  rw [← hrelieved] at hgrants hstats htouch hentries
  have hpool := hsheds.pool
  rw [taken_length] at hpool
  have hsession : (relieved k s).session = s.session := (Touches.trans (Touches.mono hsheds.touches
    (qs := [.machines, .pools, .flags]) (by simp)) (Touches.mono htouch (by simp))) .session (by simp)
  refine ⟨?_, ?_, fun i g hg htakes => ?_⟩
  · rw [shed_eq, (sameButGrants_scanPool k k (relieved k s)).stats, hstats, hpool]
    rfl
  · obtain ⟨more, hmore, -⟩ := GrantsMore.scanPool k k (relieved k s)
    exact ⟨more, by rw [shed_eq, hmore, hgrants, hpool, ← shedDryer_eq]; rfl⟩
  · have hmachine : (relieved k s).machine g.machine = (s.machine g.machine).suspending := by
      rw [Touches.machine htouch (by simp), hsheds.suspends _ (mem_taken hg htakes)]
    have hunwaiting : Unwaiting g.machine (relieved k s) := by
      refine fun j => hentries j _ ?_
      have hnone := hwaits g (List.mem_of_getElem? hg) j
      by_cases hj : j = k
      · subst hj
        rw [hpool]
        exact hnone
      · rw [hsheds.others j hj]
        exact hnone
    refine ⟨?_, fun hnosession => ?_⟩
    · rw [shed_eq, (scanPool_other (hunwaiting k)).1, hmachine]
      rfl
    · have hquiet : sessionOn g.machine (relieved k s) = false := by rw [sessionOn, hsession, hnosession]; rfl
      rw [shed_eq, scanPool_bystander k hunwaiting hquiet, hmachine]

/-- R57 to R62: what the laws of the grants say of the grants of one pool. -/
theorem lawful_pools (h : s.grantsLawful) (k : PoolId) :
    OneEach s k ∧ OneReserve s k ∧ ∀ g ∈ (s.pool k).grants, Unwaiting g.machine s := by
  obtain ⟨helectric, hwater, hnodup⟩ := h
  have hlawful : (s.pool k).grantsLawful = true := by cases k <;> assumption
  have hreserve : OneReserve s k := by
    intro c
    simp only [Pool.grantsLawful, Bool.and_eq_true, decide_eq_true_eq] at hlawful
    obtain ⟨⟨⟨⟨hwasher, hdryer⟩, -⟩, -⟩, -⟩ := hlawful
    cases c <;> assumption
  rw [List.nodup_append] at hnodup
  obtain ⟨hnodupE, hnodupW, hacross⟩ := hnodup
  have hself : (s.pool k).machines.Nodup := by cases k <;> assumption
  have hother : ∀ j, j ≠ k → ∀ b ∈ (s.pool j).machines, ∀ x ∈ (s.pool k).machines, b ≠ x := by
    intro j hj b hb x hx
    cases k <;> cases j
    · exact absurd rfl hj
    · exact (hacross x hx b hb).symm
    · exact hacross b hb x hx
    · exact absurd rfl hj
  have hgranted (j : PoolId) : ∀ x ∈ (s.pool j).grants, x.machine ∈ (s.pool j).machines :=
    fun x hx => List.mem_append_left _ (List.mem_map_of_mem hx)
  rw [Pool.machines, List.nodup_append] at hself
  obtain ⟨hgrants, -, hapart⟩ := hself
  refine ⟨⟨hgrants, fun j hj x hx g hg => hother j hj _ (hgranted j x hx) _ (hgranted k g hg)⟩, hreserve, fun g hg j => ?_⟩
  rw [hasEntry_eq_false]
  intro e he heq
  by_cases hj : j = k
  · subst hj
    exact hapart _ (List.mem_map_of_mem hg) _ (List.mem_map_of_mem he) heq.symm
  · exact hother j hj _ (List.mem_append_right _ (List.mem_map_of_mem he)) _ (hgranted k g hg) heq

/-! ## The grants taken, by the figures of a pool alone -/

/-- R67, R68: whether a pool's shed takes the grant at a position, by whether its machine can be suspended. -/
def Pool.takes (p : Pool) (y : Grant → Bool) (i : Nat) (g : Grant) : Bool := y g && (match g.portion with
  | .shared => decide (p.sharedPortion + sumOf ((p.grants.drop (i + 1)).filter fun h => isShared h && y h) < sharedLeft p.grants)
  | .washerReserve => decide (p.effWasher < g.amount)
  | .dryerReserve => decide (p.effDryer < g.amount))

/-- The grants taken, among those of a kind. -/
def Pool.takenCount (p : Pool) (y : Grant → Bool) (among : Nat → Grant → Bool) : Nat :=
  p.grants.zipIdx.countP fun x => p.takes y x.2 x.1 && among x.2 x.1

/-- R66: the place of a grant among those taken. -/
def Pool.takenRank (p : Pool) (y : Grant → Bool) (i : Nat) (g : Grant) : Nat :=
  match g.portion with
  | .shared => p.takenCount y fun j h => isShared h && decide (i < j)
  | .washerReserve => p.takenCount y fun _ h => isShared h
  | .dryerReserve => p.takenCount y fun _ h => decide (h.portion ≠ .dryerReserve)

theorem sheddable_eq {p : Pool} (h : s.pool k = p) : sheddable s k = p.takes (yields s) := by
  subst h
  rfl

theorem shedCount_eq {p : Pool} (h : s.pool k = p) : shedCount s k = p.takenCount (yields s) := by
  subst h
  rfl

theorem shedGrants_eq {p : Pool} (h : s.pool k = p) : shedGrants s k = p.grants.zipIdx.map fun x =>
    if p.takes (yields s) x.2 x.1 then x.1.marked s.now (p.suspCounter + p.takenRank (yields s) x.2 x.1) else x.1 := by
  subst h
  rfl

/-! ## A limit in force -/

/-- The state in which a pool sheds by a new limit (R55). -/
def State.limited (s : State) (k : PoolId) (limit : Nat) : State := raise .pool (s.setPool k { s.pool k with limit := limit })

theorem setLimit_eq (limit : Nat) : setLimit k limit s = shed k (s.limited k limit) := rfl

theorem limited_pool (limit : Nat) : (s.limited k limit).pool k = { s.pool k with limit := limit } := by
  rw [State.limited, raise_pool, pool_setPool_self]

theorem limited_other (limit : Nat) {j : PoolId} (hj : j ≠ k) : (s.limited k limit).pool j = s.pool j := by
  rw [State.limited, raise_pool, pool_setPool_other _ _ hj]

theorem limited_machine (limit : Nat) (b : Addr) : (s.limited k limit).machine b = s.machine b := by
  rw [State.limited, raise_machine, setPool_machine]

theorem limited_lawful (h : s.grantsLawful) (limit : Nat) : OneEach (s.limited k limit) k ∧ OneReserve (s.limited k limit) k ∧
    ∀ g ∈ ((s.limited k limit).pool k).grants, Unwaiting g.machine (s.limited k limit) := by
  obtain ⟨hone, hreserve, hwaits⟩ := lawful_pools h k
  have hpool := limited_pool (s := s) (k := k) limit
  refine ⟨⟨by rw [hpool]; exact hone.nodup, fun j hj => by rw [limited_other limit hj, hpool]; exact hone.apart j hj⟩,
    fun c => by rw [hpool]; exact hreserve c, fun g hg j => ?_⟩
  rw [hpool] at hg
  by_cases hj : j = k
  · subst hj
    rw [hpool]
    exact hwaits g hg j
  · rw [limited_other limit hj]
    exact hwaits g hg j

theorem offerSuspension_waits (k j : PoolId) (g : Grant) (s : State) :
    ((offerSuspension k g s).pool j).waits = (s.pool j).waits := by
  have hbegun : ((beginSuspend g.machine s).pool j).waits = (s.pool j).waits := by
    rw [beginSuspend, (markGrant_pool j).1]
    exact congrArg Pool.waits (Touches.pool (ps := [.machines]) (touched_of (by simp)) (by simp) j)
  unfold offerSuspension
  split
  · rw [modifyStats, ← hbegun]
    by_cases hj : j = k
    · rw [hj, pool_setPool_self]
    · rw [pool_setPool_other _ _ hj]
  · rfl

/-- R67: a shed asks nothing of the other pool. -/
theorem shed_others (k : PoolId) (s : State) {j : PoolId} (hj : j ≠ k) : ((shed k s).pool j).waits = (s.pool j).waits := by
  have hshared : ∀ (gs : List Grant) (t : State), ((relieveShared k gs t).pool j).waits = (t.pool j).waits := by
    intro gs
    induction gs with
    | nil => exact fun _ => rfl
    | cons g gs ih =>
      intro t
      rw [relieveShared]
      split
      · rw [ih, offerSuspension_waits]
      · rfl
  have hreserve (c : MachineClass) (t : State) : ((relieveReserve k c t).pool j).waits = (t.pool j).waits := by
    unfold relieveReserve
    split
    · rfl
    · split
      · exact offerSuspension_waits ..
      · rfl
  have hover (t : State) : (setOverLimit k t).pool j = t.pool j := by
    unfold setOverLimit
    dsimp only
    split
    · rfl
    · rw [raise_pool, pool_setPool_other _ _ hj]
  rw [shed_eq, scanPool_pool_other hj, relieved, hover, hreserve, hreserve, hshared]

theorem suspendAllowed_eq (m : MachineRecord) : suspendAllowed m = (decide (m.state = .running) && (match m.cycle with
    | none => false
    | some c => decide (c.sub = .active) && (match c.plan[c.index]? with
      | none => false
      | some e => e.suspendable && (decide (e.kind = .heat) || decide (e.kind = .wash) || decide (e.kind = .rinse) ||
          decide (e.kind = .soak) || decide (e.kind = .dry) && !c.coolPosted)))) := by
  unfold suspendAllowed
  cases hc : m.cycle with
  | none => simp
  | some c =>
    cases he : c.plan[c.index]? with
    | none => simp [Cycle.entry, he]
    | some e =>
      have hkind : c.kind = some e.kind := by simp [Cycle.kind, Cycle.entry, he]
      have hending : dryEnding c = (decide (e.kind = .dry) && c.coolPosted) := by rw [dryEnding, hkind]; rfl
      simp only [Cycle.entry, he, hending, canSuspend, Option.map_some, Option.getD_some]
      cases e.kind <;> simp [honoursSuspend, Bool.and_assoc, Bool.and_comm, Bool.and_left_comm]

end

/-- Settles O35: the limit is taken, and the shed it asks for takes the grants of R67 and R68 in their order. -/
theorem limitRequestsSetTheLimitInForce : Obligations.LimitRequestsSetTheLimitInForce := by
  intro hi lo s hs asked result
  have hlimited (r : Req) (c : Instr) (k : PoolId) (limit : Nat) (hr : requestOf c = some (r, [hi, lo]))
      (hp : portOf c = some .building) (hright : reqRight .building r = true) (hlength : reqLength [hi, lo] r = true)
      (howner : ownerDecision r .building [hi, lo] (hunt .building s) =
        applied (decide (limit = asked)) (be2 limit) (setLimit k limit (hunt .building s))) :
      result c (reqCode r) k limit := by
    let u := (hunt .building s).limited k limit
    have hpool : u.pool k = { s.pool k with limit := limit } := by rw [limited_pool, hunt_pool]
    have hother (j : PoolId) (hj : j ≠ k) : u.pool j = s.pool j := by rw [limited_other limit hj, hunt_pool]
    have hmachine (b : Addr) : u.machine b = s.machine b := by rw [limited_machine, hunt_machine]
    have hpushed : ∀ (x : PortReply) (t : State), (∀ j, (pushReply .building x t).pool j = t.pool j) ∧
        ∀ b, (pushReply .building x t).machine b = t.machine b := fun x t =>
      ⟨fun j => (touched_pushReply_ports _ _ _).pool (by simp) j, fun b => (touched_pushReply_ports _ _ _).machine (by simp) b⟩
    have hterms := sameTerms_shed k k u
    rw [hpool] at hterms
    refine ⟨_, exec_admitted hr hp hs hright hlength, ?_⟩
    rw [howner, setLimit_eq]
    simp only [applied, decide_eq_true_eq]
    refine ⟨?answers, ?limit, ?washer, ?dryer, ?figures, ?others, ?lawful⟩
    case answers => exact answers_of_raised ((Raised.refl _).thenSetLimit k limit) _
    case limit => rw [(hpushed _ _).1]; exact hterms.limit
    case washer => rw [(hpushed _ _).1]; exact hterms.reqWasher
    case dryer => rw [(hpushed _ _).1]; exact hterms.reqDryer
    case figures => rw [(hpushed _ _).1]; exact shed_overLimit k u
    case others =>
      intro j hj
      rw [(hpushed _ _).1, ← hother j hj]
      exact ⟨(sameTerms_shed k j u).limit, shed_others k u hj⟩
    case lawful =>
      intro hlawful
      have hhunted : (hunt .building s).grantsLawful := by
        unfold State.grantsLawful
        rw [show (hunt .building s).electric = s.electric from hunt_pool (k := .electric) ..,
          show (hunt .building s).water = s.water from hunt_pool (k := .water) ..]
        exact hlawful
      obtain ⟨hone, hreserve, hwaits⟩ := limited_lawful (k := k) hhunted limit
      obtain ⟨hcounted, ⟨more, hgrants⟩, hmachines⟩ := shed_leaves hone hreserve hwaits
      rw [shedCount_eq hpool, hpool] at hcounted
      rw [shedGrants_eq hpool] at hgrants
      rw [sheddable_eq hpool, hpool] at hmachines
      have hnow : u.now = s.now := by cases k <;> rfl
      have hsession : u.session = s.session := by cases k <;> rfl
      have hself (g : Grant) : yields u g = (!g.pending && g.suspendable && suspendAllowed (s.machine g.machine)) := by
        rw [yields, hmachine]
      have hyields : yields u = fun g => (!g.pending && g.suspendable && _) := funext fun g =>
        (hself g).trans (congrArg (!g.pending && g.suspendable && ·) (suspendAllowed_eq (s.machine g.machine)))
      rw [hyields] at hcounted hgrants hmachines
      refine ⟨?_, ⟨more, ?_⟩, fun i g hg htakes => ?_⟩
      · rw [(hpushed _ _).1]
        exact hcounted
      · rw [(hpushed _ _).1, ← hnow]
        exact hgrants
      · obtain ⟨hcycle, hsuspending⟩ := hmachines i g hg htakes
        rw [(hpushed _ _).2, ← hmachine]
        refine ⟨hcycle, fun hnosession hpresent hfree => ?_⟩
        have hm := hsuspending (hsession.trans hnosession)
        rw [hm]
        exact congrArg BusFields.inFlight (postBus_free hpresent hfree)
  refine ⟨hlimited .setFeederLimit _ .electric _ rfl rfl rfl rfl ?_, hlimited .setWaterLimit _ .water _ rfl rfl rfl rfl ?_⟩
  · rfl
  · have hclamped : clampLimit .water asked = min asked 120 := Nat.zero_max ..
    have hsent : ownerDecision .setWaterLimit .building [hi, lo] (hunt .building s) =
        applied (decide (clampLimit .water asked = asked)) (be2 (clampLimit .water asked))
          (setLimit .water (clampLimit .water asked) (hunt .building s)) := rfl
    rw [hsent, hclamped]

end Sys2Proof.Machine

/-! PROOF. What the laws of the room and of the holds read of one address: its presence, the state of its machine, whether a
cycle record stands there, the hold, and the holds that the claim queues have of it (R24, R28, R129 to R134). -/

namespace Sys2Proof.Machine

/-! ## The view of an address -/

/-- The hold of the machine at an address that a queue entry has, as the machine names it (6.1). -/
def ClaimEntry.holdOf (a : Addr) (e : ClaimEntry) : Option Hold :=
  e.hold.bind fun h => if h.machine = a then some ⟨e.card, h.deadline⟩ else none

/-- The holds of the machine at an address in a claim queue. -/
def ClaimQueue.holdsOf (a : Addr) (q : ClaimQueue) : List Hold := q.entries.filterMap (·.holdOf a)

/-- What the laws of the room and of the holds read of an address. -/
structure View where
  presence : Presence
  state : MachineState
  active : Bool
  hold : Option Hold
  origin : Option PaymentOrigin
  entry : Option RosterEntry
  claims : MachineClass → List Hold

/-- An address as the laws see it. -/
def view (a : Addr) (s : State) : View := {
  presence := (s.machine a).bus.presence, state := (s.machine a).state, active := (s.machine a).cycle.isSome,
  hold := (s.machine a).hold, origin := (s.machine a).payment.map (·.origin), entry := s.roster a,
  claims := fun c => (s.queue c).holdsOf a }

/-- The class of an address. -/
def View.cls (v : View) : MachineClass := (v.entry.map (·.cls)).getD .washer

/-- R129 to R134: the queue of its class, and no other, has the hold of a machine, once. -/
def View.Agrees (v : View) : Prop := ∀ c, v.claims c = if v.cls = c then v.hold.toList else []

/-- The laws of the room for an address, and those of the holds where `w` asks for them. -/
structure View.Lawful (w : Prop) (v : View) : Prop where
  away : v.presence ≠ .present → v.state = .absent
  unlisted : v.entry = none → v.presence = .absent
  cycle : v.active = true ↔ v.state = .running ∨ v.state = .stopping
  held : w → v.state = .held → v.hold.isSome = true
  holder : w → v.hold.isSome = true → v.state = .held ∨ v.state = .paying ∧ v.origin = some .held
  agrees : w → v.Agrees

/-- A machine of the room without a cycle and without a hold, in whatever state it stands. -/
structure View.Free (w : Prop) (v : View) : Prop where
  present : v.presence = .present
  listed : v.entry ≠ none
  idle : v.active = false
  unheld : w → v.hold = none
  unclaimed : w → ∀ c, v.claims c = []

/-- The states that ask for neither a hold nor a cycle record. -/
def MachineState.free : MachineState → Bool
  | .held | .running | .stopping => false
  | .absent | .idle | .selected | .paying | .finished | .testing | .service | .outOfService => true

/-- The states of a machine of the room that allow neither a hold nor a cycle record. -/
def MachineState.vacant : MachineState → Bool
  | .idle | .selected | .finished | .testing | .service | .outOfService => true
  | .absent | .paying | .held | .running | .stopping => false

section
variable {w : Prop} {v : View} {st : MachineState}

theorem View.Free.lawful (h : v.Free w) (hst : st.free = true) : ({ v with state := st } : View).Lawful w where
  away hp := absurd h.present hp
  unlisted he := absurd he h.listed
  cycle := by cases st <;> simp_all [h.idle, MachineState.free]
  held _ he := by cases st <;> simp_all [MachineState.free]
  holder hw hh := by simp [h.unheld hw] at hh
  agrees hw c := by
    show v.claims c = if v.cls = c then v.hold.toList else []
    simp [h.unclaimed hw c, h.unheld hw]

theorem View.Lawful.present (h : v.Lawful w) (hst : v.state ≠ .absent) : v.presence = .present :=
  not_not.mp fun hp => hst (h.away hp)

theorem View.Lawful.listed (h : v.Lawful w) (hst : v.state ≠ .absent) : v.entry ≠ none := fun he => by
  have := h.present hst
  rw [h.unlisted he] at this
  cases this

theorem View.Lawful.inactive (h : v.Lawful w) (hr : v.state ≠ .running) (hs : v.state ≠ .stopping) : v.active = false := by
  rw [← Bool.not_eq_true, h.cycle]
  exact not_or.mpr ⟨hr, hs⟩

theorem View.Lawful.unheld (h : v.Lawful w) (hw : w) (hh : v.state ≠ .held) (hp : v.state ≠ .paying) : v.hold = none := by
  rw [← Option.not_isSome_iff_eq_none]
  exact fun hs => (h.holder hw hs).elim hh fun hx => hp hx.1

theorem View.Lawful.unclaimed (h : v.Lawful w) (hw : w) (hn : v.hold = none) (c : MachineClass) : v.claims c = [] := by
  rw [h.agrees hw c, hn]
  simp

theorem View.Agrees.length (h : v.Agrees) (c : MachineClass) : (v.claims c).length ≤ 1 := by
  rw [h c]
  split
  · cases v.hold <;> simp
  · simp

theorem View.Lawful.free (h : v.Lawful w) (hst : v.state.vacant = true) : v.Free w := by
  have hne : v.state ≠ .absent ∧ v.state ≠ .paying ∧ v.state ≠ .held ∧ v.state ≠ .running ∧ v.state ≠ .stopping := by
    cases hv : v.state <;> simp_all [MachineState.vacant]
  obtain ⟨habsent, hpaying, hheld, hrunning, hstopping⟩ := hne
  have hunheld := fun hw => h.unheld hw hheld hpaying
  exact ⟨h.present habsent, h.listed habsent, h.inactive hrunning hstopping, hunheld, fun hw => h.unclaimed hw (hunheld hw)⟩

/-- R16: an address that joins is free, for its machine was ABSENT. -/
theorem View.Lawful.joining (h : v.Lawful w) (hst : v.state = .absent) (he : v.entry ≠ none) :
    ({ v with presence := .present } : View).Free w := by
  have hunheld := fun hw => h.unheld hw (by simp [hst]) (by simp [hst])
  exact ⟨rfl, he, h.inactive (by simp [hst]) (by simp [hst]), hunheld, fun hw => h.unclaimed hw (hunheld hw)⟩

end

/-! ## The view after each update -/

section
variable {a b : Addr} {s t : State}

/-- What a machine record shows of itself to the laws. -/
def MachineRecord.standing (m : MachineRecord) : Presence × MachineState × Bool × Option Hold × Option PaymentOrigin :=
  (m.bus.presence, m.state, m.cycle.isSome, m.hold, m.payment.map (·.origin))

theorem view_eq (hm : (t.machine b).standing = (s.machine b).standing) (hr : t.roster b = s.roster b)
    (hq : ∀ c, (t.queue c).holdsOf b = (s.queue c).holdsOf b) : view b t = view b s := by
  simp only [MachineRecord.standing, Prod.mk.injEq] at hm
  obtain ⟨hpresence, hstate, hcycle, hhold, horigin⟩ := hm
  simp [view, hpresence, hstate, hcycle, hhold, horigin, hr, hq]

theorem view_touch {ps : List Part} (h : Touches ps s t) (hm : Part.machines ∉ ps) (hc : Part.claims ∉ ps)
    (hl : Part.loader ∉ ps) : view b t = view b s := by
  obtain ⟨hw, hd⟩ := h .claims hc
  obtain ⟨hmode, -, htables, -⟩ := h .loader hl
  exact view_eq (by rw [h.machine hm]) (by simp [State.roster, State.inForce, hmode, htables])
    fun c => by cases c <;> simp [State.queue, hw, hd]

@[simp] theorem view_raise (e : Event) (s : State) : view b (raise e s) = view b s := by simp [view]

theorem view_setPool (k : PoolId) (p : Pool) (s : State) : view b (s.setPool k p) = view b s :=
  view_touch (touched_of (touches_setPool (ps := [.pools]) (by simp) k p)) (by simp) (by simp) (by simp)

theorem modifyMachine_roster (f : MachineRecord → MachineRecord) (s : State) : (modifyMachine a f s).roster b = s.roster b := rfl

theorem modifyMachine_queue (f : MachineRecord → MachineRecord) (s : State) (c : MachineClass) :
    (modifyMachine a f s).queue c = s.queue c := setMachine_queue ..

theorem view_modifyMachine_other (h : b ≠ a) (f : MachineRecord → MachineRecord) (s : State) :
    view b (modifyMachine a f s) = view b s :=
  view_eq (by rw [machine_modifyMachine_other h]) rfl fun c => by rw [modifyMachine_queue]

theorem view_modifyMachine (f : MachineRecord → MachineRecord) (s : State) : view a (modifyMachine a f s) = { view a s with
    presence := (f (s.machine a)).bus.presence, state := (f (s.machine a)).state, active := (f (s.machine a)).cycle.isSome,
    hold := (f (s.machine a)).hold, origin := (f (s.machine a)).payment.map (·.origin) } := by
  simp only [view, machine_modifyMachine_self, modifyMachine_roster, modifyMachine_queue]

/-- What leaves the standing of a record leaves every view. -/
theorem view_modifyMachine_same {f : MachineRecord → MachineRecord} (hf : ∀ m, (f m).standing = m.standing) (a : Addr)
    (s : State) : view b (modifyMachine a f s) = view b s := by
  refine view_eq ?_ rfl fun c => by rw [modifyMachine_queue]
  rw [machine_modifyMachine]
  split
  · next h => subst h; exact hf _
  · rfl

theorem view_moveTo_other (h : b ≠ a) (st : MachineState) (s : State) : view b (moveTo a st s) = view b s := by
  rw [moveTo, view_raise, view_modifyMachine_other h]

theorem view_moveTo (st : MachineState) (s : State) : view a (moveTo a st s) = { view a s with state := st } := by
  rw [moveTo, view_raise, view_modifyMachine]
  rfl

theorem view_post (a : Addr) (cmd : BusCommand) (poster : Poster) (s : State) : view b (post a cmd poster s) = view b s :=
  view_modifyMachine_same (f := fun m => { m with bus := postBus cmd poster m.bus })
    (fun m => by simp [MachineRecord.standing]) a s

theorem view_modifyCycle (a : Addr) (f : Cycle → Cycle) (s : State) : view b (modifyCycle a f s) = view b s :=
  view_modifyMachine_same (f := fun m => { m with cycle := m.cycle.map f }) (fun m => by simp [MachineRecord.standing]) a s

theorem view_modifyRun (a : Addr) (f : TestRun → TestRun) (s : State) : view b (modifyRun a f s) = view b s := by
  rw [modifyRun, view_raise]
  exact view_modifyMachine_same (f := fun m => { m with testRun := m.testRun.map f }) (fun _ => rfl) a s

/-- No grant moves the view of an address. -/
theorem unmoved_view (b : Addr) : Unmoved (view b) where
  pool := view_setPool
  raise := view_raise
  deliver s e := by
    unfold deliverGrant
    split
    · unfold startPhase
      split
      · rfl
      · split
        · rfl
        · exact (view_post ..).trans (view_modifyCycle ..)
    · exact (view_post ..).trans (view_modifyCycle ..)
    · unfold startServicePhase
      split
      · rfl
      · split
        · rfl
        · exact (view_post ..).trans (view_touch (touched_of (touches_session (ps := [.session]) (by simp) _)) (by simp) (by simp) (by simp))
    · unfold startSubtest
      split
      · rfl
      · exact (view_post ..).trans (view_modifyRun ..)

end

/-! ## The holds in a claim queue -/

theorem first_split {α : Type} {p : α → Bool} {xs : List α} {x : α} (h : xs.find? p = some x) (f : α → α) :
    p x = true ∧ ∃ l r, xs = l ++ x :: r ∧ modifyFirst p f xs = l ++ f x :: r ∧ xs.eraseP p = l ++ r := by
  obtain ⟨hx, l, r, rfl, hl⟩ := List.find?_eq_some_iff_append.mp h
  refine ⟨hx, l, r, rfl, ?_, ?_⟩
  · clear h
    induction l with
    | nil => simp [modifyFirst, hx]
    | cons y l ih =>
      have hy : p y = false := by simpa using hl y (by simp)
      simp only [List.cons_append, modifyFirst, hy, Bool.false_eq_true, if_false]
      rw [ih fun z hz => hl z (by simp [hz])]
  · rw [List.eraseP_append_right _ (by simpa using hl), List.eraseP_cons_of_pos hx]

theorem first_none {α : Type} {p : α → Bool} {xs : List α} (h : xs.find? p = none) (f : α → α) :
    modifyFirst p f xs = xs ∧ xs.eraseP p = xs := by
  have hno : ∀ x ∈ xs, ¬ p x = true := fun x hx => List.find?_eq_none.mp h x hx
  refine ⟨?_, List.eraseP_of_forall_not hno⟩
  clear h
  induction xs with
  | nil => rfl
  | cons y xs ih =>
    rw [modifyFirst, if_neg (hno y (by simp)), ih fun x hx => hno x (by simp [hx])]

theorem holdsMachine_eq (a : Addr) (e : ClaimEntry) : holdsMachine a e = (e.holdOf a).isSome := by
  unfold holdsMachine ClaimEntry.holdOf
  cases e.hold with
  | none => rfl
  | some h => by_cases hm : h.machine = a <;> simp [hm]

/-- An entry that holds one machine holds no other. -/
theorem holdOf_other {a b : Addr} {e : ClaimEntry} (h : holdsMachine a e = true) (hb : b ≠ a) : e.holdOf b = none := by
  unfold holdsMachine at h
  unfold ClaimEntry.holdOf
  cases hh : e.hold with
  | none => rfl
  | some x =>
    rw [hh] at h
    simp only [Option.map_some, Option.getD_some, decide_eq_true_eq] at h
    simp [h, hb.symm]

theorem holdsOf_modifyFirst_same {p : ClaimEntry → Bool} {f : ClaimEntry → ClaimEntry} {b : Addr}
    (hf : ∀ e, p e = true → (f e).holdOf b = e.holdOf b) (es : List ClaimEntry) :
    (modifyFirst p f es).filterMap (·.holdOf b) = es.filterMap (·.holdOf b) := by
  cases h : es.find? p with
  | none => rw [(first_none h f).1]
  | some e =>
    obtain ⟨he, l, r, rfl, hm, -⟩ := first_split h f
    simp [hm, List.filterMap_cons, hf e he]

theorem holdsOf_eraseP_same {p : ClaimEntry → Bool} {b : Addr} {es : List ClaimEntry}
    (hf : ∀ e, es.find? p = some e → e.holdOf b = none) :
    (es.eraseP p).filterMap (·.holdOf b) = es.filterMap (·.holdOf b) := by
  cases h : es.find? p with
  | none => rw [(first_none h id).2]
  | some e =>
    have hnone := hf e h
    obtain ⟨-, l, r, rfl, -, hm⟩ := first_split h id
    simp [hm, List.filterMap_cons, hnone]

/-- The one hold of a machine goes with the entry that has it. -/
theorem holdsOf_eraseP_last {p : ClaimEntry → Bool} {b : Addr} {es : List ClaimEntry} {e : ClaimEntry} (h : es.find? p = some e)
    (he : (e.holdOf b).isSome = true) (hlen : (es.filterMap (·.holdOf b)).length ≤ 1) :
    (es.eraseP p).filterMap (·.holdOf b) = [] := by
  obtain ⟨-, l, r, rfl, -, hm⟩ := first_split h id
  obtain ⟨x, hx⟩ := Option.isSome_iff_exists.mp he
  simp only [List.filterMap_append, List.filterMap_cons, hx, List.length_append, List.length_cons] at hlen
  rw [hm, List.filterMap_append, List.append_eq_nil_iff]
  exact ⟨List.eq_nil_of_length_eq_zero (by omega), List.eq_nil_of_length_eq_zero (by omega)⟩

/-- R134: the one hold of a machine is taken from its entry, which keeps its place. -/
theorem holdsOf_handBack {b : Addr} {es : List ClaimEntry} {f : ClaimEntry → ClaimEntry} (hf : ∀ e, (f e).holdOf b = none)
    (hlen : (es.filterMap (·.holdOf b)).length ≤ 1) :
    (modifyFirst (holdsMachine b) f es).filterMap (·.holdOf b) = [] := by
  cases h : es.find? (holdsMachine b) with
  | none =>
    rw [(first_none h f).1, List.filterMap_eq_nil_iff]
    intro e he
    have := List.find?_eq_none.mp h e he
    rw [holdsMachine_eq] at this
    simpa using this
  | some e =>
    obtain ⟨he, l, r, rfl, hm, -⟩ := first_split h f
    rw [holdsMachine_eq] at he
    obtain ⟨x, hx⟩ := Option.isSome_iff_exists.mp he
    simp only [List.filterMap_append, List.filterMap_cons, hx, List.length_append, List.length_cons] at hlen
    rw [hm]
    simp only [List.filterMap_append, List.filterMap_cons, hf, List.append_eq_nil_iff]
    exact ⟨List.eq_nil_of_length_eq_zero (by omega), List.eq_nil_of_length_eq_zero (by omega)⟩

/-- R130: the one hold of a machine expires with its entry. -/
theorem holdsOf_erased {b : Addr} {es : List ClaimEntry} (hlen : (es.filterMap (·.holdOf b)).length ≤ 1) :
    (es.eraseP (holdsMachine b)).filterMap (·.holdOf b) = [] := by
  cases h : es.find? (holdsMachine b) with
  | none =>
    rw [(first_none h id).2, List.filterMap_eq_nil_iff]
    intro e he
    have := List.find?_eq_none.mp h e he
    rw [holdsMachine_eq] at this
    simpa using this
  | some e =>
    have he := List.find?_some h
    rw [holdsMachine_eq] at he
    exact holdsOf_eraseP_last h he hlen

/-- R129: a hold placed on a machine that had none is its one hold. -/
theorem holdsOf_placed {a : Addr} {es : List ClaimEntry} {e : ClaimEntry} {f : ClaimEntry → ClaimEntry} {p : ClaimEntry → Bool}
    (h : es.find? p = some e) {x : Hold} (hf : (f e).holdOf a = some x) (hnone : es.filterMap (·.holdOf a) = []) :
    (modifyFirst p f es).filterMap (·.holdOf a) = [x] := by
  obtain ⟨-, l, r, rfl, hm, -⟩ := first_split h f
  have hl : l.filterMap (·.holdOf a) = [] ∧ r.filterMap (·.holdOf a) = [] := by
    simp only [List.filterMap_eq_nil_iff, List.mem_append, List.mem_cons] at hnone ⊢
    exact ⟨fun y hy => hnone y (.inl hy), fun y hy => hnone y (.inr (.inr hy))⟩
  rw [hm]
  simp [List.filterMap_cons, hf, hl.1, hl.2]

end Sys2Proof.Machine

/-! PROOF. The laws of the room and of the holds at one address, kept by the claim queues, the locks and the faults (chapters 6
and 7), and by whatever moves no view. -/

namespace Sys2Proof.Machine

/-- An address meets the laws of the room, and those of the holds where `w` asks for them. -/
def InOrder (w : Prop) (b : Addr) (s : State) : Prop := (view b s).Lawful w

/-- Every address is in order but for one, which is free. -/
structure Freed (w : Prop) (a b : Addr) (s : State) : Prop where
  other : b ≠ a → InOrder w b s
  self : b = a → (view b s).Free w

/-- A machine without a cycle whose hold, if it has one, is known to its queue. -/
structure View.Loose (w : Prop) (v : View) : Prop where
  present : v.presence = .present
  listed : v.entry ≠ none
  idle : v.active = false
  agrees : w → v.Agrees

/-- Every address is in order but for one, which is loose. -/
structure Loosed (w : Prop) (a b : Addr) (s : State) : Prop where
  other : b ≠ a → InOrder w b s
  self : b = a → (view b s).Loose w

variable {w : Prop} {a b : Addr} {s t : State}

theorem InOrder.ite {c : Prop} [Decidable c] {x y : State} (hx : c → InOrder w b x) (hy : ¬ c → InOrder w b y) :
    InOrder w b (if c then x else y) := by
  split
  · next h => exact hx h
  · next h => exact hy h

theorem InOrder.lawful (h : InOrder w b s) : (view b s).Lawful w := h

theorem InOrder.of_view (h : InOrder w b s) (hv : view b t = view b s) : InOrder w b t := by
  unfold InOrder
  rw [hv]
  exact h

theorem InOrder.of_touches {ps : List Part} (h : InOrder w b s) (ht : Touches ps s t)
    (hp : Part.machines ∉ ps ∧ Part.claims ∉ ps ∧ Part.loader ∉ ps) : InOrder w b t :=
  h.of_view (view_touch ht hp.1 hp.2.1 hp.2.2)

theorem Freed.of_view (h : Freed w a b s) (hv : view b t = view b s) : Freed w a b t :=
  ⟨fun hb => (h.other hb).of_view hv, fun hb => hv ▸ h.self hb⟩

theorem InOrder.thenRaise (h : InOrder w b s) {e : Event} : InOrder w b (raise e s) := h.of_view (view_raise e s)

theorem InOrder.thenRaiseIf (h : InOrder w b s) {c : Bool} {e : Event} : InOrder w b (raiseIf c e s) :=
  .ite (fun _ => h.thenRaise) (fun _ => h)

theorem InOrder.thenSame (h : InOrder w b s) {f : MachineRecord → MachineRecord} (hf : ∀ m, (f m).standing = m.standing := by exact fun _ => rfl) :
    InOrder w b (modifyMachine a f s) := h.of_view (view_modifyMachine_same hf a s)

theorem InOrder.thenPost (h : InOrder w b s) {cmd : BusCommand} {poster : Poster} : InOrder w b (post a cmd poster s) :=
  h.of_view (view_post a cmd poster s)

theorem InOrder.thenModifyCycle (h : InOrder w b s) {f : Cycle → Cycle} : InOrder w b (modifyCycle a f s) :=
  h.of_view (view_modifyCycle a f s)

theorem InOrder.thenModifyRun (h : InOrder w b s) {f : TestRun → TestRun} : InOrder w b (modifyRun a f s) :=
  h.of_view (view_modifyRun a f s)

/-! ## A machine that moves -/

theorem InOrder.freed (h : InOrder w b s) (hst : (s.machine a).state.vacant = true) : Freed w a b s :=
  ⟨fun _ => h, fun hb => h.lawful.free (by rw [hb]; exact hst)⟩

theorem Freed.thenMoveTo (h : Freed w a b s) {st : MachineState} (hst : st.free = true) : InOrder w b (moveTo a st s) := by
  by_cases hb : b = a
  · subst hb
    rw [InOrder, view_moveTo]
    exact (h.self rfl).lawful hst
  · exact (h.other hb).of_view (view_moveTo_other hb st s)

/-- A machine of the room with a cycle record runs it or stops it. -/
theorem InOrder.thenCycleMove (h : InOrder w b s) {st : MachineState} (hc : b = a → (s.machine a).cycle.isSome = true)
    (hst : st = .running ∨ st = .stopping) : InOrder w b (moveTo a st s) := by
  by_cases hb : b = a
  · subst hb
    have hc := hc rfl
    have hs := h.cycle.mp hc
    have hne : (view b s).state ≠ .absent ∧ (view b s).state ≠ .held ∧ (view b s).state ≠ .paying := by
      rcases hs with hs | hs <;> simp [hs]
    have hunheld := fun hw => h.lawful.unheld hw hne.2.1 hne.2.2
    rw [InOrder, view_moveTo]
    exact {
      away := fun hp => absurd (h.lawful.present hne.1) hp
      unlisted := h.unlisted
      cycle := ⟨fun _ => hst, fun _ => hc⟩
      held := fun _ he => by rcases hst with hst | hst <;> simp [hst] at he
      holder := fun hw hh => by simp [hunheld hw] at hh
      agrees := h.agrees }
  · exact h.of_view (view_moveTo_other hb st s)

/-! ## Claim queues and holds -/

theorem roster_changeQueue (c : MachineClass) (f : ClaimQueue → ClaimQueue) (s : State) :
    (changeQueue c f s).roster b = s.roster b := by cases c <;> rfl

/-- A queue whose holds of an address stay as they are. -/
theorem view_changeQueue {c : MachineClass} {f : ClaimQueue → ClaimQueue} {s : State}
    (hf : (f (s.queue c)).holdsOf b = (s.queue c).holdsOf b) : view b (changeQueue c f s) = view b s := by
  refine view_eq (by simp) (roster_changeQueue c f s) fun d => ?_
  rw [changeQueue_queue]
  split
  · next h => rw [h]; exact hf
  · rfl

/-- A queue whose entries change but for their cards and holds. -/
theorem view_changePaying {c : MachineClass} {f : ClaimQueue → ClaimQueue} {p : ClaimEntry → Bool} {x : Bool} (s : State)
    (hf : ∀ q, (f q).entries = modifyFirst p (fun e => { e with paying := x }) q.entries) :
    view b (changeQueue c f s) = view b s :=
  view_changeQueue (by
    unfold ClaimQueue.holdsOf
    rw [hf]
    exact holdsOf_modifyFirst_same (f := fun e => { e with paying := x }) (fun _ _ => rfl) _)

theorem InOrder.thenHolderPays (h : InOrder w b s) : InOrder w b (holderPays a s) :=
  h.of_view (view_changePaying s fun _ => rfl)

/-- The one hold of a machine is taken from the queue of its class, and no other queue had one. -/
theorem unclaimed_changeQueue {f : ClaimQueue → ClaimQueue} (h : (view a s).Agrees)
    (hf : ((s.queue (s.classOf a)).holdsOf a).length ≤ 1 → (f (s.queue (s.classOf a))).holdsOf a = []) (c : MachineClass) :
    ((changeQueue (s.classOf a) f s).queue c).holdsOf a = [] := by
  rw [changeQueue_queue]
  split
  · exact hf (h.length _)
  · next hc =>
    have hclaims := h c
    rwa [if_neg (show ¬ (view a s).cls = c from fun hcls => hc hcls.symm)] at hclaims

/-- The hold of a machine goes, with or without its entry. -/
theorem view_unheld (f : ClaimQueue → ClaimQueue) (s : State) :
    view a (raise .machine (modifyMachine a (fun m => { m with hold := none }) (changeQueue (s.classOf a) f s))) =
      { view a s with hold := none, claims := fun c => ((changeQueue (s.classOf a) f s).queue c).holdsOf a } := by
  rw [view_raise, view_modifyMachine]
  simp [view, roster_changeQueue]

/-- R134: what handing back the hold of a machine leaves in its view. -/
theorem view_handBack (a : Addr) (s : State) (hagrees : w → (view a s).Agrees) :
    ∃ claims, view a (handBack a s) = { view a s with hold := none, claims := claims } ∧ (w → ∀ c, claims c = []) := by
  unfold handBack
  split
  case isTrue =>
    exact ⟨_, view_unheld _ s, fun hw => unclaimed_changeQueue (hagrees hw) (holdsOf_handBack fun _ => rfl)⟩
  case isFalse hn =>
    have hnone : (view a s).hold = none := Option.not_isSome_iff_eq_none.mp hn
    exact ⟨(view a s).claims, by rw [← hnone], fun hw c => by rw [hagrees hw c, hnone]; simp⟩

theorem view_handBack_other (h : b ≠ a) (s : State) : view b (handBack a s) = view b s := by
  unfold handBack
  split
  · rw [view_raise, view_modifyMachine_other h]
    refine view_changeQueue (holdsOf_modifyFirst_same (fun e he => ?_) _)
    rw [holdOf_other he h]
    rfl
  · rfl

/-- R134: a hold handed back leaves the machine free. -/
theorem Loosed.thenHandBack (h : Loosed w a b s) : Freed w a b (handBack a s) := by
  refine ⟨fun hb => (h.other hb).of_view (view_handBack_other hb s), fun hb => ?_⟩
  subst hb
  obtain ⟨hpresent, hlisted, hidle, hagrees⟩ := h.self rfl
  obtain ⟨claims, hview, hclaims⟩ := view_handBack b s hagrees
  rw [hview]
  exact ⟨hpresent, hlisted, hidle, fun _ => rfl, hclaims⟩

theorem InOrder.loosed (h : InOrder w b s) (hst : (s.machine a).state = .held ∨ (s.machine a).state = .paying) :
    Loosed w a b s := by
  refine ⟨fun _ => h, fun hb => ?_⟩
  subst hb
  have hne : (view b s).state ≠ .absent ∧ (view b s).state ≠ .running ∧ (view b s).state ≠ .stopping := by
    rcases hst with hst | hst <;> simp [view, hst]
  exact ⟨h.lawful.present hne.1, h.lawful.listed hne.1, h.lawful.inactive hne.2.1 hne.2.2, h.agrees⟩

/-- R129: an offer of a hold finds no entry without one, or places one on the machine alone. -/
theorem placeHold_cases (a : Addr) (s : State) : placeHold a s = (s, false) ∨ ∃ t x, placeHold a s = (t, true) ∧
    view a t = { view a s with hold := some x, claims := (view a t).claims } ∧
    ((∀ c, (view a s).claims c = []) → ∀ c, (view a t).claims c = if (view a s).cls = c then [x] else []) ∧
    ∀ b, b ≠ a → view b t = view b s := by
  unfold placeHold
  dsimp only
  cases he : (s.queue (s.classOf a)).entries.find? (fun e => e.hold.isNone) with
  | none => exact .inl rfl
  | some e =>
    refine .inr ⟨_, ⟨e.card, s.now + s.params.holdWindow⟩, rfl, ?_, fun hnone c => ?_, fun b hb => ?_⟩
    · rw [view_raise, view_modifyMachine]
      simp [view, roster_changeQueue]
    · rw [view_raise, view_modifyMachine]
      show (ClaimQueue.holdsOf a (State.queue _ c)) = _
      rw [changeQueue_queue]
      split
      · next hc =>
        rw [if_pos (show (view a s).cls = c from hc.symm)]
        refine holdsOf_placed he ?_ (hnone _)
        simp [ClaimEntry.holdOf]
      · next hc =>
        rw [if_neg fun hcls : (view a s).cls = c => hc hcls.symm]
        exact hnone c
    · rw [view_raise, view_modifyMachine_other hb]
      refine view_changeQueue (holdsOf_modifyFirst_same (fun e he => ?_) _)
      have hn : e.hold = none := Option.isNone_iff_eq_none.mp he
      simp [ClaimEntry.holdOf, hn, hb.symm]

/-- R129: a machine that has just been given a hold is HELD with it. -/
theorem View.Free.lawful_held {v u : View} {x : Hold} (h : v.Free w) (hu : u = { v with hold := some x, claims := u.claims })
    (hclaims : (∀ c, v.claims c = []) → ∀ c, u.claims c = if v.cls = c then [x] else []) :
    ({ u with state := .held } : View).Lawful w := by
  rw [hu]
  exact {
    away := fun hp => absurd h.present hp
    unlisted := fun he => absurd he h.listed
    cycle := by simp [h.idle]
    held := fun _ _ => rfl
    holder := fun _ _ => .inl rfl
    agrees := fun hw c => hclaims (h.unclaimed hw) c }

theorem Freed.thenResting (h : Freed w a b s) : InOrder w b (moveTo a (restingState (s.machine a)) s) :=
  h.thenMoveTo (by unfold restingState; split <;> rfl)

theorem Freed.thenOffer (h : Freed w a b s) : InOrder w b (offer a s) := by
  unfold offer
  rcases placeHold_cases a s with hp | ⟨t, x, hp, hself, hclaims, hother⟩ <;> rw [hp]
  · exact h.thenResting
  · by_cases hb : b = a
    · subst hb
      rw [InOrder]
      show (view b (moveTo b .held t)).Lawful w
      rw [view_moveTo]
      exact (h.self rfl).lawful_held hself hclaims
    · exact (h.other hb).of_view ((view_moveTo_other hb .held t).trans (hother b hb))

/-- Every address is in order but for one whose hold names an entry that has gone (R130). -/
structure Unnamed (w : Prop) (a b : Addr) (s : State) : Prop where
  other : b ≠ a → InOrder w b s
  away : b = a → (view b s).presence ≠ .present → (view b s).state = .absent
  unlisted : b = a → (view b s).entry = none → (view b s).presence = .absent
  cycle : b = a → ((view b s).active = true ↔ (view b s).state = .running ∨ (view b s).state = .stopping)
  holder : b = a → w → (view b s).state = .held ∨ (view b s).state = .paying ∧ (view b s).origin = some .held
  unclaimed : b = a → w → ∀ c, (view b s).claims c = []

theorem Unnamed.thenReoffer (h : Unnamed w a b s) : InOrder w b (reoffer a s) := by
  unfold reoffer
  by_cases hb : b = a
  · subst hb
    rcases placeHold_cases b s with hp | ⟨t, x, hp, hself, hclaims, -⟩ <;> rw [hp] <;> dsimp only
    · have hgone : view b (raise .machine (modifyMachine b (fun m => { m with hold := none }) s)) = { view b s with hold := none } := by
        rw [view_raise, view_modifyMachine]
        rfl
      have hstate : ((raise .machine (modifyMachine b (fun m => { m with hold := none }) s)).machine b).state = (view b s).state := by
        simp [view]
      rw [hstate]
      refine .ite (fun hh => ?_) (fun hh => ?_)
      · refine Freed.thenResting ⟨fun hne => absurd rfl hne, fun _ => ?_⟩
        have hpresent : (view b s).presence = .present := not_not.mp fun hp => by simp [h.away rfl hp] at hh
        rw [hgone]
        refine ⟨hpresent, fun he => ?_, ?_, fun _ => rfl, h.unclaimed rfl⟩
        · have := h.unlisted rfl he
          rw [hpresent] at this
          cases this
        · have := h.cycle rfl
          simp only [hh, reduceCtorEq, or_self, iff_false, Bool.not_eq_true] at this
          exact this
      · rw [InOrder, hgone]
        exact {
          away := h.away rfl
          unlisted := h.unlisted rfl
          cycle := h.cycle rfl
          held := fun _ hs => absurd hs hh
          holder := fun _ hs => by simp at hs
          agrees := fun hw c => by simpa using h.unclaimed rfl hw c }
    · rw [InOrder, hself]
      exact {
        away := h.away rfl
        unlisted := h.unlisted rfl
        cycle := h.cycle rfl
        held := fun _ _ => rfl
        holder := fun hw _ => h.holder rfl hw
        agrees := fun hw c => hclaims (h.unclaimed rfl hw) c }
  · rcases placeHold_cases a s with hp | ⟨t, x, hp, -, -, hother⟩ <;> rw [hp] <;> dsimp only
    · have hs : InOrder w b (raise .machine (modifyMachine a (fun m => { m with hold := none }) s)) :=
        (h.other hb).of_view ((view_raise ..).trans (view_modifyMachine_other hb _ s))
      exact .ite (fun _ => hs.of_view (view_moveTo_other hb _ _)) (fun _ => hs)
    · exact (h.other hb).of_view (hother b hb)

/-- An entry that holds a machine leaves its queue. -/
theorem InOrder.unnamed (h : InOrder w b s) {c : MachineClass} {f : ClaimQueue → ClaimQueue} {p : ClaimEntry → Bool} {e : ClaimEntry}
    (hf : ∀ q, (f q).entries = q.entries.eraseP p) (he : (s.queue c).entries.find? p = some e) (ha : holdsMachine a e = true) :
    Unnamed w a b (changeQueue c f s) := by
  by_cases hb : b = a
  · subst hb
    have hview : view b (changeQueue c f s) = { view b s with claims := (view b (changeQueue c f s)).claims } := by
      simp [view, roster_changeQueue]
    rw [holdsMachine_eq] at ha
    obtain ⟨x, hx⟩ := Option.isSome_iff_exists.mp ha
    have hclaimed : (view b s).claims c ≠ [] := fun hnone => by
      have := List.filterMap_eq_nil_iff.mp hnone e (List.mem_of_find?_eq_some he)
      rw [hx] at this
      cases this
    have hcls : w → (view b s).cls = c ∧ (view b s).hold.isSome = true := fun hw => by
      have hagrees := h.agrees hw c
      split at hagrees
      · next hc => exact ⟨hc, Option.isSome_iff_ne_none.mpr fun hn => hclaimed (by rw [hagrees, hn]; rfl)⟩
      · exact absurd hagrees hclaimed
    refine ⟨fun hne => absurd rfl hne, ?_, ?_, ?_, ?_, ?_⟩ <;> intro _ <;> rw [hview]
    · exact h.away
    · exact h.unlisted
    · exact h.cycle
    · exact fun hw => h.holder hw (hcls hw).2
    · intro hw d
      show ((changeQueue c f s).queue d).holdsOf b = []
      have hcls := (hcls hw).1
      have hagrees := h.agrees hw
      rw [← hcls, show (view b s).cls = s.classOf b from rfl] at he ⊢
      refine unclaimed_changeQueue hagrees (fun hlen => ?_) d
      unfold ClaimQueue.holdsOf
      rw [hf]
      exact holdsOf_eraseP_last he (hx ▸ rfl) hlen
  · refine ⟨fun _ => h.of_view (view_changeQueue ?_), fun hba => absurd hba hb, fun hba => absurd hba hb,
      fun hba => absurd hba hb, fun hba => absurd hba hb, fun hba => absurd hba hb⟩
    unfold ClaimQueue.holdsOf
    rw [hf]
    refine holdsOf_eraseP_same fun x hx => ?_
    rw [he] at hx
    cases hx
    exact holdOf_other ha hb

theorem InOrder.thenExpireHold (h : InOrder w b s)
    (ha : b = a → w → ((s.queue (s.classOf a)).entries.find? (holdsMachine a)).isSome = true) : InOrder w b (expireHold a s) := by
  refine Unnamed.thenReoffer ?_
  cases he : (s.queue (s.classOf a)).entries.find? (holdsMachine a) with
  | some e => exact h.unnamed (fun _ => rfl) he (List.find?_some he)
  | none =>
    have hsame : view b (changeQueue (s.classOf a) (fun q => { q with
        entries := q.entries.eraseP (holdsMachine a), expired := countUp q.expired }) s) = view b s :=
      view_changeQueue (holdsOf_eraseP_same fun e hx => by rw [he] at hx; cases hx)
    have hno : b = a → ¬ w := fun hb hw => by have := ha hb hw; rw [he] at this; cases this
    refine ⟨fun _ => h.of_view hsame, ?_, ?_, ?_, ?_, ?_⟩ <;> intro hb <;> rw [hsame]
    · exact h.away
    · exact h.unlisted
    · exact h.cycle
    · exact fun hw => absurd hw (hno hb)
    · exact fun hw => absurd hw (hno hb)

/-- A machine with a hold is held by an entry of its queue. -/
theorem View.Lawful.entry_of_hold (h : (view a s).Lawful w) (hw : w) (hh : (s.machine a).hold.isSome = true) :
    ((s.queue (s.classOf a)).entries.find? (holdsMachine a)).isSome = true := by
  obtain ⟨x, hx⟩ := Option.isSome_iff_exists.mp hh
  have hclaims := h.agrees hw (s.classOf a)
  rw [if_pos (show (view a s).cls = s.classOf a from rfl), show (view a s).hold = some x from hx] at hclaims
  have hmem : x ∈ (s.queue (s.classOf a)).entries.filterMap (·.holdOf a) := by
    show x ∈ (view a s).claims (s.classOf a)
    rw [hclaims]
    simp
  obtain ⟨e, he, hex⟩ := List.mem_filterMap.mp hmem
  exact List.find?_isSome.mpr ⟨e, he, by rw [holdsMachine_eq, hex]; rfl⟩

theorem InOrder.thenHolderStopsPaying (h : InOrder w b s) : InOrder w b (holderStopsPaying a s) := by
  have hs : InOrder w b (changeQueue (s.classOf a) (fun q => { q with
      entries := modifyFirst (holdsMachine a) (fun e => { e with paying := false }) q.entries }) s) :=
    h.of_view (view_changePaying s fun _ => rfl)
  refine .ite (fun hdue => hs.thenExpireHold fun hb hw => ?_) (fun _ => hs)
  subst hb
  refine hs.lawful.entry_of_hold hw ?_
  unfold due at hdue
  split at hdue
  · next hd =>
    obtain ⟨x, hx, -⟩ := Option.map_eq_some_iff.mp hd
    rw [hx]
    rfl
  · cases hdue

/-- A machine whose cycle has just begun, with the hold it may have had (R26, R132). -/
structure View.Starting (w : Prop) (v : View) : Prop where
  present : v.presence = .present
  listed : v.entry ≠ none
  active : v.active = true
  state : v.state = .running
  agrees : w → v.Agrees

theorem View.Starting.lawful {v : View} (h : v.Starting w) (hn : v.hold = none) : v.Lawful w where
  away hp := absurd h.present hp
  unlisted he := absurd he h.listed
  cycle := ⟨fun _ => .inl h.state, fun _ => h.active⟩
  held _ hs := by simp [h.state] at hs
  holder _ hs := by simp [hn] at hs
  agrees := h.agrees

/-- R132, R133: the entry of the card that starts goes, with the hold of the machine or of another. -/
theorem InOrder.thenClaimServed (h : b ≠ a → InOrder w b s) (hself : b = a → (view b s).Starting w) {card : Nat} :
    InOrder w b (claimServed a card s) := by
  unfold claimServed
  dsimp only
  split
  case isTrue =>
    by_cases hb : b = a
    · subst hb
      obtain ⟨hpresent, hlisted, hactive, hstate, hagrees⟩ := hself rfl
      rw [InOrder, view_unheld]
      have hgone := fun hw => unclaimed_changeQueue (s := s) (f := fun q => { q with
        entries := q.entries.eraseP (holdsMachine b), served := countUp q.served }) (hagrees hw) holdsOf_erased
      exact View.Starting.lawful ⟨hpresent, hlisted, hactive, hstate, fun hw c => by simpa using hgone hw c⟩ rfl
    · refine (h hb).of_view ?_
      rw [view_raise, view_modifyMachine_other hb]
      exact view_changeQueue (holdsOf_eraseP_same fun e he => holdOf_other (List.find?_some he) hb)
  case isFalse hn =>
    have hs : InOrder w b s := by
      by_cases hb : b = a
      · refine (hself hb).lawful ?_
        rw [hb]
        exact Option.not_isSome_iff_eq_none.mp hn
      · exact h hb
    split
    · exact hs
    · next e he =>
      split
      · next hnone =>
        refine hs.of_view (view_changeQueue (holdsOf_eraseP_same fun x hx => ?_))
        rw [he] at hx
        cases hx
        simp [ClaimEntry.holdOf, hnone]
      · next x hx => exact (hs.unnamed (fun _ => rfl) he (by simp [holdsMachine, hx])).thenReoffer

/-! ## Locks and faults -/

theorem InOrder.thenSetLock (h : InOrder w b s) {kind : Lock} : InOrder w b (setLock a kind s) :=
  .ite (fun _ => h) (fun _ => h.thenSame.thenRaise)

theorem InOrder.thenSetPending (h : InOrder w b s) : InOrder w b (setPending a s) :=
  .ite (fun _ => h) (fun _ => h.thenSame.thenRaise)

theorem InOrder.thenApplyLock (h : InOrder w b s) {kind : Lock} : InOrder w b (applyLock a kind s) := by
  have hl := h.thenSetLock (a := a) (kind := kind)
  unfold applyLock
  dsimp only
  split
  case h_1 hst => exact (hl.freed (by rw [hst]; rfl)).thenMoveTo rfl
  case h_2 hst => exact (hl.freed (by rw [hst]; rfl)).thenMoveTo rfl
  case h_3 hst => exact (hl.loosed (.inl hst)).thenHandBack.thenMoveTo rfl
  case h_9 | h_10 | h_11 => exact hl
  all_goals exact hl.thenSetPending

theorem InOrder.thenStrike (h : InOrder w b s) {x : Handing} : InOrder w b (strike a x s) :=
  .ite (fun _ => h.thenSame) fun _ =>
    .ite (fun _ => .ite (fun _ => h.thenSame.thenRaise.thenApplyLock) fun _ => h.thenSame.thenRaise) fun _ => h

theorem InOrder.thenForcedLock (h : InOrder w b s) {x : Handing} : InOrder w b (forcedLock a x s) :=
  .ite (fun _ => h.thenApplyLock) fun _ => h

theorem InOrder.thenHandFault (h : InOrder w b s) {x : Handing} : InOrder w b (handFault x s) := by
  have hrecord : InOrder w b (raise .fault { s with faults := recordFault s.now x s.faults }) :=
    (h.of_touches (touched_of (touches_faults (ps := [.faults]) (by simp) _)) (by simp)).thenRaise
  unfold handFault
  dsimp only
  split
  · exact hrecord
  · exact hrecord.thenStrike.thenForcedLock

end Sys2Proof.Machine

/-! PROOF. The laws of the room and of the holds at one address, kept by Cycle Control and by the Fault and Service Unit
(chapters 2 and 7). -/

namespace Sys2Proof.Machine

variable {w : Prop} {a b : Addr} {s t : State}

/-! ## Pools and refunds -/

theorem InOrder.thenScanPool (h : InOrder w b s) {k : PoolId} : InOrder w b (scanPool k s) := h.of_view ((unmoved_view b).scanPool k s)

theorem InOrder.thenReleaseGrant (h : InOrder w b s) : InOrder w b (releaseGrant a s) := h.of_view ((unmoved_view b).releaseGrant a s)

theorem InOrder.thenWithdrawEntry (h : InOrder w b s) : InOrder w b (withdrawEntry a s) :=
  h.of_view ((unmoved_view b).withdrawEntry a s)

theorem InOrder.thenRequestGrant (h : InOrder w b s) {k : PoolId} {purpose : Purpose} {n : Nat} {x : Bool} :
    InOrder w b (requestGrant k a purpose n x s) := h.of_view ((unmoved_view b).requestGrant k a purpose n x s)

theorem InOrder.thenSetPool (h : InOrder w b s) {k : PoolId} {p : Pool} : InOrder w b (s.setPool k p) := h.of_view (view_setPool k p s)

theorem InOrder.thenStartPhase (h : InOrder w b s) : InOrder w b (startPhase a s) :=
  h.of_view ((unmoved_view b).deliver s (requestEntry a .cyclePhase 0 false s))

theorem InOrder.thenStartServicePhase (h : InOrder w b s) : InOrder w b (startServicePhase s) :=
  h.of_view ((unmoved_view b).deliver s (requestEntry b .servicePhase 0 false s))

theorem InOrder.thenStartSubtest (h : InOrder w b s) : InOrder w b (startSubtest a s) :=
  h.of_view ((unmoved_view b).deliver s (requestEntry a .subtest 0 false s))

theorem InOrder.thenCountWait (h : InOrder w b s) {k : PoolId} : InOrder w b (countWait k a s) :=
  .ite (fun _ => h.thenSetPool) fun _ => h

theorem InOrder.thenLeaveOverLimit (h : InOrder w b s) {k : PoolId} : InOrder w b (leaveOverLimit k s) :=
  h.of_view ((unmoved_view b).leaveOverLimit k s)

theorem InOrder.thenAskResume (h : InOrder w b s) : InOrder w b (askResume a s) := by
  have hresume : ∀ k, InOrder w b (resumeFrom k a s) := by
    intro k
    unfold resumeFrom
    dsimp only
    split
    · exact h
    · exact h.thenSetPool.thenLeaveOverLimit.thenScanPool.thenCountWait
  exact .ite (fun _ => hresume _) fun _ => hresume _

theorem InOrder.thenMarkGrant (h : InOrder w b s) : InOrder w b (markGrant a s) := h.of_touches (touched_markGrant a s) (by simp)

theorem InOrder.thenPlaceRefund (h : InOrder w b s) {card amount machine : Nat} : InOrder w b (placeRefund card amount machine s) :=
  h.of_touches (touched_placeRefund_money card amount machine s) (by simp)

theorem InOrder.thenSession (h : InOrder w b s) {x : Option Session} : InOrder w b { s with session := x } :=
  h.of_touches (touched_of (touches_session (ps := [.session]) (by simp) x)) (by simp)

/-! ## Release to the room -/

theorem Freed.thenSame (h : Freed w a b s) {f : MachineRecord → MachineRecord}
    (hf : ∀ m, (f m).standing = m.standing := by exact fun _ => rfl) {c : Addr} : Freed w a b (modifyMachine c f s) :=
  h.of_view (view_modifyMachine_same hf c s)

theorem Freed.thenReleaseToRoom (h : Freed w a b s) : InOrder w b (releaseToRoom a s) :=
  .ite (fun _ => h.thenSame.thenMoveTo rfl) fun _ => .ite (fun _ => h.thenResting) fun _ => h.thenOffer

theorem InOrder.thenApplyUnlock (h : InOrder w b s) : InOrder w b (applyUnlock a s) := by
  have hs : InOrder w b (raise .machine (modifyMachine a (fun m => { m with lock := .none, lockPending := false }) s)) :=
    h.thenSame.thenRaise
  exact .ite (fun hst => (hs.freed (by rw [hst]; rfl)).thenReleaseToRoom) fun _ => hs

/-- A cycle record stands at a machine that runs or stops. -/
theorem InOrder.active (h : InOrder w b s) (hst : (s.machine a).state = .running ∨ (s.machine a).state = .stopping) :
    b = a → (s.machine a).cycle.isSome = true := by
  intro hb
  subst hb
  exact h.cycle.mpr hst

/-- A machine whose cycle record is removed is free. -/
theorem InOrder.thenEndCycle (h : InOrder w b s) {f : MachineRecord → MachineRecord}
    (hc : b = a → (s.machine a).cycle.isSome = true)
    (hf : ∀ m, (f m).bus.presence = m.bus.presence ∧ (f m).cycle = none ∧ (f m).hold = m.hold) :
    Freed w a b (modifyMachine a f s) := by
  refine ⟨fun hb => h.of_view (view_modifyMachine_other hb f s), fun hb => ?_⟩
  subst hb
  have hs := h.cycle.mp (hc rfl)
  have hne : (view b s).state ≠ .absent ∧ (view b s).state ≠ .held ∧ (view b s).state ≠ .paying := by
    rcases hs with hs | hs <;> simp [hs]
  have hunheld := fun hw => h.lawful.unheld hw hne.2.1 hne.2.2
  obtain ⟨hpresence, hcycle, hhold⟩ := hf (s.machine b)
  rw [view_modifyMachine, hpresence, hcycle, hhold]
  exact ⟨h.lawful.present hne.1, h.lawful.listed hne.1, rfl, hunheld, fun hw => h.lawful.unclaimed hw (hunheld hw)⟩

theorem InOrder.thenEnterFinished (h : InOrder w b s) (hc : b = a → (s.machine a).cycle.isSome = true) :
    InOrder w b (enterFinished a s) := (h.thenEndCycle hc (by exact fun _ => ⟨rfl, rfl, rfl⟩)).thenMoveTo rfl

/-! ## Phases and stops -/

theorem InOrder.thenAskPhase (h : InOrder w b s) : InOrder w b (askPhase a s) := by
  unfold askPhase
  split
  · exact h
  · split
    · exact h.thenStartPhase
    · exact h.thenRequestGrant

theorem InOrder.thenEnterWaiting (h : InOrder w b s) : InOrder w b (enterWaiting a s) := h.thenModifyCycle.thenAskPhase

theorem InOrder.thenStopCycle (h : InOrder w b s) {cause : StopCause} : InOrder w b (stopCycle a cause s) := by
  refine .ite (fun hst => ?_) fun _ => h
  refine (h.thenModifyCycle.thenCycleMove (fun hb => ?_) (.inr rfl)).thenWithdrawEntry.thenPost
  exact h.thenModifyCycle.active (.inl (by simpa [modifyCycle] using hst)) hb

theorem InOrder.thenSettleRefund (h : InOrder w b s) {cause : StopCause} : InOrder w b (settleRefund a cause s) := by
  unfold settleRefund
  split
  · exact h
  · exact .ite (fun _ => h) fun _ => h.thenModifyCycle.thenPlaceRefund

theorem InOrder.thenConfirmStop (h : InOrder w b s) : InOrder w b (confirmStop a s) :=
  .ite (fun _ => h) fun _ => h.thenReleaseGrant.thenSettleRefund

theorem view_settleRefund (cause : StopCause) (s : State) : view b (settleRefund a cause s) = view b s := by
  unfold settleRefund
  split
  · rfl
  · split
    · rfl
    · exact (view_touch (touched_placeRefund_money _ _ _ _) (by simp) (by simp) (by simp)).trans (view_modifyCycle ..)

theorem view_confirmStop (s : State) : view b (confirmStop a s) = view b s := by
  unfold confirmStop
  split
  · rfl
  · exact (view_settleRefund ..).trans ((unmoved_view b).releaseGrant a s)

theorem InOrder.thenTimeoutStop (h : InOrder w b s) : InOrder w b (timeoutStop a s) := h.thenHandFault.thenStopCycle

theorem InOrder.thenCompletePhase (h : InOrder w b s) : InOrder w b (completePhase a s) := by
  unfold completePhase
  split
  · exact h
  · next c hc =>
    refine .ite (fun _ => h) fun _ => .ite (fun _ => h.thenReleaseGrant.thenModifyCycle.thenEnterWaiting) fun _ =>
      h.thenReleaseGrant.thenEnterFinished fun _ => ?_
    rw [show ((releaseGrant a s).machine a).cycle.isSome = (s.machine a).cycle.isSome from
      congrArg View.active ((unmoved_view a).releaseGrant a s), hc]
    rfl

theorem InOrder.thenBeginSuspend (h : InOrder w b s) : InOrder w b (beginSuspend a s) := h.thenModifyCycle.thenPost.thenMarkGrant

theorem InOrder.thenConfirmSuspend (h : InOrder w b s) : InOrder w b (confirmSuspend a s) := by
  unfold confirmSuspend
  split
  · exact h
  · exact .ite (fun _ => h.thenModifyCycle.thenReleaseGrant) fun _ => h.thenModifyCycle.thenAskResume

theorem InOrder.thenWasherDoorOpen (h : InOrder w b s) : InOrder w b (washerDoorOpen a s) := by
  unfold washerDoorOpen
  split
  · exact h
  · exact .ite (fun _ => h.thenStopCycle) fun _ => h.thenHandFault.thenStopCycle

theorem InOrder.thenDryerDoorOpen (h : InOrder w b s) : InOrder w b (dryerDoorOpen a s) := by
  unfold dryerDoorOpen
  split
  · exact h
  · refine .ite (fun _ => ?_) fun _ => .ite (fun _ => h.thenStopCycle) fun _ => h
    dsimp only
    split
    case h_1 | h_2 => exact h.thenModifyCycle.thenModifyCycle.thenWithdrawEntry
    case h_3 | h_4 | h_5 => exact h.thenModifyCycle.thenBeginSuspend
    case h_6 | h_7 => exact h.thenModifyCycle

theorem InOrder.thenDryerDoorClosed (h : InOrder w b s) : InOrder w b (dryerDoorClosed a s) := by
  unfold dryerDoorClosed
  split
  · exact h
  · split
    · exact h.thenModifyCycle.thenAskPhase
    · exact h.thenModifyCycle
    all_goals exact h

theorem InOrder.thenRunningDoor (h : InOrder w b s) {door : Option Door} : InOrder w b (runningDoor a door s) := by
  unfold runningDoor
  split
  · exact h.thenWasherDoorOpen
  · exact h.thenDryerDoorOpen
  · exact h.thenDryerDoorClosed
  · exact h.thenDryerDoorClosed
  · exact h

/-! ## Starts -/

theorem inactive_iff {x : Bool} {st : MachineState} (hx : x = false) (hst : st ≠ .running ∧ st ≠ .stopping) :
    x = true ↔ st = .running ∨ st = .stopping := by simp [hx, hst]

/-- The payment of a machine that is not PAYING goes. -/
theorem InOrder.thenPayment (h : InOrder w b s) {x : Option Payment} (hst : b = a → (s.machine a).state ≠ .paying) :
    InOrder w b (modifyMachine a (fun m => { m with payment := x }) s) := by
  by_cases hb : b = a
  · subst hb
    rw [InOrder, view_modifyMachine]
    exact {
      away := h.away
      unlisted := h.unlisted
      cycle := h.cycle
      held := h.held
      holder := fun hw hh => .inl ((h.holder hw hh).resolve_right fun hp => hst rfl hp.1)
      agrees := h.agrees }
  · exact h.of_view (view_modifyMachine_other hb _ s)

theorem Loosed.thenPayment (h : Loosed w a b s) {x : Option Payment} :
    Loosed w a b (modifyMachine a (fun m => { m with payment := x }) s) := by
  refine ⟨fun hb => (h.other hb).of_view (view_modifyMachine_other hb _ s), fun hb => ?_⟩
  subst hb
  obtain ⟨hpresent, hlisted, hidle, hagrees⟩ := h.self rfl
  rw [view_modifyMachine]
  exact ⟨hpresent, hlisted, hidle, hagrees⟩

theorem InOrder.thenTakeCycleNumber (h : InOrder w b s) : InOrder w b (takeCycleNumber s) :=
  h.of_touches (touched_takeCycleNumber s) (by simp)

theorem InOrder.thenCloseStart (h : InOrder w b s) {p : Payment} : InOrder w b (closeStart a p s) := by
  unfold closeStart
  dsimp only
  have hplaced := h.thenTakeCycleNumber.thenPlaceRefund (card := p.card)
    (amount := refundOf (s.classOf a) (newCycle s.cycleCounter s.now (s.classOf a) p) (closureCause s (s.machine a)))
    (machine := addrNum a)
  refine .ite (fun hst => ?_) fun hst => hplaced.thenPayment fun _ => ?_
  · exact (hplaced.loosed (.inr (by rw [placeRefund_machine]; exact hst))).thenPayment.thenHandBack.thenReleaseToRoom
  · rw [placeRefund_machine]
    exact hst

theorem InOrder.thenOpenStart (h : InOrder w b s) {p : Payment} (hst : (s.machine a).state = .paying) :
    InOrder w b (openStart a p s) := by
  refine InOrder.thenRunningDoor (InOrder.thenEnterWaiting (InOrder.thenClaimServed (fun hb => ?_) fun hb => ?_))
  · exact h.thenTakeCycleNumber.of_view ((view_moveTo_other hb ..).trans (view_modifyMachine_other hb ..))
  · subst hb
    have hs : (view b s).state = .paying := hst
    rw [view_moveTo, view_modifyMachine]
    exact ⟨h.lawful.present (by simp [hs]), h.lawful.listed (by simp [hs]), rfl, rfl, h.agrees⟩

theorem InOrder.thenCommitStart (h : InOrder w b s) : InOrder w b (commitStart a s).1 := by
  unfold commitStart
  dsimp only
  split
  · exact h
  · split
    · exact h.thenCloseStart
    · next p hp hc =>
      refine h.thenOpenStart ?_
      simp only [closesAtCommit, Bool.or_eq_true, decide_eq_true_eq, not_or, not_not] at hc
      exact hc.1.1.2

theorem InOrder.thenBeginStart (h : InOrder w b s) {card : Nat} {x : Purchase}
    (hst : (s.machine a).state = .selected ∨ (s.machine a).state = .held) : InOrder w b (beginStart a card x s) := by
  have hpaying : ∀ p : Payment, p.origin = originOf (s.machine a).state →
      InOrder w b (moveTo a .paying (modifyMachine a (fun m => { m with payment := some p }) s)) := by
    intro p hp
    by_cases hb : b = a
    · subst hb
      have hs : (view b s).state = .selected ∨ (view b s).state = .held := hst
      have hne : (view b s).state ≠ .absent ∧ (view b s).state ≠ .running ∧ (view b s).state ≠ .stopping := by
        rcases hs with hs | hs <;> simp [hs]
      rw [InOrder, view_moveTo, view_modifyMachine]
      exact {
        away := fun hn => absurd (h.lawful.present hne.1) hn
        unlisted := h.unlisted
        cycle := inactive_iff (h.lawful.inactive hne.2.1 hne.2.2) (by simp)
        held := fun _ hs => by cases hs
        holder := fun hw hh => .inr ⟨rfl, by
          have hheld := (h.holder hw hh).resolve_right fun hp => by rcases hs with hs | hs <;> simp [hs] at hp
          show some p.origin = some .held
          rw [hp, show (s.machine b).state = .held from hheld]
          rfl⟩
        agrees := h.agrees }
    · exact h.of_view ((view_moveTo_other hb ..).trans (view_modifyMachine_other hb ..))
  unfold beginStart
  dsimp only
  exact .ite (fun _ => InOrder.thenCommitStart (.ite (fun _ => (hpaying _ rfl).thenHolderPays) fun _ => hpaying _ rfl))
    fun _ => .ite (fun _ => (hpaying _ rfl).thenHolderPays) fun _ => hpaying _ rfl

theorem InOrder.thenAbandonStart (h : InOrder w b s) : InOrder w b (abandonStart a s) := by
  unfold abandonStart
  dsimp only
  refine .ite (fun hst => .ite (fun _ => ?_) fun _ => .ite (fun hh => ?_) fun hh => ?_) fun hst => h.thenPayment fun _ => hst
  · exact (h.loosed (.inr hst)).thenPayment.thenHandBack.thenMoveTo rfl
  · refine InOrder.thenHolderStopsPaying ?_
    by_cases hb : b = a
    · subst hb
      have hs : (view b s).state = .paying := hst
      rw [InOrder, view_moveTo, view_modifyMachine]
      exact {
        away := fun hn => absurd (h.lawful.present (by simp [hs])) hn
        unlisted := h.unlisted
        cycle := inactive_iff (h.lawful.inactive (by simp [hs]) (by simp [hs])) (by simp)
        held := fun _ _ => hh.1
        holder := fun _ _ => .inl rfl
        agrees := h.agrees }
    · exact h.of_view ((view_moveTo_other hb ..).trans (view_modifyMachine_other hb ..))
  · refine Freed.thenMoveTo ⟨fun hb => h.of_view (view_modifyMachine_other hb ..), fun hb => ?_⟩
      (by unfold restingState; split <;> rfl)
    subst hb
    have hs : (view b s).state = .paying := hst
    have hunheld : w → (view b s).hold = none := fun hw => by
      rw [← Option.not_isSome_iff_eq_none]
      intro hsome
      exact hh ⟨hsome, ((h.holder hw hsome).resolve_left (by simp [hs])).2⟩
    rw [view_modifyMachine]
    exact ⟨h.lawful.present (by simp [hs]), h.lawful.listed (by simp [hs]), h.lawful.inactive (by simp [hs]) (by simp [hs]),
      hunheld, fun hw => h.lawful.unclaimed hw (hunheld hw)⟩

theorem InOrder.thenClearTopUp (h : InOrder w b s) {card : Nat} : InOrder w b (clearTopUp a card s) :=
  .ite (fun _ => h.thenModifyCycle) fun _ => h

theorem InOrder.thenCommitTopUp (h : InOrder w b s) {card amount : Nat} : InOrder w b (commitTopUp a card amount s).1 := by
  unfold commitTopUp
  split
  · split
    · exact h.thenModifyCycle
    · exact h.thenClearTopUp.thenPlaceRefund
  · exact h.thenPlaceRefund

/-! ## Sessions and tests -/

theorem InOrder.thenModifyPhase (h : InOrder w b s) {f : ServicePhase → ServicePhase} : InOrder w b (modifyPhase f s) :=
  h.thenSession.thenRaise

theorem InOrder.thenCloseSession (h : InOrder w b s) : InOrder w b (closeSession s) := h.thenSession.thenRaise

theorem InOrder.thenEndSession (h : InOrder w b s) : InOrder w b (endSession s) := by
  unfold endSession
  split
  · exact h
  · next x _ =>
    have hs : InOrder w b (raise .test (raise .machine (modifyMachine x.machine (fun m => { m with permit := false })
        { s with session := none }))) := h.thenSession.thenSame.thenRaise.thenRaise
    exact .ite (fun hst => (hs.freed (by rw [hst]; rfl)).thenReleaseToRoom) fun _ => hs

theorem InOrder.thenEndIfClosing (h : InOrder w b s) : InOrder w b (endIfClosing a s) :=
  .ite (fun _ => h.thenEndSession) fun _ => h

theorem InOrder.thenFinishTest (h : InOrder w b s) {outcome : TestOutcome} {code : Nat} :
    InOrder w b (finishTest a outcome code s) := by
  unfold finishTest
  split
  · exact h
  case h_2 r hr =>
    have hover : InOrder w b (raise .test (raise .machine (modifyMachine a (fun m => { m with
        lastTest := some ⟨outcome, r.subtest, code⟩, testRun := none }) s))) := h.thenSame.thenRaise.thenRaise
    dsimp only
    generalize raise .test (raise .machine (modifyMachine a (fun m => { m with
      lastTest := some ⟨outcome, r.subtest, code⟩, testRun := none }) s)) = u at hover ⊢
    have hfault : InOrder w b (if outcome = .fail then
        handFault { plainHanding (addrNum a) faultTestFail with subtest := some r.subtest } u else u) :=
      .ite (fun _ => hover.thenHandFault) fun _ => hover
    split
    · exact .ite (fun hst => (hfault.freed (by rw [hst]; rfl)).thenReleaseToRoom) fun _ => hfault
    · exact hfault.thenEndIfClosing

theorem InOrder.thenBeginSubtest (h : InOrder w b s) : InOrder w b (beginSubtest a s) := by
  unfold beginSubtest
  split
  · exact h
  · split
    · exact h.thenStartSubtest
    · exact h.thenRequestGrant

theorem InOrder.thenWindDownTest (h : InOrder w b s) {cause : StopCause} {outcome : TestOutcome} {code : Nat}
    {override : Bool} : InOrder w b (windDownTest a cause outcome code override s) := by
  unfold windDownTest
  split
  · exact h
  · split
    · exact .ite (fun _ => h.thenModifyRun) fun _ => h
    · split
      · exact h.thenWithdrawEntry.thenFinishTest
      · exact h.thenModifyRun.thenPost
      · exact h.thenModifyRun.thenPost

theorem InOrder.thenSubtestDone (h : InOrder w b s) {code : Nat} : InOrder w b (subtestDone a code s) := by
  unfold subtestDone
  split
  · exact h
  · have hs := fun (f : TestRun → TestRun) => (h.thenReleaseGrant (a := a)).thenModifyRun (a := a) (f := f)
    exact .ite (fun _ => (hs _).thenFinishTest) fun _ => .ite (fun _ => (hs _).thenFinishTest) fun _ =>
      (hs _).thenModifyRun.thenBeginSubtest

theorem InOrder.thenSubtestTimeout (h : InOrder w b s) : InOrder w b (subtestTimeout a s) := h.thenHandFault.thenWindDownTest

theorem InOrder.thenFinishPhase (h : InOrder w b s) {outcome : PhaseOutcome} : InOrder w b (finishPhase a outcome s) :=
  h.thenSession.thenRaise.thenEndIfClosing

theorem InOrder.thenWindDownPhase (h : InOrder w b s) {cause : StopCause} {outcome : PhaseOutcome} :
    InOrder w b (windDownPhase a cause outcome s) := by
  unfold windDownPhase
  split
  · exact h
  · split
    · exact h
    · split
      · exact h.thenWithdrawEntry.thenFinishPhase
      · exact h.thenModifyPhase.thenPost
      · exact h.thenModifyPhase.thenPost

theorem InOrder.thenPhaseTimeout (h : InOrder w b s) : InOrder w b (phaseTimeout a s) := h.thenHandFault.thenWindDownPhase

theorem InOrder.thenCloseWork (h : InOrder w b s) {cause : StopCause} : InOrder w b (closeWork a cause s) :=
  .ite (fun _ => h.thenCloseSession.thenWindDownTest) fun _ =>
    .ite (fun _ => h.thenCloseSession.thenWindDownPhase) fun _ => h.thenEndSession

theorem InOrder.thenHaltService (h : InOrder w b s) : InOrder w b (haltService a s) :=
  .ite (fun _ => h.thenSame.thenRaise.thenCloseWork) fun _ => h.thenWindDownTest

theorem InOrder.thenAbsentService (h : InOrder w b s) : InOrder w b (absentService a s) := by
  have hended := (h.thenWithdrawEntry (a := a)).thenReleaseGrant (a := a) |>.thenFinishTest (a := a) (outcome := .aborted) (code := 0)
  unfold absentService
  exact InOrder.thenSame (.ite (fun _ => hended.thenEndSession) fun _ => hended)

theorem InOrder.thenWindTestReport (h : InOrder w b s) {n : Nat} {x : TestWindDown} {r : Report} :
    InOrder w b (windTestReport a n x r s) :=
  .ite (fun _ => h.thenReleaseGrant.thenFinishTest) fun _ => .ite (fun _ => h.thenModifyRun.thenReleaseGrant) fun _ => h

theorem InOrder.thenTestActivity (h : InOrder w b s) {x : Shown} : InOrder w b (testActivity a x s) := by
  unfold testActivity
  split
  · exact h
  · dsimp only
    split
    · exact h.thenWindTestReport
    · split
      · exact h
      case h_2 | h_3 =>
        exact .ite (fun _ => h.thenSubtestDone) fun _ =>
          .ite (fun _ => .ite (fun _ => h.thenModifyRun) fun _ => h.thenSubtestTimeout) fun _ => h

theorem InOrder.thenWindPhaseReport (h : InOrder w b s) {x : PhaseWindDown} {r : Report} :
    InOrder w b (windPhaseReport a x r s) :=
  .ite (fun _ => h.thenReleaseGrant.thenFinishPhase) fun _ => .ite (fun _ => h.thenModifyPhase.thenReleaseGrant) fun _ => h

theorem InOrder.thenPhaseActivity (h : InOrder w b s) {x : Shown} : InOrder w b (phaseActivity a x s) := by
  unfold phaseActivity
  split
  · exact h
  · dsimp only
    split
    · exact h.thenWindPhaseReport
    · split
      · exact h
      · exact .ite (fun _ => .ite (fun _ => h.thenModifyPhase) fun _ =>
          .ite (fun _ => h.thenReleaseGrant.thenFinishPhase) fun _ => h.thenPhaseTimeout) fun _ => h
      · exact .ite (fun _ => h.thenReleaseGrant.thenFinishPhase) fun _ => h

theorem InOrder.thenServiceActivity (h : InOrder w b s) {x : Shown} : InOrder w b (serviceActivity a x s) :=
  .ite (fun _ => h.thenTestActivity) fun _ => h.thenPhaseActivity

theorem InOrder.thenServiceFault (h : InOrder w b s) {r : Report} : InOrder w b (serviceFault a r s) := by
  unfold serviceFault
  split
  · exact .ite (fun _ => h) fun _ => h.thenWindDownTest
  · split
    · exact h
    · split
      · exact h.thenWindDownPhase
      · exact h.thenWindDownPhase
      · exact h

theorem InOrder.thenServiceReport (h : InOrder w b s) {x : Shown} {activityChanged faultChanged : Bool} :
    InOrder w b (serviceReport a x activityChanged faultChanged s) := by
  have hfault : ∀ (c : Prop) [Decidable c] (x : Handing), InOrder w b (if c then handFault x s else s) :=
    fun c _ x => .ite (fun _ => h.thenHandFault) fun _ => h
  have hactivity : ∀ (c d : Prop) [Decidable c] [Decidable d] (x : Handing) (y : Shown),
      InOrder w b (if d then serviceActivity a y (if c then handFault x s else s) else if c then handFault x s else s) :=
    fun c d _ _ x y => .ite (fun _ => (hfault c x).thenServiceActivity) fun _ => hfault c x
  exact .ite (fun _ => (hactivity _ _ _ _).thenServiceFault) fun _ => hactivity _ _ _ _

end Sys2Proof.Machine

/-! PROOF. The laws of the room and of the holds at one address, kept by the debits and doubts of the stations (chapter 4). -/

namespace Sys2Proof.Machine

variable {w : Prop} {a b : Addr} {s t : State} {i : StationId}

/-! ## Records and tables that no law of the room reads -/

theorem InOrder.thenDisplay (h : InOrder w b s) {m : Message} : InOrder w b (display i m s) := h.of_touches (touched_display i m s) (by simp)

theorem InOrder.thenModifyStation (h : InOrder w b s) {f : Station → Station} : InOrder w b (modifyStation i f s) :=
  h.of_touches (touched_modifyStation i f s) (by simp)

theorem InOrder.thenSetDebitCopy (h : InOrder w b s) {d : Option DebitCopy} : InOrder w b (s.setDebitCopy i d) :=
  h.of_touches (touched_of (touches_setDebitCopy (ps := [.doubts]) (by simp) i d)) (by simp)

theorem InOrder.thenSetDoubts (h : InOrder w b s) {ds : List Doubt} : InOrder w b { s with doubts := ds } :=
  h.of_touches (touched_of (touches_doubts (ps := [.doubts]) (by simp) ds)) (by simp)

theorem InOrder.thenEndCard (h : InOrder w b s) {awaiting : Bool} {code : Nat} : InOrder w b (endCard i awaiting code s) :=
  h.of_touches (touched_endCard i awaiting code s) (by simp)

theorem InOrder.thenSettleRecord (h : InOrder w b s) : InOrder w b (settleRecord i s) :=
  h.of_touches (touched_settleRecord i s) (by simp)

theorem InOrder.thenCountCharged (h : InOrder w b s) {n : Nat} : InOrder w b (countCharged n s) :=
  h.of_touches (touched_countCharged n s) (by simp)

theorem InOrder.thenCountDebitUnresolved (h : InOrder w b s) : InOrder w b (countDebitUnresolved s) :=
  h.of_touches (touched_countDebitUnresolved s) (by simp)

theorem InOrder.thenCountCreditUnresolved (h : InOrder w b s) : InOrder w b (countCreditUnresolved s) :=
  h.of_touches (touched_countCreditUnresolved s) (by simp)

theorem InOrder.thenCreditTorn (h : InOrder w b s) {card : Nat} : InOrder w b (creditTorn card s) :=
  h.of_touches (touched_creditTorn card s) (by simp)

theorem InOrder.thenCreditFailed (h : InOrder w b s) {card : Nat} : InOrder w b (creditFailed card s) :=
  h.of_touches (touched_creditFailed card s) (by simp)

theorem InOrder.thenCreditLanded (h : InOrder w b s) {card n : Nat} : InOrder w b (creditLanded card n s) :=
  h.of_touches (touched_creditLanded card n s) (by simp)

theorem InOrder.thenCreditSuspect (h : InOrder w b s) {card : Nat} : InOrder w b (creditSuspect card s) :=
  (InOrder.thenHandFault (h.of_touches (touched_updateRefund card _ s) (by simp))).thenCountCreditUnresolved

theorem InOrder.thenRefusePanel (h : InOrder w b s) {m : Message} : InOrder w b (refusePanel i m s) :=
  h.of_touches (touched_refusePanel i m s) (by simp)

theorem InOrder.thenBeginDebit (h : InOrder w b s) {request : CardRequest} {p : Purchase} : InOrder w b (beginDebit i a request p s) :=
  h.of_touches (touched_beginDebit i a request p s) (by simp)

theorem InOrder.thenClearPanel (h : InOrder w b s) : InOrder w b (clearPanel i s) := h.of_touches (touched_clearPanel i s) (by simp)

theorem InOrder.thenPanelError (h : InOrder w b s) : InOrder w b (panelError i s) := h.of_touches (touched_panelError i s) (by simp)

theorem InOrder.thenBeginReading (h : InOrder w b s) : InOrder w b (beginReading i s) := h.of_touches (touched_beginReading i s) (by simp)

theorem InOrder.thenKeepCopy (h : InOrder w b s) : InOrder w b (keepCopy i s) := h.of_touches (touched_keepCopy i s) (by simp)

/-! ## Debits and doubts -/

theorem InOrder.thenAbandonDebit (h : InOrder w b s) {kind : DoubtKind} {card : Nat} : InOrder w b (abandonDebit kind a card s) := by
  unfold abandonDebit
  split
  · exact h.thenAbandonStart
  · exact h.thenClearTopUp

theorem InOrder.thenDebitUnresolved (h : InOrder w b s) {d : DebitCopy} : InOrder w b (debitUnresolved d s) :=
  h.thenAbandonDebit.thenHandFault.thenCountDebitUnresolved

theorem InOrder.thenCommitDebit (h : InOrder w b s) {d : DebitCopy} : InOrder w b (commitDebit d s).1 := by
  unfold commitDebit
  dsimp only
  split
  · exact h.thenCountCharged.thenCommitStart.thenRaise
  · exact h.thenCountCharged.thenCommitTopUp.thenRaise

theorem InOrder.thenLandDebit (h : InOrder w b s) {d : DebitCopy} : InOrder w b (landDebit i d s) :=
  h.thenSetDebitCopy.thenModifyStation.thenCommitDebit.thenDisplay.thenSettleRecord

theorem InOrder.thenEvictDoubt (h : InOrder w b s) : InOrder w b (evictDoubt s) := by
  unfold evictDoubt
  split
  · exact h
  · split
    · exact h
    · exact h.thenSetDoubts.thenDebitUnresolved.thenRaise

theorem InOrder.thenMakeDoubt (h : InOrder w b s) {d : DebitCopy} : InOrder w b (makeDoubt i d s) :=
  h.thenSetDebitCopy.thenEvictDoubt.thenSetDoubts.thenRaise

theorem InOrder.thenDoubtTimeout (h : InOrder w b s) {card : Nat} : InOrder w b (doubtTimeout card s) := by
  unfold doubtTimeout
  split
  · exact h
  · exact h.thenSetDoubts.thenDebitUnresolved.thenRaise

theorem InOrder.thenDropWrite (h : InOrder w b s) : InOrder w b (dropWrite i s) := by
  unfold dropWrite
  dsimp only
  split
  · exact .ite (fun _ => h.thenCreditFailed) fun _ => h.thenCreditTorn.thenRaise
  · exact .ite (fun _ => h.thenSetDebitCopy.thenAbandonDebit) fun _ => h.thenMakeDoubt
  · exact h

theorem InOrder.thenLoseWrite (h : InOrder w b s) : InOrder w b (loseWrite i s) := by
  unfold loseWrite
  dsimp only
  split
  · exact h.thenCreditTorn.thenRaise
  · exact h.thenMakeDoubt
  · exact h

/-! ## Cards -/

theorem InOrder.thenResolveDoubt (h : InOrder w b s) {pair : Pair} {d : DebitCopy} : InOrder w b (resolveDoubt i pair d s) :=
  .ite (fun _ => h.thenCommitDebit.thenDisplay) fun _ =>
    .ite (fun _ => h.thenAbandonDebit.thenRaise.thenDisplay) fun _ => h.thenDebitUnresolved.thenRaise.thenDisplay

theorem InOrder.thenResolveDoubts (h : InOrder w b s) {card : Nat} {pair : Pair} : InOrder w b (resolveDoubts i card pair s) := by
  unfold resolveDoubts
  split
  · exact h
  · exact h.thenSetDoubts.thenResolveDoubt

theorem InOrder.thenResolveCredit (h : InOrder w b s) {card : Nat} {pair : Pair} : InOrder w b (resolveCredit i card pair s) := by
  unfold resolveCredit
  split
  · exact h
  · split
    · exact .ite (fun _ => h.thenCreditLanded.thenDisplay) fun _ =>
        .ite (fun _ => h.of_touches (touched_creditVoid card s) (by simp)) fun _ => h.thenCreditSuspect
    · exact h

theorem InOrder.thenDecideCard (h : InOrder w b s) {bytes : List Byte} : InOrder w b (decideCard i bytes s) := by
  unfold decideCard
  dsimp only
  refine .ite (fun _ => h.thenEndCard) fun _ => .ite (fun _ => h.thenEndCard) fun _ => .ite (fun _ => h.thenEndCard) fun _ => ?_
  split
  · exact h.thenEndCard
  · exact h.thenModifyStation.thenResolveDoubts.thenResolveCredit.thenSettleRecord

theorem InOrder.thenReadEnds (h : InOrder w b s) {bytes : Option (List Byte)} : InOrder w b (readEnds i bytes s) := by
  unfold readEnds readFails readCompletes
  split
  · exact .ite (fun _ => h.thenEndCard) fun _ => h
  · exact .ite (fun _ => h.thenDecideCard) fun _ => h

theorem InOrder.thenRemoveCard (h : InOrder w b s) : InOrder w b (removeCard i s) := by
  unfold removeCard
  dsimp only
  split
  case h_1 | h_2 | h_3 => exact h.thenModifyStation.thenModifyStation
  case h_4 | h_5 =>
    exact .ite (fun _ => h.thenModifyStation.thenLoseWrite.thenEndCard) fun _ => h.thenModifyStation.thenDropWrite.thenEndCard
  case h_6 => exact h.thenModifyStation.thenLoseWrite.thenEndCard

theorem InOrder.thenWriteEnds (h : InOrder w b s) {outcome : WriteOutcome} : InOrder w b (writeEnds i outcome s) := by
  refine .ite (fun _ => h) fun _ => ?_
  split
  · exact .ite (fun _ => h) fun _ => h.thenDropWrite.thenEndCard
  · exact h.thenKeepCopy.thenModifyStation
  · exact h.thenKeepCopy.thenModifyStation

theorem InOrder.thenSecondMismatch (h : InOrder w b s) {bytes : List Byte} : InOrder w b (secondMismatch i bytes s) := by
  unfold secondMismatch
  dsimp only
  split
  · exact .ite (fun _ => h.thenCreditSuspect.thenModifyStation.thenDisplay) fun _ => h.thenCreditFailed.thenEndCard
  · exact .ite (fun _ => h.thenSetDebitCopy.thenDebitUnresolved.thenModifyStation.thenDisplay) fun _ =>
      h.thenSetDebitCopy.thenAbandonDebit.thenEndCard
  · exact h

theorem InOrder.thenVerifyEnds (h : InOrder w b s) {bytes : Option (List Byte)} : InOrder w b (verifyEnds i bytes s) := by
  refine .ite (fun _ => h) fun _ => ?_
  split
  · exact h.thenLoseWrite.thenEndCard
  · refine .ite (fun _ => ?_) fun _ => .ite (fun _ => h.thenModifyStation) fun _ => h.thenSecondMismatch
    split
    · exact h.of_touches (touched_landCredit i s) (by simp)
    · exact h.thenLandDebit
    · exact h

/-! ## Panel requests -/

theorem InOrder.thenInService (h : InOrder w b s) {small : Nat} {decide : State → State} (hd : InOrder w b (decide s)) :
    InOrder w b (inService i small decide s) := by
  unfold inService
  split
  · exact h.thenDisplay
  · exact h.thenDisplay
  · exact hd

/-- R25: a begin is refused but for a machine that is SELECTED or HELD. -/
theorem state_of_beginRefusal {card : Nat} (h : beginRefusal a card s = none) :
    (s.machine a).state = .selected ∨ (s.machine a).state = .held := by
  by_contra hst
  have hrefused : (s.machine a).state ≠ .selected ∧ (s.machine a).state ≠ .held ∨ (s.machine a).payment.isSome := .inl (not_or.mp hst)
  simp only [beginRefusal, if_pos hrefused] at h
  split_ifs at h

theorem InOrder.thenPayFor (h : InOrder w b s) {p : Purchase} : InOrder w b (payFor i a p s) := by
  unfold payFor
  dsimp only
  split
  · exact h.thenDisplay
  · next hr =>
    have hst := state_of_beginRefusal hr
    refine .ite (fun _ => (h.thenCountCharged.thenBeginStart ?_).thenRaise.thenDisplay) fun _ => (h.thenBeginStart hst).thenBeginDebit
    rw [(touched_countCharged 0 s).machine (by simp)]
    exact hst

theorem InOrder.thenDecidePay (h : InOrder w b s) {target steps : Nat} : InOrder w b (decidePay i target steps s) := by
  unfold decidePay
  dsimp only
  refine .ite (fun _ => h.thenDisplay) fun _ => .ite (fun _ => h.thenDisplay) fun _ => .ite (fun _ => h.thenDisplay) fun _ => ?_
  split
  · exact h.thenDisplay
  · split
    · exact h.thenDisplay
    · exact h.thenPayFor

theorem InOrder.thenAddTimeFor (h : InOrder w b s) {p : Purchase} : InOrder w b (addTimeFor i a p s) := by
  have hbegun : ∀ x, InOrder w b (beginTopUp a x s) := fun _ => h.thenModifyCycle
  unfold addTimeFor
  dsimp only
  split
  · exact h.thenRefusePanel
  · exact .ite (fun _ => (hbegun _).thenCountCharged.thenCommitTopUp.thenRaise.thenDisplay.thenSettleRecord) fun _ =>
      (hbegun _).thenBeginDebit

theorem InOrder.thenDecideAddTime (h : InOrder w b s) {target steps : Nat} : InOrder w b (decideAddTime i target steps s) := by
  unfold decideAddTime
  dsimp only
  refine .ite (fun _ => h.thenDisplay) fun _ => ?_
  split
  · exact h.thenRefusePanel
  · split
    · exact h.thenRefusePanel
    · exact h.thenAddTimeFor

theorem InOrder.thenDecideQueue (h : InOrder w b s) {c : MachineClass} : InOrder w b (decideQueue i c s) := by
  unfold decideQueue
  dsimp only
  refine .ite (fun _ => h.thenDisplay) fun _ => .ite (fun _ => h.thenRefusePanel) fun _ => .ite (fun _ => h.thenRefusePanel) fun _ =>
    .ite (fun _ => h.thenRefusePanel) fun _ => InOrder.thenDisplay (h.of_view (view_changeQueue ?_))
  simp [ClaimQueue.holdsOf, newClaim, ClaimEntry.holdOf]

theorem InOrder.thenDecideBalance (h : InOrder w b s) : InOrder w b (decideBalance i s) :=
  h.of_touches (touched_decideBalance i s) (by simp)

theorem InOrder.thenTakePay (h : InOrder w b s) {target steps : Nat} : InOrder w b (takePay i target steps s) :=
  h.thenInService h.thenDecidePay

theorem InOrder.thenTakeAddTime (h : InOrder w b s) {target steps : Nat} : InOrder w b (takeAddTime i target steps s) :=
  h.thenInService h.thenDecideAddTime

theorem InOrder.thenTakeQueue (h : InOrder w b s) {n : Nat} : InOrder w b (takeQueue i n s) := by
  unfold takeQueue
  split
  · exact h.thenPanelError
  · exact h.thenInService h.thenDecideQueue

theorem InOrder.thenTakeBalance (h : InOrder w b s) : InOrder w b (takeBalance i s) := h.thenInService h.thenDecideBalance

theorem InOrder.thenPanelByte (h : InOrder w b s) {x : Byte} : InOrder w b (panelByte i x s) := by
  have hc := h.thenClearPanel (i := i)
  exact .ite (fun _ => h) fun _ => .ite (fun _ => h.thenModifyStation) fun _ => .ite (fun _ => hc.thenPanelError) fun _ =>
    .ite (fun _ => hc.thenTakePay) fun _ => .ite (fun _ => hc.thenTakeAddTime) fun _ => .ite (fun _ => hc.thenTakeQueue) fun _ =>
    .ite (fun _ => hc.thenTakeBalance) fun _ => hc.thenPanelError

end Sys2Proof.Machine

/-! PROOF. The laws of the room and of the holds at one address, kept by the replies of the machines, by an absence and by a
join (chapters 1 and 2). -/

namespace Sys2Proof.Machine

variable {w : Prop} {a b : Addr} {s t : State}

/-! ## Replies of PRESENT machines -/

theorem InOrder.thenFollowPanel (h : InOrder w b s) : InOrder w b (followPanel a s) := by
  unfold followPanel
  dsimp only
  split
  case h_1 hst => exact .ite (fun _ => (h.freed (by rw [hst]; rfl)).thenMoveTo rfl) fun _ => h
  case h_2 hst => exact .ite (fun _ => (h.freed (by rw [hst]; rfl)).thenMoveTo rfl) fun _ => h
  all_goals exact h

theorem InOrder.thenFinishedDoor (h : InOrder w b s) {door : Door} (hst : (s.machine a).state = .finished) :
    InOrder w b (finishedDoor a door s) := by
  have hfreed := h.freed (a := a) (by rw [hst]; rfl)
  unfold finishedDoor
  split
  · exact h.thenSame
  case h_2 | h_3 => exact .ite (fun _ => hfreed.thenSame.thenReleaseToRoom) fun _ => h

theorem InOrder.thenTakeDoor (h : InOrder w b s) {door : Door} : InOrder w b (takeDoor a door s) := by
  have hdoor : InOrder w b (modifyMachine a (fun m => { m with door := some door }) s) := h.thenSame
  unfold takeDoor
  dsimp only
  split
  case h_1 | h_2 => exact hdoor.thenFollowPanel
  case h_3 => exact hdoor.thenRunningDoor
  case h_4 hst => exact hdoor.thenFinishedDoor hst
  all_goals exact hdoor

theorem InOrder.thenTakeSelection (h : InOrder w b s) {selection : Option Nat} : InOrder w b (takeSelection a selection s) :=
  h.thenSame.thenFollowPanel

theorem InOrder.thenRetryPhase (h : InOrder w b s) : InOrder w b (retryPhase a s) := h.thenModifyCycle.thenStartPhase

theorem InOrder.thenTakeCycleFault (h : InOrder w b s) {r : Report} : InOrder w b (takeCycleFault a r s) := by
  unfold takeCycleFault
  split
  · exact h
  · dsimp only
    split
    · exact .ite (fun _ => .ite (fun _ => h.thenHandFault.thenStopCycle) fun _ => h.thenHandFault.thenRetryPhase) fun _ => h.thenHandFault
    · exact h.thenHandFault.thenStopCycle
    · exact h.thenHandFault

theorem InOrder.thenTakeFault (h : InOrder w b s) {r : Report} : InOrder w b (takeFault a r s) := by
  unfold takeFault
  split
  · exact h.thenTakeCycleFault
  all_goals exact h.thenHandFault

theorem InOrder.thenTakeCool (h : InOrder w b s) {taken : Option BusCommand} : InOrder w b (takeCool a taken s) := by
  unfold takeCool
  split
  · exact .ite (fun _ => h.thenReleaseGrant.thenModifyCycle) fun _ => h
  · exact h

theorem InOrder.thenReadOutcome (h : InOrder w b s) {r : Report} : InOrder w b (readOutcome a r s) := by
  unfold readOutcome
  split
  · exact h
  · refine .ite (fun _ => h.thenTimeoutStop) fun _ => ?_
    split
    · exact h.thenModifyCycle
    · exact h.thenModifyCycle.thenCompletePhase
    · exact .ite (fun _ => h.thenModifyCycle) fun _ => h.thenModifyCycle.thenTakeCycleFault
    all_goals exact h.thenTimeoutStop

theorem InOrder.thenNoteStop (h : InOrder w b s) {taken : Option BusCommand} : InOrder w b (noteStop a taken s) := by
  refine .ite (fun _ => ?_) fun _ => h
  split
  · exact h.thenModifyCycle
  · exact h.thenModifyCycle
  all_goals exact h

theorem InOrder.thenPanelStop (h : InOrder w b s) (hc : b = a → (s.machine a).cycle.isSome = true) : InOrder w b (panelStop a s) := by
  refine (h.thenModifyCycle.thenCycleMove (fun hb => ?_) (.inr rfl)).thenWithdrawEntry
  rw [← hc hb]
  simp [modifyCycle]

theorem cycle_of_view (h : view a t = view a s) : (t.machine a).cycle.isSome = (s.machine a).cycle.isSome := congrArg View.active h

theorem InOrder.thenTakeConfirmation (h : InOrder w b s) {r : Report} (hc : b = a → (s.machine a).cycle.isSome = true) :
    InOrder w b (takeConfirmation a r s) :=
  .ite (fun _ => h.thenConfirmStop.thenEnterFinished fun hb => (cycle_of_view (view_confirmStop s)).trans (hc hb)) fun _ =>
    h.thenConfirmStop

theorem panelStop_cycle (s : State) : ((panelStop a s).machine a).cycle.isSome = (s.machine a).cycle.isSome := by
  unfold panelStop
  rw [cycle_of_view ((unmoved_view a).withdrawEntry a _)]
  simp [modifyCycle]

theorem InOrder.thenRunningActivity (h : InOrder w b s) {x : Shown} : InOrder w b (runningActivity a x s) := by
  unfold runningActivity
  split
  · exact h
  · next c hc =>
    have hsome : b = a → (s.machine a).cycle.isSome = true := fun _ => by rw [hc]; rfl
    have hstopped := (h.thenPanelStop hsome).thenTakeConfirmation (r := x.report) fun hb => (panelStop_cycle s).trans (hsome hb)
    dsimp only
    split
    · exact .ite (fun _ => h) fun _ => hstopped
    · exact .ite (fun _ => h) fun _ => hstopped
    · refine .ite (fun _ => ?_) fun _ => h
      split
      case h_1 | h_2 | h_3 | h_4 => exact h.thenCompletePhase
      all_goals exact h
    · refine .ite (fun _ => ?_) fun _ => h
      split
      · exact h.thenTimeoutStop
      · exact .ite (fun _ => h.thenConfirmSuspend) fun _ => h
      all_goals exact h
    case h_5 | h_6 | h_7 => exact .ite (fun _ => h.thenTimeoutStop) fun _ => h
    all_goals exact h

theorem InOrder.thenTakeActivity (h : InOrder w b s) {x : Shown} : InOrder w b (takeActivity a x s) := by
  unfold takeActivity
  split
  · exact h.thenRunningActivity
  case h_2 hst => exact .ite (fun _ => h.thenTakeConfirmation (h.active (.inr hst))) fun _ => h
  all_goals exact h

theorem InOrder.thenTakeWork (h : InOrder w b s) {x : Shown} {activity fault : Bool} : InOrder w b (takeWork a x activity fault s) := by
  have hactivity : InOrder w b (if activity then takeActivity a x s else s) := .ite (fun _ => h.thenTakeActivity) fun _ => h
  exact .ite (fun _ => h.thenServiceReport) fun _ => .ite (fun _ => hactivity.thenTakeFault) fun _ => hactivity

theorem InOrder.thenTakeOutcome (h : InOrder w b s) {x : Shown} {d : Changes} : InOrder w b (takeOutcome a x d s) := by
  have hnote := (h.thenNoteStop (a := a) (taken := x.taken)).thenTakeCool (a := a) (taken := x.taken)
  unfold takeOutcome
  dsimp only
  generalize takeCool a x.taken (noteStop a x.taken s) = u at hnote ⊢
  have hread : InOrder w b (if showsOutcome a x.taken u then readOutcome a x.report u else u) :=
    .ite (fun _ => hnote.thenReadOutcome) fun _ => hnote
  have hdoor := fun (v : State) (hv : InOrder w b v) =>
    InOrder.ite (c := d.door = true) (fun _ => hv.thenTakeDoor (a := a) (door := x.report.door)) fun _ => hv
  have hpanel := fun (v : State) (hv : InOrder w b v) =>
    InOrder.ite (c := d.selection = true) (fun _ => hv.thenTakeSelection (a := a) (selection := x.report.selection)) fun _ => hv
  exact InOrder.thenTakeWork (hpanel _ (hdoor _ hread))

/-! ## Absence -/

/-- An address whose machine has gone: without a cycle and without a hold (R24). -/
theorem View.Lawful.of_gone {v : View} (hpresence : v.presence = .absent) (hstate : v.state = .absent) (hactive : v.active = false)
    (hhold : w → v.hold = none) (hclaims : w → ∀ c, v.claims c = []) : v.Lawful w where
  away _ := hstate
  unlisted _ := hpresence
  cycle := by simp [hactive, hstate]
  held _ hs := by simp [hstate] at hs
  holder hw hh := by simp [hhold hw] at hh
  agrees hw c := by simp [hhold hw, hclaims hw c]

theorem InOrder.thenEndWork_other (h : b ≠ a) (st : MachineState) (s : State) (hs : InOrder w b s) : InOrder w b (endWork a st s) := by
  unfold endWork
  split
  case h_1 | h_2 => exact hs.of_view (view_handBack_other h s)
  case h_3 => exact (hs.thenWithdrawEntry.thenReleaseGrant.thenSettleRefund).of_view (view_modifyMachine_other h _ _)
  case h_4 => exact (hs.thenSettleRefund.thenReleaseGrant).of_view (view_modifyMachine_other h _ _)
  case h_5 => exact hs.thenSame
  case h_6 | h_7 => exact hs.thenAbsentService
  all_goals exact hs

/-- R24: what a machine that has gone leaves behind is ended by the state it was in. -/
theorem InOrder.thenEndWork {u : State} (h : InOrder w b s) (hu : view b u = { view b s with presence := .absent, state := .absent }) :
    InOrder w b (endWork b (s.machine b).state u) := by
  have hunheld : (view b s).state ≠ .held → (view b s).state ≠ .paying → w → (view b s).hold = none :=
    fun hheld hpaying hw => h.lawful.unheld hw hheld hpaying
  have hgone : (view b s).state ≠ .held → (view b s).state ≠ .paying → (view b s).state ≠ .running → (view b s).state ≠ .stopping →
      InOrder w b u := by
    intro hheld hpaying hrunning hstopping
    rw [InOrder, hu]
    exact .of_gone rfl rfl (h.lawful.inactive hrunning hstopping) (hunheld hheld hpaying)
      fun hw => h.lawful.unclaimed hw (hunheld hheld hpaying hw)
  have hended : ∀ v, view b v = view b u → (view b s).state ≠ .held → (view b s).state ≠ .paying →
      InOrder w b (modifyMachine b (fun m => { m with cycle := none }) v) := by
    intro v hv hheld hpaying
    have hfields : (view b (modifyMachine b (fun m => { m with cycle := none }) v)) = { view b u with active := false } := by
      rw [← hv, view_modifyMachine]
      rfl
    rw [InOrder, hfields, hu]
    exact .of_gone rfl rfl rfl (hunheld hheld hpaying) fun hw => h.lawful.unclaimed hw (hunheld hheld hpaying hw)
  have hback : (view b s).active = false → InOrder w b (handBack b u) := by
    intro hidle
    obtain ⟨claims, hview, hclaims⟩ := view_handBack (w := w) b u fun hw => by rw [hu]; exact h.agrees hw
    rw [InOrder, hview, hu]
    exact .of_gone rfl rfl hidle (fun _ => rfl) hclaims
  have hstate : (view b s).state = (s.machine b).state := rfl
  unfold endWork
  cases hst : (s.machine b).state <;> rw [hst] at hstate <;> dsimp only
  case held | paying => exact hback (h.lawful.inactive (by simp [hstate]) (by simp [hstate]))
  case running =>
    exact hended _ ((view_settleRefund ..).trans (((unmoved_view b).releaseGrant ..).trans ((unmoved_view b).withdrawEntry ..)))
      (by simp [hstate]) (by simp [hstate])
  case stopping => exact hended _ (((unmoved_view b).releaseGrant ..).trans (view_settleRefund ..)) (by simp [hstate]) (by simp [hstate])
  case finished => exact (hgone (by simp [hstate]) (by simp [hstate]) (by simp [hstate]) (by simp [hstate])).thenSame
  case testing | service =>
    exact (hgone (by simp [hstate]) (by simp [hstate]) (by simp [hstate]) (by simp [hstate])).thenAbsentService
  all_goals exact hgone (by simp [hstate]) (by simp [hstate]) (by simp [hstate]) (by simp [hstate])

/-- R12, R24: a machine is declared absent. -/
theorem InOrder.thenDeclareAbsent (h : InOrder w b s) {reason : AbsenceReason} : InOrder w b (declareAbsent a reason s) := by
  refine InOrder.thenHandFault (InOrder.thenRaise ?_)
  by_cases hb : b = a
  · subst hb
    have hstate : ((modifyBus b (fun x => { absentBus x with mismatch := decide (reason = .identity) }) s).machine b).state =
        (s.machine b).state := by simp [modifyBus]
    unfold takeAbsence
    rw [hstate]
    refine h.thenEndWork ?_
    rw [view_moveTo, view_modifyMachine, modifyBus, view_modifyMachine]
    simp [view, absentBus, leaveJoining]
  · refine InOrder.thenEndWork_other hb _ _ (h.of_view ?_)
    exact (view_moveTo_other hb ..).trans ((view_modifyMachine_other hb ..).trans (view_modifyMachine_other hb ..))

/-! ## The room bus -/

theorem InOrder.thenBusSame (h : InOrder w b s) {f : BusFields → BusFields} (hf : ∀ x, (f x).presence = x.presence := by exact fun _ => rfl) :
    InOrder w b (modifyBus a f s) :=
  h.thenSame (f := fun m => { m with bus := f m.bus }) (hf := fun m => by simp [MachineRecord.standing, hf])

/-- The bus fields of an address whose machine is ABSENT, and that does not join. -/
theorem InOrder.thenBusAway (h : InOrder w b s) {f : BusFields → BusFields} (hst : b = a → (s.machine a).state = .absent)
    (hf : ∀ x, (f x).presence = .absent ∨ (f x).presence = .joining ∧ (b = a → s.roster a ≠ none)) :
    InOrder w b (modifyBus a f s) := by
  by_cases hb : b = a
  · subst hb
    rw [InOrder, modifyBus, view_modifyMachine]
    exact {
      away := fun _ => hst rfl
      unlisted := fun he => (hf _).resolve_right fun hx => hx.2 rfl he
      cycle := h.cycle
      held := h.held
      holder := h.holder
      agrees := h.agrees }
  · exact h.of_view (view_modifyMachine_other hb ..)

theorem InOrder.state_of_away (h : InOrder w b s) (hp : b = a → (s.machine a).bus.presence ≠ .present) :
    b = a → (s.machine a).state = .absent := by
  intro hb
  subst hb
  exact h.away (hp rfl)

theorem InOrder.thenMissedSlot (h : InOrder w b s) : InOrder w b (missedSlot a s) := by
  unfold missedSlot
  dsimp only
  split
  case h_1 => exact h
  case h_2 => exact .ite (fun _ => h.thenBusSame) fun _ => h.thenDeclareAbsent
  case h_3 hp =>
    exact .ite (fun _ => h.thenBusSame) fun _ =>
      h.thenBusAway (h.state_of_away fun _ => by simp [hp]) (fun _ => .inl rfl)

theorem InOrder.thenRecordMismatch (h : InOrder w b s) : InOrder w b (recordMismatch a s) :=
  .ite (fun _ => h) fun _ => h.thenHandFault.thenBusSame

theorem Freed.thenTakeJoin (h : Freed w a b s) {r : Report} : InOrder w b (takeJoin a r s) :=
  .ite (fun _ => h.thenSame.thenReleaseToRoom) fun _ => h.thenSame.thenReleaseToRoom.thenHandFault

/-- R16, R24: a configured machine that is ABSENT joins. -/
theorem InOrder.thenJoinMachine (h : InOrder w b s) {r : Report} (hst : b = a → (s.machine a).state = .absent)
    (he : b = a → s.roster a ≠ none) : InOrder w b (joinMachine a r s) := by
  refine InOrder.thenRaise (Freed.thenTakeJoin ⟨fun hb => h.of_view (view_modifyMachine_other hb ..), fun hb => ?_⟩)
  subst hb
  rw [view_modifyMachine]
  exact h.lawful.joining (hst rfl) (he rfl)

theorem InOrder.thenBeginOrphan (h : InOrder w b s) (hst : b = a → (s.machine a).state = .absent)
    (he : b = a → s.roster a ≠ none) : InOrder w b (beginOrphan a s) :=
  (h.thenBusAway hst (fun _ => .inr ⟨rfl, he⟩)).thenHandFault

theorem roster_of_identityOk {r : Report} (h : identityOk a r s = true) : s.roster a ≠ none := by
  intro hn
  rw [identityOk, hn] at h
  cases h

theorem InOrder.thenDiscoveryFrom (h : InOrder w b s) {echo : Bool} {r : Report} (hst : b = a → (s.machine a).state = .absent) :
    InOrder w b (discoveryFrom a echo r s) := by
  refine .ite (fun hid => ?_) fun _ => h.thenRecordMismatch
  have hreport : InOrder w b (modifyBus a (fun x => { x with lastTag := echo, missed := 0, mismatch := false, report := some r }) s) :=
    h.thenBusSame
  have hstate : b = a →
      ((modifyBus a (fun x => { x with lastTag := echo, missed := 0, mismatch := false, report := some r }) s).machine a).state = .absent :=
    fun hb => by rw [← hst hb]; simp [modifyBus]
  exact .ite (fun _ => hreport.thenBeginOrphan hstate fun _ => roster_of_identityOk hid) fun _ =>
    hreport.thenJoinMachine hstate fun _ => roster_of_identityOk hid

theorem InOrder.thenCountSlot (h : InOrder w b s) {miss : Bool} : InOrder w b (countSlot a miss s) :=
  .ite (fun _ => h.thenMissedSlot) fun _ => h.thenBusSame

theorem InOrder.thenJoiningFrom (h : InOrder w b s) {echo : Bool} {r : Report} (hst : b = a → (s.machine a).state = .absent) :
    InOrder w b (joiningFrom a echo r s) := by
  have hleave : InOrder w b (modifyBus a leaveJoining s) := h.thenBusAway hst fun _ => .inl rfl
  have htaken : InOrder w b (modifyBus a (fun x => { (takeEcho echo x).1 with report := some r }) s) :=
    h.thenBusSame (hf := fun x => takeEcho_presence echo x)
  refine .ite (fun _ => hleave.thenDiscoveryFrom fun hb => ?_) fun _ => .ite (fun _ => hleave.thenRecordMismatch) fun hid =>
    .ite (fun _ => htaken.thenCountSlot) fun _ => InOrder.thenCountSlot (htaken.thenBusSame.thenJoinMachine (fun hb => ?_) fun _ => ?_)
  · rw [← hst hb]
    simp [modifyBus]
  · rw [← hst hb]
    simp [modifyBus]
  · exact roster_of_identityOk (s := s) (by simpa using hid)

theorem InOrder.thenPresentFrom (h : InOrder w b s) {echo : Bool} {r : Report} : InOrder w b (presentFrom a echo r s) := by
  have htaken : InOrder w b (modifyBus a (fun x => (takeEcho echo x).1) s) := h.thenBusSame (hf := takeEcho_presence echo)
  have houtcome := htaken.thenTakeOutcome (a := a) (x := { taken := (takeEcho echo (s.machine a).bus).2, report := r })
    (d := changesOf (s.machine a).bus.report r)
  exact .ite (fun _ => h.thenDeclareAbsent.thenDiscoveryFrom fun _ => (declareAbsent_machine a _ s).state) fun _ =>
    .ite (fun _ => h.thenDeclareAbsent) fun _ => houtcome.thenBusSame.thenCountSlot

theorem InOrder.thenSlot (h : InOrder w b s) {x : Option Addr} : InOrder w b { s with slot := x } :=
  h.of_touches (touched_of (touches_slot (ps := [.bus]) (by simp) x)) (by simp)

theorem InOrder.thenTakeReply (h : InOrder w b s) {bytes : List Byte} : InOrder w b (takeReply bytes s) := by
  unfold takeReply
  split
  · exact h
  · dsimp only
    refine .ite (fun _ => h.thenSlot) fun _ => ?_
    have hs := h.thenSlot (x := none)
    split
    · exact hs.thenMissedSlot
    · split
      · exact hs.thenPresentFrom
      case h_2 hp => exact hs.thenJoiningFrom (hs.state_of_away fun _ => by simp [hp])
      case h_3 hp => exact hs.thenDiscoveryFrom (hs.state_of_away fun _ => by simp [hp])

theorem InOrder.thenWindowMissed (h : InOrder w b s) : InOrder w b (windowMissed s) := by
  unfold windowMissed
  split
  · exact h
  · exact .ite (fun _ => h.thenSlot.thenMissedSlot) fun _ => h.thenSlot

/-- R19: the machine of an orphan deadline is away and configured, before and after its lock. -/
theorem InOrder.thenOrphanTimeout (h : InOrder w b s) {joinFirst : Bool} : InOrder w b (orphanTimeout joinFirst a s) := by
  have hjoin : ∀ u, InOrder w b u → (u.machine a).bus.presence = .joining → ∀ r,
      InOrder w b (joinMachine a r (modifyBus a (fun x => { x with orphanDeadline := none, inFlight := none }) u)) := by
    intro u hu hp r
    have hstate := hu.state_of_away (a := a) fun _ => by simp [hp]
    refine hu.thenBusSame.thenJoinMachine (fun hb => ?_) fun hb hn => ?_
    · rw [← hstate hb]
      simp [modifyBus]
    · subst hb
      have habsent := hu.unlisted hn
      rw [show (view b u).presence = .joining from hp] at habsent
      cases habsent
  unfold orphanTimeout
  dsimp only
  refine .ite (fun hc => ?_) fun _ => h
  split
  · exact h
  · refine .ite (fun _ => (hjoin s h hc.1 _).thenHandFault) fun _ => hjoin _ h.thenHandFault ?_ _
    rw [(struck_handFault _ a s).bus]
    exact hc.1

/-! ## The room second -/

theorem tick_machine (s : State) : (tick s).machine b = countMachine (s.machine b) := by
  unfold tick beginRound
  dsimp only
  split <;> simp [State.machine]

theorem InOrder.thenTick (h : InOrder w b s) : InOrder w b (tick s) := by
  refine h.of_view (view_eq ?_ ?_ fun c => ?_)
  · rw [tick_machine]
    unfold countMachine
    split <;> simp [MachineRecord.standing]
  · unfold tick beginRound
    dsimp only
    split <;> rfl
  · unfold tick beginRound
    dsimp only
    split <;> cases c <;> rfl

end Sys2Proof.Machine

/-! PROOF. The laws of the room and of the holds at one address, kept by the sheds, by the requests of the ports and by the
timers (chapters 2, 3, 6, 7 and 8). -/

namespace Sys2Proof.Machine

variable {w : Prop} {a b : Addr} {s t : State} {k : PoolId}

/-! ## Sheds and expiries -/

theorem InOrder.thenOfferSuspension (h : InOrder w b s) {g : Grant} : InOrder w b (offerSuspension k g s) :=
  .ite (fun _ => h.thenBeginSuspend.thenSetPool) fun _ => h

theorem InOrder.thenRelieveShared (h : InOrder w b s) {gs : List Grant} : InOrder w b (relieveShared k gs s) := by
  induction gs generalizing s with
  | nil => exact h
  | cons g gs ih => exact .ite (fun _ => ih h.thenOfferSuspension) fun _ => h

theorem InOrder.thenRelieveReserve (h : InOrder w b s) {c : MachineClass} : InOrder w b (relieveReserve k c s) := by
  unfold relieveReserve
  split
  · exact h
  · exact .ite (fun _ => h.thenOfferSuspension) fun _ => h

theorem InOrder.thenSetOverLimit (h : InOrder w b s) : InOrder w b (setOverLimit k s) :=
  .ite (fun _ => h) fun _ => h.thenSetPool.thenRaise

theorem InOrder.thenShed (h : InOrder w b s) : InOrder w b (shed k s) :=
  h.thenRelieveShared.thenRelieveReserve.thenRelieveReserve.thenSetOverLimit.thenScanPool

theorem InOrder.thenSetLimit (h : InOrder w b s) {n : Nat} : InOrder w b (setLimit k n s) := h.thenSetPool.thenRaise.thenShed

theorem InOrder.thenSetReserve (h : InOrder w b s) {c : MachineClass} {n : Nat} : InOrder w b (setReserve k c n s) :=
  h.thenSetPool.thenRaise.thenShed

theorem InOrder.thenReserveChanged (h : InOrder w b s) {c : MachineClass} {old new : Nat} :
    InOrder w b (reserveChanged k c old new s) := .ite (fun _ => h) fun _ => h.thenSetReserve

theorem InOrder.thenTellPool (h : InOrder w b s) {halted : Bool} : InOrder w b (tellPool k halted s) := h.thenSetPool.thenScanPool

theorem InOrder.thenTellExpiry (h : InOrder w b s) {e : WaitEntry} : InOrder w b (tellExpiry e s) := by
  unfold tellExpiry
  split
  · exact h.thenStopCycle
  · exact h.thenStopCycle
  · exact h.thenFinishPhase
  · exact h.thenFinishTest

theorem InOrder.thenExpireFrom (h : InOrder w b s) : InOrder w b (expireFrom k a s) := by
  unfold expireFrom
  split
  · exact h
  · exact h.thenSetPool.thenRaise.thenHandFault.thenTellExpiry.thenScanPool

theorem InOrder.thenSuspendTimeout (h : InOrder w b s) : InOrder w b (suspendTimeout k a s) :=
  .ite (fun _ => .ite (fun _ => h.thenSetPool.thenHandFault.thenStopCycle) fun _ => h.thenSetPool) fun _ => h

/-! ## The halt of the room -/

theorem InOrder.foldl {f : State → Addr → State} (hf : ∀ u a, InOrder w b u → InOrder w b (f u a)) (as : List Addr) :
    ∀ {s}, InOrder w b s → InOrder w b (as.foldl f s) := by
  induction as with
  | nil => exact id
  | cons a as ih => exact fun h => ih (hf _ a h)

theorem handBack_state (a : Addr) (s : State) : ((handBack a s).machine a).state = (s.machine a).state := by
  obtain ⟨claims, hview, -⟩ := view_handBack (w := False) a s False.elim
  exact congrArg View.state hview

/-- R24, R49: a PAYING machine whose hold the halt of the room takes. -/
theorem InOrder.thenHaltPaying (h : InOrder w b s) (hst : (s.machine a).state = .paying) :
    InOrder w b (modifyMachine a (fun m => { m with payment := m.payment.map (fun p => { p with origin := .selected }) })
      (handBack a s)) := by
  have hfreed := (h.loosed (.inr hst)).thenHandBack
  by_cases hb : b = a
  · subst hb
    have hself := hfreed.self rfl
    rw [InOrder, view_modifyMachine]
    dsimp only
    rw [handBack_state, hst]
    exact View.Free.lawful (st := .paying) (v := { view b (handBack b s) with origin := _ })
      ⟨hself.present, hself.listed, hself.idle, hself.unheld, hself.unclaimed⟩ rfl
  · exact (hfreed.other hb).of_view (view_modifyMachine_other hb ..)

theorem InOrder.thenHaltMachine (h : InOrder w b s) : InOrder w b (haltMachine s a) := by
  unfold haltMachine
  dsimp only
  split
  · exact h.thenStopCycle
  case h_2 hst => exact (h.loosed (.inl hst)).thenHandBack.thenResting
  case h_3 hst => exact .ite (fun _ => h.thenHaltPaying hst) fun _ => h
  · exact h.thenHaltService
  · exact h.thenHaltService
  all_goals exact h

theorem InOrder.thenHalted (h : InOrder w b s) {x : Bool} : InOrder w b { s with halted := x } :=
  h.of_touches (ps := [.room]) (touched_of (by simp)) (by simp)

theorem InOrder.thenHaltRoom (h : InOrder w b s) : InOrder w b (haltRoom s) :=
  InOrder.foldl (fun _ _ hu => hu.thenHaltMachine) _ h.thenHalted.thenRaise.thenTellPool.thenTellPool

/-- R51, R129: a machine at rest is held, or stays as it is. -/
theorem Freed.thenResumeOffer (h : Freed w a b s) (hs : InOrder w b s) : InOrder w b (match placeHold a s with
    | (s, true) => moveTo a .held s
    | (s, false) => s) := by
  rcases placeHold_cases a s with hp | ⟨t, x, hp, hself, hclaims, hother⟩ <;> rw [hp]
  · exact hs
  · by_cases hb : b = a
    · subst hb
      rw [InOrder]
      show (view b (moveTo b .held t)).Lawful w
      rw [view_moveTo]
      exact (h.self rfl).lawful_held hself hclaims
    · exact (h.other hb).of_view ((view_moveTo_other hb .held t).trans (hother b hb))

theorem InOrder.thenResumeOffer (h : InOrder w b s) : InOrder w b (resumeOffer s a) := by
  unfold resumeOffer
  split
  case h_1 hst => exact (h.freed (by rw [hst]; rfl)).thenResumeOffer h
  case h_2 hst => exact (h.freed (by rw [hst]; rfl)).thenResumeOffer h
  all_goals exact h

theorem InOrder.thenResumeRoom (h : InOrder w b s) : InOrder w b (resumeRoom s) :=
  InOrder.foldl (fun _ _ hu => hu.thenResumeOffer) _ h.thenHalted.thenRaise.thenTellPool.thenTellPool

/-! ## Service requests and claims -/

theorem InOrder.thenOpenSession (h : InOrder w b s) (hst : (s.machine a).state = .idle ∨ (s.machine a).state = .outOfService) :
    InOrder w b (openSession a s) := by
  have hsession : ∀ x, InOrder w b (moveTo a .service { s with session := x }) := fun x =>
    (h.thenSession.freed (by rcases hst with hst | hst <;> exact congrArg MachineState.vacant hst)).thenMoveTo rfl
  exact (hsession _).thenRaise

theorem InOrder.thenMakePhase (h : InOrder w b s) {kind : PhaseKind} {seconds : Nat} : InOrder w b (makePhase a kind seconds s) := by
  unfold makePhase
  dsimp only
  split
  · exact h.thenSession.thenRaise.thenStartServicePhase
  · exact h.thenSession.thenRaise.thenRequestGrant

theorem InOrder.thenMakeRun (h : InOrder w b s) {origin : TestOrigin} : InOrder w b (makeRun a origin s) :=
  h.thenSame.thenRaise.thenRaise.thenBeginSubtest

/-- R136: the entry of a card goes, and the machine that it held is offered again. -/
theorem InOrder.thenCancelEntry (h : InOrder w b s) {c : MachineClass} {e : ClaimEntry}
    (he : (s.queue c).entries.find? (fun x => x.card == e.card) = some e) : InOrder w b (cancelEntry c e s) := by
  unfold cancelEntry
  dsimp only
  split
  · next hnone =>
    refine h.of_view (view_changeQueue (holdsOf_eraseP_same fun x hx => ?_))
    rw [he] at hx
    cases hx
    simp [ClaimEntry.holdOf, hnone]
  · next x hx => exact (h.unnamed (fun _ => rfl) he (by simp [holdsMachine, hx])).thenReoffer

/-! ## The tables -/

/-- Tables with the same roster leave every view. -/
theorem InOrder.thenSetTables (h : InOrder w b s) {x : Tables} (hx : x.roster = s.tables.roster := by exact rfl) :
    InOrder w b (setTables x s) := by
  refine h.of_view ((view_raise ..).trans (view_eq rfl ?_ fun _ => rfl))
  unfold State.roster State.inForce
  split
  · next hm => simp [hm, hx]
  · next hm => simp [hm]

/-- An address in order whose roster entry and record no longer ask for anything (R171). -/
theorem InOrder.unheld_of_rosterFree (h : InOrder w a s) (hf : rosterFree a s = true) (ho : s.operating = true) :
    (view a s).active = false ∧ (w → (view a s).hold = none ∧ ∀ c, (view a s).claims c = []) := by
  have hst : (view a s).state = .absent ∨ (view a s).state = .outOfService := by
    have hmode : s.mode = .operating := by simpa [State.operating] using ho
    simp only [rosterFree, ho, Bool.not_true, Bool.false_or, Bool.or_eq_true, Bool.and_eq_true, Option.isNone_iff_eq_none,
      decide_eq_true_eq] at hf
    rcases hf with hnone | hfree
    · refine .inl (h.away ?_)
      rw [h.unlisted (show s.roster a = none by simp [State.roster, State.inForce, hmode, hnone])]
      simp
    · exact hfree.1.1.1
  have hne : (view a s).state ≠ .held ∧ (view a s).state ≠ .paying ∧ (view a s).state ≠ .running ∧ (view a s).state ≠ .stopping := by
    rcases hst with hst | hst <;> simp [hst]
  obtain ⟨hheld, hpaying, hrunning, hstopping⟩ := hne
  have hunheld := fun hw => h.lawful.unheld hw hheld hpaying
  exact ⟨h.lawful.inactive hrunning hstopping, fun hw => ⟨hunheld hw, h.lawful.unclaimed hw (hunheld hw)⟩⟩

/-- The view of an address after its roster entry is set, before its record is (R171). -/
theorem view_setEntry (a : Addr) (new : Option RosterEntry) (s : State) :
    view b (setTables { s.tables with roster := s.tables.roster.set a.val new a.isLt } s) = { view b s with
      entry := if s.operating = true ∧ b = a then new else s.roster b } := by
  have hentry : (setTables { s.tables with roster := s.tables.roster.set a.val new a.isLt } s).roster b =
      if s.operating = true ∧ b = a then new else s.roster b := by
    show (State.inForce { s with tables := { s.tables with roster := s.tables.roster.set a.val new a.isLt } }).roster[b] = _
    simp only [State.roster, State.inForce, State.operating, decide_eq_true_eq]
    by_cases hm : s.mode = .operating
    · simp only [hm, if_true, true_and]
      show (s.tables.roster.set a.val new a.isLt)[b.val] = _
      rw [Vector.getElem_set]
      by_cases hb : b = a
      · simp [hb]
      · rw [if_neg fun hv => hb (Fin.ext hv.symm), if_neg hb]
        rfl
    · simp [hm]
  simp only [view, ← hentry]
  rfl

theorem InOrder.thenSetRoster (h : InOrder w b s) {new : Option RosterEntry} (hf : rosterFree a s = true) :
    InOrder w b (setRoster a new s) := by
  unfold setRoster
  dsimp only
  generalize hu : (if (s.tables.roster[a]).isNone = true ∧ new.isSome = true then
    dropSlot a (setTables { s.tables with roster := s.tables.roster.set a.val new a.isLt } s)
    else setTables { s.tables with roster := s.tables.roster.set a.val new a.isLt } s) = u
  have hview : view b u = { view b s with entry := if s.operating = true ∧ b = a then new else s.roster b } := by
    rw [← view_setEntry a new s, ← hu]
    split
    · rfl
    · rfl
  have hoperating : u.operating = s.operating := by
    rw [← hu]
    split <;> rfl
  have hmachine : u.machine b = s.machine b := by
    rw [← hu]
    split <;> rfl
  by_cases hb : b = a
  · subst hb
    refine .ite (fun hc => ?_) fun hc => ?_
    · rw [hoperating] at hc
      obtain ⟨hidle, hunheld⟩ := h.unheld_of_rosterFree hf hc.1
      rw [InOrder, view_raise, view_modifyMachine, hview, hmachine]
      simp only [hc.1, and_self, if_true]
      unfold rosterRecord
      split
      · exact .of_gone rfl rfl rfl (fun _ => rfl) fun hw => (hunheld hw).2
      · exact .of_gone rfl rfl rfl (fun _ => rfl) fun hw => (hunheld hw).2
      · rw [if_neg hc.2]
        exact {
          away := h.away
          unlisted := fun he => by cases he
          cycle := h.cycle
          held := h.held
          holder := h.holder
          agrees := fun hw c => by
            show (view b s).claims c = if _ then (view b s).hold.toList else []
            simp [(hunheld hw).1, (hunheld hw).2 c] }
    · rw [hoperating] at hc
      refine h.of_view (hview.trans ?_)
      split
      · next ho =>
        have hsame : s.tables.roster[b] = new := not_not.mp fun hne => hc ⟨ho.1, hne⟩
        have hmode : s.mode = .operating := by simpa [State.operating] using ho.1
        rw [← hsame]
        simp [view, State.roster, State.inForce, hmode]
      · rfl
  · have hsame : view b u = view b s := by
      rw [hview, if_neg fun hc => hb hc.2]
      rfl
    exact .ite (fun _ => h.of_view ((view_raise ..).trans ((view_modifyMachine_other hb ..).trans hsame))) fun _ => h.of_view hsame

/-! ## What the owners decide -/

/-- A decision whose state is in order. -/
theorem InOrder.iteDecision {c : Prop} [Decidable c] {x y : Decision} (hx : c → InOrder w b x.state)
    (hy : ¬ c → InOrder w b y.state) : InOrder w b (if c then x else y).state := by
  split
  · next h => exact hx h
  · next h => exact hy h

theorem InOrder.withAddress (h : InOrder w b s) {payload : List Byte} {f : Addr → Decision}
    (hf : ∀ a, InOrder w b (f a).state) : InOrder w b (withAddress payload s f).state := by
  unfold Machine.withAddress
  split
  · exact h
  · exact hf _

theorem InOrder.withConfigured (h : InOrder w b s) {payload : List Byte} {f : Addr → Decision}
    (hf : ∀ a, InOrder w b (f a).state) : InOrder w b (withConfigured payload s f).state :=
  h.withAddress fun a => .iteDecision (fun _ => hf a) fun _ => h

theorem InOrder.decideStop (h : InOrder w b s) {payload : List Byte} : InOrder w b (decideStop payload s).state := by
  refine h.withConfigured fun a => ?_
  split
  · exact h.thenStopCycle
  · exact h.thenWindDownTest
  all_goals exact h

theorem InOrder.decideLock (h : InOrder w b s) {payload : List Byte} : InOrder w b (decideLock payload s).state :=
  h.withConfigured fun _ => h.thenApplyLock

theorem InOrder.decideUnlock (h : InOrder w b s) {payload : List Byte} : InOrder w b (decideUnlock payload s).state :=
  h.withConfigured fun _ => InOrder.thenRaise (.ite (fun _ => h.thenSame) fun _ => h.thenSame.thenApplyUnlock)

theorem InOrder.decideClearStrikes (h : InOrder w b s) {payload : List Byte} : InOrder w b (decideClearStrikes payload s).state :=
  h.withAddress fun _ => h.thenSame.thenRaiseIf

theorem InOrder.decidePermit (h : InOrder w b s) {payload : List Byte} : InOrder w b (decidePermit payload s).state :=
  h.withConfigured fun _ => h.thenSame.thenRaise

theorem InOrder.decideEnter (h : InOrder w b s) {payload : List Byte} : InOrder w b (decideEnter payload s).state :=
  h.withConfigured fun _ => .iteDecision (fun _ => h) fun _ => .iteDecision (fun _ => h) fun _ => .iteDecision (fun _ => h) fun _ =>
    .iteDecision (fun hc => h.thenOpenSession hc.1) fun _ => h

theorem InOrder.decideExit (h : InOrder w b s) : InOrder w b (decideExit s).state := by
  unfold Machine.decideExit
  split
  · exact h
  · refine .iteDecision (fun _ => h) fun _ => .iteDecision (fun _ => h) fun _ => ?_
    split
    · exact h.thenEndSession
    · split
      · exact h.thenWindDownPhase.thenEndSession
      · exact h.thenCloseSession.thenWindDownPhase
      · exact h.thenCloseSession.thenWindDownPhase

theorem InOrder.decidePhase (h : InOrder w b s) {payload : List Byte} : InOrder w b (decidePhase payload s).state := by
  unfold Machine.decidePhase
  dsimp only
  split
  · exact h
  · exact h
  · exact .iteDecision (fun _ => h) fun _ => .iteDecision (fun _ => h) fun _ =>
      .iteDecision (fun _ => h.thenMakePhase) fun _ => h.thenMakePhase

theorem InOrder.decideTest (h : InOrder w b s) {p : Port} {payload : List Byte} : InOrder w b (decideTest p payload s).state := by
  refine h.withAddress fun a => ?_
  split
  · refine .iteDecision (fun _ => h) fun hc => ?_
    have hst : (s.machine a).state = .idle := by
      by_contra hst
      exact hc (.inr (.inr (.inl fun hi => hst hi.1)))
    exact ((h.freed (by rw [hst]; rfl)).thenMoveTo rfl).thenMakeRun
  · unfold sessionTest
    split
    · exact h
    · exact .iteDecision (fun _ => h) fun _ => .iteDecision (fun _ => h) fun _ => .iteDecision (fun _ => h) fun _ => h.thenMakeRun
  · exact h

theorem InOrder.decideCancelClaim (h : InOrder w b s) {payload : List Byte} : InOrder w b (decideCancelClaim payload s).state := by
  unfold Machine.decideCancelClaim
  dsimp only
  split
  · exact h
  · refine .iteDecision (fun _ => h) fun _ => ?_
    split
    · exact h
    · next e he =>
      have hcard := List.find?_some he
      simp only [beq_iff_eq] at hcard
      rw [← hcard] at he
      exact .iteDecision (fun _ => h) fun _ => h.thenCancelEntry he

theorem InOrder.decideRoomParam (h : InOrder w b s) {payload : List Byte} : InOrder w b (decideRoomParam payload s).state :=
  .iteDecision (fun _ => h) fun _ =>
    .ite (fun _ => h.thenSetTables.thenReserveChanged.thenReserveChanged.thenReserveChanged) fun _ => h.thenSetTables

theorem InOrder.decideMachine (h : InOrder w b s) {payload : List Byte} : InOrder w b (decideMachine payload s).state := by
  refine .iteDecision (fun _ => h) fun _ => ?_
  split
  · exact h
  · exact .iteDecision (fun _ => h) fun _ => .iteDecision (fun _ => h) fun hc => h.thenSetRoster (by simpa using hc)

theorem InOrder.decideReserve (h : InOrder w b s) {payload : List Byte} : InOrder w b (decideReserve payload s).state := by
  refine .iteDecision (fun _ => h) fun _ => ?_
  split
  · exact .iteDecision (fun _ => h) fun _ => .ite (fun _ => h.thenSetTables.thenSetReserve) fun _ => h.thenSetTables
  · exact h

theorem InOrder.decideWashProfile (h : InOrder w b s) {payload : List Byte} : InOrder w b (decideWashProfile payload s).state := by
  refine .iteDecision (fun _ => h) fun _ => .iteDecision (fun _ => h) fun _ => .iteDecision (fun _ => ?_) fun _ => ?_
  · exact .iteDecision (fun _ => h) fun _ => h.thenSetTables
  · split
    · exact h
    · exact .iteDecision (fun _ => h.thenSetTables) fun _ => h

theorem InOrder.decideDryProfile (h : InOrder w b s) {payload : List Byte} : InOrder w b (decideDryProfile payload s).state :=
  .iteDecision (fun _ => h) fun _ => .iteDecision (fun _ => h) fun _ =>
    .iteDecision (fun _ => .iteDecision (fun _ => h) fun _ => h.thenSetTables) fun _ => h.thenSetTables

theorem InOrder.decidePrice (h : InOrder w b s) {payload : List Byte} : InOrder w b (decidePrice payload s).state := by
  refine .iteDecision (fun _ => h) fun _ => ?_
  split
  · exact h
  · refine .iteDecision (fun _ => h) fun _ => ?_
    split
    · unfold priceWasher
      split
      · exact h
      · exact h.thenSetTables
    · unfold priceDryer
      split
      · exact h
      · exact h.thenSetTables

end Sys2Proof.Machine

/-! PROOF. The laws of the room and of the holds at one address, kept by every request, timer and start of the part. -/

namespace Sys2Proof.Machine

variable {w : Prop} {a b : Addr} {s t : State} {k : PoolId} {p : Port}

/-! ## Requests and ports -/

theorem InOrder.decideAddRefund (h : InOrder w b s) {payload : List Byte} : InOrder w b (decideAddRefund payload s).state := by
  refine .iteDecision (fun _ => h) fun _ => ?_
  split
  · exact h
  · exact h.thenPlaceRefund

/-- The owner of a request keeps an address in order by one of the lemmas above, or touches no part that its view reads. -/
theorem InOrder.ownerDecision (h : InOrder w b s) {r : Req} {payload : List Byte} : InOrder w b (ownerDecision r p payload s).state := by
  cases r with
  | setFeederLimit => exact h.thenSetLimit
  | setWaterLimit => exact h.thenSetLimit
  | clearPoolStats => exact h.thenSetPool.thenSetPool
  | haltRoom => exact .ite (fun _ => h) fun _ => h.thenHaltRoom
  | resumeRoom => exact .ite (fun _ => h.thenResumeRoom) fun _ => h
  | setRoomParam => exact h.decideRoomParam
  | setMachine => exact h.decideMachine
  | setReserve => exact h.decideReserve
  | lock => exact h.decideLock
  | unlock => exact h.decideUnlock
  | clearStrikes => exact h.decideClearStrikes
  | grantPermit => exact h.decidePermit
  | stopMachine => exact h.decideStop
  | selfTest => exact h.decideTest
  | cancelClaim => exact h.decideCancelClaim
  | enterService => exact h.decideEnter
  | exitService => exact h.decideExit
  | servicePhase => exact h.decidePhase
  | setWashProfile => exact h.decideWashProfile
  | setDryProfile => exact h.decideDryProfile
  | setPrice => exact h.decidePrice
  | addRefund => exact h.decideAddRefund
  | storeConfig => exact .iteDecision (fun _ => h) fun _ => h.of_view rfl
  | clearFaults => exact h.of_touches (touched_decideClearFaults _ _) (by simp)
  | clearAudit => exact h.of_touches (touched_decideClearAudit _) (by simp)
  | cancelRefund => exact h.of_touches (touched_decideCancelRefund _ _) (by simp)
  | confirmRefund => exact h.of_touches (touched_decideConfirmRefund _ _) (by simp)
  | readMachine => exact h.of_touches (touched_decideReadMachine _ _) (by simp)
  | readRoom => exact h
  | readEvents => exact h
  | ackEvents => exact h.of_touches (touched_decideAck _ _ _) (by simp)
  | setNoticeMask => exact h.of_touches (touched_decideMask _ _ _) (by simp)
  | setBand => exact h.of_touches (touched_decideBand _ _) (by simp)
  | readPool => exact h.of_touches (touched_decideReadPool _ _) (by simp)
  | readFaults => exact h.of_touches (touched_decideReadFaults _ _) (by simp)
  | readAudit => exact h
  | readRefunds => exact h.of_touches (touched_decideReadRefunds _ _) (by simp)
  | readDoubts => exact h
  | readQueue => exact h.of_touches (touched_decideReadQueue _ _) (by simp)

theorem InOrder.thenSetPort (h : InOrder w b s) {x : PortState} : InOrder w b (s.setPort p x) :=
  h.of_touches (ps := [.ports, .flags]) (touched_of (by simp)) (by simp)

theorem InOrder.decideRequest (h : InOrder w b s) {r : Req} {payload : List Byte} : InOrder w b (decideRequest r p payload s).state := by
  unfold Machine.decideRequest
  split
  · exact h
  · exact h.ownerDecision

theorem InOrder.thenTakeRequest (h : InOrder w b s) {r : Req} {payload : List Byte} : InOrder w b (takeRequest r p payload s) :=
  .ite (fun _ => h.thenSetPort) fun _ => InOrder.thenSetPort (InOrder.decideRequest h.thenSetPort)

theorem InOrder.thenTakeFrame (h : InOrder w b s) {code : Byte} {payload : List Byte} : InOrder w b (takeFrame p code payload s) := by
  unfold takeFrame
  split
  · exact h.thenTakeRequest
  · exact .ite (fun _ => h.thenSetPort) fun _ => h.thenSetPort.thenSetPort

theorem InOrder.thenPortByte (h : InOrder w b s) {x : Byte} : InOrder w b (portByte p x s) := by
  have herror := h.of_touches (touched_takeFrameError p s) (by simp)
  unfold portByte completeFrame
  dsimp only
  split
  · exact .ite (fun _ => h.thenSetPort) fun _ => h
  · exact .ite (fun _ => h.thenSetPort) fun _ => herror
  · exact .ite (fun _ => h.thenSetPort) fun _ => .ite (fun _ => h.thenSetPort) fun _ => .ite (fun _ => h.thenTakeFrame) fun _ => herror

/-! ## Timers -/

theorem InOrder.atAddress (h : InOrder w b s) {n : Nat} {f : Addr → State → State} (hf : ∀ a, InOrder w b (f a s)) :
    InOrder w b (atAddress n f s) := by
  unfold Machine.atAddress
  split
  · exact h
  · exact hf _

/-- R43: the cycle of a STOPPING machine is removed at its stop deadline. -/
theorem InOrder.thenStopTimeout (h : InOrder w b s) : InOrder w b (stopTimeout a s) := by
  refine .ite (fun hc => ?_) fun _ => h
  have hstopped := (h.thenHandFault (x := cycleHanding a faultStopTimeout s)).thenConfirmStop (a := a)
  refine (hstopped.thenEndCycle (fun hb => ?_) (by exact fun _ => ⟨rfl, rfl, rfl⟩)).thenMoveTo rfl
  rw [cycle_of_view (view_confirmStop _), (struck_handFault _ a s).cycle]
  exact h.active (.inr hc.1) hb

theorem InOrder.thenPostCool (h : InOrder w b s) : InOrder w b (postCool a s) := by
  unfold postCool
  split
  · exact h
  · exact .ite (fun _ => h.thenModifyCycle.thenPost) fun _ => h

theorem InOrder.thenHoldTimeout (h : InOrder w b s) : InOrder w b (holdTimeout a s) := by
  unfold holdTimeout
  split
  · exact h
  · next e he => exact .ite (fun _ => h.thenExpireHold fun _ _ => by rw [he]; rfl) fun _ => h

theorem InOrder.thenServicePhaseTimeout (h : InOrder w b s) : InOrder w b (servicePhaseTimeout s) := by
  unfold servicePhaseTimeout
  split
  · exact h
  · split
    · exact h
    · exact .ite (fun _ => h.thenPhaseTimeout) fun _ => h

theorem InOrder.thenWindDownTimeout (h : InOrder w b s) : InOrder w b (windDownTimeout a s) := by
  unfold windDownTimeout
  dsimp only
  split
  · exact .ite (fun _ => h.thenHandFault.thenReleaseGrant.thenFinishTest) fun _ => h
  · split
    · exact .ite (fun _ => h.thenHandFault.thenReleaseGrant.thenFinishPhase) fun _ => h
    · exact h

theorem InOrder.thenReportTimeout (h : InOrder w b s) : InOrder w b (reportTimeout a s) := by
  unfold reportTimeout
  split
  · exact h
  · exact .ite (fun _ => h.thenSubtestTimeout) fun _ => h

/-! ## The loader and power-on -/

/-- Before the tables are in force no address is configured, and its machine is away without a cycle or a hold (R169). -/
theorem InOrder.of_unlisted (h : InOrder w b s) (hm : s.mode ≠ .operating) : (view b s).presence = .absent ∧
    (view b s).state = .absent ∧ (view b s).active = false ∧ (w → (view b s).hold = none ∧ ∀ c, (view b s).claims c = []) := by
  have hpresence := h.unlisted (show s.roster b = none by simp [State.roster, State.inForce, hm, Tables.initial])
  have hstate := h.away (by simp [hpresence])
  have hunheld := fun hw => h.lawful.unheld hw (by simp [hstate]) (by simp [hstate])
  exact ⟨hpresence, hstate, h.lawful.inactive (by simp [hstate]) (by simp [hstate]),
    fun hw => ⟨hunheld hw, h.lawful.unclaimed hw (hunheld hw)⟩⟩

theorem applyLocks_standing (rs : List ImageRecord) (ms : Vector MachineRecord Config.addresses) (n : Nat)
    (hn : n < Config.addresses) : ((applyLocks ms rs)[n]).standing = (ms[n]).standing := by
  induction rs generalizing ms with
  | nil => rfl
  | cons r rs ih =>
    cases r with
    | machine a e locked =>
      rw [applyLocks, ih, Vector.getElem_set]
      split
      case isTrue he => subst he; rfl
      case isFalse => rfl
    | room x => exact ih ms
    | wash i x => exact ih ms
    | dry i x => exact ih ms

theorem InOrder.thenApplyImage (h : InOrder w b s) (hm : s.mode ≠ .operating) {rs : List ImageRecord} :
    InOrder w b (applyImage rs s) := by
  refine InOrder.thenBeginReading (InOrder.thenBeginReading ?_)
  obtain ⟨hpresence, hstate, hidle, hunheld⟩ := h.of_unlisted hm
  have hstanding : (((applyLocks s.machines rs)[b]).standing) = (s.machine b).standing := applyLocks_standing rs s.machines b.val b.isLt
  simp only [MachineRecord.standing, Prod.mk.injEq] at hstanding
  obtain ⟨hp, hst, hc, hh, -⟩ := hstanding
  exact .of_gone (hp.trans hpresence) (hst.trans hstate) (hc.trans hidle) (fun hw => hh.trans (hunheld hw).1)
    fun hw => (hunheld hw).2

/-- A loader that stays out of the OPERATING mode leaves every view. -/
theorem InOrder.of_loader (h : InOrder w b s) (hm : s.mode ≠ .operating) (ht : t.mode ≠ .operating)
    (hs : ∀ p, p ∉ [Part.loader, .flags] → Same p s t) : InOrder w b t := by
  obtain ⟨hw, hd⟩ := hs .claims (by simp)
  refine h.of_view (view_eq ?_ ?_ fun c => by cases c <;> simp [State.queue, hw, hd])
  · rw [Touches.machine hs (by simp)]
  · simp [State.roster, State.inForce, hm, ht]

theorem InOrder.thenEndAutoload (h : InOrder w b s) {image : Option (List Byte)} : InOrder w b (endAutoload image s) := by
  refine .ite (fun _ => h) fun hm => InOrder.thenRaise ?_
  have hloading : s.mode = .loading := not_not.mp hm
  have hfault : ∀ reason, InOrder w b (enterConfigFault reason s) := fun reason =>
    h.of_loader (by simp [hloading]) (by simp [enterConfigFault])
      (fun p hp => by cases p <;> simp_all [Same, samePort, enterConfigFault])
  split
  · exact hfault _
  · split
    · exact hfault _
    · exact h.thenApplyImage (by simp [hloading])

theorem InOrder.thenEndStore (h : InOrder w b s) {x : StoreResult} : InOrder w b (endStore x s) :=
  h.of_view (view_raise .config _)

theorem InOrder.thenStoreDone (h : InOrder w b s) : InOrder w b (storeDone s) := by
  have hended := h.thenEndStore (x := .ok)
  refine .ite (fun hm => ?_) fun _ => hended
  exact hended.of_loader (by simp [hm]) (by simp) fun p hp => by cases p <;> simp_all [Same, samePort]

theorem InOrder.thenStoreAccess (h : InOrder w b s) {access : StoreAccess} : InOrder w b (storeAccess access s) := by
  unfold storeAccess
  split
  · exact h
  · split
    · exact .ite (fun _ => .ite (fun _ => h.of_view rfl) fun _ => h.of_view rfl) fun _ => h.thenEndStore
    · exact .ite (fun _ => h.of_view rfl) fun _ => h.thenEndStore
    · exact .ite (fun _ => h.thenStoreDone) fun _ => h.thenEndStore
    all_goals exact h

theorem inOrder_of_initial (hm : s.machine b = .initial) (hq : ∀ c, (s.queue c).entries = []) : InOrder w b s := by
  refine .of_gone ?_ ?_ ?_ (fun _ => ?_) fun _ c => ?_
  case refine_5 =>
    show (s.queue c).entries.filterMap _ = []
    rw [hq]
    rfl
  all_goals
    simp only [view, hm]
    rfl

/-- R177: power-on leaves every address in order, whatever was there before. -/
theorem inOrder_powerOn (held : Bool) (s : State) : InOrder w b (powerOn held s) := by
  have hfresh : InOrder w b (freshStart s) := inOrder_of_initial (reset_machine b) fun c => by cases c <;> rfl
  have hkept : InOrder w b (keepRetained s (freshStart s)) := by
    refine InOrder.thenRaiseIf ?_
    exact hfresh.of_view rfl
  refine .ite (fun _ => ?_) fun _ => hfresh
  have hclosed : ∀ (as : List Addr) u, InOrder w b u → InOrder w b (as.foldl (closeRetained s) u) := fun as u hu =>
    InOrder.foldl (f := closeRetained s) (fun v a hv => by
      unfold closeRetained
      split
      · exact hv
      · exact .ite (fun _ => hv) fun _ => hv.thenPlaceRefund) as hu
  have hdebits : ∀ (ds : List DebitCopy) u, InOrder w b u → InOrder w b (ds.foldl closeDebit u) := by
    intro ds
    induction ds with
    | nil => exact fun _ => id
    | cons d ds ih => exact fun u hu => ih _ hu.thenHandFault.thenCountDebitUnresolved.thenRaise
  exact hdebits _ _ (hclosed _ _ hkept)

/-! ## Every command -/

/-- Every command keeps every address in order. -/
theorem inOrder_exec {c : Instr} (h : exec c s = .next t) (hs : InOrder w b s) : InOrder w b t := by
  cases c
  case powerOn held => cases h; exact inOrder_powerOn held s
  case autoloadEnd answers => cases h; exact hs.thenEndAutoload
  case roomSecondTick => cases h; exact hs.thenTick
  case pollSlot => cases h; exact hs.of_touches (touched_beginSlot s) (by simp)
  case replyValid bytes => cases h; exact hs.thenTakeReply
  case discoveryReply bytes => cases h; exact hs.thenTakeReply
  case joiningReply bytes => cases h; exact hs.thenTakeReply
  case replyWindowMissed => cases h; exact hs.thenWindowMissed
  case orphanDeadline expiry => cases h; exact hs.atAddress fun _ => hs.thenOrphanTimeout
  case phaseLimitReached n => cases h; exact hs.atAddress fun _ => .ite (fun _ => hs.thenTimeoutStop) fun _ => hs
  case stopDeadline n => cases h; exact hs.atAddress fun _ => hs.thenStopTimeout
  case remainingPaidSecondsZero n => cases h; exact hs.atAddress fun _ => hs.thenPostCool
  case pauseDeadline n => cases h; exact hs.atAddress fun _ => .ite (fun _ => hs.thenStopCycle) fun _ => hs
  case suspendDeadline n => cases h; exact hs.atAddress fun _ => hs.thenSuspendTimeout.thenSuspendTimeout
  case grantWaitExpiry n => cases h; exact hs.atAddress fun _ => hs.thenExpireFrom.thenExpireFrom
  case pay station target steps => cases h; exact hs.thenClearPanel.thenTakePay
  case addTime station target steps => cases h; exact hs.thenClearPanel.thenTakeAddTime
  case queue station cls => cases h; exact hs.thenClearPanel.thenTakeQueue
  case balance station => cases h; exact hs.thenClearPanel.thenTakeBalance
  case requestError station => cases h; exact hs.thenClearPanel.thenPanelError
  case requestGapTimeout station => cases h; exact hs.thenClearPanel
  case requestLineByte station byte => cases h; exact hs.thenPanelByte
  case cardInserted station => cases h; exact hs.of_touches (touched_insertCard station s) (by simp)
  case cardRemoved station => cases h; exact hs.thenRemoveCard
  case insertionReadFail station => cases h; exact .ite (fun _ => hs.thenEndCard) fun _ => hs
  case insertionReadDone station answers => cases h; exact hs.thenReadEnds
  case writeBegun station => cases h; exact hs.of_touches (touched_writeBegins station s) (by simp)
  case cardWriteDone station answers => cases h; exact hs.thenWriteEnds
  case verifyReadDone station answers => cases h; exact hs.thenVerifyEnds
  case doubtDeadline card => cases h; exact hs.thenDoubtTimeout
  case holdDeadline n => cases h; exact hs.atAddress fun _ => hs.thenHoldTimeout
  case servicePhaseDeadline => cases h; exact hs.thenServicePhaseTimeout
  case windDownDeadline n => cases h; exact hs.atAddress fun _ => hs.thenWindDownTimeout
  case subtestReportDeadline n => cases h; exact hs.atAddress fun _ => hs.thenReportTimeout
  case storeAccessDone access => cases h; exact hs.thenStoreAccess
  case frameError p => cases h; exact hs.of_touches (touched_takeFrameError p s) (by simp)
  case portBreak p => cases h; exact hs.thenSetPort
  case frameDiscardedQueueFull p => cases h; exact hs.thenSetPort
  case unknownCode p code payload => cases h; exact hs.thenTakeFrame
  case replySent p => cases h; exact hs.thenSetPort
  case receiveLineByte p byte => cases h; exact hs.thenPortByte
  all_goals cases h; exact hs.thenTakeRequest

end Sys2Proof.Machine

/-! PROOF. The laws of the room bus and of the claim queues are kept by every step (O10 and O6). -/

namespace Sys2Proof.Machine

variable {a b : Addr} {s t : State}

theorem configured_iff_entry : s.configured b = false ↔ (view b s).entry = none := by
  show (s.roster b).isSome = false ↔ s.roster b = none
  cases s.roster b <;> simp

/-- The laws of the room are those of each address. -/
theorem roomLawful_iff : s.roomLawful ↔ ∀ b, InOrder False b s := by
  refine ⟨fun h b => ?_, fun h b => ⟨(h b).away, fun hc => (h b).unlisted (configured_iff_entry.mp hc), (h b).cycle⟩⟩
  obtain ⟨haway, hunlisted, hcycle⟩ := h b
  exact ⟨haway, fun he => hunlisted (configured_iff_entry.mpr he), hcycle, False.elim, False.elim, False.elim⟩

theorem holdOf_eq_some {e : ClaimEntry} {x : Hold} : e.holdOf b = some x ↔ e.hold = some ⟨b, x.deadline⟩ ∧ e.card = x.card := by
  unfold ClaimEntry.holdOf
  cases hh : e.hold with
  | none => simp
  | some y =>
    obtain ⟨m, d⟩ := y
    obtain ⟨card, deadline⟩ := x
    by_cases hm : m = b <;> simp [hm, and_comm]

/-- In a queue without a card twice, the one hold of a machine stands once. -/
theorem holdsOf_single {es : List ClaimEntry} (hd : (es.map (·.card)).Nodup) {e : ClaimEntry} (he : e ∈ es) {x : Hold}
    (hex : e.holdOf b = some x) (hone : ∀ y ∈ es, ∀ z, y.holdOf b = some z → z = x) : es.filterMap (·.holdOf b) = [x] := by
  have hother : ∀ y ∈ es, y.card ≠ e.card → y.holdOf b = none := by
    intro y hy hne
    by_contra hsome
    obtain ⟨z, hz⟩ := Option.ne_none_iff_exists'.mp hsome
    have hcard := (holdOf_eq_some.mp hz).2
    rw [hone y hy z hz] at hcard
    exact hne (hcard.trans (holdOf_eq_some.mp hex).2.symm)
  obtain ⟨l, r, rfl⟩ := List.append_of_mem he
  simp only [List.map_append, List.map_cons, List.nodup_append, List.nodup_cons, List.mem_cons, List.mem_map] at hd
  obtain ⟨-, ⟨hr, -⟩, hl⟩ := hd
  have hleft : l.filterMap (·.holdOf b) = [] := List.filterMap_eq_nil_iff.mpr fun y hy =>
    hother y (by simp [hy]) (hl _ ⟨y, hy, rfl⟩ _ (.inl rfl))
  have hright : r.filterMap (·.holdOf b) = [] := List.filterMap_eq_nil_iff.mpr fun y hy =>
    hother y (by simp [hy]) fun hc => hr ⟨y, hy, hc⟩
  rw [List.filterMap_append, List.filterMap_cons, hex, hleft, hright]
  rfl

/-- R129: what a queue entry has of a machine is the hold of the machine, in the queue of its class. -/
theorem named_of_lawful (hh : s.holdsLawful) {c : MachineClass} {e : ClaimEntry} (he : e ∈ (s.queue c).entries) {x : Hold}
    (hx : e.holdOf b = some x) : s.classOf b = c ∧ (s.machine b).hold = some x := by
  obtain ⟨hhold, hcard⟩ := holdOf_eq_some.mp hx
  obtain ⟨hclass, hmachine⟩ := hh.1 c e he _ hhold
  exact ⟨hclass, by rw [hmachine, hcard]⟩

/-- R127, R129: a machine's hold is in the queue of its class, once. -/
theorem agrees_of_lawful (hq : s.queuesLawful = true) (hh : s.holdsLawful) (b : Addr) : (view b s).Agrees := by
  have hempty : ∀ c, (∀ x, s.classOf b = c → (s.machine b).hold ≠ some x) → (view b s).claims c = [] := by
    refine fun c hno => List.filterMap_eq_nil_iff.mpr fun e he => ?_
    by_contra hne
    obtain ⟨x, hx⟩ := Option.ne_none_iff_exists'.mp hne
    obtain ⟨hclass, hhold⟩ := named_of_lawful hh he hx
    exact hno x hclass hhold
  intro c
  show (view b s).claims c = if s.classOf b = c then (s.machine b).hold.toList else []
  split
  · next hc =>
    cases hx : (s.machine b).hold with
    | none => exact hempty c fun x _ hs => by rw [hx] at hs; cases hs
    | some x =>
      obtain ⟨⟨e, he, hcard, hhold⟩, -⟩ := (hh.2 b).2 x hx
      rw [hc] at he
      refine holdsOf_single ((claimQueue_lawful_iff _).mp ((queuesLawful_iff s).mp hq c)).2 he
        (holdOf_eq_some.mpr ⟨hhold, hcard⟩) fun y hy z hz => ?_
      have hzx := (named_of_lawful hh hy hz).2
      rw [hx] at hzx
      exact (Option.some.inj hzx).symm
  · next hc => exact hempty c fun _ hc' => absurd hc' hc

theorem inOrder_of_lawful (hq : s.queuesLawful = true) (hr : s.roomLawful) (hh : s.holdsLawful) (b : Addr) : InOrder True b s := by
  have hroom := roomLawful_iff.mp hr b
  obtain ⟨hheld, hhold⟩ := hh.2 b
  refine ⟨hroom.away, hroom.unlisted, hroom.cycle, fun _ => hheld, fun _ hs => ?_, fun _ => agrees_of_lawful hq hh b⟩
  obtain ⟨x, hx⟩ := Option.isSome_iff_exists.mp hs
  exact (hhold x hx).2

/-- Where every address is in order, the holds of the queue entries and of the machines name each other. -/
theorem holdsLawful_of_inOrder (h : ∀ b, InOrder True b s) : s.holdsLawful := by
  refine ⟨fun c e he x hx => ?_, fun b => ⟨(h b).held trivial, fun x hx => ⟨?_, (h b).holder trivial (by
    show (s.machine b).hold.isSome = true
    rw [hx]
    rfl)⟩⟩⟩
  · have hmem : (⟨e.card, x.deadline⟩ : Hold) ∈ (view x.machine s).claims c :=
      List.mem_filterMap.mpr ⟨e, he, holdOf_eq_some.mpr ⟨hx, rfl⟩⟩
    rw [(h x.machine).agrees trivial c] at hmem
    split at hmem
    · next hc => exact ⟨hc, Option.mem_toList.mp hmem⟩
    · cases hmem
  · have hmem : x ∈ (view b s).claims (s.classOf b) := by
      rw [(h b).agrees trivial, if_pos (show (view b s).cls = s.classOf b from rfl)]
      exact Option.mem_toList.mpr hx
    obtain ⟨e, he, hex⟩ := List.mem_filterMap.mp hmem
    obtain ⟨hhold, hcard⟩ := holdOf_eq_some.mp hex
    exact ⟨e, he, hcard, hhold⟩

/-- Every step keeps every address in order. -/
theorem step_inOrder {w : Prop} (hs : ∀ b, InOrder w b s) (h : step s = .next t) : ∀ b, InOrder w b t :=
  step_keeps (J := fun u => ∀ b, InOrder w b u) (fun _ _ hs => hs) (fun _ _ _ hs h b => inOrder_exec h (hs b)) hs h

/-- Settles O10: the bus fields are a law that no command waives, and the laws of the room are those of each address. -/
theorem everyStepKeepsTheBusLawful : Obligations.EveryStepKeepsTheBusLawful :=
  ⟨fun _ _ hs h => step_keeps_law (l := .bus) id (fun _ _ hs => hs) hs h,
    fun _ _ hs h => roomLawful_iff.mpr (step_inOrder (roomLawful_iff.mp hs) h)⟩

/-- Settles O6: the bounds of the queues are a law that no command waives; the holds name each other because the view of each
address has its one hold in the queue of its class. -/
theorem everyStepKeepsClaimQueuesLawful : Obligations.EveryStepKeepsClaimQueuesLawful :=
  ⟨fun _ _ hs h => step_keeps_law (l := .queues) id (fun _ _ hs => hs) hs h,
    fun _ _ hq hr hh h => holdsLawful_of_inOrder (step_inOrder (inOrder_of_lawful hq hr hh) h)⟩

end Sys2Proof.Machine
